-- ==== Sys2Proof/Word.lean ====
section
/-! DEFINITION. The words of the part (00_scope.md, Notation): bytes, 64-bit words, 320-bit gallery masks (R12),
512-byte vector registers and 128-bit mask registers (R74). -/

namespace Sys2Proof

/-- One byte. -/
abbrev Byte := BitVec 8

/-- A 64-bit word: a register of the set-up region, a general register, a word of a descriptor. -/
abbrev Word := BitVec 64

/-- A 320-bit physical gallery mask (R12); bits 312 to 319 are reserved. -/
abbrev Mask := BitVec 320

/-- A vector register: 512 bytes, element 0 in the low bits (R74). -/
abbrev VReg := BitVec 4096

/-- A mask register: one bit per lane (R74). -/
abbrev MReg := BitVec 128

/-- The word that holds the number `n` modulo 2^64. -/
def w64 (n : Nat) : Word := BitVec.ofNat 64 n

/-- The byte that holds the number `n` modulo 256. -/
def byte (n : Nat) : Byte := BitVec.ofNat 8 n

end Sys2Proof
end

