-- ==== Sys2Proof/Syntax.lean ====
section
/-! DEFINITION. The commands of the part: one constructor per row of spec/opcode_table.json, in the table's order, with
the row's operands, and the types of the operands. An operand that stands for something the physical world decides (a
measured temperature, an upset bit, a lane's light) says so in its docstring: the command is that event. -/

namespace Sys2Proof

/-- A mesh packet: the header fields of R123, the gallery mask of bytes 32-71 (R133, R134, R142), the landing mask of
bytes 72-111 (R142), the payload bytes and the poison mark (R103). `srcDev` is the device a fabric packet came from. -/
structure Packet where
  version : Nat := 1
  typ : Nat := 0
  epoch : Nat := 0
  nbody : Nat := 0
  mc : Bool := false
  phase : Nat := 1
  exit : Nat := 0
  dst : Nat := 0
  viaLand : Nat := 0
  via : Bool := false
  srcLand : Nat := 0
  srcExit : Nat := 0
  addr : Word := 0
  seq : Nat := 0
  conn : Nat := 0
  rtag : Nat := 0
  len : Nat := 0
  arg : Word := 0
  mask : Mask := 0
  lmask : Mask := 0
  data : List Byte := []
  poison : Bool := false
  srcDev : Nat := 0
  /-- side band of the edge routers: the fabric channel whose endpoint sends the packet, or which it answers -/
  chan : Option Nat := none
deriving DecidableEq, Repr

/-- A core that executes the scalar instructions: scalar core `n` of gallery `p` (R86) or control processor `k`
(R435). -/
inductive Hart where
  | sc (p n : Nat)
  | cp (k : Nat)
deriving DecidableEq, Repr

/-- What the physical world does to a matrix core in one step (R61 to R65): nothing, or one upset. -/
inductive McUpset where
  | none
  /-- an operand byte fails its parity while it is staged -/
  | operandParity
  /-- a scale byte fails its parity at block close -/
  | scaleParity
  /-- bit `bit` of what PE(row, col) multiplies and accumulates in the block is wrong -/
  | product (row col bit : Nat)
  /-- bit `bit` of the FP32 or INT32 accumulator of PE(row, col) is wrong -/
  | accum (row col bit : Nat)
  /-- the residue or the exponent check of the block close of PE(row, col) fails -/
  | closeCheck (row col : Nat)
  /-- a shadow accumulator fails its parity at drain -/
  | shadowParity
  /-- the residue check of the drain converter fails -/
  | convCheck
deriving DecidableEq, Repr

/-- What the physical world does to a vector or scalar core in one instruction (R83, R84, R88). -/
inductive CoreUpset where
  | none
  /-- bit `bit` of a multiplier's product in lane `lane` is wrong -/
  | product (lane bit : Nat)
  /-- a register fails its parity, a vector register in lane `lane` -/
  | regParity (lane : Nat)
  /-- local memory fails its parity -/
  | memParity
  /-- a popped token fails its parity -/
  | tokenParity
  /-- a beyond-local read is answered poisoned, or with ERR_RSP cause 0x1 or 0x2 -/
  | poisoned
deriving DecidableEq, Repr

/-- A vector core that takes the token at the head of its queue 0: its number, and what the pop meets (R84, R85). -/
structure VcTake where
  n : Nat
  u : CoreUpset := .none
deriving DecidableEq, Repr

/-- A port that finds codeword lock: its number, and of each lane the lane word seen and when it came, in ps (R237, R238,
R249). -/
structure LanesSeen where
  port : Nat
  words : List (BitVec 20 × Nat)
deriving DecidableEq, Repr

/-- What the physical world does to one access of a storage array: nothing, or a parity error over `count` bytes from
byte `first` (R103). -/
inductive ParityUpset where
  | none
  | error (first count : Nat)
deriving DecidableEq, Repr

/-- The atomic operations of R100. -/
inductive AtomOp where
  | add64
  | add32
  | swap
  | cas
deriving DecidableEq, Repr

/-- What the physical world does to one read, write or scrub of a memory controller (R219 to R221). -/
inductive MemUpset where
  | none
  /-- corrected by on-die ECC or SEC-DED -/
  | corrected
  /-- uncorrectable, and the second read is clean or corrected -/
  | recovered
  /-- uncorrectable twice -/
  | lost
  /-- the third transfer fails -/
  | retries
deriving DecidableEq, Repr

/-- What the physical world does to one packet on a link or in a landing's buffer (R119, R144). -/
inductive FlitUpset where
  | none
  /-- these bits of one flit's transfer, the head flit being 0, arrive wrong: 0 to 1023 its bytes, 1024 to 1039 the group
  parity, 1040 to 1045 VC, HEAD, TAIL, POISON and the framing parity -/
  | link (flit : Nat) (flips : List Nat)
  /-- these bytes of a flit fail their parity when the transmitter reads it from its buffer -/
  | buffer (bytes : List Nat)
deriving DecidableEq, Repr

/-- What the physical world does to one descriptor of the data mover (R103, R110). -/
inductive DmUpset where
  | none
  /-- the token fails its parity -/
  | tokenParity
  /-- line request `line` of the descriptor is answered poisoned, or with ERR_RSP cause 0x1 or 0x2 -/
  | poisoned (line : Nat)
  /-- line request `line` is never answered -/
  | silent (line : Nat)
deriving DecidableEq, Repr

/-- A flight of a schedule image (R176 FLIGHTS), its members as logical galleries. The commit, ND and epoch flights are
step-keyed. -/
structure ImgFlight where
  num : Nat
  op : Nat
  members : List Nat
  root : Nat
  dq : Nat
  dcore : Nat
  vest : Bool
  stepkey : Bool
deriving DecidableEq, Repr

/-- One configuration set of a placement: registers of the gallery set-up blocks (logical gallery, offset in the block,
value) from QUEUES, STEER and HALLREG, the MASKS slots (logical gallery, slot, logical members), the CHANNELS tables
(logical gallery, agent, send slot, queue name, operand SB) and the carry masks (logical gallery, mask). -/
structure ImgCfg where
  regs : List (Nat × Nat × Word)
  masks : List (Nat × Nat × List Nat)
  channels : List (Nat × Nat × Nat × Word × Word)
  carry : List (Nat × Nat)
deriving DecidableEq, Repr

/-- One placement of an image: the galleries it occupies, its code (logical gallery, window offset, bytes), its
configuration sets and flights, and which flights are the commit, ND and epoch flights. -/
structure ImgPlacement where
  uses : List Nat
  code : List (Nat × Nat × List Byte)
  cfgs : List ImgCfg
  flights : List ImgFlight
  commit : Nat
  nd : Nat
  epoch : Nat
deriving DecidableEq, Repr

/-- What an image's sections hold (R176), read from its bytes: `malformed` names a section whose content is malformed
(status 0x03), the next three the sections of tables that may fail their validation (status 0x05); `fab` is what FABRIC
puts into the edge routers (offset from S, value), with its two barriers (edge router × 16 + entry), and `inlog` the
inbound log's region. -/
structure ImgView where
  placements : List ImgPlacement
  malformed : Option Nat
  steerSec : Nat
  queueSec : Nat
  flightSec : Nat
  fab : List (Nat × Word)
  commitBar : Nat
  startBar : Nat
  inlog : Nat × Nat
deriving DecidableEq, Repr

/-- A fabric packet: the header fields of R262, the payload, HOPS and DL of its trailer, and whether its ECRC fails. -/
structure FabPkt where
  version : Nat := 1
  ptype : Nat := 0
  dst : Nat := 0
  src : Nat := 0
  splane : Nat := 0
  mc : Bool := false
  last : Bool := false
  rsv : Nat := 0
  epoch : Nat := 0
  len : Nat := 0
  psn : Nat := 0
  msn : Nat := 0
  off : Nat := 0
  mlen : Nat := 0
  addr : Word := 0
  data : List Byte := []
  hops : Nat := 0
  dl : Nat := 0
  /-- the trailer's RSV bits -/
  trsv : Nat := 0
  ecrcBad : Bool := false
deriving DecidableEq, Repr

/-- A message of the coherent link: its header fields, byte mask and 64 data bytes (R295). -/
structure SclMsg where
  mtype : Nat := 0
  rsv : Nat := 0
  masked : Bool := false
  tag : Nat := 0
  arg : Nat := 0
  line : Word := 0
  bmask : Word := 0
  data : List Byte := []
deriving DecidableEq, Repr

/-- What TRAIN and PROMOTE frames carry in bytes 17 to 63 (R249, R252): the manual names the values and not their bytes. -/
inductive LinkArgs where
  | none
  /-- device, port, DIR, ORD (0xFF for a spare), highest version, lane split, replay depth -/
  | train (dev port dir ord version : Nat) (shares : List Nat) (depth : Nat)
  /-- the failed port's number at the sender and at the receiver, DIR, ORD -/
  | promote (near far dir ord : Nat)
deriving DecidableEq, Repr

/-- A link frame (R240, R241): header fields, the cumulative counts of the eight lanes in a CTRL or NAK frame, SUBTYPE,
the payload bytes in use. -/
structure LinkFrame where
  ftype : Nat := 1
  vl : Nat := 0
  fpkt : Nat := 0x1FF
  poison : Bool := false
  lseq : Nat := 0
  ack : Nat := 0
  ccum : Nat := 0
  cvl : Nat := 0
  counts : List Nat := []
  subtype : Nat := 0
  args : LinkArgs := .none
  data : List Byte := []
deriving DecidableEq, Repr

/-- What the physical world does to one frame on its way (R239, R242): nothing, `count` symbols wrong in a lane's codeword,
bits of the frame flipped behind the FEC, or a codeword that cannot be corrected (`first`: this frame is the first of its
five to be handled). -/
inductive FrameUpset where
  | none
  | corrected (lane count : Nat)
  | flips (bits : List Nat)
  | codeword (first : Bool)
deriving DecidableEq, Repr

/-- A management message as it came in (R449): the station it came from and whether over MCTP on I3C, the header fields,
the body. -/
structure MgmtMsg where
  station : Nat := 0
  mctp : Bool := false
  tag : Nat := 0x4D4D
  version : Nat := 1
  mtype : Nat := 1
  seq : Nat := 0
  status : Nat := 0
  flags : Nat := 0
  crc : Nat := 0
  body : List Byte := []
deriving DecidableEq, Repr

/-- What a self-test element finds (R339, R340): its MISR, count or bitmap, the value expected, the fixed key of an
element that has one, run time in µs, DETAIL. -/
structure ElemResult where
  sig : Word := 0
  expected : Word := 0
  key : Word := 0
  duration : Nat := 0
  detail : Word := 0
deriving DecidableEq, Repr

/-- What serial presence detect of one slot says (R226, R227): slot 2 c + d of channel c, its capacity in GiB, whether it
is an RDIMM with a rank count, stack height and device width that R226 lists, and the rest of what tells modules apart. -/
structure Dimm where
  slot : Nat
  gib : Nat
  listed : Bool := true
  kind : Nat := 0
deriving DecidableEq, Repr

/-- What a cold sequence or a half's re-qualification finds (R341, R391, R395, R398, R401): the failing elements as
element, unit and RESULT; mesh links (defect-map UNIT), attach, bridge, edge and memory-port landings that fail
qualification twice; memory channels that fail training twice, controller and pseudo-channel; what
serial presence detect says of each DIMM; galleries still incomplete after round 4; a
component of the running slot that does not match its digest; a step before step 6 past its bound; fibre
attach units whose latch reads lifted (R485). -/
structure BootView where
  fails : List (Nat × Nat × Nat) := []
  links : List Nat := []
  attach : List Nat := []
  bridges : List Nat := []
  edges : List Nat := []
  memPorts : List Nat := []
  channels : List (Nat × Nat) := []
  dimms : List Dimm := []
  incomplete : List Nat := []
  badComponent : Bool := false
  late : Option Nat := none
  lifted : List Nat := []
deriving DecidableEq, Repr

/-- What recovery after a device warm reset reads from the host (R315): the job line, the journal records in JSN order,
the slots of descriptors read again by JSN with the digest block of a RESULT, and whether a peer has
committed the step of a newest PREPARED slot (R195); with what the bring-up phases find. -/
structure WarmView where
  boot : BootView := {}
  job : List Byte := []
  journal : List (List Byte) := []
  slots : List (Nat × List Byte × Option (List Byte)) := []
  forward : Bool := false
deriving DecidableEq, Repr

/-- The commands of the part: the rows of spec/opcode_table.json. -/
inductive Instr where
  /-- REGISTER_WRITE (R4): A software write to a register field that has no row of its own takes effect according to its access code. -/
  | registerWrite (k size : Nat) (v requester : Word)
  /-- MMA (R52): A matrix command reaching the head of queue 0 is decoded and opens, continues or closes a tile. -/
  | mma (p n : Nat) (u : McUpset)
  /-- MC_DEFERRED_CMD_FAULT (R53): A fault found when a command was decoded ahead takes effect when that command would begin, after the tile in progress finishes. -/
  | mcDeferredCmdFault (p n : Nat)
  /-- MC_NULL_TOKEN (R56): A null token on matrix queue 0 is retired in one cycle and a null token is sent in place of a completion token. -/
  | mcNullToken (p n : Nat)
  /-- MC_BLOCK_CLOSE (R61): A block of a tile closes in the array and its exact block checks are gathered over the wavefront. -/
  | mcBlockClose (p n : Nat) (u : McUpset)
  /-- MC_DRAIN (R55): The drain of a tile writes the results to the local buffer and runs the drain checks. -/
  | mcDrain (p n : Nat) (u : McUpset)
  /-- MC_INJECT_ARM (R72): A write of MC_INJECT.ARM arms one fault injection, or is refused with an error record outside self-test or debug. -/
  | mcInjectArm (p n : Nat) (v requester : Word)
  /-- MC_CNT_CLR (R73): A write to MC_CNT_CLR clears the selected matrix-core counters and their overflow flags. -/
  | mcCntClr (p n : Nat) (v : Word)
  /-- VC_KERNEL (R75): A KERNEL command at the head of vector queue 0 loads ARG1 to ARG3 and starts the kernel at ENTRY. -/
  | vcKernel (p : Nat) (x : VcTake)
  /-- VC_NULL_COMMAND (R82): A null command token on vector queue 0 is retired and a null token replaces the completion token. -/
  | vcNullCommand (p : Nat) (x : VcTake)
  /-- VFMA (R78): Vector fused multiply-add rounded once. -/
  | vfma (p n : Nat) (u : CoreUpset)
  /-- VADD (R78): Vector add. -/
  | vadd (p n : Nat) (u : CoreUpset)
  /-- VMUL (R78): Vector multiply. -/
  | vmul (p n : Nat) (u : CoreUpset)
  /-- VSUB (R78): Vector subtract. -/
  | vsub (p n : Nat) (u : CoreUpset)
  /-- VMIN (R78): Vector minimum. -/
  | vmin (p n : Nat) (u : CoreUpset)
  /-- VMAX (R78): Vector maximum. -/
  | vmax (p n : Nat) (u : CoreUpset)
  /-- VCMP (R78): Vector compare into a mask register. -/
  | vcmp (p n : Nat) (u : CoreUpset)
  /-- VSEL (R78): Vector select under a mask. -/
  | vsel (p n : Nat) (u : CoreUpset)
  /-- VCVT (R78): Vector format conversion under RNE or stochastic rounding. -/
  | vcvt (p n : Nat) (u : CoreUpset)
  /-- VREDSUM (R79): Vector lane sum by the fixed tree. -/
  | vredsum (p n : Nat) (u : CoreUpset)
  /-- VREDMAX (R79): Vector lane maximum by the fixed tree. -/
  | vredmax (p n : Nat) (u : CoreUpset)
  /-- VSCALE (R78): Vector scale by a power of two. -/
  | vscale (p n : Nat) (u : CoreUpset)
  /-- VGETEXP (R78): Vector extraction of the unbiased exponent. -/
  | vgetexp (p n : Nat) (u : CoreUpset)
  /-- VGETMANT (R78): Vector extraction of the mantissa scaled to [1, 2). -/
  | vgetmant (p n : Nat) (u : CoreUpset)
  /-- VAND (R78): Vector bitwise AND. -/
  | vand (p n : Nat) (u : CoreUpset)
  /-- VOR (R78): Vector bitwise OR. -/
  | vor (p n : Nat) (u : CoreUpset)
  /-- VXOR (R78): Vector bitwise XOR. -/
  | vxor (p n : Nat) (u : CoreUpset)
  /-- VSHL (R78): Vector shift left. -/
  | vshl (p n : Nat) (u : CoreUpset)
  /-- VSHR (R78): Vector logical shift right. -/
  | vshr (p n : Nat) (u : CoreUpset)
  /-- VLD (R78): Vector load of 512 bytes from local memory. -/
  | vld (p n : Nat) (u : CoreUpset)
  /-- VST (R78): Vector store of 512 bytes to local memory. -/
  | vst (p n : Nat) (u : CoreUpset)
  /-- VLDH (R78): Vector load of 512 bytes from the hall window. -/
  | vldh (p n : Nat) (u : CoreUpset)
  /-- VSTH (R78): Vector store of 512 bytes to the hall window. -/
  | vsth (p n : Nat) (u : CoreUpset)
  /-- VRNG (R90): Vector fill from the YCG. -/
  | vrng (p n : Nat) (u : CoreUpset)
  /-- XADDI (R78): Index register add immediate. -/
  | xaddi (p n : Nat) (u : CoreUpset)
  /-- XLOOP (R78): Index register decrement and branch while non-zero. -/
  | xloop (p n : Nat) (u : CoreUpset)
  /-- XLI (R78): Index register load immediate. -/
  | xli (p n : Nat) (u : CoreUpset)
  /-- QRECV (R78): Pop the head token of a queue into a vector register, waiting while the queue is empty. -/
  | qrecv (p n : Nat) (u : CoreUpset)
  /-- QSEND (R78): Send a vector register as one token on a connection. -/
  | qsend (p n : Nat) (u : CoreUpset)
  /-- VEND (R75): End the kernel and wait for its writes to be acknowledged. -/
  | vend (p n : Nat) (u : CoreUpset)
  /-- VC_COMPLETION_TOKEN (R75): After every write of the kernel is acknowledged, the vector core sends its completion token and takes the next command. -/
  | vcCompletionToken (p n : Nat)
  /-- VC_ERR_RSP (R76): An answer to a VLDH or VSTH access that is an address error halts the core, and a poisoned answer stalls it. -/
  | vcErrRsp (p n : Nat)
  /-- VC_INJECT_ARM (R92): A write of VC_INJECT.ARM arms one fault injection, or is refused. -/
  | vcInjectArm (p n : Nat) (v requester : Word)
  /-- VC_CNT_CLR (R92): A write to VC_CNT_CLR clears the selected vector-core counters. -/
  | vcCntClr (p n : Nat) (v : Word)
  /-- ADD (R87): Scalar add. -/
  | add (h : Hart) (u : CoreUpset)
  /-- SUB (R87): Scalar subtract. -/
  | sub (h : Hart) (u : CoreUpset)
  /-- AND (R87): Scalar bitwise AND. -/
  | and (h : Hart) (u : CoreUpset)
  /-- OR (R87): Scalar bitwise OR. -/
  | or (h : Hart) (u : CoreUpset)
  /-- XOR (R87): Scalar bitwise XOR. -/
  | xor (h : Hart) (u : CoreUpset)
  /-- SHL (R87): Scalar shift left. -/
  | shl (h : Hart) (u : CoreUpset)
  /-- SHR (R87): Scalar logical shift right. -/
  | shr (h : Hart) (u : CoreUpset)
  /-- SRA (R87): Scalar arithmetic shift right. -/
  | sra (h : Hart) (u : CoreUpset)
  /-- SLT (R87): Scalar signed set-less-than. -/
  | slt (h : Hart) (u : CoreUpset)
  /-- SLTU (R87): Scalar unsigned set-less-than. -/
  | sltu (h : Hart) (u : CoreUpset)
  /-- MUL (R87): Scalar multiply, low 64 bits, with a residue-3 check. -/
  | mul (h : Hart) (u : CoreUpset)
  /-- MULHU (R87): Scalar unsigned multiply, high 64 bits. -/
  | mulhu (h : Hart) (u : CoreUpset)
  /-- MIN (R87): Scalar signed minimum. -/
  | min (h : Hart) (u : CoreUpset)
  /-- MAX (R87): Scalar signed maximum. -/
  | max (h : Hart) (u : CoreUpset)
  /-- MINU (R87): Scalar unsigned minimum. -/
  | minu (h : Hart) (u : CoreUpset)
  /-- MAXU (R87): Scalar unsigned maximum. -/
  | maxu (h : Hart) (u : CoreUpset)
  /-- ADDI (R87): Scalar add immediate. -/
  | addi (h : Hart) (u : CoreUpset)
  /-- ANDI (R87): Scalar AND immediate. -/
  | andi (h : Hart) (u : CoreUpset)
  /-- ORI (R87): Scalar OR immediate. -/
  | ori (h : Hart) (u : CoreUpset)
  /-- XORI (R87): Scalar XOR immediate. -/
  | xori (h : Hart) (u : CoreUpset)
  /-- SLTI (R87): Scalar set-less-than immediate. -/
  | slti (h : Hart) (u : CoreUpset)
  /-- LUI (R87): Scalar load upper immediate. -/
  | lui (h : Hart) (u : CoreUpset)
  /-- LD8 (R88): Scalar 8-bit load, zero-extended. -/
  | ld8 (h : Hart) (u : CoreUpset)
  /-- LD16 (R88): Scalar 16-bit load, zero-extended. -/
  | ld16 (h : Hart) (u : CoreUpset)
  /-- LD32 (R88): Scalar 32-bit load, zero-extended. -/
  | ld32 (h : Hart) (u : CoreUpset)
  /-- LD64 (R88): Scalar 64-bit load. -/
  | ld64 (h : Hart) (u : CoreUpset)
  /-- ST8 (R88): Scalar 8-bit store. -/
  | st8 (h : Hart) (u : CoreUpset)
  /-- ST16 (R88): Scalar 16-bit store. -/
  | st16 (h : Hart) (u : CoreUpset)
  /-- ST32 (R88): Scalar 32-bit store. -/
  | st32 (h : Hart) (u : CoreUpset)
  /-- ST64 (R88): Scalar 64-bit store. -/
  | st64 (h : Hart) (u : CoreUpset)
  /-- BEQ (R87): Scalar branch if equal. -/
  | beq (h : Hart) (u : CoreUpset)
  /-- BNE (R87): Scalar branch if not equal. -/
  | bne (h : Hart) (u : CoreUpset)
  /-- BLT (R87): Scalar branch if less, signed. -/
  | blt (h : Hart) (u : CoreUpset)
  /-- BGE (R87): Scalar branch if greater or equal, signed. -/
  | bge (h : Hart) (u : CoreUpset)
  /-- BLTU (R87): Scalar branch if less, unsigned. -/
  | bltu (h : Hart) (u : CoreUpset)
  /-- BGEU (R87): Scalar branch if greater or equal, unsigned. -/
  | bgeu (h : Hart) (u : CoreUpset)
  /-- JAL (R87): Scalar jump and link. -/
  | jal (h : Hart) (u : CoreUpset)
  /-- JALR (R87): Scalar jump to register and link. -/
  | jalr (h : Hart) (u : CoreUpset)
  /-- CONNECT (R157): Scalar CONNECT sends a credit request to a queue and returns a send slot or a failure code. -/
  | connect (h : Hart) (u : CoreUpset)
  /-- SEND (R157): Scalar SEND of one token on a send slot, waiting for credit. -/
  | send (h : Hart) (u : CoreUpset)
  /-- RECV (R157): Scalar RECV of the head token of a queue into local memory. -/
  | recv (h : Hart) (u : CoreUpset)
  /-- CLOSE (R156): Scalar CLOSE of a send slot, returning after CLOSE_ACK. -/
  | close (h : Hart) (u : CoreUpset)
  /-- STEPWAIT (R184): Scalar STEPWAIT blocks until the next step starts. -/
  | stepwait (h : Hart) (u : CoreUpset)
  /-- STEP (R87): Scalar STEP writes the 64-bit step counter to a register. -/
  | step (h : Hart) (u : CoreUpset)
  /-- YCG (R89): Scalar YCG writes the generator word for a key, stream and counter. -/
  | ycg (h : Hart) (u : CoreUpset)
  /-- FENCE (R88): Scalar FENCE waits until every earlier access has completed. -/
  | fence (h : Hart) (u : CoreUpset)
  /-- HALT (R87): HALT stops the core until its gallery is reset or its enable is cycled. -/
  | halt (h : Hart) (u : CoreUpset)
  /-- TIME (R87): Scalar TIME writes the 64-bit global time in ns. -/
  | time (h : Hart) (u : CoreUpset)
  /-- SC_LOAD_RETURN (R88): A scalar load beyond local memory returns and its destination register becomes ready. -/
  | scLoadReturn (h : Hart) (k : Nat) (v : Word) (u : CoreUpset)
  /-- SC_LOAD_TIMEOUT (R88): A scalar load not returned within LD_TMO halts the core and raises a schedule fault. -/
  | scLoadTimeout (h : Hart) (k : Nat)
  /-- SC_ENABLE (R86): SC_CFG.EN going from 0 to 1 starts the scalar core at local address 0. -/
  | scEnable (p n : Nat)
  /-- SC_DISABLE (R92): SC_CFG.EN going from 1 to 0 stops issue after outstanding accesses complete. -/
  | scDisable (p n : Nat)
  /-- SC_INJECT_ARM (R92): A write of SC_INJECT.ARM arms one fault injection, or is refused. -/
  | scInjectArm (p n : Nat) (v requester : Word)
  /-- SC_CNT_CLR (R92): A write to SC_CNT_CLR clears the selected scalar-core counters. -/
  | scCntClr (p n : Nat) (v : Word)
  /-- WFI (R435): A control processor stops issue until an interrupt is delivered. -/
  | wfi (h : Hart) (u : CoreUpset)
  /-- IRET (R435): A control processor pops its save stack and resumes. -/
  | iret (h : Hart) (u : CoreUpset)
  /-- IEN (R435): A control processor sets its interrupt enable. -/
  | ien (h : Hart) (u : CoreUpset)
  /-- IDIS (R435): A control processor clears its interrupt enable. -/
  | idis (h : Hart) (u : CoreUpset)
  /-- CINV (R435): A control processor invalidates one data-cache line. -/
  | cinv (h : Hart) (u : CoreUpset)
  /-- HALL_READ (R97): A crossbar read request of a hall line is granted and returns data, or is served from the merge latch. -/
  | hallRead (p m : Nat) (req : Packet) (cycle age : Nat) (rivals : List (Nat × Nat)) (u : ParityUpset)
  /-- HALL_WRITE (R97): A crossbar write request of a hall line is granted and completes in the bank. -/
  | hallWrite (p m : Nat) (req : Packet) (age : Nat) (rivals : List (Nat × Nat)) (u : ParityUpset)
  /-- HALL_ATOMIC (R100): An 8-byte atomic is performed in the hall and returns the old value. -/
  | hallAtomic (p m : Nat) (req : Packet) (op : AtomOp) (cmp : Word) (age : Nat) (rivals : List (Nat × Nat)) (u : ParityUpset)
  /-- POISONED_RESPONSE (R103): A master that receives a poisoned line discards it and stalls without a fault. -/
  | poisonedResponse (p a : Nat)
  /-- DM_COPY (R106): A COPY descriptor moves rows from source to destination. -/
  | dmCopy (p : Nat) (u : DmUpset)
  /-- DM_MCAST (R109): An MCAST descriptor writes rows into the hall windows of a mask slot's galleries. -/
  | dmMcast (p : Nat) (u : DmUpset)
  /-- DM_FILL (R106): A FILL descriptor fills rows with a repeated value. -/
  | dmFill (p : Nat) (u : DmUpset)
  /-- DM_ATOMIC (R106): An ATOMIC descriptor performs one atomic and writes the old value to DST. -/
  | dmAtomic (p : Nat) (u : DmUpset)
  /-- DM_NULL_TOKEN (R108): A null token takes a descriptor's place and is answered with a null token in order. -/
  | dmNullToken (p : Nat)
  /-- DM_DESCRIPTOR_START (R108): A waiting descriptor starts once the overlapping earlier descriptor completes and a place is free. -/
  | dmDescriptorStart (p : Nat) (u : DmUpset)
  /-- DM_COMPLETION (R108): The data mover sends a completion token in descriptor order after the last write is acknowledged. -/
  | dmCompletion (p : Nat)
  /-- DM_TIMEOUT (R110): A request unanswered within DM_CFG.TMO halts the data mover and raises a schedule fault. -/
  | dmTimeout (p : Nat)
  /-- SU_SWITCH (R112): A SWITCH entry fires and sends the step's data to the selected output and nulls to the others. -/
  | suSwitch (p e : Nat) (bad : Bool)
  /-- SU_MERGE (R112): A MERGE entry fires and forwards the selected input's tokens, discarding the others. -/
  | suMerge (p e : Nat) (bad : Bool)
  /-- SU_DISTRIBUTE (R112): A DISTRIBUTE entry fires per data slot, routing by control with overflow, and fills outputs to CAP. -/
  | suDistribute (p e : Nat) (bad : Bool)
  /-- SU_COLLECT (R112): A COLLECT entry fires per output slot and pops the selected input. -/
  | suCollect (p e : Nat) (bad : Bool)
  /-- SU_WATCHDOG (R114): A partner waiting longer than the step watchdog makes the entry raise a schedule fault. -/
  | suWatchdog (p e : Nat)
  /-- HALL_CNT_CLR (R116): A write to HALL_CNT_CLR clears the selected gallery counters. -/
  | hallCntClr (p : Nat) (v : Word)
  /-- LND_HEAD_FLIT (R127): A landing receives a head flit and routes the packet to an output or its exit. -/
  | lndHeadFlit (l port : Nat) (t : Packet) (pre : Nat) (u : FlitUpset)
  /-- RD_RSP (R124): A read response reaches its requester. -/
  | rdRsp (p : Nat) (t : Packet)
  /-- WR_ACK (R134): A write acknowledgement reaches its requester or multicast source. -/
  | wrAck (p : Nat) (t : Packet)
  /-- AT_RSP (R124): An atomic response with the old value reaches its requester. -/
  | atRsp (p : Nat) (t : Packet)
  /-- MC_PRUNE (R134): A prune answer reaches a multicast source and counts the pruned bits. -/
  | mcPrune (p : Nat) (t : Packet)
  /-- ERR_RSP (R132): An error response reaches the requester, which stalls as poisoned or as an address error. -/
  | errRsp (p : Nat) (t : Packet)
  /-- FLT_ARRIVE (R138): A flight arrival reaches a landing from a child. -/
  | fltArrive (l port : Nat) (x : Word)
  /-- FLT_RELEASE (R138): A flight release reaches a landing, which increments its generation, forwards it and delivers the release token. -/
  | fltRelease (l : Nat) (x : Word)
  /-- FAULT_FLAG (R142): A fault flag packet travels to its attach landing and over the drop to the interrupt controller. -/
  | faultFlag (l : Nat) (m lm : Mask)
  /-- TBL_FLIP (R131): A table flip reaches a landing, which switches banks, loads flight generations and answers WR_ACK. -/
  | tblFlip (l : Nat) (t : Packet)
  /-- LND_FLT_ARRIVE (R139): A 64-bit write of LND_FLT_ARRIVE contributes to a flight at the agent's landing. -/
  | lndFltArrive (p : Nat) (x : Word)
  /-- LND_TBL_SEL_FLIP (R146): A write of LND_TBL_SEL.FLIP switches one landing's bank, optionally loading generations. -/
  | lndTblSelFlip (l : Nat) (v : Word)
  /-- LND_STALL_TIMEOUT (R145): An output holding a flit for STALL_TMO records a stall and raises the landing fault flag. -/
  | lndStallTimeout (l port vc src : Nat)
  /-- LND_CNT_CLR (R146): A write to LND_CNT_CLR clears the selected landing counters. -/
  | lndCntClr (l : Nat) (v : Word)
  /-- TOKEN_DATA (R152): A DATA token arrives, its epoch and SEQ are checked, and it is enqueued. -/
  | tokenData (p : Nat) (t : Packet)
  /-- TOKEN_NULL (R152): A NULL token arrives and is enqueued in one slot. -/
  | tokenNull (p : Nat) (t : Packet)
  /-- TOKEN_CONNECT (R153): A CONNECT token is answered with GRANT or REFUSE, or held in the early buffer. -/
  | tokenConnect (p : Nat) (t : Packet)
  /-- TOKEN_CLOSE (R156): A CLOSE token at the head of the queue frees the connection's credits and sends CLOSE_ACK. -/
  | tokenClose (p : Nat) (t : Packet)
  /-- TOKEN_RING_MSG (R163): A RING_MSG notice is checked against the ring record and presented. -/
  | tokenRingMsg (p : Nat) (t : Packet)
  /-- TOKEN_RING_PAD (R163): A RING_PAD notice at the head of the queue releases its lines without being presented. -/
  | tokenRingPad (p : Nat) (t : Packet)
  /-- TOKEN_RESERVE (R165): A RESERVE token reserves slots at a multicast queue, answers WR_ACK and contributes to the reserve flight. -/
  | tokenReserve (p : Nat) (t : Packet)
  /-- CREDIT_RETURN (R155): A CREDIT packet returns freed slots and lines to a send slot. -/
  | creditReturn (p : Nat) (t : Packet)
  /-- GRANT (R153): A GRANT opens the send slot with its credits. -/
  | grant (p : Nat) (t : Packet)
  /-- REFUSE (R153): A REFUSE ends a CONNECT with failure. -/
  | refuse (p : Nat) (t : Packet)
  /-- CLOSE_ACK (R156): A CLOSE_ACK frees the closing send slot. -/
  | closeAck (p : Nat) (t : Packet)
  /-- CREDIT_BATCH_TIMEOUT (R155): 64 island cycles after the first unreturned free, the receiver returns credits. -/
  | creditBatchTimeout (p a k : Nat)
  /-- CONNECT_TIMEOUT (R157): A CONNECT unanswered within CONN_TMO fails. -/
  | connectTimeout (p a slot : Nat)
  /-- SEND_PLACE (R162): SEND with PLACE reserves ring lines, writing a pad if needed, and returns the payload address. -/
  | sendPlace (h : Hart) (u : CoreUpset)
  /-- SEND_POST (R162): SEND with POST writes the ring header and sends RING_MSG after writes are acknowledged. -/
  | sendPost (h : Hart) (u : CoreUpset)
  /-- SEND_NULL (R157): SEND with NULL sends a null token. -/
  | sendNull (h : Hart) (u : CoreUpset)
  /-- SEND_RETRY (R167): SEND with RETRY repeats reserve and data for the late targets with the same SEQ. -/
  | sendRetry (h : Hart) (u : CoreUpset)
  /-- RECV_RELEASE_ONLY (R163): RECV with RELEASE_ONLY releases the lines of the last presented ring message. -/
  | recvReleaseOnly (h : Hart) (u : CoreUpset)
  /-- CONNECT_MULTICAST (R157): CONNECT with MC opens a multicast slot locally. -/
  | connectMulticast (h : Hart) (u : CoreUpset)
  /-- MC_DATA_SEND (R166): After the reserve release and all answers, the source multicasts the data to the reserved targets. -/
  | mcDataSend (p a m : Nat)
  /-- RESERVE_TIMEOUT (R165): A target that cannot reserve within RSV_TMO answers that it did not reserve. -/
  | reserveTimeout (p a k : Nat)
  /-- SEND_STALL_WATCHDOG (R172): A send slot waiting on credit for STALL_TMO becomes HUNG and raises a schedule fault. -/
  | sendStallWatchdog (p a slot : Nat)
  /-- Q_DRAIN_CLEAR (R175): A write of Q_DRAIN_CTL.CLEAR empties the drain queue. -/
  | qDrainClear (p a : Nat)
  /-- Q_CNT_CLR (R175): A write to Q_CNT_CLR clears the counters of a queue, send slot or agent. -/
  | qCntClr (p a : Nat) (v : Word)
  /-- SEQ_STEP_START (R302): The sequencer starts the next step once the run limit allows it and its accepts are acknowledged. -/
  | seqStepStart
  /-- WARM_ENTRY (R182): START without COLD returns STEPWAIT with state intact. -/
  | warmEntry (p : Nat)
  /-- COLD_ENTRY (R182): START with COLD restarts every agent of the gallery and reopens channel-table connections. -/
  | coldEntry (p : Nat)
  /-- GSTEP_ABORT (R191): ABORT reaches a gallery, whose agents stop issue and steering stops firing. -/
  | gstepAbort (p : Nat)
  /-- COMMIT_RELEASE (R185): The commit and ND releases reach the sequencer, which issues the commit record write. -/
  | commitRelease (nd : Nat)
  /-- COMMIT_RECORD_ACK (R185): The commit record write is acknowledged and the guard copies are written. -/
  | commitRecordAck
  /-- GUARD_COPY_ACK (R185): All guard copies are acknowledged; CP2 is notified, SEQ_STEP increments and START is multicast. -/
  | guardCopyAck (cfg : Option Nat)
  /-- STEP_WATCHDOG (R190): The commit release missing for STEP_WD reads GSTEP_STATE over the back stair and raises a schedule fault. -/
  | stepWatchdog (silent : List Nat)
  /-- QUIET_END (R191): The rollback quiet time ends and the Restart phase may begin. -/
  | quietEnd
  /-- ROLLBACK_RESTART (R191): The flip and gallery restarts are made and the step is started cold. -/
  | rollbackRestart
  /-- SEQ_CTL_STOP (R202): SEQ_CTL.STOP makes the sequencer enter STOPPED after the next commit. -/
  | seqCtlStop
  /-- SEQ_CTL_RESUME (R202): SEQ_CTL.RESUME starts committed + 1 cold from STOPPED. -/
  | seqCtlResume
  /-- SEQ_CTL_UNLOAD (R202): SEQ_CTL.UNLOAD returns the sequencer to IDLE from STOPPED or HALTED. -/
  | seqCtlUnload
  /-- SEQ_CTL_ABORT (R186): SEQ_CTL.ABORT rolls the step in progress back, or the next step if after the commit point. -/
  | seqCtlAbort
  /-- SCAN_GO (R199): GSTEP_SCAN.GO starts a scan of a gallery's context. -/
  | scanGo (p : Nat) (v : Word)
  /-- SCAN_DONE (R199): A scan completes, sets DONE, or stops with ERROR. -/
  | scanDone (p : Nat) (bad : Bool)
  /-- DRAIN_SCAN_TIMEOUT (R200): A gallery not completing its drain scan within 1 ms is recorded as no answer. -/
  | drainScanTimeout (p : Nat)
  /-- MIGRATION_START (R201): At a step boundary a migration scans FULL to a spare, remaps tables and flips. -/
  | migrationStart (g dst : Nat)
  /-- FABRIC_BARRIER_TIMEOUT (R194): FAB_WD expires waiting for the fabric release; missing peers are reported. -/
  | fabricBarrierTimeout
  /-- PROGRAM_DIGEST_DONE (R178): The digest engines finish PROGRAM_DIGEST and the load continues or fails with 0x02. -/
  | programDigestDone (forward : Bool)
  /-- SEQ_CNT_CLR (R202): A write to SEQ_CNT_CLR clears the sequencer counters. -/
  | seqCntClr (v : Word)
  /-- MEMC_READ (R214): A memory controller serves a line read that came `ago` ns ago and takes `lat` ns. -/
  | memcRead (m : Nat) (req : Packet) (ago lat : Nat) (u : MemUpset)
  /-- MEMC_WRITE (R215): A memory controller performs a line write and acknowledges it. -/
  | memcWrite (m : Nat) (req : Packet) (u : MemUpset)
  /-- MEMC_ATOMIC (R217): A memory controller performs an 8-byte atomic and returns the old value. -/
  | memcAtomic (m : Nat) (req : Packet) (op : AtomOp) (cmp : Word) (u : MemUpset)
  /-- PATROL_SCRUB (R223): The patrol scrubber reads a line and handles corrected or uncorrectable errors. -/
  | patrolScrub (m : Nat) (a : Word) (u : MemUpset)
  /-- REFRESH (R225): The controller issues refresh at the interval for the DRAM temperature. -/
  | refresh (m b : Nat)
  /-- DRAM_TEMP_READ (R225): The 1 ms temperature read sets or clears throttle and thermal stop. -/
  | dramTempRead (m temp : Nat)
  /-- MEM_IRGN_WRITE (R210): A write of MEM_IRGNn is validated and copied to every decoder, or refused. -/
  | memIrgnWrite (n r : Nat) (v requester : Word)
  /-- MEM_DDR_ILV_WRITE (R228): A write of MEM_DDR.ILV changes DDR5 interleave while IDLE, or is refused. -/
  | memDdrIlvWrite (v requester : Word)
  /-- DIMM_PRESENCE_CHANGE (R230): A debounced DIMM presence change fences the channel and raises a record. -/
  | dimmPresenceChange (c d : Nat) (present : Bool)
  /-- MEMC_CNT_CLR (R231): A write to MEMC_CNT_CLR clears the selected controller counters. -/
  | memcCntClr (m : Nat) (v : Word)
  /-- LINK_DATA_FRAME (R245): A DATA frame is received and accepted in LSEQ order, updating ACK and credits. -/
  | linkDataFrame (q : Nat) (f : LinkFrame) (u : FrameUpset)
  /-- LINK_NAK (R246): A NAK frame makes the sender replay from the named LSEQ. -/
  | linkNak (q : Nat) (f : LinkFrame) (u : FrameUpset) (bad : Option Nat)
  /-- CTRL_IDLE (R241): An IDLE control frame carries ACK and credits. -/
  | ctrlIdle (q : Nat) (f : LinkFrame) (u : FrameUpset)
  /-- CTRL_TRAIN (R249): A TRAIN frame exchanges identity, version, lane split and replay depth. -/
  | ctrlTrain (q : Nat) (f : LinkFrame) (u : FrameUpset)
  /-- CTRL_PROMOTE (R252): A PROMOTE frame asks the peer to promote a hot spare in place of a failed port. -/
  | ctrlPromote (q : Nat) (f : LinkFrame) (u : FrameUpset)
  /-- CTRL_PROMOTE_ACK (R252): A PROMOTE_ACK makes the spare ACTIVE with the failed port's role. -/
  | ctrlPromoteAck (q : Nat) (f : LinkFrame) (u : FrameUpset)
  /-- CTRL_PROMOTE_NAK (R252): A PROMOTE_NAK makes the edge router try the next candidate. -/
  | ctrlPromoteNak (q : Nat) (f : LinkFrame) (u : FrameUpset)
  /-- CTRL_DOWN (R254): A DOWN frame is answered with DOWN_ACK and the port enters DRAINED. -/
  | ctrlDown (q : Nat) (f : LinkFrame) (u : FrameUpset)
  /-- CTRL_DOWN_ACK (R254): A DOWN_ACK puts the port in DRAINED. -/
  | ctrlDownAck (q : Nat) (f : LinkFrame) (u : FrameUpset)
  /-- LINK_REPLAY_TIMEOUT (R246): The oldest unacknowledged frame older than REPLAY_TMO is replayed, or the port fails after RETRY_MAX. -/
  | linkReplayTimeout (q : Nat) (bad : Option Nat)
  /-- NAK_REPEAT_TIMEOUT (R245): The receiver repeats its NAK every REPLAY_TMO while the LSEQ is missing. -/
  | nakRepeatTimeout (q : Nat)
  /-- LOSS_OF_LIGHT (R251): A lane without light for 500 ns fails the port. -/
  | lossOfLight (q lanes : Nat)
  /-- LOSS_OF_LOCK (R251): Loss of clock or codeword lock fails the port. -/
  | lossOfLock (q lanes : Nat)
  /-- QUAL_WINDOW_END (R250): At the end of each 1 s window a lane is judged marginal or failed. -/
  | qualWindowEnd (q : Nat) (lanes : List (Nat × Nat))
  /-- LANE_LOCK (R249): All lanes achieve lock and the port moves to the identity phase. -/
  | laneLock (x : LanesSeen)
  /-- TRAINING_PHASE_TIMEOUT (R249): A training phase missing its limit retries once, then fails the port. -/
  | trainingPhaseTimeout (q : Nat)
  /-- SOAK_END (R249): A passed soak puts the port in ACTIVE or STANDBY. -/
  | soakEnd (q : Nat) (syms : List Nat) (errors : Nat)
  /-- PORT_UP (R253): FAB_PORT_CTL.UP retrains a FAILED or DRAINED port. -/
  | portUp (q : Nat)
  /-- PORT_DOWN (R254): FAB_PORT_CTL.DOWN drains a port without a latch and keeps the lasers on. -/
  | portDown (q : Nat)
  /-- PORT_ENABLE (R249): Setting FAB_PORT_CFG.EN starts training of the port. -/
  | portEnable (q : Nat)
  /-- PORT_DISABLE (R373): Clearing FAB_PORT_CFG.EN resets the port to DISABLED. -/
  | portDisable (q : Nat)
  /-- LIGHT_RETURN (R253): Light returning to a FAILED port starts its retraining. -/
  | lightReturn (q lanes : Nat)
  /-- LATCH_LIFT (R254): A debounced latch lift promotes and drains the unit's ports. -/
  | latchLift (n : Nat)
  /-- LINK_DRAIN_TIMEOUT (R254): At 100 µs a draining port sends DOWN, dropping unacknowledged frames. -/
  | linkDrainTimeout (q : Nat)
  /-- LASER_OFF_TIMEOUT (R254): At 3 ms after the lift the unit's lasers go off. -/
  | laserOffTimeout (n : Nat)
  /-- LATCH_CLOSE (R255): A latch high for 1 ms turns lasers on and retrains the ports. -/
  | latchClose (n : Nat)
  /-- FAB_PORT_CNT_CLR (R256): A write to FAB_PORT_CNT_CLR clears the selected port counters. -/
  | fabPortCntClr (q : Nat) (v : Word)
  /-- ER_MESH_INGRESS (R261): An edge router turns a mesh packet for another device into a fabric message. -/
  | erMeshIngress (h : Nat) (t : Packet)
  /-- FABRIC_PACKET_FORWARD (R267): A router routes a fabric packet adaptively or by escape. -/
  | fabricPacketForward (h k : Nat) (bad : Bool)
  /-- FABRIC_DWELL_TIMEOUT (R264): A packet waiting in a router longer than DWELL is discarded. -/
  | fabricDwellTimeout (h k : Nat)
  /-- FAB_WRITE (R272): A WRITE packet is written at ADDR + OFFSET and counted toward its message. -/
  | fabWrite (h : Nat) (t : FabPkt)
  /-- FAB_READ (R261): A READ packet is served and answered with READ_RSP. -/
  | fabRead (h : Nat) (t : FabPkt)
  /-- FAB_ATOMIC (R261): An ATOMIC packet is performed and answered with ATOMIC_RSP. -/
  | fabAtomic (h : Nat) (t : FabPkt) (op : AtomOp) (cmp : Word)
  /-- FAB_TOKEN (R197): A TOKEN packet is logged by the fabric channel endpoint and delivered. -/
  | fabToken (h : Nat) (t : FabPkt)
  /-- FAB_RESERVE (R276): A RESERVE packet is forwarded to children and reserved locally. -/
  | fabReserve (h : Nat) (t : FabPkt)
  /-- FAB_READ_RSP (R272): A READ_RSP completes a read toward its requester in MSN order. -/
  | fabReadRsp (h : Nat) (t : FabPkt)
  /-- FAB_ATOMIC_RSP (R261): An ATOMIC_RSP returns the old value to the requester. -/
  | fabAtomicRsp (h : Nat) (t : FabPkt)
  /-- RSV_ANS (R276): A reserve or delivery answer from a child is merged toward the parent. -/
  | rsvAns (h : Nat) (t : FabPkt)
  /-- CTX_OPEN (R270): A CTX OPEN allocates a receive context and is answered OPEN_ACK. -/
  | ctxOpen (h : Nat) (t : FabPkt)
  /-- CTX_OPEN_ACK (R270): An OPEN_ACK lets the sender start at PSN 0. -/
  | ctxOpenAck (h : Nat) (t : FabPkt)
  /-- CTX_CLOSE (R270): A CTX CLOSE frees the receive context and is answered CLOSE_ACK. -/
  | ctxClose (h : Nat) (t : FabPkt)
  /-- CTX_CLOSE_ACK (R270): A CTX CLOSE_ACK frees the send context. -/
  | ctxCloseAck (h : Nat) (t : FabPkt)
  /-- CTX_NOCTX (R274): A NOCTX makes the sender reopen and resend every message not covered by DONE_MSN. -/
  | ctxNoctx (h : Nat) (t : FabPkt)
  /-- TACK (R271): A TACK acknowledges packets and advances DONE_MSN at the sender. -/
  | tack (h : Nat) (t : FabPkt)
  /-- TACK_DELAY_TIMEOUT (R271): ACK_DELAY after the first unacknowledged arrival the receiver sends a TACK. -/
  | tackDelayTimeout (h dev : Nat)
  /-- RETRANSMIT_TIMEOUT (R273): An unacknowledged packet is retransmitted after RTO, switching plane or stalling after limits. -/
  | retransmitTimeout (h dev k : Nat)
  /-- CONNECTION_IDLE_TIMEOUT (R270): A connection idle for IDLE ms closes. -/
  | connectionIdleTimeout (h dev : Nat)
  /-- FAB_RESERVE_TIMEOUT (R276): A node answers its parent after the per-level reserve wait without missing children. -/
  | fabReserveTimeout (h g : Nat)
  /-- BARRIER_ARRIVE (R282): An ARRIVE combines at a barrier node, or triggers a repeated RELEASE. -/
  | barrierArrive (h : Nat) (t : FabPkt)
  /-- BARRIER_RELEASE (R282): A RELEASE advances GEN and is forwarded to children. -/
  | barrierRelease (h : Nat) (t : FabPkt)
  /-- BARRIER_ARRIVE_RESEND (R282): A node resends ARRIVE every 20 µs until RELEASE arrives. -/
  | barrierArriveResend (k : Nat)
  /-- BARRIER_ACTION_AT_T (R283): At release time T the local member commits or starts the step. -/
  | barrierActionAtT (k : Nat)
  /-- BARRIER_TRIGGER (R385): A fabric TRIGGER schedules a snapshot latch at T, or is discarded. -/
  | barrierTrigger (t : FabPkt)
  /-- TIME_PACKET (R278): A TIME packet exchange updates link delay and offset and steers the counter; it was received at
  `rx` ps of this device's counter, and an answer leaves at `tx` ps. -/
  | timePacket (q : Nat) (t : FabPkt) (rx tx : Nat)
  /-- TIME_SYNC (R278): Every SYNC µs the device exchanges TIME packets with its parent, entering HOLDOVER after misses. -/
  | timeSync
  /-- ORDER_PACKET (R285): An ORDER packet is relayed or assembled into an order buffer. -/
  | orderPacket (h : Nat) (t : FabPkt)
  /-- ORDER_ASSEMBLY_TIMEOUT (R285): An order assembly idle for 100 ms is discarded. -/
  | orderAssemblyTimeout (k : Nat)
  /-- ORDER_EXPEL (R287): A verified EXPEL aborts the step, stops fabric DATA, turns off lasers and sets EXPELLED. -/
  | orderExpel
  /-- ORDER_PEER_LOST (R289): A verified PEER_LOST removes devices, closes connections, cancels barriers and aborts the step. -/
  | orderPeerLost
  /-- ORDER_PEER_MAP (R288): A verified PEER_MAP installs the job's device map and closes dropped connections. -/
  | orderPeerMap
  /-- ORDER_READMIT (R287): A verified READMIT clears EXPELLED. -/
  | orderReadmit
  /-- ORDER_RETURN (R381): A verified RETURN clears the out-of-service latch and starts a warm reset. -/
  | orderReturn
  /-- ORDER_KEYSET (R411): A verified KEYSET replaces the manager key set in flash and loads QUORUM. -/
  | orderKeyset
  /-- ER_CNT_CLR (R290): A write to ER_CNT_CLR clears the selected edge-router counters. -/
  | erCntClr (h : Nat) (v : Word)
  /-- SCL_LINK_FAIL (R294): An SCL link failure sets FAILED, retrains and holds outgoing requests. -/
  | sclLinkFail (kind lanes lseq : Nat)
  /-- SCL_DOWN_TIMEOUT (R294): SCL not UP within DOWN_TMO makes CP1 order a device warm reset. -/
  | sclDownTimeout
  /-- HRD (R297): A host read of 64 bytes of device memory is answered DATA or ERR. -/
  | hrd (m : SclMsg) (part : Option (Nat × Nat))
  /-- HWR (R297): A posted host write of up to 64 bytes to device memory. -/
  | hwr (m : SclMsg)
  /-- FLUSH (R296): A host FLUSH is answered CMP once earlier HWRs are acknowledged. -/
  | flush (m : SclMsg)
  /-- SNP_INV (R298): A snoop invalidates a held host line and is answered SNP_RSP. -/
  | snpInv (m : SclMsg)
  /-- SCL_DATA (R296): A DATA answer to a device read arrives. -/
  | sclData (m : SclMsg)
  /-- SCL_CMP (R296): A CMP answer to a device write arrives, advancing accept, completion or finish. -/
  | sclCmp (m : SclMsg)
  /-- SCL_ERR (R296): An ERR answer with a cause arrives for a device request. -/
  | sclErr (m : SclMsg)
  /-- SCL_CMD_DB (R300): A command doorbell write sets a ring's producer index or is refused. -/
  | sclCmdDb (r v : Nat)
  /-- SCL_CPL_DB (R304): A completion doorbell write sets a completion ring's consumer index. -/
  | sclCplDb (c v : Nat)
  /-- DESCRIPTOR_ACCEPT (R308): The Willek reads the next descriptor, reserves a completion slot, checks it and writes ACCEPT. -/
  | descriptorAccept (r : Nat) (slot blk : Option (List Byte))
  /-- NOP (R301): A NOP descriptor completes with no action. -/
  | nop (j : Nat)
  /-- LOAD (R178): A LOAD descriptor checks, validates and loads a schedule image and starts it; `u` is what the first read
  of the image header meets at its memory controller. -/
  | load (j : Nat) (u : MemUpset)
  /-- REPLACE (R181): A REPLACE descriptor re-places the job on a fitting placement. -/
  | replace (j : Nat) (forward : Bool)
  /-- STEPS (R302): A STEPS descriptor raises the run limit by COUNT. -/
  | steps (j : Nat)
  /-- COPY_IN (R303): A COPY_IN descriptor DMAs host data into device memory. -/
  | copyIn (j : Nat)
  /-- COPY_OUT (R303): A COPY_OUT descriptor DMAs device data to host memory. -/
  | copyOut (j : Nat)
  /-- STOP (R301): A STOP descriptor acts as SEQ_CTL.STOP. -/
  | stop (j : Nat)
  /-- RESUME (R301): A RESUME descriptor acts as SEQ_CTL.RESUME. -/
  | resume (j : Nat)
  /-- UNLOAD (R313): An UNLOAD descriptor unloads the schedule and completes pending bound descriptors with 0x05. -/
  | unload (j : Nat)
  /-- ABORT (R301): An ABORT descriptor acts as SEQ_CTL.ABORT. -/
  | abort (j : Nat)
  /-- DRAIN (R301): A DRAIN descriptor orders the context drain. -/
  | drain (j : Nat)
  /-- DESC_FENCE (R301): A FENCE descriptor acts when every earlier accepted descriptor has finished. -/
  | descFence (j : Nat)
  /-- RESULT (R331): A RESULT descriptor writes the result record after the commit of its step. -/
  | result (j : Nat)
  /-- DIGEST (R333): A DIGEST descriptor starts the Merkle digest of a stable range. -/
  | digest (j : Nat)
  /-- DIGEST_DONE (R334): The digest engines finish and the output and completion are written. -/
  | digestDone (bad : Option Nat)
  /-- REMAP (R365): A REMAP descriptor rebuilds the logical numbering or moves one gallery while IDLE. -/
  | remap (j : Nat)
  /-- DEFECTS (R365): A DEFECTS descriptor copies the defect map to the host. -/
  | defects (j : Nat)
  /-- CPL_MODERATION_TIMEOUT (R306): MOD_US after the first unsignalled record the completion ring raises its EVENT. -/
  | cplModerationTimeout (c : Nat)
  /-- SCL_CNT_CLR (R318): A write to SCL_CNT_CLR clears the selected SCL counters. -/
  | sclCntClr (v : Word)
  /-- GND_SNAP (R326): A write of GND_CTL.SNAP copies GND_PEND into GND_SENT. -/
  | gndSnap (p : Nat)
  /-- ROTATION_TICK (R343): A rotation tick selects the next target gallery and advances the pointer. -/
  | rotationTick (h : Nat)
  /-- ROTATION_MOVE (R345): At a suitable step boundary the target's logical gallery moves to the receiving spare. -/
  | rotationMove (g dst : Nat)
  /-- ST_ELEMENT_DONE (R339): A self-test element finishes and its result entry is judged and written. -/
  | stElementDone (elem unit : Nat) (r : ElemResult)
  /-- ST_ELEMENT_TIMEOUT (R338): An element running past 110 % of its budget is stopped with TIMEOUT. -/
  | stElementTimeout (elem unit : Nat)
  /-- TEST_GALLERY (R350): TEST scope 0x01 queues a gallery test at the next boundary. -/
  | testGallery (j : Nat)
  /-- TEST_GALLERY_NOW (R350): TEST scope 0x02 fences and tests a gallery at once. -/
  | testGalleryNow (j : Nat)
  /-- TEST_LANDING (R350): TEST scope 0x03 tests a landing with detour tables installed. -/
  | testLanding (j : Nat)
  /-- TEST_STAIR_LINK (R350): TEST scope 0x04 fences and tests a stair link pair. -/
  | testStairLink (j : Nat)
  /-- TEST_EDGE_ROUTER (R350): TEST scope 0x05 drains a half's ports and tests its edge router. -/
  | testEdgeRouter (j : Nat)
  /-- TEST_DEVICE (R350): TEST scope 0x06 runs the device-wide test phases. -/
  | testDevice (j : Nat)
  /-- TEST_HBM_STACK (R350): TEST scope 0x07 runs the destructive HBM stack test. -/
  | testHbmStack (j : Nat)
  /-- TEST_DDR5_CHANNEL (R350): TEST scope 0x08 runs the destructive DDR5 channel test. -/
  | testDdr5Channel (j : Nat)
  /-- EXTEST (R351): JTAG EXTEST selects the boundary scan for external test. -/
  | extest
  /-- IDCODE (R351): JTAG IDCODE selects the 32-bit identification register. -/
  | idcode
  /-- SAMPLE_PRELOAD (R351): JTAG SAMPLE/PRELOAD selects the boundary scan. -/
  | samplePreload
  /-- CLAMP (R351): JTAG CLAMP holds outputs and selects bypass. -/
  | clamp
  /-- HIGHZ (R351): JTAG HIGHZ floats outputs and selects bypass. -/
  | highz
  /-- ST_CMD (R351): JTAG ST_CMD runs a TEST descriptor with ORIGIN 3 when production access is open. -/
  | stCmd (ws : List Word)
  /-- ST_RESULT (R351): JTAG ST_RESULT reads the oldest unread result entry. -/
  | stResult
  /-- BYPASS (R351): JTAG BYPASS selects the one-bit bypass register. -/
  | bypass
  /-- ST_CNT_CLR (R352): A write to ST_CNT_CLR clears the selected self-test counters. -/
  | stCntClr (v : Word)
  /-- INTERRUPT_DELIVERY (R439): A deliverable source is signalled and the CP enters the handler at its priority. -/
  | interruptDelivery (n : Nat)
  /-- SPARE_RELOAD_DONE (R362): The spare's reload completes and the Restart phase may begin. -/
  | spareReloadDone (cause : Nat)
  /-- GAL_FENCE_SET (R357): A write of GAL_FENCE.FENCE fences the gallery island. -/
  | galFenceSet (p : Nat)
  /-- GAL_UNFENCE (R357): A write of GAL_FENCE.UNFENCE clears the fence after reset and a passing test, or is refused. -/
  | galUnfence (p : Nat) (requester : Word)
  /-- FLT_CNT_CLR (R372): A write to FLT_CNT_CLR clears the selected fault counters. -/
  | fltCntClr (v : Word)
  /-- CORE_RESET (R373): A GAL_RST.CORE bit resets one agent of a gallery. -/
  | coreReset (p mask : Nat) (requester : Word)
  /-- GALLERY_RESET (R373): GAL_RST.GAL resets the gallery island and zeroes its memories. -/
  | galleryReset (p : Nat)
  /-- LND_RESET (R373): LND_RST.GO resets a landing and re-qualifies its links. -/
  | lndReset (l : Nat)
  /-- HALF_RESET (R377): RST_CTL.HALF_W or HALF_E resets one half, rolling the step back. -/
  | halfReset (h : Nat)
  /-- DEVICE_WARM_RESET (R379): RST_CTL.WARM or an internal cause runs the device warm reset phases. -/
  | deviceWarmReset (cause : Nat) (requester : Word)
  /-- RESET_COMPLETE (R373): A reset of a domain completes within its timeout. -/
  | resetComplete (k : Nat) (found : WarmView)
  /-- RESET_TIMEOUT (R376): A reset step reaching its timeout is escalated by isolating the unit. -/
  | resetTimeout (k : Nat)
  /-- ISOLATION_SWITCH_TIMEOUT (R376): A power switch not reporting off within 10 µs escalates to a half reset. -/
  | isolationSwitchTimeout (p : Nat) (landing : Bool)
  /-- CP_WD_ENABLE (R375): A write of CP_WDn.EN enables a control-processor watchdog. -/
  | cpWdEnable (n period : Nat)
  /-- CP_WD_KICK (R375): A write of CP_WDn.KICK restarts the watchdog period. -/
  | cpWdKick (n : Nat)
  /-- CP_WD_EXPIRY (R375): A watchdog period without KICK raises a record and starts a device warm reset. -/
  | cpWdExpiry (n : Nat)
  /-- SNAP_TRIGGER (R383): SNAP_CTL.TRIG or an enabled source latches a snapshot in every block. -/
  | snapTrigger (source : Nat)
  /-- SNAP_REARM (R389): SNAP_CTL.REARM releases the held snapshot and clears MISSED. -/
  | snapRearm
  /-- SNAP_LATCH_AT_T (R385): A fabric trigger latches the snapshot at its time T. -/
  | snapLatchAtT
  /-- DUMP_GO (R386): DUMP_CTL.GO or an automatic dump reads every snapshot over the back stair. -/
  | dumpGo
  /-- DUMP_READ_TIMEOUT (R387): A block not answering a dump read within 64 µs is recorded as no answer. -/
  | dumpReadTimeout (k : Nat)
  /-- DUMP_COMPLETE (R387): A dump ends, its header is written and a record is raised. -/
  | dumpComplete
  /-- DUMP_WAIT_TIMEOUT (R387): A self-started warm reset proceeds after WAIT_MS without the dump ending. -/
  | dumpWaitTimeout
  /-- RST_CNT_CLR (R389): A write to RST_CNT_CLR clears the reset-block counters. -/
  | rstCntClr (v : Word)
  /-- COLD_RESET (R395): The rise of power-good runs the cold sequence. -/
  | coldReset (found : BootView)
  /-- POWER_LOSS (R420): A fall of PWRGD holds every block in reset and turns lasers off. -/
  | powerLoss
  /-- COLD_SEQUENCE_TIMEOUT (R396): A cold sequence not finished within 30 s enters safe state. -/
  | coldSequenceTimeout
  /-- READY_ACTIONS (R397): Once every lane is final, firmware performs the ready actions and sets BOOT_STATUS. -/
  | readyActions
  /-- BOOT_PAGE (R399): A BOOT page WR_REQ is written if armed and its CRC matches, setting RXMAP. -/
  | bootPage (p : Nat) (t : Packet)
  /-- GBOOT_ARM (R403): GBOOT_CTL.ARM clears RXMAP and CRC_ERR and sets ARMED. -/
  | gbootArm (p : Nat)
  /-- GBOOT_DISARM (R403): GBOOT_CTL.DISARM clears ARMED. -/
  | gbootDisarm (p : Nat)
  /-- GBOOT_REPORT (R400): GBOOT_CTL.REPORT starts the receiver's window contributions to flight 63. -/
  | gbootReport (p npages round : Nat)
  /-- ATTEST (R414): Mailbox ATTEST samples state and signs an attestation report. -/
  | attest (len : Nat) (requester : Word)
  /-- GET_CERT (R416): Mailbox GET_CERT returns the identity certificate. -/
  | getCert (len : Nat) (requester : Word)
  /-- UNLOCK (R413): Mailbox UNLOCK verifies a debug token and sets the debug level. -/
  | unlock (len : Nat) (requester : Word)
  /-- MAILBOX_OP_DONE (R416): A mailbox operation finishes and sets STATUS and RLEN. -/
  | mailboxOpDone
  /-- RELOCK (R413): SEC_CTL.RELOCK returns to debug level 0 and renews the nonce. -/
  | relock
  /-- SEC_FLOOR_WRITE (R417): A write of SEC_FLOOR takes effect at debug level 2, or is refused. -/
  | secFloorWrite (v requester : Word)
  /-- ID_KEY_READY (R405): The identity key derivation completes and ID_READY is set. -/
  | idKeyReady
  /-- FLASH_OP_DONE (R454): A queued flash operation completes and raises its interrupt source. -/
  | flashOpDone (ok : Bool)
  /-- POWER_INTERVAL (R424): At each 1 ms interval end the capping loop lowers or raises island points. -/
  | powerInterval (mw : Nat) (islands : List (Nat × Nat)) (energy : List Nat)
  /-- FAST_CLAMP (R425): Ten samples above EXC drop every loop island two points within 1 µs. -/
  | fastClamp
  /-- RAIL_UNDERVOLTAGE (R421): A half rail 30 mV low for 2 µs moves the half's islands to point 0. -/
  | railUndervoltage (h : Nat)
  /-- RAIL_RECOVERED (R421): A rail within 10 mV for 1 ms returns the islands to loop control. -/
  | railRecovered (h : Nat)
  /-- THERMAL_SAMPLE (R429): Each 100 µs sensor sample applies the thermal actions. -/
  | thermalSample (sensor : Nat) (celsius : Option Int)
  /-- PWR_CNT_CLR (R432): A write to PWR_CNT_CLR clears the selected energy counters. -/
  | pwrCntClr (v : Word)
  /-- IC_CLAIM (R440): A read of IC_CPn_CLAIM returns and clears the highest pending source at the running priority. -/
  | icClaim (n : Nat)
  /-- SOURCE_TRIGGER (R445): A write of IC_SRC.TRIG sets a source pending. -/
  | sourceTrigger (n id : Nat)
  /-- SOFTWARE_INTERRUPT (R437): A write of IC_CPn_SWI sets private software sources. -/
  | softwareInterrupt (n : Nat) (v : Word)
  /-- CP_TIMER (R437): Global time reaching IC_CPn_TCMP sets the CP timer source. -/
  | cpTimer (n : Nat)
  /-- MODERATION_TIMEOUT (R443): A moderation interval ends and held sources become deliverable. -/
  | moderationTimeout (n m : Nat)
  /-- CP_RELEASE (R436): Setting IC_CPn_CTL.RUN starts a CP at VBASE + 0x400. -/
  | cpRelease (n : Nat)
  /-- CP_HOLD (R436): Clearing IC_CPn_CTL.RUN puts a CP back in reset. -/
  | cpHold (n : Nat)
  /-- IC_CNT_CLR (R445): A write to IC_CNT_CLR clears the selected interrupt counters. -/
  | icCntClr (v : Word)
  /-- INFO (R450): Management INFO returns device identity and state. -/
  | info (m : MgmtMsg)
  /-- REG_READ (R450): Management REG_READ returns set-up register words. -/
  | regRead (m : MgmtMsg)
  /-- REG_WRITE (R450): Management REG_WRITE writes set-up register words. -/
  | regWrite (m : MgmtMsg)
  /-- MEM_READ (R450): Management MEM_READ returns device memory. -/
  | memRead (m : MgmtMsg)
  /-- MEM_WRITE (R450): Management MEM_WRITE writes device memory under the guard rules. -/
  | memWrite (m : MgmtMsg)
  /-- ORDER_PUT (R450): Management ORDER_PUT places bytes in the order staging buffer. -/
  | orderPut (m : MgmtMsg)
  /-- ORDER_SUBMIT (R450): Management ORDER_SUBMIT verifies the staged order. -/
  | orderSubmit (m : MgmtMsg)
  /-- REC_ACK (R451): A REC_ACK advances a record path's acknowledged ESN. -/
  | recAck (m : MgmtMsg)
  /-- REC_RESEND_TIMEOUT (R451): Unacknowledged records are resent every 200 ms. -/
  | recResendTimeout (path : Nat)
  /-- ORDER_STAGING_TIMEOUT (R450): An order staging idle for 10 s is closed. -/
  | orderStagingTimeout
  /-- FW_PUT (R453): FW_PUT writes firmware bytes into the slot not running. -/
  | fwPut (m : MgmtMsg)
  /-- FW_COMMIT (R453): FW_COMMIT checks the new slot and clears its BAD mark. -/
  | fwCommit (m : MgmtMsg)
  /-- DUMP_READ (R450): DUMP_READ returns bytes of the dump area or flash crash area. -/
  | dumpRead (m : MgmtMsg)
  /-- MCTP_CONTROL (R447): An MCTP control message over I3C is served. -/
  | mctpControl (body : List Byte)
  /-- PLDM_DISCOVERY (R447): A PLDM type 0 discovery request is served. -/
  | pldmDiscovery (body : List Byte)
  /-- PLDM_PLATFORM (R452): A PLDM type 2 platform request is served from the sensors. -/
  | pldmPlatform (body : List Byte)
  /-- PLDM_FIRMWARE_UPDATE (R453): A PLDM type 5 firmware update request writes and commits a slot. -/
  | pldmFirmwareUpdate (off total : Nat) (data : List Byte)
  /-- ICMP_ECHO (R446): An ICMP or ICMPv6 echo request is answered. -/
  | icmpEcho (v6 : Bool) (station : Nat) (body : List Byte)
  /-- ARP_REQUEST (R446): An ARP request for the static IPv4 address is answered. -/
  | arpRequest (station addr : Nat)
  /-- NEIGHBOUR_DISCOVERY (R446): An IPv6 neighbour solicitation is answered. -/
  | neighbourDiscovery (station addr : Nat)
  /-- I3C_ENTDAA (R478): The I3C target takes its dynamic address by ENTDAA. -/
  | i3cEntdaa (addr : Nat)
  /-- ATTN_PRESS (R455): A debounced ATTN_L press stops the job after the next commit and triggers a snapshot. -/
  | attnPress
  /-- ATTN_TIMEOUT (R455): A device not DRAINED within 10 s of the press enters TIMEOUT. -/
  | attnTimeout
  /-- ATTN_CLR (R455): SVC_STATUS.ATTN_CLR returns ATTN_STATE to IDLE. -/
  | attnClr
  /-- LED_CHAIN_REFRESH (R457): Every 10 ms the LED chain shifts 146 bits and latches. -/
  | ledChainRefresh
  /-- MGMT_SAVE (R460): MGMT_CFG.SAVE writes the management settings to flash. -/
  | mgmtSave
  /-- MGMT_CNT_CLR (R460): A write to MGMT_CNT_CLR clears the selected management counters. -/
  | mgmtCntClr (v : Word)
  /-- BACK_STAIR_TIMEOUT (R470): A landing or gallery slot not answering within 64 µs is answered with an address error. -/
  | backStairTimeout (k : Nat) (requester : Word)
  /-- REFCLK_LOSS (R477): Loss of REFCLK acts as a fall of PWRGD and drives COLD_REQ_L. -/
  | refclkLoss
  /-- FAB_TOPO_WRITE (R290): A write of FAB_TOPO sets the torus sizes and own device ID while every port is DISABLED, lets enabled ports begin training, or is refused with an error record. -/
  | fabTopoWrite (v requester : Word)
  /-- SCL_LINK_ENABLE (R293): A write of SCL_CFG.EN from 0 to 1 starts SCL training, and clearing it returns the link to DISABLED. -/
  | sclLinkEnable (on : Bool)
  /-- TEST_LOGIC_RESET (R351): The test access port enters Test-Logic-Reset on TRST_L or TMS and selects IDCODE. -/
  | testLogicReset
  /-- WRITE_MESSAGE_CLOSE (R261): When 64 landing cycles pass with no further WR_REQ of the same SRC_LAND and RTAG, the edge router closes the open WRITE message. -/
  | writeMessageClose (h land rtag : Nat)
deriving DecidableEq, Repr

end Sys2Proof
end

