-- ==== Sys2Proof/Decode.lean ====
section
/-! DEFINITION. The commands that words spell. The opcode table gives no row any bits: the part takes commands, not
instruction words, so no word spells one. The words of the cores' own instructions are read where a core fetches them
(Machine/Scalar.lean, Machine/Vector.lean, Machine/Matrix.lean). -/

namespace Sys2Proof

/-- The command a word spells by the table's bits: none, for the table gives no row bits. -/
def decodeTableWord (_nbits _w : Nat) : Option Instr := none

end Sys2Proof
end

