-- ==== Sys2Proof/Config.lean ====
section
/-! DEFINITION. What one part fixes (the fuses of R390) and the values the spec leaves open: constants without a body,
so that nothing can be proved about them (log entry 1), and the standard algorithms the spec names without stating them
(log entry 6). -/

namespace Sys2Proof

/-- The fuse array (R390). TRIM and the device secret are not readable and stand as `Config.trim` and
`Config.deviceSecret`. -/
structure Fuses where
  part : Nat
  stepping : Nat
  lph : Nat
  galOff : BitVec 320
  stkOff : BitVec 8
  engOff : BitVec 8
  serial : Word
  prodLock : Bool
deriving DecidableEq, Repr

namespace Config

/-- The fuses of an OYW-2304, stepping A1, with every unit good (R392); SERIAL 0 and PROD_LOCK clear are DESIGN
CHOICES (log entry 3). -/
def oyw2304 : Fuses :=
  { part := 0x2304, stepping := 1, lph := 144, galOff := 0, stkOff := 0, engOff := 0, serial := 0, prodLock := false }

/-- A value the spec leaves open, by the number of the draw (State's counter `freeCtr`); log entry 1. -/
opaque freeWord : Nat → BitVec 64

/-- A line or a longer run of bytes the spec leaves open, by the number of the draw; log entry 1. -/
opaque freeBytes : Nat → Nat → List (BitVec 8)

/-- The 256-bit device secret fuses (R390, R405), unknown to everyone. -/
opaque deviceSecret : List (BitVec 8)

/-- The message type of SNP_RSP (R296), which the manual names and gives no code (log entry 1). -/
opaque snpRspType : Nat

/-- The 512 trim fuses (R390). -/
opaque trim : BitVec 512

/-- SLH-DSA of FIPS 205 (R404): does the signature verify under the public key? Named by the spec, not stated in it. -/
opaque slhVerify : (key msg sig : List (BitVec 8)) → Bool

/-- COVERAGE of a result entry for an element whose coverage R337 gives no number, in units of 0.01 % (R340). -/
opaque coverage : Nat → BitVec 16

/-- The public keys in the boot ROM (R404): firmware keys 0 and 1, and the Oasar debug key as 2. -/
opaque romKey : Nat → List (BitVec 8)

/-- The secret-derived key of the debug nonce (R413). -/
opaque nonceKey : List (BitVec 8)

/-- SLH-DSA of FIPS 205: the signature of a message under a secret key. -/
opaque slhSign : (secret msg : List (BitVec 8)) → List (BitVec 8)

/-- SLH-DSA of FIPS 205: the public key of a seed. -/
opaque slhPublic : (seed : List (BitVec 8)) → List (BitVec 8)

/-- SHAKE256 of FIPS 202: `n` output bytes of a message. Named by the spec, not stated in it. -/
opaque shake256 : (msg : List (BitVec 8)) → (n : Nat) → List (BitVec 8)

/-- The 384 KiB of a STATE scan (R199), of the registers, queue stores and connections it holds: their layout is not
stated (log entry 1). -/
opaque scanLayout : (regs : List (Nat × BitVec 64)) → (stores : List (List (List Packet))) → (chans : List (List Nat)) →
  List (BitVec 8)

/-- The reserve flight and the epoch that a tree node names in the RESERVE token to its local multicast (R165, R276): the
manual gives a node neither (log entry 17). -/
opaque nodeFlight : (group : Nat) → Nat

/-- The bank of a pseudo-channel that a line lies in: the controller assigns it (R209; log entry 1). -/
opaque bankOf : (ctrl pc line : Nat) → Nat

/-- Activations of a bank after which refresh management issues a command: the stack's own threshold (R225; log entry 1). -/
opaque activationLimit : (ctrl : Nat) → Nat

/-! What the sections of a schedule image hold where the manual names the content and not the bytes (R176; log entry 5):
functions of the PLACEMENT section's bytes (its unit map) and of the section's own. -/

/-- CODE: initial contents of local memories (logical gallery, window offset, bytes). -/
opaque codeContent : (unitMap sec : List (BitVec 8)) → List (Nat × Nat × List (BitVec 8))

/-- STEER, QUEUES and HALLREG, by TYPE: registers (logical gallery, offset in its block, value). -/
opaque registerContent : (typ : Nat) → (unitMap sec : List (BitVec 8)) → List (Nat × Nat × BitVec 64)

/-- MASKS: mask slots (logical gallery, slot, logical members). -/
opaque maskContent : (unitMap sec : List (BitVec 8)) → List (Nat × Nat × List Nat)

/-- CHANNELS: channel tables (logical gallery, agent, send slot, queue name, operand SB of CONNECT). -/
opaque channelContent : (unitMap sec : List (BitVec 8)) → List (Nat × Nat × Nat × BitVec 64 × BitVec 64)

/-- HALLREG: carry masks (logical gallery, mask). -/
opaque carryContent : (unitMap sec : List (BitVec 8)) → List (Nat × Nat)

/-- FLIGHTS: the flights. -/
opaque flightContent : (sec : List (BitVec 8)) → List ImgFlight

/-- FLIGHTS: the numbers of the commit, ND and epoch flights. -/
opaque keyFlights : (sec : List (BitVec 8)) → Nat × Nat × Nat

/-- FABRIC: registers of the edge routers (offset from S, value). -/
opaque fabricContent : (sec : List (BitVec 8)) → List (Nat × BitVec 64)

/-- FABRIC: the commit barrier and the start barrier (edge router × 16 + entry). -/
opaque fabricBarriers : (sec : List (BitVec 8)) → Nat × Nat

/-- FABRIC: base and bytes of the inbound log's region (R197). -/
opaque inboundLog : (sec : List (BitVec 8)) → Nat × Nat

/-- A section's content is malformed beyond what R9, R176, R177 and R187 state (status 0x03 of R178). -/
opaque sectionMalformed : (typ : Nat) → (sec : List (BitVec 8)) → Bool

end Config

end Sys2Proof
end

