-- ==== Sys2Proof/Machine/Bits.lean ====
section
/-! DEFINITION. Bit fields [hi:lo] of words, two's complement, little-endian bytes and serial-number arithmetic
(00_scope.md, Notation and R11). -/

namespace Sys2Proof.Machine

/-- The field [hi:lo] of the number `v`. -/
def natBits (v hi lo : Nat) : Nat := (v >>> lo) % 2 ^ (hi + 1 - lo)

/-- The field [hi:lo] of a word, as a number. -/
def bits (w : Word) (hi lo : Nat) : Nat := natBits w.toNat hi lo

/-- Bit `i` of a word. -/
def bit (w : Word) (i : Nat) : Bool := w.toNat.testBit i

/-- The number `v` with its field [hi:lo] replaced by the low bits of `x`. -/
def natPut (v hi lo x : Nat) : Nat :=
  v - natBits v hi lo * 2 ^ lo + (x % 2 ^ (hi + 1 - lo)) * 2 ^ lo

/-- The word with its field [hi:lo] replaced by the low bits of `x`. -/
def putBits (w : Word) (hi lo x : Nat) : Word := w64 (natPut w.toNat hi lo x)

/-- The word with bit `i` set to `b`. -/
def putBit (w : Word) (i : Nat) (b : Bool) : Word := putBits w i i b.toNat

/-- The number an `n`-bit two's-complement pattern stands for. -/
def signed (n v : Nat) : Int :=
  if v % 2 ^ n < 2 ^ (n - 1) then (v % 2 ^ n : Nat) else ((v % 2 ^ n : Nat) : Int) - (2 ^ n : Nat)

/-- The `n`-bit two's-complement pattern of an integer, wrapping modulo 2^n. -/
def unsigned (n : Nat) (i : Int) : Nat := (i % ((2 ^ n : Nat) : Int)).toNat

/-- The little-endian number of a list of bytes. -/
def leNat : List Byte → Nat
  | [] => 0
  | b :: bs => b.toNat + 256 * leNat bs

/-- The first `n` little-endian bytes of a number. -/
def leBytes : Nat → Nat → List Byte
  | 0, _ => []
  | n + 1, v => byte v :: leBytes n (v / 256)

/-- The little-endian 64-bit word number `i` of a payload (zero beyond its end). -/
def payWord (bs : List Byte) (i : Nat) : Word := w64 (leNat ((bs.drop (8 * i)).take 8))

/-- The bytes of a run of 64-bit words. -/
def wordBytes (ws : List Word) : List Byte := ws.flatMap fun w => leBytes 8 w.toNat

/-- Division rounded up. -/
def ceilDiv (a b : Nat) : Nat := (a + b - 1) / b

/-- `a` is later than `b` in serial-number arithmetic on `n`-bit fields (R11). -/
def serialLater (n a b : Nat) : Bool :=
  let d := (a + 2 ^ n - b % 2 ^ n) % 2 ^ n
  decide (1 ≤ d) && decide (d < 2 ^ (n - 1))

/-- The set bits of a mask below `n`, in rising order. -/
def setBitsBelow (n : Nat) (v : Nat) : List Nat := (List.range n).filter fun i => v.testBit i

/-- The number of set bits of a mask below `n`. -/
def popCount (n v : Nat) : Nat := (setBitsBelow n v).length

/-- The mask whose only set bit is `p`. -/
def maskOf (p : Nat) : Mask := BitVec.ofNat 320 (2 ^ p)

/-- Bit `p` of a gallery mask. -/
def inMask (m : Mask) (p : Nat) : Bool := m.toNat.testBit p

/-- Word `i` (0 to 4) of a gallery mask as five 64-bit words (R116). -/
def maskWord (m : Mask) (i : Nat) : Word := w64 (m.toNat >>> (64 * i))

/-- The gallery mask of five words. -/
def maskOfWords (ws : List Word) : Mask := BitVec.ofNat 320 (leNat (wordBytes ws))

/-- The mask with bit `p` cleared. -/
def clearMask (m : Mask) (p : Nat) : Mask := m &&& ~~~(maskOf p)

/-- The low-order XOR of two numbers with bit `i` of the first flipped: the effect of one upset bit. -/
def flipBit (v i : Nat) : Nat := v ^^^ (2 ^ i)

end Sys2Proof.Machine
end

