-- ==== Sys2Proof/Machine/RegNames.lean ====
section
/-! DEFINITION. The names of the registers and fields of the set-up region (22_register_map.md R461 to R465 and the
register tables of the chapters). A register is named by its offset from S; a field by its bit range. -/

namespace Sys2Proof.Machine

/-- A named bit field [hi:lo] of a register. -/
structure Fld where
  hi : Nat
  lo : Nat
deriving DecidableEq, Repr

/-- Landing slot `p` (R461). -/
def lndBase (p : Nat) : Nat := 0x10000000 + 0x4000 * p

/-- Gallery slot `p` (R461). -/
def galBase (p : Nat) : Nat := 0x20000000 + 0x40000 * p

namespace Reg


-- block MC
def MC_ID (p n : Nat) : Nat := galBase p + 0x4000 + 0x100 * n + 0x0
def MC_CFG (p n : Nat) : Nat := galBase p + 0x4000 + 0x100 * n + 0x4
def MC_STATUS (p n : Nat) : Nat := galBase p + 0x4000 + 0x100 * n + 0x8
def MC_INJECT (p n : Nat) : Nat := galBase p + 0x4000 + 0x100 * n + 0xC
def MC_CHECK_INFO (p n : Nat) : Nat := galBase p + 0x4000 + 0x100 * n + 0x10
def MC_CHECK_DELTA (p n : Nat) : Nat := galBase p + 0x4000 + 0x100 * n + 0x18
def MC_CNT_CLR (p n : Nat) : Nat := galBase p + 0x4000 + 0x100 * n + 0x20
def MC_EVT_NANGEN (p n : Nat) : Nat := galBase p + 0x4000 + 0x100 * n + 0x40
def MC_EVT_OVF (p n : Nat) : Nat := galBase p + 0x4000 + 0x100 * n + 0x48
def MC_EVT_SAT (p n : Nat) : Nat := galBase p + 0x4000 + 0x100 * n + 0x50
def MC_EVT_NONFINITE_BLOCK (p n : Nat) : Nat := galBase p + 0x4000 + 0x100 * n + 0x58
def MC_TILES (p n : Nat) : Nat := galBase p + 0x4000 + 0x100 * n + 0x60
def MC_BUSY_CYCLES (p n : Nat) : Nat := galBase p + 0x4000 + 0x100 * n + 0x68
def MC_NULL_SKIP (p n : Nat) : Nat := galBase p + 0x4000 + 0x100 * n + 0x70
def MC_CHECK_SKIP (p n : Nat) : Nat := galBase p + 0x4000 + 0x100 * n + 0x78
def MC_CHECK_FAIL (p n : Nat) : Nat := galBase p + 0x4000 + 0x100 * n + 0x80

-- block VC
def VC_ID (p n : Nat) : Nat := galBase p + 0x4800 + 0x100 * n + 0x0
def VC_CFG (p n : Nat) : Nat := galBase p + 0x4800 + 0x100 * n + 0x4
def VC_STATUS (p n : Nat) : Nat := galBase p + 0x4800 + 0x100 * n + 0x8
def VC_INJECT (p n : Nat) : Nat := galBase p + 0x4800 + 0x100 * n + 0xC
def VC_CHECK_INFO (p n : Nat) : Nat := galBase p + 0x4800 + 0x100 * n + 0x10
def VC_PC (p n : Nat) : Nat := galBase p + 0x4800 + 0x100 * n + 0x18
def VC_CNT_CLR (p n : Nat) : Nat := galBase p + 0x4800 + 0x100 * n + 0x20
def VC_EVT_NANGEN (p n : Nat) : Nat := galBase p + 0x4800 + 0x100 * n + 0x40
def VC_EVT_OVF (p n : Nat) : Nat := galBase p + 0x4800 + 0x100 * n + 0x48
def VC_EVT_SAT (p n : Nat) : Nat := galBase p + 0x4800 + 0x100 * n + 0x50
def VC_EVT_NONFINITE_BLOCK (p n : Nat) : Nat := galBase p + 0x4800 + 0x100 * n + 0x58
def VC_KERNELS (p n : Nat) : Nat := galBase p + 0x4800 + 0x100 * n + 0x60
def VC_BUSY_CYCLES (p n : Nat) : Nat := galBase p + 0x4800 + 0x100 * n + 0x68
def VC_NULL_SKIP (p n : Nat) : Nat := galBase p + 0x4800 + 0x100 * n + 0x70
def VC_CHECK_FAIL (p n : Nat) : Nat := galBase p + 0x4800 + 0x100 * n + 0x78

-- block SC
def SC_ID (p n : Nat) : Nat := galBase p + 0x4C00 + 0x100 * n + 0x0
def SC_CFG (p n : Nat) : Nat := galBase p + 0x4C00 + 0x100 * n + 0x4
def SC_STATUS (p n : Nat) : Nat := galBase p + 0x4C00 + 0x100 * n + 0x8
def SC_INJECT (p n : Nat) : Nat := galBase p + 0x4C00 + 0x100 * n + 0xC
def SC_FAULT_INFO (p n : Nat) : Nat := galBase p + 0x4C00 + 0x100 * n + 0x10
def SC_PC (p n : Nat) : Nat := galBase p + 0x4C00 + 0x100 * n + 0x18
def SC_CNT_CLR (p n : Nat) : Nat := galBase p + 0x4C00 + 0x100 * n + 0x20
def SC_EVT_NANGEN (p n : Nat) : Nat := galBase p + 0x4C00 + 0x100 * n + 0x40
def SC_EVT_OVF (p n : Nat) : Nat := galBase p + 0x4C00 + 0x100 * n + 0x48
def SC_EVT_SAT (p n : Nat) : Nat := galBase p + 0x4C00 + 0x100 * n + 0x50
def SC_EVT_NONFINITE_BLOCK (p n : Nat) : Nat := galBase p + 0x4C00 + 0x100 * n + 0x58
def SC_INSTRET (p n : Nat) : Nat := galBase p + 0x4C00 + 0x100 * n + 0x60
def SC_STALL_CYCLES (p n : Nat) : Nat := galBase p + 0x4C00 + 0x100 * n + 0x68
def SC_NULL_RECV (p n : Nat) : Nat := galBase p + 0x4C00 + 0x100 * n + 0x70
def SC_CHECK_FAIL (p n : Nat) : Nat := galBase p + 0x4C00 + 0x100 * n + 0x78

-- block GAL
def GAL_ID (p : Nat) : Nat := galBase p + 0x0
def HALL_CFG (p : Nat) : Nat := galBase p + 0x4
def HALL_CNT_CLR (p : Nat) : Nat := galBase p + 0x8
def HALL_PARITY_INFO (p : Nat) : Nat := galBase p + 0x10
def HALL_REGION (p : Nat) (i : Nat) : Nat := galBase p + 0x8 * i + 0x20
def HALL_MERGE_HITS (p : Nat) : Nat := galBase p + 0x60
def HALL_CONFLICT_CYCLES (p : Nat) : Nat := galBase p + 0x68
def HALL_ND_ATOMIC (p : Nat) : Nat := galBase p + 0x70
def HALL_PARITY_ERR (p : Nat) : Nat := galBase p + 0x78
def DM_CFG (p : Nat) : Nat := galBase p + 0x100
def DM_FAULT_INFO (p : Nat) : Nat := galBase p + 0x108
def DM_FAULT_ADDR (p : Nat) : Nat := galBase p + 0x110
def DM_DESCS (p : Nat) : Nat := galBase p + 0x118
def DM_BYTES (p : Nat) : Nat := galBase p + 0x120
def DM_MASK (p : Nat) (i j : Nat) : Nat := galBase p + 0x40 * i + 8 * j + 0x140
def DM_MCAST_PRUNED (p : Nat) (i : Nat) : Nat := galBase p + 0x8 * i + 0x540
def SU_CFG (p : Nat) : Nat := galBase p + 0x600
def SU_FAULT_INFO (p : Nat) : Nat := galBase p + 0x608
def SU_FIRINGS (p : Nat) : Nat := galBase p + 0x610
def SU_NULL_FILL (p : Nat) : Nat := galBase p + 0x618
def SU_OVF (p : Nat) : Nat := galBase p + 0x620
def SU_DROP (p : Nat) : Nat := galBase p + 0x628
def SU_TABLE (p : Nat) (i : Nat) : Nat := galBase p + 0x8 * i + 0x1000
def SU_CLIST (p : Nat) (i : Nat) : Nat := galBase p + 0x8 * i + 0x2000
def GSTEP_CTL (p : Nat) : Nat := galBase p + 0x3000
def GSTEP_CFG (p : Nat) : Nat := galBase p + 0x3004
def GSTEP_STATE (p : Nat) : Nat := galBase p + 0x3008
def GSTEP_SCAN (p : Nat) : Nat := galBase p + 0x3010
def GSTEP_SCAN_ADDR (p : Nat) : Nat := galBase p + 0x3018
def GND_PEND (p : Nat) : Nat := galBase p + 0x3020
def GND_SENT (p : Nat) : Nat := galBase p + 0x3024
def GND_CTL (p : Nat) : Nat := galBase p + 0x3028
def GAL_FENCE (p : Nat) : Nat := galBase p + 0x3100
def GAL_RST (p : Nat) : Nat := galBase p + 0x3104
def GPWR (p : Nat) : Nat := galBase p + 0x3110
def GPWR_ENERGY (p : Nat) : Nat := galBase p + 0x3118
def GBOOT_CTL (p : Nat) : Nat := galBase p + 0x3200
def GBOOT_STATUS (p : Nat) : Nat := galBase p + 0x3204
def GBOOT_RXMAP (p : Nat) (i : Nat) : Nat := galBase p + 0x8 * i + 0x3300

-- block LND
def LND_ID (p : Nat) : Nat := lndBase p + 0x0
def LND_CFG (p : Nat) : Nat := lndBase p + 0x4
def LND_STATUS (p : Nat) : Nat := lndBase p + 0x8
def LND_TBL_SEL (p : Nat) : Nat := lndBase p + 0xC
def LND_FAULT_INFO (p : Nat) : Nat := lndBase p + 0x10
def LND_CNT_CLR (p : Nat) : Nat := lndBase p + 0x18
def LND_FLT_ARRIVE (p : Nat) : Nat := lndBase p + 0x20
def LND_RST (p : Nat) : Nat := lndBase p + 0x28
def LND_FLITS_OUT (p : Nat) : Nat := lndBase p + 0x40
def LND_PREEMPT (p : Nat) : Nat := lndBase p + 0x48
def LND_MC_PRUNED (p : Nat) : Nat := lndBase p + 0x50
def LND_DISCARD (p : Nat) : Nat := lndBase p + 0x58
def LND_FLT_SAT (p : Nat) : Nat := lndBase p + 0x60
def LND_LINK_PERR (p : Nat) : Nat := lndBase p + 0x68
def LND_FLT_FAULT (p : Nat) : Nat := lndBase p + 0x70
def LND_FLT_GEN (p : Nat) (i : Nat) : Nat := lndBase p + 0x8 * i + 0x100
def RT (p : Nat) (i j : Nat) : Nat := lndBase p + 0x1000 * i + 8 * j + 0x1000
def LIVE (p : Nat) (i j : Nat) : Nat := lndBase p + 0x1000 * i + 8 * j + 0x1100
def FLAG_DST (p : Nat) (i : Nat) : Nat := lndBase p + 0x1000 * i + 0x1140
def MPL (p : Nat) (i j : Nat) : Nat := lndBase p + 0x1000 * i + 8 * j + 0x1180
def BRL (p : Nat) (i : Nat) : Nat := lndBase p + 0x1000 * i + 0x11A0
def ERL (p : Nat) (i : Nat) : Nat := lndBase p + 0x1000 * i + 0x11C0
def FT (p : Nat) (i j : Nat) : Nat := lndBase p + 0x1000 * i + 8 * j + 0x1200
def VT (p : Nat) (i j : Nat) : Nat := lndBase p + 0x1000 * i + 8 * j + 0x1400
def LMAP (p : Nat) (i j : Nat) : Nat := lndBase p + 0x1000 * i + 8 * j + 0x1800

-- block QB
def Q_ID (p a : Nat) : Nat := galBase p + 0x20000 + 0x2000 * a + 0x0
def Q_TMO (p a : Nat) : Nat := galBase p + 0x20000 + 0x2000 * a + 0x8
def Q_EPOCH (p a : Nat) : Nat := galBase p + 0x20000 + 0x2000 * a + 0x10
def Q_CNT_CLR (p a : Nat) : Nat := galBase p + 0x20000 + 0x2000 * a + 0x18
def Q_HANG_INFO (p a : Nat) : Nat := galBase p + 0x20000 + 0x2000 * a + 0x20
def Q_HANG_TGT (p a : Nat) : Nat := galBase p + 0x20000 + 0x2000 * a + 0x28
def Q_ND_ORDER (p a : Nat) : Nat := galBase p + 0x20000 + 0x2000 * a + 0x40
def Q_ND_RAW (p a : Nat) : Nat := galBase p + 0x20000 + 0x2000 * a + 0x48
def Q_STALE (p a : Nat) : Nat := galBase p + 0x20000 + 0x2000 * a + 0x50
def Q_DRAINED (p a : Nat) : Nat := galBase p + 0x20000 + 0x2000 * a + 0x58
def Q_REFUSED (p a : Nat) : Nat := galBase p + 0x20000 + 0x2000 * a + 0x60
def Q_DRAIN_CTL (p a : Nat) : Nat := galBase p + 0x20000 + 0x2000 * a + 0x80
def Q_CFG (p a : Nat) (i : Nat) : Nat := galBase p + 0x20000 + 0x2000 * a + 0x8 * i + 0x100
def Q_RING (p a : Nat) (i : Nat) : Nat := galBase p + 0x20000 + 0x2000 * a + 0x8 * i + 0x180
def Q_STATE (p a : Nat) (i : Nat) : Nat := galBase p + 0x20000 + 0x2000 * a + 0x8 * i + 0x200
def Q_MSGS (p a : Nat) (i : Nat) : Nat := galBase p + 0x20000 + 0x2000 * a + 0x20 * i + 0x400
def Q_BYTES (p a : Nat) (i : Nat) : Nat := galBase p + 0x20000 + 0x2000 * a + 0x20 * i + 0x408
def Q_ESTALL (p a : Nat) (i : Nat) : Nat := galBase p + 0x20000 + 0x2000 * a + 0x20 * i + 0x410
def CH_TGT (p a : Nat) (i : Nat) : Nat := galBase p + 0x20000 + 0x2000 * a + 0x40 * i + 0x800
def CH_STATE (p a : Nat) (i : Nat) : Nat := galBase p + 0x20000 + 0x2000 * a + 0x40 * i + 0x808
def CH_MSGS (p a : Nat) (i : Nat) : Nat := galBase p + 0x20000 + 0x2000 * a + 0x40 * i + 0x810
def CH_BYTES (p a : Nat) (i : Nat) : Nat := galBase p + 0x20000 + 0x2000 * a + 0x40 * i + 0x818
def CH_CSTALL (p a : Nat) (i : Nat) : Nat := galBase p + 0x20000 + 0x2000 * a + 0x40 * i + 0x820
def Q_DRAINQ (p a : Nat) (i : Nat) : Nat := galBase p + 0x20000 + 0x2000 * a + 0x8 * i + 0x1800
def MCS (p a : Nat) (i : Nat) : Nat := galBase p + 0x20000 + 0x2000 * a + 0x8 * i + 0x1C00

-- block DEV
def DEV_ID : Nat := 0x0 + 0x0
def DEV_PART : Nat := 0x0 + 0x4
def DEV_SERIAL : Nat := 0x0 + 0x8
def DEV_FUSE : Nat := 0x0 + 0x10
def BOOT_STATUS : Nat := 0x0 + 0x18
def BOOT_READY : Nat := 0x0 + 0x20
def DEV_GAL_OFF (i : Nat) : Nat := 0x0 + 0x8 * i + 0x40
def MAP_DIR (i : Nat) : Nat := 0x0 + 0x4 * i + 0x100

-- block SEC
def SEC_ID : Nat := 0x100000 + 0x0
def SEC_STATUS : Nat := 0x100000 + 0x4
def SEC_CTL : Nat := 0x100000 + 0x8
def SEC_FLOOR : Nat := 0x100000 + 0x10
def SEC_BOOTS : Nat := 0x100000 + 0x18
def SEC_DBG_NONCE (i : Nat) : Nat := 0x100000 + 0x8 * i + 0x20
def SEC_MB_CTL : Nat := 0x100000 + 0x40
def SEC_MB_STATUS : Nat := 0x100000 + 0x44
def SEC_REQ_BUF (i : Nat) : Nat := 0x100000 + 0x8 * i + 0x20000
def SEC_RSP_BUF (i : Nat) : Nat := 0x100000 + 0x8 * i + 0xA0000

-- block RST
def RST_ID : Nat := 0x200000 + 0x0
def RST_CTL : Nat := 0x200000 + 0x4
def RST_STATUS : Nat := 0x200000 + 0x8
def RST_CNT_CLR : Nat := 0x200000 + 0xC
def RST_TMO : Nat := 0x200000 + 0x10
def RST_UPTIME : Nat := 0x200000 + 0x18
def RST_HIST (i : Nat) : Nat := 0x200000 + 0x8 * i + 0x20
def RST_MERGED : Nat := 0x200000 + 0x40
def SNAP_FAB_BAD : Nat := 0x200000 + 0x48
def CP_WD (i : Nat) : Nat := 0x200000 + 0x4 * i + 0x60
def SNAP_CFG : Nat := 0x200000 + 0x80
def SNAP_STATUS : Nat := 0x200000 + 0x88
def SNAP_CTL : Nat := 0x200000 + 0x8C
def SNAP_TIME : Nat := 0x200000 + 0x90
def SNAP_PEER (i : Nat) : Nat := 0x200000 + 0x4 * i + 0xA0
def DUMP_CFG : Nat := 0x200000 + 0xE0
def DUMP_CTL : Nat := 0x200000 + 0xE4
def DUMP_ADDR : Nat := 0x200000 + 0xE8
def DUMP_STATUS : Nat := 0x200000 + 0xF0

-- block FLT
def FLT_ID : Nat := 0x300000 + 0x0
def FLT_CFG : Nat := 0x300000 + 0x4
def FLT_STATUS : Nat := 0x300000 + 0x8
def FLT_CNT_CLR : Nat := 0x300000 + 0xC
def FLT_ESN : Nat := 0x300000 + 0x10
def FLT_DEFMAP : Nat := 0x300000 + 0x18
def FLT_RECORDS : Nat := 0x300000 + 0x40
def FLT_SUPPRESSED : Nat := 0x300000 + 0x48
def FLT_REMAPS : Nat := 0x300000 + 0x50
def FLT_STRIKES : Nat := 0x300000 + 0x58
def FLT_DEFMAP_FAIL : Nat := 0x300000 + 0x60
def FLT_MAP (i : Nat) : Nat := 0x300000 + 0x8 * i + 0x1000
def FLT_PSTATE (i : Nat) : Nat := 0x300000 + 0x8 * i + 0x3000

-- block ST
def ST_ID : Nat := 0x400000 + 0x0
def ST_CFG : Nat := 0x400000 + 0x4
def ST_CNT_CLR : Nat := 0x400000 + 0x8
def ST_LOG_HEAD : Nat := 0x400000 + 0xC
def ST_SEED : Nat := 0x400000 + 0x10
def ST_HALF (i : Nat) : Nat := 0x400000 + 0x8 * i + 0x20
def ST_MOVES0 : Nat := 0x400000 + 0x40
def ST_PASSES0 : Nat := 0x400000 + 0x48
def ST_TRANSIENT0 : Nat := 0x400000 + 0x50
def ST_FAILS0 : Nat := 0x400000 + 0x58
def ST_SKIPS0 : Nat := 0x400000 + 0x60
def ST_SWEEPS0 : Nat := 0x400000 + 0x68
def ST_MOVES1 : Nat := 0x400000 + 0x80
def ST_PASSES1 : Nat := 0x400000 + 0x88
def ST_TRANSIENT1 : Nat := 0x400000 + 0x90
def ST_FAILS1 : Nat := 0x400000 + 0x98
def ST_SKIPS1 : Nat := 0x400000 + 0xA0
def ST_SWEEPS1 : Nat := 0x400000 + 0xA8
def ST_LOG (i : Nat) : Nat := 0x400000 + 0x8 * i + 0x10000

-- block SEQ
def SEQ_ID : Nat := 0x500000 + 0x0
def SEQ_CFG : Nat := 0x500000 + 0x4
def SEQ_STATUS : Nat := 0x500000 + 0x8
def SEQ_CTL : Nat := 0x500000 + 0xC
def SEQ_WD : Nat := 0x500000 + 0x10
def SEQ_STEP : Nat := 0x500000 + 0x18
def SEQ_COMMITTED : Nat := 0x500000 + 0x20
def SEQ_CNT_CLR : Nat := 0x500000 + 0x28
def SEQ_REEXECS : Nat := 0x500000 + 0x40
def SEQ_WD_TRIPS : Nat := 0x500000 + 0x48

-- block ND
def ND_ID : Nat := 0x600000 + 0x0
def ND_STATUS : Nat := 0x600000 + 0x4
def ND_TOTAL : Nat := 0x600000 + 0x8
def ND_STEP : Nat := 0x600000 + 0x10
def DIG_STATUS : Nat := 0x600000 + 0x18

-- block MEM
def MEM_ID : Nat := 0x700000 + 0x0
def MEM_STACKS : Nat := 0x700000 + 0x4
def MEM_DDR : Nat := 0x700000 + 0x8
def MEM_IRGN_LO (i : Nat) : Nat := 0x700000 + 0x10 * i + 0x100
def MEM_IRGN_HI (i : Nat) : Nat := 0x700000 + 0x10 * i + 0x108
def MEMC_ID (i : Nat) : Nat := 0x700000 + 0x100 * i + 0x1000
def MEMC_CFG (i : Nat) : Nat := 0x700000 + 0x100 * i + 0x1004
def MEMC_STATUS (i : Nat) : Nat := 0x700000 + 0x100 * i + 0x1008
def MEMC_CNT_CLR (i : Nat) : Nat := 0x700000 + 0x100 * i + 0x100C
def MEMC_ERR_INFO (i : Nat) : Nat := 0x700000 + 0x100 * i + 0x1010
def MEMC_ERR_ADDR (i : Nat) : Nat := 0x700000 + 0x100 * i + 0x1018
def MEMC_FENCE (i : Nat) : Nat := 0x700000 + 0x100 * i + 0x1020
def MEMC_CE (i : Nat) : Nat := 0x700000 + 0x100 * i + 0x1040
def MEMC_UE (i : Nat) : Nat := 0x700000 + 0x100 * i + 0x1048
def MEMC_UE_RECOVERED (i : Nat) : Nat := 0x700000 + 0x100 * i + 0x1050
def MEMC_GUARD_REJ (i : Nat) : Nat := 0x700000 + 0x100 * i + 0x1058
def MEMC_RCB_HITS (i : Nat) : Nat := 0x700000 + 0x100 * i + 0x1060
def MEMC_RCB_FULL (i : Nat) : Nat := 0x700000 + 0x100 * i + 0x1068
def MEMC_ND_ATOMIC (i : Nat) : Nat := 0x700000 + 0x100 * i + 0x1070
def MEMC_RD_LINES (i : Nat) : Nat := 0x700000 + 0x100 * i + 0x1078
def MEMC_WR_LINES (i : Nat) : Nat := 0x700000 + 0x100 * i + 0x1080
def MEMC_GUARD (i j : Nat) : Nat := 0x700000 + 0x400 * i + 8 * j + 0x4000

-- block MESH
def MESH_ID : Nat := 0x800000 + 0x0
def MESH_DIST_GEN : Nat := 0x800000 + 0x8
def MESH_DIST (i : Nat) : Nat := 0x800000 + 0x8 * i + 0x10000

-- block PORT
def FAB_PORT_CFG (q : Nat) : Nat := 0x900000 + 0x100 * q + 0x0
def FAB_PORT_STATUS (q : Nat) : Nat := 0x900000 + 0x100 * q + 0x4
def FAB_PORT_CTL (q : Nat) : Nat := 0x900000 + 0x100 * q + 0x8
def FAB_PORT_CNT_CLR (q : Nat) : Nat := 0x900000 + 0x100 * q + 0xC
def FAB_PORT_PEER (q : Nat) : Nat := 0x900000 + 0x100 * q + 0x10
def FAB_PORT_FAULT_INFO (q : Nat) : Nat := 0x900000 + 0x100 * q + 0x18
def FAB_PORT_VLCRED (q : Nat) : Nat := 0x900000 + 0x100 * q + 0x20
def LNK_TX_FRAMES (q : Nat) : Nat := 0x900000 + 0x100 * q + 0x40
def LNK_RX_FRAMES (q : Nat) : Nat := 0x900000 + 0x100 * q + 0x48
def LNK_REPLAYS (q : Nat) : Nat := 0x900000 + 0x100 * q + 0x50
def LNK_CRC_ERR (q : Nat) : Nat := 0x900000 + 0x100 * q + 0x58
def LNK_FEC_UNCORR (q : Nat) : Nat := 0x900000 + 0x100 * q + 0x60
def LNK_POISON (q : Nat) : Nat := 0x900000 + 0x100 * q + 0x68
def LNK_LOS (q : Nat) : Nat := 0x900000 + 0x100 * q + 0x70
def LNK_FEC_SYM0 (q : Nat) : Nat := 0x900000 + 0x100 * q + 0x78
def LNK_FEC_SYM1 (q : Nat) : Nat := 0x900000 + 0x100 * q + 0x80
def LNK_FEC_SYM2 (q : Nat) : Nat := 0x900000 + 0x100 * q + 0x88
def LNK_FEC_SYM3 (q : Nat) : Nat := 0x900000 + 0x100 * q + 0x90

-- block FABC
def FAB_QUAL : Nat := 0x904000 + 0x0
def FAB_LATCH : Nat := 0x904000 + 0x8
def FAB_TOPO : Nat := 0x904000 + 0x10
def FAB_RT_CFG : Nat := 0x904000 + 0x18
def FAB_TP_CFG : Nat := 0x904000 + 0x20
def FAB_TIME_CFG : Nat := 0x904000 + 0x28
def FAB_TIME_STATUS : Nat := 0x904000 + 0x30
def FAB_ORDER : Nat := 0x904000 + 0x38
def FAB_ORDER_NO : Nat := 0x904000 + 0x40

-- block ER
def ER_ID (h : Nat) : Nat := 0xA00000 + 0x100000 * h + 0x0
def ER_CNT_CLR (h : Nat) : Nat := 0xA00000 + 0x100000 * h + 0x8
def ER_PKT_BAD (h : Nat) : Nat := 0xA00000 + 0x100000 * h + 0x40
def ER_ECRC_ERR (h : Nat) : Nat := 0xA00000 + 0x100000 * h + 0x48
def ER_DWELL_DROP (h : Nat) : Nat := 0xA00000 + 0x100000 * h + 0x50
def ER_TP_DUP (h : Nat) : Nat := 0xA00000 + 0x100000 * h + 0x58
def ER_TP_OUTWIN (h : Nat) : Nat := 0xA00000 + 0x100000 * h + 0x60
def ER_TP_RETX (h : Nat) : Nat := 0xA00000 + 0x100000 * h + 0x68
def ER_CTX_WAIT (h : Nat) : Nat := 0xA00000 + 0x100000 * h + 0x70
def ER_UNREACH (h : Nat) : Nat := 0xA00000 + 0x100000 * h + 0x78
def ER_BAR_LATE (h : Nat) : Nat := 0xA00000 + 0x100000 * h + 0x80
def ER_BAR_FAULT (h : Nat) : Nat := 0xA00000 + 0x100000 * h + 0x88
def ER_LOST_DROP (h : Nat) : Nat := 0xA00000 + 0x100000 * h + 0x90
def ER_ORDER_REJ (h : Nat) : Nat := 0xA00000 + 0x100000 * h + 0x98
def FAB_BAR (h : Nat) (i j : Nat) : Nat := 0xA00000 + 0x100000 * h + 0x20 * i + 8 * j + 0x100
def FAB_BAR_GEN (h : Nat) (i : Nat) : Nat := 0xA00000 + 0x100000 * h + 0x20 * i + 0x118
def ER_MCS (h : Nat) (i j : Nat) : Nat := 0xA00000 + 0x100000 * h + 0x200 * i + 8 * j + 0x400
def ER_GROUP (h : Nat) (i : Nat) : Nat := 0xA00000 + 0x100000 * h + 0x8 * i + 0x10000

-- block SCL
def SCL_ID : Nat := 0xC00000 + 0x0
def SCL_CFG : Nat := 0xC00000 + 0x4
def SCL_STATUS : Nat := 0xC00000 + 0x8
def SCL_CNT_CLR : Nat := 0xC00000 + 0xC
def SCL_JRNL_BASE : Nat := 0xC00000 + 0x10
def SCL_JRNL_CFG : Nat := 0xC00000 + 0x18
def SCL_JOB_ADDR : Nat := 0xC00000 + 0x20
def SCL_VLCRED : Nat := 0xC00000 + 0x28
def SCL_FAULT_INFO : Nat := 0xC00000 + 0x30
def SCL_DESC_ACC : Nat := 0xC00000 + 0x40
def SCL_CPL_WR : Nat := 0xC00000 + 0x48
def SCL_ERR_DROP : Nat := 0xC00000 + 0x50
def SCL_DB_BAD : Nat := 0xC00000 + 0x58
def SCL_MSG_BAD : Nat := 0xC00000 + 0x60
def SCL_CRC_ERR : Nat := 0xC00000 + 0x68
def SCL_REPLAYS : Nat := 0xC00000 + 0x70
def SCL_SNOOPS : Nat := 0xC00000 + 0x78
def SCL_CR_BASE (i : Nat) : Nat := 0xC00000 + 0x10 * i + 0x400
def SCL_CR_CFG (i : Nat) : Nat := 0xC00000 + 0x10 * i + 0x408
def SCL_CPR_BASE (i : Nat) : Nat := 0xC00000 + 0x10 * i + 0x800
def SCL_CPR_CFG (i : Nat) : Nat := 0xC00000 + 0x10 * i + 0x808
def SCL_CMD_DB (i : Nat) : Nat := 0xC00000 + 0x8 * i + 0x1000
def SCL_CPL_DB (i : Nat) : Nat := 0xC00000 + 0x8 * i + 0x1200

-- block IC
def IC_ID : Nat := 0xD00000 + 0x0
def IC_CTL : Nat := 0xD00000 + 0x4
def IC_CNT_CLR : Nat := 0xD00000 + 0xC
def IC_DELIV0 : Nat := 0xD00000 + 0x40
def IC_DELIV1 : Nat := 0xD00000 + 0x48
def IC_DELIV2 : Nat := 0xD00000 + 0x50
def IC_DELIV3 : Nat := 0xD00000 + 0x58
def IC_MERGED : Nat := 0xD00000 + 0x60
def IC_CP_CLAIM (i : Nat) : Nat := 0xD00000 + 0x40 * i + 0x100
def IC_CP_THRESH (i : Nat) : Nat := 0xD00000 + 0x40 * i + 0x104
def IC_CP_SWI (i : Nat) : Nat := 0xD00000 + 0x40 * i + 0x108
def IC_CP_STATUS (i : Nat) : Nat := 0xD00000 + 0x40 * i + 0x10C
def IC_CP_CTL (i : Nat) : Nat := 0xD00000 + 0x40 * i + 0x110
def IC_CP_VBASE (i : Nat) : Nat := 0xD00000 + 0x40 * i + 0x118
def IC_CP_TCMP (i : Nat) : Nat := 0xD00000 + 0x40 * i + 0x120
def IC_CP_MOD (i j : Nat) : Nat := 0xD00000 + 0x40 * i + 4 * j + 0x804
def IC_SRC_PRIV (i j : Nat) : Nat := 0xD00000 + 0x100 * i + 4 * j + 0x1000
def IC_SRC (i : Nat) : Nat := 0xD00000 + 0x4 * i + 0x2000

-- block PWR
def PWR_ID : Nat := 0xE00000 + 0x0
def PWR_CFG : Nat := 0xE00000 + 0x4
def PWR_STATUS : Nat := 0xE00000 + 0x8
def PWR_CNT_CLR : Nat := 0xE00000 + 0xC
def PWR_CAP : Nat := 0xE00000 + 0x10
def PWR_NOW : Nat := 0xE00000 + 0x18
def THERM_CFG : Nat := 0xE00000 + 0x20
def PWR_E_TOTAL : Nat := 0xE00000 + 0x40
def PWR_E_JOB : Nat := 0xE00000 + 0x48
def PWR_E_CORE_W : Nat := 0xE00000 + 0x50
def PWR_E_CORE_E : Nat := 0xE00000 + 0x58
def PWR_E_HBM : Nat := 0xE00000 + 0x60
def PWR_E_OPT : Nat := 0xE00000 + 0x68
def PWR_E_DDR : Nat := 0xE00000 + 0x70
def PWR_E_OTHER : Nat := 0xE00000 + 0x78
def PWR_CAPPED_MS : Nat := 0xE00000 + 0x80
def PWR_CLAMPS : Nat := 0xE00000 + 0x88
def THERM_MS : Nat := 0xE00000 + 0x90

-- block MGMT
def MGMT_ID : Nat := 0xF00000 + 0x0
def MGMT_CFG : Nat := 0xF00000 + 0x4
def MGMT_STATUS : Nat := 0xF00000 + 0x8
def MGMT_CNT_CLR : Nat := 0xF00000 + 0xC
def MGMT_MAC : Nat := 0xF00000 + 0x10
def MGMT_IP4 : Nat := 0xF00000 + 0x18
def MGMT_DEST (i : Nat) : Nat := 0xF00000 + 0x8 * i + 0x20
def SVC_LED : Nat := 0xF00000 + 0x30
def SVC_STATUS : Nat := 0xF00000 + 0x34
def MGMT_RX : Nat := 0xF00000 + 0x40
def MGMT_TX : Nat := 0xF00000 + 0x48
def MGMT_BAD : Nat := 0xF00000 + 0x50
def MGMT_REC_DROP : Nat := 0xF00000 + 0x58

end Reg

namespace F

def MC_ID_ARCH_LEVEL : Fld := ⟨31, 24⟩
def MC_ID_BLOCK_VERSION : Fld := ⟨23, 16⟩
def MC_ID_CORE_INDEX : Fld := ⟨2, 0⟩
def MC_CFG_FILL_AGE : Fld := ⟨7, 4⟩
def MC_CFG_EN : Fld := ⟨0, 0⟩
def MC_STATUS_PARITY_FAULT : Fld := ⟨5, 5⟩
def MC_STATUS_CMD_FAULT : Fld := ⟨4, 4⟩
def MC_STATUS_CHECK_FAULT : Fld := ⟨3, 3⟩
def MC_STATUS_HALTED : Fld := ⟨2, 2⟩
def MC_STATUS_DRAIN : Fld := ⟨1, 1⟩
def MC_STATUS_BUSY : Fld := ⟨0, 0⟩
def MC_INJECT_ARM : Fld := ⟨31, 31⟩
def MC_INJECT_TARGET : Fld := ⟨22, 21⟩
def MC_INJECT_BIT : Fld := ⟨20, 14⟩
def MC_INJECT_COL : Fld := ⟨13, 7⟩
def MC_INJECT_ROW : Fld := ⟨6, 0⟩
def MC_CHECK_INFO_TAG : Fld := ⟨63, 48⟩
def MC_CHECK_INFO_BLOCK : Fld := ⟨47, 32⟩
def MC_CHECK_INFO_KIND : Fld := ⟨31, 28⟩
def MC_CHECK_INFO_ROW : Fld := ⟨27, 21⟩
def MC_CHECK_INFO_COL : Fld := ⟨20, 14⟩
def MC_CHECK_INFO_VALID : Fld := ⟨13, 13⟩
def VC_ID_ARCH_LEVEL : Fld := ⟨31, 24⟩
def VC_ID_BLOCK_VERSION : Fld := ⟨23, 16⟩
def VC_ID_CORE_INDEX : Fld := ⟨1, 0⟩
def VC_CFG_FILL_AGE : Fld := ⟨7, 4⟩
def VC_CFG_EN : Fld := ⟨0, 0⟩
def VC_STATUS_PARITY_FAULT : Fld := ⟨5, 5⟩
def VC_STATUS_CMD_FAULT : Fld := ⟨4, 4⟩
def VC_STATUS_CHECK_FAULT : Fld := ⟨3, 3⟩
def VC_STATUS_HALTED : Fld := ⟨2, 2⟩
def VC_STATUS_QWAIT : Fld := ⟨1, 1⟩
def VC_STATUS_BUSY : Fld := ⟨0, 0⟩
def VC_INJECT_ARM : Fld := ⟨31, 31⟩
def VC_INJECT_TARGET : Fld := ⟨22, 21⟩
def VC_INJECT_BIT : Fld := ⟨20, 14⟩
def VC_INJECT_LANE : Fld := ⟨13, 7⟩
def VC_CHECK_INFO_TAG : Fld := ⟨63, 48⟩
def VC_CHECK_INFO_PC : Fld := ⟨47, 31⟩
def VC_CHECK_INFO_LANE : Fld := ⟨30, 24⟩
def VC_CHECK_INFO_KIND : Fld := ⟨23, 20⟩
def VC_CHECK_INFO_VALID : Fld := ⟨19, 19⟩
def SC_ID_ARCH_LEVEL : Fld := ⟨31, 24⟩
def SC_ID_BLOCK_VERSION : Fld := ⟨23, 16⟩
def SC_ID_CORE_INDEX : Fld := ⟨1, 0⟩
def SC_CFG_LD_TMO : Fld := ⟨31, 16⟩
def SC_CFG_FILL_AGE : Fld := ⟨15, 8⟩
def SC_CFG_EN : Fld := ⟨0, 0⟩
def SC_STATUS_PARITY_FAULT : Fld := ⟨5, 5⟩
def SC_STATUS_CMD_FAULT : Fld := ⟨4, 4⟩
def SC_STATUS_CHECK_FAULT : Fld := ⟨3, 3⟩
def SC_STATUS_HALTED : Fld := ⟨2, 2⟩
def SC_STATUS_QWAIT : Fld := ⟨1, 1⟩
def SC_STATUS_BUSY : Fld := ⟨0, 0⟩
def SC_INJECT_ARM : Fld := ⟨31, 31⟩
def SC_INJECT_TARGET : Fld := ⟨22, 21⟩
def SC_INJECT_BIT : Fld := ⟨20, 14⟩
def SC_INJECT_LANE : Fld := ⟨13, 7⟩
def SC_FAULT_INFO_PC : Fld := ⟨47, 31⟩
def SC_FAULT_INFO_KIND : Fld := ⟨23, 20⟩
def SC_FAULT_INFO_VALID : Fld := ⟨19, 19⟩
def GAL_ID_LVALID : Fld := ⟨31, 31⟩
def GAL_ID_LOGICAL : Fld := ⟨27, 16⟩
def GAL_ID_PHYS : Fld := ⟨8, 0⟩
def HALL_CFG_DEF_MERGE_W : Fld := ⟨11, 8⟩
def HALL_CFG_AGE : Fld := ⟨7, 4⟩
def HALL_PARITY_INFO_VALID : Fld := ⟨47, 47⟩
def HALL_PARITY_INFO_SIDE : Fld := ⟨46, 46⟩
def HALL_PARITY_INFO_MASTER : Fld := ⟨45, 42⟩
def HALL_PARITY_INFO_BANK : Fld := ⟨41, 38⟩
def HALL_PARITY_INFO_LINE : Fld := ⟨37, 27⟩
def HALL_PARITY_INFO_FIRST_BYTE : Fld := ⟨26, 20⟩
def HALL_PARITY_INFO_NBYTES : Fld := ⟨19, 12⟩
def HALL_PARITY_INFO_SRC_PHYS : Fld := ⟨8, 0⟩
def HALL_REGION_EN : Fld := ⟨31, 31⟩
def HALL_REGION_MERGE_W : Fld := ⟨27, 24⟩
def HALL_REGION_SIZE : Fld := ⟨19, 10⟩
def HALL_REGION_BASE : Fld := ⟨9, 0⟩
def DM_CFG_TMO : Fld := ⟨31, 16⟩
def DM_CFG_EN : Fld := ⟨0, 0⟩
def DM_FAULT_INFO_TAG : Fld := ⟨63, 48⟩
def DM_FAULT_INFO_RSV : Fld := ⟨47, 32⟩
def DM_FAULT_INFO_KIND : Fld := ⟨31, 28⟩
def DM_FAULT_INFO_VALID : Fld := ⟨27, 27⟩
def DM_FAULT_INFO_ENTRY : Fld := ⟨26, 19⟩
def DM_FAULT_INFO_IN_Q : Fld := ⟨18, 15⟩
def DM_FAULT_INFO_CTRL_Q : Fld := ⟨14, 11⟩
def SU_FAULT_INFO_TAG : Fld := ⟨63, 48⟩
def SU_FAULT_INFO_RSV : Fld := ⟨47, 32⟩
def SU_FAULT_INFO_KIND : Fld := ⟨31, 28⟩
def SU_FAULT_INFO_VALID : Fld := ⟨27, 27⟩
def SU_FAULT_INFO_ENTRY : Fld := ⟨26, 19⟩
def SU_FAULT_INFO_IN_Q : Fld := ⟨18, 15⟩
def SU_FAULT_INFO_CTRL_Q : Fld := ⟨14, 11⟩
def GSTEP_CTL_COLD : Fld := ⟨2, 2⟩
def GSTEP_CTL_ABORT : Fld := ⟨1, 1⟩
def GSTEP_CTL_START : Fld := ⟨0, 0⟩
def GSTEP_CFG_WD : Fld := ⟨19, 0⟩
def GSTEP_STATE_STEP_LO : Fld := ⟨63, 48⟩
def GSTEP_STATE_BFAULT : Fld := ⟨5, 5⟩
def GSTEP_STATE_COLD : Fld := ⟨4, 4⟩
def GSTEP_STATE_STATE : Fld := ⟨3, 0⟩
def GSTEP_SCAN_ERROR : Fld := ⟨15, 15⟩
def GSTEP_SCAN_DONE : Fld := ⟨14, 14⟩
def GSTEP_SCAN_BUSY : Fld := ⟨13, 13⟩
def GSTEP_SCAN_DST_PHYS : Fld := ⟨12, 4⟩
def GSTEP_SCAN_TO_MEM : Fld := ⟨3, 3⟩
def GSTEP_SCAN_SCOPE : Fld := ⟨2, 1⟩
def GSTEP_SCAN_GO : Fld := ⟨0, 0⟩
def GND_CTL_SNAP : Fld := ⟨0, 0⟩
def GAL_FENCE_PORT_HELD : Fld := ⟨3, 3⟩
def GAL_FENCE_FENCED : Fld := ⟨2, 2⟩
def GAL_FENCE_UNFENCE : Fld := ⟨1, 1⟩
def GAL_FENCE_FENCE : Fld := ⟨0, 0⟩
def GAL_RST_BUSY : Fld := ⟨31, 31⟩
def GAL_RST_GAL : Fld := ⟨16, 16⟩
def GAL_RST_CORE : Fld := ⟨15, 0⟩
def GPWR_GATED : Fld := ⟨9, 9⟩
def GPWR_BYPASS : Fld := ⟨8, 8⟩
def GPWR_TARGET : Fld := ⟨7, 4⟩
def GPWR_PT : Fld := ⟨3, 0⟩
def GBOOT_CTL_ARM : Fld := ⟨31, 31⟩
def GBOOT_CTL_DISARM : Fld := ⟨30, 30⟩
def GBOOT_CTL_REPORT : Fld := ⟨29, 29⟩
def GBOOT_CTL_NPAGES : Fld := ⟨26, 16⟩
def GBOOT_CTL_ROUND : Fld := ⟨2, 0⟩
def GBOOT_STATUS_ARMED : Fld := ⟨31, 31⟩
def GBOOT_STATUS_COMPLETE : Fld := ⟨30, 30⟩
def GBOOT_STATUS_RECEIVED : Fld := ⟨26, 16⟩
def GBOOT_STATUS_CRC_ERR : Fld := ⟨15, 0⟩
def LND_ID_ARCH_LEVEL : Fld := ⟨31, 24⟩
def LND_ID_BLOCK_VERSION : Fld := ⟨23, 16⟩
def LND_ID_DROP : Fld := ⟨12, 12⟩
def LND_ID_MEMPORT : Fld := ⟨11, 11⟩
def LND_ID_STAIR : Fld := ⟨10, 10⟩
def LND_ID_PHYS : Fld := ⟨8, 0⟩
def LND_CFG_STALL_TMO : Fld := ⟨31, 16⟩
def LND_CFG_PORT_EN : Fld := ⟨15, 8⟩
def LND_CFG_EN : Fld := ⟨0, 0⟩
def LND_STATUS_FLAG_PEND : Fld := ⟨4, 4⟩
def LND_STATUS_STALL : Fld := ⟨3, 3⟩
def LND_STATUS_FAULT : Fld := ⟨2, 2⟩
def LND_STATUS_FLIP_SEEN : Fld := ⟨1, 1⟩
def LND_STATUS_FENCED_GAL : Fld := ⟨0, 0⟩
def LND_TBL_SEL_STEP_LO : Fld := ⟨31, 16⟩
def LND_TBL_SEL_GZERO : Fld := ⟨3, 3⟩
def LND_TBL_SEL_GLOAD : Fld := ⟨2, 2⟩
def LND_TBL_SEL_FLIP : Fld := ⟨1, 1⟩
def LND_TBL_SEL_ACTIVE : Fld := ⟨0, 0⟩
def LND_FAULT_INFO_VALID : Fld := ⟨47, 47⟩
def LND_FAULT_INFO_KIND : Fld := ⟨46, 43⟩
def LND_FAULT_INFO_PORT : Fld := ⟨42, 39⟩
def LND_FAULT_INFO_VC : Fld := ⟨38, 37⟩
def LND_FAULT_INFO_SRC_LAND : Fld := ⟨36, 28⟩
def LND_FAULT_INFO_GROUPS : Fld := ⟨27, 12⟩
def LND_FAULT_INFO_FLIGHT : Fld := ⟨11, 6⟩
def LND_FLT_ARRIVE_FLIGHT : Fld := ⟨63, 58⟩
def LND_FLT_ARRIVE_GEN : Fld := ⟨57, 42⟩
def LND_FLT_ARRIVE_EPOCH : Fld := ⟨41, 38⟩
def LND_FLT_ARRIVE_VALUE : Fld := ⟨31, 0⟩
def LND_RST_BUSY : Fld := ⟨1, 1⟩
def LND_RST_GO : Fld := ⟨0, 0⟩
def Q_TMO_RSV_TMO : Fld := ⟨47, 32⟩
def Q_TMO_CONN_TMO : Fld := ⟨31, 16⟩
def Q_TMO_STALL_TMO : Fld := ⟨15, 0⟩
def Q_EPOCH_HELD : Fld := ⟨8, 4⟩
def Q_EPOCH_CUR : Fld := ⟨3, 0⟩
def Q_CNT_CLR_GROUP : Fld := ⟨17, 16⟩
def Q_CNT_CLR_N : Fld := ⟨5, 0⟩
def Q_HANG_INFO_OUT_CONN : Fld := ⟨63, 48⟩
def Q_HANG_INFO_OUT_SLOT : Fld := ⟨47, 42⟩
def Q_HANG_INFO_IN_Q : Fld := ⟨41, 38⟩
def Q_HANG_INFO_IN_CONN : Fld := ⟨37, 22⟩
def Q_HANG_INFO_VALID : Fld := ⟨21, 21⟩
def Q_DRAIN_CTL_CLEAR : Fld := ⟨31, 31⟩
def Q_CFG_EN : Fld := ⟨63, 63⟩
def Q_CFG_RAW : Fld := ⟨62, 62⟩
def Q_CFG_ORDER : Fld := ⟨61, 61⟩
def Q_CFG_RING : Fld := ⟨60, 60⟩
def Q_CFG_FLIGHTQ : Fld := ⟨59, 59⟩
def Q_CFG_EPOCHQ : Fld := ⟨58, 58⟩
def Q_CFG_MCQ : Fld := ⟨57, 57⟩
def Q_CFG_CRED_BATCH : Fld := ⟨51, 44⟩
def Q_CFG_BASE : Fld := ⟨23, 16⟩
def Q_CFG_SIZE : Fld := ⟨8, 0⟩
def Q_RING_BASE_4K : Fld := ⟨21, 12⟩
def Q_RING_LOG2 : Fld := ⟨4, 0⟩
def DEV_ID_ARCH_LEVEL : Fld := ⟨31, 24⟩
def DEV_ID_BLOCK_VERSION : Fld := ⟨23, 16⟩
def DEV_PART_STEPPING : Fld := ⟨31, 28⟩
def DEV_PART_PART : Fld := ⟨27, 12⟩
def DEV_FUSE_LPH : Fld := ⟨55, 48⟩
def DEV_FUSE_ENG_OFF : Fld := ⟨47, 40⟩
def DEV_FUSE_STK_OFF : Fld := ⟨39, 32⟩
def DEV_FUSE_PROD_LOCK : Fld := ⟨0, 0⟩
def BOOT_STATUS_FAILSTEP : Fld := ⟨15, 12⟩
def BOOT_STATUS_FABRIC : Fld := ⟨11, 10⟩
def BOOT_STATUS_STATE : Fld := ⟨9, 7⟩
def BOOT_STATUS_STAGE : Fld := ⟨3, 0⟩
def SEC_ID_ARCH_LEVEL : Fld := ⟨31, 24⟩
def SEC_ID_BLOCK_VERSION : Fld := ⟨23, 16⟩
def SEC_STATUS_KEYS : Fld := ⟨12, 8⟩
def SEC_STATUS_ID_READY : Fld := ⟨7, 7⟩
def SEC_STATUS_FALLBACK : Fld := ⟨6, 6⟩
def SEC_STATUS_SLOT : Fld := ⟨5, 5⟩
def SEC_STATUS_BAD_A : Fld := ⟨4, 4⟩
def SEC_STATUS_BAD_B : Fld := ⟨3, 3⟩
def SEC_STATUS_DEBUG : Fld := ⟨1, 0⟩
def SEC_CTL_RELOCK : Fld := ⟨0, 0⟩
def SEC_FLOOR_FLOOR : Fld := ⟨31, 0⟩
def SEC_MB_CTL_OP : Fld := ⟨31, 24⟩
def SEC_MB_CTL_LEN : Fld := ⟨23, 1⟩
def SEC_MB_CTL_GO : Fld := ⟨0, 0⟩
def SEC_MB_STATUS_STATUS : Fld := ⟨31, 24⟩
def SEC_MB_STATUS_RLEN : Fld := ⟨23, 1⟩
def SEC_MB_STATUS_BUSY : Fld := ⟨0, 0⟩
def RST_ID_ARCH_LEVEL : Fld := ⟨31, 24⟩
def RST_ID_BLOCK_VERSION : Fld := ⟨23, 16⟩
def RST_CTL_HALF_E : Fld := ⟨2, 2⟩
def RST_CTL_HALF_W : Fld := ⟨1, 1⟩
def RST_CTL_WARM : Fld := ⟨0, 0⟩
def RST_STATUS_OOS_SEQ : Fld := ⟨31, 16⟩
def RST_STATUS_CAUSE : Fld := ⟨11, 8⟩
def RST_STATUS_OOS : Fld := ⟨3, 3⟩
def RST_STATUS_HALF_E_BUSY : Fld := ⟨2, 2⟩
def RST_STATUS_HALF_W_BUSY : Fld := ⟨1, 1⟩
def RST_STATUS_COLD_REQ : Fld := ⟨0, 0⟩
def RST_TMO_WARM : Fld := ⟨63, 58⟩
def RST_TMO_HALF : Fld := ⟨57, 52⟩
def RST_TMO_MEM : Fld := ⟨51, 44⟩
def RST_TMO_PORT : Fld := ⟨43, 36⟩
def RST_TMO_LND : Fld := ⟨35, 24⟩
def RST_TMO_GAL : Fld := ⟨23, 12⟩
def RST_TMO_CORE : Fld := ⟨7, 0⟩
def CP_WD_EN : Fld := ⟨31, 31⟩
def CP_WD_KICK : Fld := ⟨30, 30⟩
def CP_WD_PERIOD : Fld := ⟨15, 0⟩
def SNAP_CFG_CLASS : Fld := ⟨63, 32⟩
def SNAP_CFG_LEAD_US : Fld := ⟨31, 16⟩
def SNAP_CFG_SEV : Fld := ⟨15, 13⟩
def SNAP_CFG_FAB_OUT : Fld := ⟨6, 6⟩
def SNAP_CFG_FAB_IN : Fld := ⟨5, 5⟩
def SNAP_CFG_RESET : Fld := ⟨4, 4⟩
def SNAP_CFG_ATTN : Fld := ⟨3, 3⟩
def SNAP_CFG_CMD : Fld := ⟨2, 2⟩
def SNAP_CFG_FAULT : Fld := ⟨1, 1⟩
def SNAP_STATUS_MISSED : Fld := ⟨15, 8⟩
def SNAP_STATUS_LATE : Fld := ⟨4, 4⟩
def SNAP_STATUS_SOURCE : Fld := ⟨3, 1⟩
def SNAP_STATUS_HELD : Fld := ⟨0, 0⟩
def SNAP_CTL_REARM : Fld := ⟨1, 1⟩
def SNAP_CTL_TRIG : Fld := ⟨0, 0⟩
def DUMP_CFG_WAIT_MS : Fld := ⟨31, 16⟩
def DUMP_CFG_FLASH : Fld := ⟨1, 1⟩
def DUMP_CFG_AUTO : Fld := ⟨0, 0⟩
def DUMP_STATUS_NOANSWER : Fld := ⟨17, 2⟩
def DUMP_STATUS_IN_FLASH : Fld := ⟨1, 1⟩
def DUMP_STATUS_BUSY : Fld := ⟨0, 0⟩
def FLT_ID_ARCH_LEVEL : Fld := ⟨31, 24⟩
def FLT_ID_BLOCK_VERSION : Fld := ⟨23, 16⟩
def FLT_CFG_STRIKE_H : Fld := ⟨31, 16⟩
def FLT_CFG_STRIKE_MAX : Fld := ⟨15, 12⟩
def FLT_CFG_REMAP_TRIES : Fld := ⟨11, 10⟩
def FLT_CFG_RATE : Fld := ⟨9, 2⟩
def FLT_CFG_AUTO : Fld := ⟨0, 0⟩
def FLT_STATUS_SPARES_W : Fld := ⟨31, 27⟩
def FLT_STATUS_SPARES_E : Fld := ⟨26, 22⟩
def FLT_STATUS_ABSENT : Fld := ⟨20, 12⟩
def FLT_STATUS_BUSY : Fld := ⟨11, 11⟩
def ST_ID_ARCH_LEVEL : Fld := ⟨31, 24⟩
def ST_ID_BLOCK_VERSION : Fld := ⟨23, 16⟩
def ST_CFG_ROT_MS : Fld := ⟨31, 16⟩
def ST_CFG_PAT_VARY : Fld := ⟨2, 2⟩
def ST_CFG_ROT_E : Fld := ⟨1, 1⟩
def ST_CFG_ROT_W : Fld := ⟨0, 0⟩
def ST_HALF_QUEUED : Fld := ⟨44, 40⟩
def ST_HALF_ELEMENT : Fld := ⟨39, 36⟩
def ST_HALF_STATE : Fld := ⟨35, 32⟩
def ST_HALF_SPARES : Fld := ⟨31, 27⟩
def ST_HALF_TARGET : Fld := ⟨26, 18⟩
def ST_HALF_POINTER : Fld := ⟨17, 9⟩
def ST_HALF_RECV : Fld := ⟨8, 0⟩
def SEQ_ID_ARCH_LEVEL : Fld := ⟨31, 24⟩
def SEQ_ID_BLOCK_VERSION : Fld := ⟨23, 16⟩
def SEQ_CFG_QUIET : Fld := ⟨31, 16⟩
def SEQ_CFG_MAX_REEXEC : Fld := ⟨10, 8⟩
def SEQ_CFG_EN : Fld := ⟨0, 0⟩
def SEQ_STATUS_PLACE : Fld := ⟨31, 24⟩
def SEQ_STATUS_REEXEC : Fld := ⟨19, 16⟩
def SEQ_STATUS_PREPARED : Fld := ⟨4, 4⟩
def SEQ_STATUS_STATE : Fld := ⟨3, 0⟩
def SEQ_CTL_UNLOAD : Fld := ⟨3, 3⟩
def SEQ_CTL_RESUME : Fld := ⟨2, 2⟩
def SEQ_CTL_STOP : Fld := ⟨1, 1⟩
def SEQ_CTL_ABORT : Fld := ⟨0, 0⟩
def SEQ_WD_FAB_WD : Fld := ⟨47, 32⟩
def SEQ_WD_STEP_WD : Fld := ⟨19, 0⟩
def ND_ID_ARCH_LEVEL : Fld := ⟨31, 24⟩
def ND_ID_BLOCK_VERSION : Fld := ⟨23, 16⟩
def ND_STATUS_REEXEC : Fld := ⟨4, 4⟩
def ND_STATUS_SAT : Fld := ⟨3, 3⟩
def ND_STATUS_LOST : Fld := ⟨2, 2⟩
def ND_STATUS_UNBOUND : Fld := ⟨1, 1⟩
def ND_STATUS_RAW : Fld := ⟨0, 0⟩
def DIG_STATUS_DONE_4K : Fld := ⟨41, 1⟩
def DIG_STATUS_BUSY : Fld := ⟨0, 0⟩
def MEM_ID_ARCH_LEVEL : Fld := ⟨31, 24⟩
def MEM_ID_BLOCK_VERSION : Fld := ⟨23, 16⟩
def MEM_STACKS_FAILED : Fld := ⟨15, 8⟩
def MEM_STACKS_ENABLED : Fld := ⟨7, 0⟩
def MEM_DDR_SIZE_GIB : Fld := ⟨23, 16⟩
def MEM_DDR_POP : Fld := ⟨15, 8⟩
def MEM_DDR_TWO_DPC : Fld := ⟨7, 7⟩
def MEM_DDR_ILV : Fld := ⟨0, 0⟩
def MEMC_ID_ARCH_LEVEL : Fld := ⟨31, 24⟩
def MEMC_ID_BLOCK_VERSION : Fld := ⟨23, 16⟩
def MEMC_CFG_TTHROT : Fld := ⟨31, 24⟩
def MEMC_CFG_SCRUB_H : Fld := ⟨23, 16⟩
def MEMC_CFG_CE_LOG : Fld := ⟨15, 12⟩
def MEMC_CFG_EN : Fld := ⟨0, 0⟩
def MEMC_STATUS_TEMP : Fld := ⟨31, 24⟩
def MEMC_STATUS_TSTOP : Fld := ⟨4, 4⟩
def MEMC_STATUS_THROTTLE : Fld := ⟨3, 3⟩
def MEMC_STATUS_FENCED : Fld := ⟨2, 2⟩
def MEMC_STATUS_SREF : Fld := ⟨1, 1⟩
def MEMC_STATUS_TRAINED : Fld := ⟨0, 0⟩
def MEMC_ERR_INFO_VALID : Fld := ⟨47, 47⟩
def MEMC_ERR_INFO_KIND : Fld := ⟨46, 43⟩
def MEMC_ERR_INFO_PC : Fld := ⟨42, 37⟩
def MEMC_ERR_INFO_SRC_LAND : Fld := ⟨36, 28⟩
def MEMC_ERR_INFO_IRGN : Fld := ⟨27, 24⟩
def MEMC_ERR_INFO_SREGION : Fld := ⟨23, 20⟩
def MESH_ID_ARCH_LEVEL : Fld := ⟨31, 24⟩
def MESH_ID_BLOCK_VERSION : Fld := ⟨23, 16⟩
def FAB_PORT_CFG_REPLAY_TMO : Fld := ⟨31, 16⟩
def FAB_PORT_CFG_RETRY_MAX : Fld := ⟨15, 12⟩
def FAB_PORT_CFG_MARGIN_SWAP : Fld := ⟨2, 2⟩
def FAB_PORT_CFG_SPARE_AUTO : Fld := ⟨1, 1⟩
def FAB_PORT_CFG_EN : Fld := ⟨0, 0⟩
def FAB_PORT_STATUS_LOCK : Fld := ⟨15, 12⟩
def FAB_PORT_STATUS_LOS : Fld := ⟨11, 8⟩
def FAB_PORT_STATUS_DIR : Fld := ⟨7, 5⟩
def FAB_PORT_STATUS_MARGINAL : Fld := ⟨4, 4⟩
def FAB_PORT_STATUS_STATE : Fld := ⟨3, 0⟩
def FAB_PORT_CTL_UP : Fld := ⟨1, 1⟩
def FAB_PORT_CTL_DOWN : Fld := ⟨0, 0⟩
def FAB_PORT_PEER_DEVICE : Fld := ⟨55, 40⟩
def FAB_PORT_PEER_PORT : Fld := ⟨39, 34⟩
def FAB_PORT_PEER_VERSION : Fld := ⟨33, 30⟩
def FAB_PORT_PEER_ORD : Fld := ⟨29, 26⟩
def FAB_PORT_PEER_VALID : Fld := ⟨25, 25⟩
def FAB_PORT_FAULT_INFO_LSEQ : Fld := ⟨63, 48⟩
def FAB_PORT_FAULT_INFO_VALID : Fld := ⟨47, 47⟩
def FAB_PORT_FAULT_INFO_KIND : Fld := ⟨46, 43⟩
def FAB_PORT_FAULT_INFO_LANES : Fld := ⟨42, 39⟩
def FAB_QUAL_FAIL_K : Fld := ⟨31, 16⟩
def FAB_QUAL_MARGIN_K : Fld := ⟨15, 0⟩
def FAB_LATCH_LASER_OFF : Fld := ⟨23, 16⟩
def FAB_LATCH_CHANGED : Fld := ⟨15, 8⟩
def FAB_LATCH_LIFTED : Fld := ⟨7, 0⟩
def FAB_TOPO_VALID : Fld := ⟨48, 48⟩
def FAB_TOPO_SELF : Fld := ⟨47, 32⟩
def FAB_TOPO_SZ_M1 : Fld := ⟨20, 16⟩
def FAB_TOPO_SY_M1 : Fld := ⟨12, 8⟩
def FAB_TOPO_SX_M1 : Fld := ⟨5, 0⟩
def FAB_RT_CFG_DWELL : Fld := ⟨31, 16⟩
def FAB_RT_CFG_RSV_TMO : Fld := ⟨15, 4⟩
def FAB_RT_CFG_DOR : Fld := ⟨0, 0⟩
def FAB_TP_CFG_RTO : Fld := ⟨63, 48⟩
def FAB_TP_CFG_RTX_MAX : Fld := ⟨47, 44⟩
def FAB_TP_CFG_RTX_PLANE : Fld := ⟨43, 40⟩
def FAB_TP_CFG_WIN : Fld := ⟨39, 29⟩
def FAB_TP_CFG_ACK_BATCH : Fld := ⟨28, 21⟩
def FAB_TP_CFG_ACK_DELAY : Fld := ⟨20, 8⟩
def FAB_TP_CFG_IDLE : Fld := ⟨7, 0⟩
def FAB_TIME_CFG_GM : Fld := ⟨63, 63⟩
def FAB_TIME_CFG_PARENT_DIR : Fld := ⟨62, 60⟩
def FAB_TIME_CFG_PARENT_ORD : Fld := ⟨59, 56⟩
def FAB_TIME_CFG_SYNC : Fld := ⟨55, 40⟩
def FAB_TIME_STATUS_OFFSET : Fld := ⟨47, 32⟩
def FAB_TIME_STATUS_STATE : Fld := ⟨1, 0⟩
def FAB_ORDER_EXPELLED : Fld := ⟨8, 8⟩
def FAB_ORDER_QUORUM : Fld := ⟨3, 0⟩
def ER_ID_ARCH_LEVEL : Fld := ⟨31, 24⟩
def ER_ID_BLOCK_VERSION : Fld := ⟨23, 16⟩
def SCL_ID_ARCH_LEVEL : Fld := ⟨31, 24⟩
def SCL_ID_BLOCK_VERSION : Fld := ⟨23, 16⟩
def SCL_CFG_DOWN_TMO : Fld := ⟨31, 16⟩
def SCL_CFG_ERR_RING : Fld := ⟨13, 8⟩
def SCL_CFG_ERR_EN : Fld := ⟨1, 1⟩
def SCL_CFG_EN : Fld := ⟨0, 0⟩
def SCL_STATUS_VERSION : Fld := ⟨7, 4⟩
def SCL_STATUS_STATE : Fld := ⟨2, 0⟩
def SCL_JRNL_CFG_EN : Fld := ⟨31, 31⟩
def SCL_JRNL_CFG_LOG2 : Fld := ⟨4, 0⟩
def SCL_FAULT_INFO_LSEQ : Fld := ⟨63, 48⟩
def SCL_FAULT_INFO_VALID : Fld := ⟨47, 47⟩
def SCL_FAULT_INFO_KIND : Fld := ⟨46, 43⟩
def SCL_FAULT_INFO_LANES : Fld := ⟨42, 27⟩
def SCL_CR_CFG_EN : Fld := ⟨31, 31⟩
def SCL_CR_CFG_POLL : Fld := ⟨30, 30⟩
def SCL_CR_CFG_CPR : Fld := ⟨29, 24⟩
def SCL_CR_CFG_LOG2 : Fld := ⟨4, 0⟩
def SCL_CPR_CFG_EN : Fld := ⟨63, 63⟩
def SCL_CPR_CFG_VECTOR : Fld := ⟨47, 32⟩
def SCL_CPR_CFG_MOD_US : Fld := ⟨31, 16⟩
def SCL_CPR_CFG_MOD_CNT : Fld := ⟨15, 8⟩
def SCL_CPR_CFG_LOG2 : Fld := ⟨4, 0⟩
def IC_ID_ARCH_LEVEL : Fld := ⟨31, 24⟩
def IC_ID_BLOCK_VERSION : Fld := ⟨23, 16⟩
def IC_CP_STATUS_DEPTH : Fld := ⟨11, 7⟩
def IC_CP_STATUS_RUNPRI : Fld := ⟨6, 2⟩
def IC_CP_STATUS_WFI : Fld := ⟨1, 1⟩
def IC_CP_STATUS_IE : Fld := ⟨0, 0⟩
def IC_CP_CTL_HALTED : Fld := ⟨1, 1⟩
def IC_CP_CTL_RUN : Fld := ⟨0, 0⟩
def IC_SRC_PRIV_PEND : Fld := ⟨31, 31⟩
def IC_SRC_PRIV_TRIG : Fld := ⟨30, 30⟩
def IC_SRC_PRIV_URGENT : Fld := ⟨29, 29⟩
def IC_SRC_PRIV_EN : Fld := ⟨28, 28⟩
def IC_SRC_PRIV_TARGET : Fld := ⟨27, 26⟩
def IC_SRC_PRIV_MOD : Fld := ⟨25, 23⟩
def IC_SRC_PRIV_PRIO : Fld := ⟨22, 19⟩
def IC_SRC_PEND : Fld := ⟨31, 31⟩
def IC_SRC_TRIG : Fld := ⟨30, 30⟩
def IC_SRC_URGENT : Fld := ⟨29, 29⟩
def IC_SRC_EN : Fld := ⟨28, 28⟩
def IC_SRC_TARGET : Fld := ⟨27, 26⟩
def IC_SRC_MOD : Fld := ⟨25, 23⟩
def IC_SRC_PRIO : Fld := ⟨22, 19⟩
def PWR_ID_ARCH_LEVEL : Fld := ⟨31, 24⟩
def PWR_ID_BLOCK_VERSION : Fld := ⟨23, 16⟩
def PWR_CFG_PT_MAX : Fld := ⟨27, 24⟩
def PWR_CFG_PT_MIN : Fld := ⟨23, 20⟩
def PWR_CFG_UP_N : Fld := ⟨19, 12⟩
def PWR_CFG_EXC_MS : Fld := ⟨11, 8⟩
def PWR_CFG_HYST : Fld := ⟨7, 0⟩
def PWR_STATUS_PT_LOW : Fld := ⟨15, 12⟩
def PWR_STATUS_PT_HIGH : Fld := ⟨11, 8⟩
def PWR_STATUS_TJMAX : Fld := ⟨4, 4⟩
def PWR_STATUS_THERM : Fld := ⟨3, 3⟩
def PWR_STATUS_FLOOR : Fld := ⟨2, 2⟩
def PWR_STATUS_CLAMP : Fld := ⟨1, 1⟩
def PWR_STATUS_CAPPED : Fld := ⟨0, 0⟩
def PWR_CAP_EXC : Fld := ⟨47, 32⟩
def PWR_CAP_CAP : Fld := ⟨15, 0⟩
def PWR_NOW_TJ : Fld := ⟨55, 48⟩
def PWR_NOW_HOT : Fld := ⟨47, 32⟩
def PWR_NOW_P : Fld := ⟨15, 0⟩
def THERM_CFG_TRIP : Fld := ⟨23, 16⟩
def THERM_CFG_TJMAX : Fld := ⟨15, 8⟩
def THERM_CFG_THROT : Fld := ⟨7, 0⟩
def MGMT_ID_ARCH_LEVEL : Fld := ⟨31, 24⟩
def MGMT_ID_BLOCK_VERSION : Fld := ⟨23, 16⟩
def MGMT_CFG_SAVE : Fld := ⟨3, 3⟩
def MGMT_CFG_REC_PATH : Fld := ⟨2, 1⟩
def MGMT_CFG_EN : Fld := ⟨0, 0⟩
def MGMT_STATUS_OUTSTANDING : Fld := ⟨31, 16⟩
def MGMT_STATUS_ORDER_OPEN : Fld := ⟨2, 2⟩
def MGMT_STATUS_I3C_UP : Fld := ⟨1, 1⟩
def MGMT_STATUS_LINK : Fld := ⟨0, 0⟩
def SVC_LED_TEST : Fld := ⟨2, 2⟩
def SVC_LED_IDENT : Fld := ⟨1, 0⟩
def SVC_STATUS_DIMM : Fld := ⟨31, 16⟩
def SVC_STATUS_ATTN_CLR : Fld := ⟨3, 3⟩
def SVC_STATUS_ATTN_STATE : Fld := ⟨2, 0⟩

end F

end Sys2Proof.Machine
end

