-- ==== Sys2Proof/Machine/RegMap.lean ====
section
/-! DEFINITION. The map of the set-up region: for every block the rows of its registers, with each field's access code
(R4) and reset value, as the register tables of the chapters give them. Where a table gives no reset value the row has
0, a DESIGN CHOICE (log entry 2). -/

namespace Sys2Proof.Machine

/-- The access codes of R4; a bit no field of a row covers is RSV. -/
inductive Access where
  | rw | ro | w1c | w1s | rc | wo
deriving DecidableEq, Repr

/-- One field of a register row. -/
structure RegField where
  hi : Nat
  lo : Nat
  acc : Access
  rst : Nat
deriving DecidableEq, Repr

/-- One register row: `n1` rows of `n2` registers of `bytes` bytes, at `off + s1 * i + bytes * j`. -/
structure RegRow where
  off : Nat
  n1 : Nat
  s1 : Nat
  n2 : Nat
  bytes : Nat
  fields : List RegField
deriving DecidableEq, Repr

namespace RegMap

/-- A counter of R73. -/
def cnt : List RegField := [⟨63, 63, .ro, 0⟩, ⟨47, 0, .ro, 0⟩]
/-- An error counter of R73. -/
def ecnt : List RegField := [⟨63, 63, .ro, 0⟩, ⟨15, 0, .ro, 0⟩]
/-- The version halves of an ID register. -/
def idv : List RegField := [⟨31, 24, .ro, 1⟩, ⟨23, 16, .ro, 1⟩]

/-- Rows of block MC. -/
def mcRows : List RegRow := [
  -- MC_ID
  ⟨0x0, 1, 0x0, 1, 4, [⟨31, 24, .ro, 1⟩, ⟨23, 16, .ro, 1⟩, ⟨2, 0, .ro, 0⟩]⟩,
  -- MC_CFG
  ⟨0x4, 1, 0x0, 1, 4, [⟨7, 4, .rw, 4⟩, ⟨0, 0, .rw, 0⟩]⟩,
  -- MC_STATUS
  ⟨0x8, 1, 0x0, 1, 4, [⟨5, 5, .ro, 0⟩, ⟨4, 4, .ro, 0⟩, ⟨3, 3, .ro, 0⟩, ⟨2, 2, .ro, 0⟩, ⟨1, 1, .ro, 0⟩, ⟨0, 0, .ro, 0⟩]⟩,
  -- MC_INJECT
  ⟨0xC, 1, 0x0, 1, 4, [⟨31, 31, .w1s, 0⟩, ⟨22, 21, .rw, 0⟩, ⟨20, 14, .rw, 0⟩, ⟨13, 7, .rw, 0⟩, ⟨6, 0, .rw, 0⟩]⟩,
  -- MC_CHECK_INFO
  ⟨0x10, 1, 0x0, 1, 8, [⟨63, 48, .ro, 0⟩, ⟨47, 32, .ro, 0⟩, ⟨31, 28, .ro, 0⟩, ⟨27, 21, .ro, 0x7F⟩, ⟨20, 14, .ro, 0x7F⟩, ⟨13, 13, .ro, 0⟩]⟩,
  -- MC_CHECK_DELTA
  ⟨0x18, 1, 0x0, 1, 8, [⟨63, 0, .ro, 0⟩]⟩,
  -- MC_CNT_CLR
  ⟨0x20, 1, 0x0, 1, 4, [⟨31, 0, .wo, 0⟩]⟩,
  -- MC_EVT_NANGEN
  ⟨0x40, 1, 0x0, 1, 8, cnt⟩,
  -- MC_EVT_OVF
  ⟨0x48, 1, 0x0, 1, 8, cnt⟩,
  -- MC_EVT_SAT
  ⟨0x50, 1, 0x0, 1, 8, cnt⟩,
  -- MC_EVT_NONFINITE_BLOCK
  ⟨0x58, 1, 0x0, 1, 8, cnt⟩,
  -- MC_TILES
  ⟨0x60, 1, 0x0, 1, 8, cnt⟩,
  -- MC_BUSY_CYCLES
  ⟨0x68, 1, 0x0, 1, 8, cnt⟩,
  -- MC_NULL_SKIP
  ⟨0x70, 1, 0x0, 1, 8, cnt⟩,
  -- MC_CHECK_SKIP
  ⟨0x78, 1, 0x0, 1, 8, cnt⟩,
  -- MC_CHECK_FAIL
  ⟨0x80, 1, 0x0, 1, 8, ecnt⟩ ]

/-- Rows of block VC. -/
def vcRows : List RegRow := [
  -- VC_ID
  ⟨0x0, 1, 0x0, 1, 4, [⟨31, 24, .ro, 1⟩, ⟨23, 16, .ro, 1⟩, ⟨1, 0, .ro, 0⟩]⟩,
  -- VC_CFG
  ⟨0x4, 1, 0x0, 1, 4, [⟨7, 4, .rw, 4⟩, ⟨0, 0, .rw, 0⟩]⟩,
  -- VC_STATUS
  ⟨0x8, 1, 0x0, 1, 4, [⟨5, 5, .ro, 0⟩, ⟨4, 4, .ro, 0⟩, ⟨3, 3, .ro, 0⟩, ⟨2, 2, .ro, 0⟩, ⟨1, 1, .ro, 0⟩, ⟨0, 0, .ro, 0⟩]⟩,
  -- VC_INJECT
  ⟨0xC, 1, 0x0, 1, 4, [⟨31, 31, .w1s, 0⟩, ⟨22, 21, .rw, 0⟩, ⟨20, 14, .rw, 0⟩, ⟨13, 7, .rw, 0⟩]⟩,
  -- VC_CHECK_INFO
  ⟨0x10, 1, 0x0, 1, 8, [⟨63, 48, .ro, 0⟩, ⟨47, 31, .ro, 0⟩, ⟨30, 24, .ro, 0x7F⟩, ⟨23, 20, .ro, 0⟩, ⟨19, 19, .ro, 0⟩]⟩,
  -- VC_PC
  ⟨0x18, 1, 0x0, 1, 4, [⟨31, 0, .ro, 0⟩]⟩,
  -- VC_CNT_CLR
  ⟨0x20, 1, 0x0, 1, 4, [⟨31, 0, .wo, 0⟩]⟩,
  -- VC_EVT_NANGEN
  ⟨0x40, 1, 0x0, 1, 8, cnt⟩,
  -- VC_EVT_OVF
  ⟨0x48, 1, 0x0, 1, 8, cnt⟩,
  -- VC_EVT_SAT
  ⟨0x50, 1, 0x0, 1, 8, cnt⟩,
  -- VC_EVT_NONFINITE_BLOCK
  ⟨0x58, 1, 0x0, 1, 8, cnt⟩,
  -- VC_KERNELS
  ⟨0x60, 1, 0x0, 1, 8, cnt⟩,
  -- VC_BUSY_CYCLES
  ⟨0x68, 1, 0x0, 1, 8, cnt⟩,
  -- VC_NULL_SKIP
  ⟨0x70, 1, 0x0, 1, 8, cnt⟩,
  -- VC_CHECK_FAIL
  ⟨0x78, 1, 0x0, 1, 8, ecnt⟩ ]

/-- Rows of block SC. -/
def scRows : List RegRow := [
  -- SC_ID
  ⟨0x0, 1, 0x0, 1, 4, [⟨31, 24, .ro, 1⟩, ⟨23, 16, .ro, 1⟩, ⟨1, 0, .ro, 0⟩]⟩,
  -- SC_CFG
  ⟨0x4, 1, 0x0, 1, 4, [⟨31, 16, .rw, 0x64⟩, ⟨15, 8, .rw, 4⟩, ⟨0, 0, .rw, 0⟩]⟩,
  -- SC_STATUS
  ⟨0x8, 1, 0x0, 1, 4, [⟨5, 5, .ro, 0⟩, ⟨4, 4, .ro, 0⟩, ⟨3, 3, .ro, 0⟩, ⟨2, 2, .ro, 0⟩, ⟨1, 1, .ro, 0⟩, ⟨0, 0, .ro, 0⟩]⟩,
  -- SC_INJECT
  ⟨0xC, 1, 0x0, 1, 4, [⟨31, 31, .w1s, 0⟩, ⟨22, 21, .rw, 0⟩, ⟨20, 14, .rw, 0⟩, ⟨13, 7, .rw, 0⟩]⟩,
  -- SC_FAULT_INFO
  ⟨0x10, 1, 0x0, 1, 8, [⟨47, 31, .ro, 0⟩, ⟨23, 20, .ro, 0⟩, ⟨19, 19, .ro, 0⟩]⟩,
  -- SC_PC
  ⟨0x18, 1, 0x0, 1, 4, [⟨31, 0, .ro, 0⟩]⟩,
  -- SC_CNT_CLR
  ⟨0x20, 1, 0x0, 1, 4, [⟨31, 0, .wo, 0⟩]⟩,
  -- SC_EVT_NANGEN
  ⟨0x40, 1, 0x0, 1, 8, cnt⟩,
  -- SC_EVT_OVF
  ⟨0x48, 1, 0x0, 1, 8, cnt⟩,
  -- SC_EVT_SAT
  ⟨0x50, 1, 0x0, 1, 8, cnt⟩,
  -- SC_EVT_NONFINITE_BLOCK
  ⟨0x58, 1, 0x0, 1, 8, cnt⟩,
  -- SC_INSTRET
  ⟨0x60, 1, 0x0, 1, 8, cnt⟩,
  -- SC_STALL_CYCLES
  ⟨0x68, 1, 0x0, 1, 8, cnt⟩,
  -- SC_NULL_RECV
  ⟨0x70, 1, 0x0, 1, 8, cnt⟩,
  -- SC_CHECK_FAIL
  ⟨0x78, 1, 0x0, 1, 8, ecnt⟩ ]

/-- Rows of block GAL. -/
def galRows0 : List RegRow := [
  -- GAL_ID
  ⟨0x0, 1, 0x0, 1, 4, [⟨31, 31, .ro, 0⟩, ⟨27, 16, .ro, 0⟩, ⟨8, 0, .ro, 0⟩]⟩,
  -- HALL_CFG
  ⟨0x4, 1, 0x0, 1, 4, [⟨11, 8, .rw, 0⟩, ⟨7, 4, .rw, 4⟩]⟩,
  -- HALL_CNT_CLR
  ⟨0x8, 1, 0x0, 1, 4, [⟨31, 0, .wo, 0⟩]⟩,
  -- HALL_PARITY_INFO
  ⟨0x10, 1, 0x0, 1, 8, [⟨47, 47, .ro, 0⟩, ⟨46, 46, .ro, 0⟩, ⟨45, 42, .ro, 0⟩, ⟨41, 38, .ro, 0⟩, ⟨37, 27, .ro, 0⟩, ⟨26, 20, .ro, 0⟩, ⟨19, 12, .ro, 0⟩, ⟨8, 0, .ro, 0x1FF⟩]⟩,
  -- HALL_REGION
  ⟨0x20, 8, 0x8, 1, 8, [⟨31, 31, .rw, 0⟩, ⟨27, 24, .rw, 0⟩, ⟨19, 10, .rw, 0⟩, ⟨9, 0, .rw, 0⟩]⟩,
  -- HALL_MERGE_HITS
  ⟨0x60, 1, 0x0, 1, 8, cnt⟩,
  -- HALL_CONFLICT_CYCLES
  ⟨0x68, 1, 0x0, 1, 8, cnt⟩,
  -- HALL_ND_ATOMIC
  ⟨0x70, 1, 0x0, 1, 8, cnt⟩,
  -- HALL_PARITY_ERR
  ⟨0x78, 1, 0x0, 1, 8, ecnt⟩,
  -- DM_CFG
  ⟨0x100, 1, 0x0, 1, 4, [⟨31, 16, .rw, 0x3E8⟩, ⟨0, 0, .rw, 0⟩]⟩,
  -- DM_FAULT_INFO
  ⟨0x108, 1, 0x0, 1, 8, [⟨63, 48, .ro, 0⟩, ⟨47, 32, .ro, 0⟩, ⟨31, 28, .ro, 0⟩, ⟨27, 27, .ro, 0⟩, ⟨26, 19, .ro, 0⟩, ⟨18, 15, .ro, 0⟩, ⟨14, 11, .ro, 0⟩]⟩,
  -- DM_FAULT_ADDR
  ⟨0x110, 1, 0x0, 1, 8, [⟨63, 0, .ro, 0⟩]⟩,
  -- DM_DESCS
  ⟨0x118, 1, 0x0, 1, 8, cnt⟩,
  -- DM_BYTES
  ⟨0x120, 1, 0x0, 1, 8, cnt⟩,
  -- DM_MASK
  ⟨0x140, 16, 0x40, 4, 8, [⟨63, 0, .rw, 0⟩]⟩,
  -- DM_MASK, word 4: bits 312 to 319 of a mask are reserved (R12)
  ⟨0x160, 16, 0x40, 1, 8, [⟨55, 0, .rw, 0⟩]⟩,
  -- DM_MCAST_PRUNED
  ⟨0x540, 5, 0x8, 1, 8, [⟨63, 0, .ro, 0⟩]⟩,
  -- SU_CFG
  ⟨0x600, 1, 0x0, 1, 4, [⟨0, 0, .rw, 0⟩]⟩,
  -- SU_FAULT_INFO
  ⟨0x608, 1, 0x0, 1, 8, [⟨63, 48, .ro, 0⟩, ⟨47, 32, .ro, 0⟩, ⟨31, 28, .ro, 0⟩, ⟨27, 27, .ro, 0⟩, ⟨26, 19, .ro, 0⟩, ⟨18, 15, .ro, 0⟩, ⟨14, 11, .ro, 0⟩]⟩,
  -- SU_FIRINGS
  ⟨0x610, 1, 0x0, 1, 8, cnt⟩,
  -- SU_NULL_FILL
  ⟨0x618, 1, 0x0, 1, 8, cnt⟩ ]

/-- Rows of block GAL. -/
def galRows1 : List RegRow := [
  -- SU_OVF
  ⟨0x620, 1, 0x0, 1, 8, cnt⟩,
  -- SU_DROP
  ⟨0x628, 1, 0x0, 1, 8, cnt⟩,
  -- SU_TABLE
  ⟨0x1000, 256, 0x10, 1, 8, [⟨63, 54, .rw, 0⟩]⟩,
  -- SU_TABLE, bits 127 to 64 of an entry (R111)
  ⟨0x1008, 256, 0x10, 1, 8, [⟨63, 0, .rw, 0⟩]⟩,
  -- SU_CLIST
  ⟨0x2000, 512, 0x8, 1, 8, [⟨63, 0, .rw, 0⟩]⟩,
  -- GSTEP_CTL
  ⟨0x3000, 1, 0x0, 1, 4, [⟨2, 2, .wo, 0⟩, ⟨1, 1, .wo, 0⟩, ⟨0, 0, .wo, 0⟩]⟩,
  -- GSTEP_CFG
  ⟨0x3004, 1, 0x0, 1, 4, [⟨19, 0, .rw, 0x2710⟩]⟩,
  -- GSTEP_STATE
  ⟨0x3008, 1, 0x0, 1, 8, [⟨63, 48, .ro, 0⟩, ⟨5, 5, .ro, 0⟩, ⟨4, 4, .ro, 0⟩, ⟨3, 0, .ro, 0⟩]⟩,
  -- GSTEP_SCAN
  ⟨0x3010, 1, 0x0, 1, 8, [⟨15, 15, .ro, 0⟩, ⟨14, 14, .w1c, 0⟩, ⟨13, 13, .ro, 0⟩, ⟨12, 4, .rw, 0⟩, ⟨3, 3, .rw, 0⟩, ⟨2, 1, .rw, 0⟩, ⟨0, 0, .wo, 0⟩]⟩,
  -- GSTEP_SCAN_ADDR
  ⟨0x3018, 1, 0x0, 1, 8, [⟨63, 0, .rw, 0⟩]⟩,
  -- GND_PEND
  ⟨0x3020, 1, 0x0, 1, 4, [⟨31, 0, .ro, 0⟩]⟩,
  -- GND_SENT
  ⟨0x3024, 1, 0x0, 1, 4, [⟨31, 0, .ro, 0⟩]⟩,
  -- GND_CTL
  ⟨0x3028, 1, 0x0, 1, 4, [⟨0, 0, .wo, 0⟩]⟩,
  -- GAL_FENCE
  ⟨0x3100, 1, 0x0, 1, 4, [⟨3, 3, .ro, 1⟩, ⟨2, 2, .ro, 1⟩, ⟨1, 1, .wo, 0⟩, ⟨0, 0, .w1s, 1⟩]⟩,
  -- GAL_RST
  ⟨0x3104, 1, 0x0, 1, 4, [⟨31, 31, .ro, 0⟩, ⟨16, 16, .wo, 0⟩, ⟨15, 0, .wo, 0⟩]⟩,
  -- GPWR
  ⟨0x3110, 1, 0x0, 1, 4, [⟨9, 9, .ro, 1⟩, ⟨8, 8, .ro, 0⟩, ⟨7, 4, .ro, 0⟩, ⟨3, 0, .ro, 0⟩]⟩,
  -- GPWR_ENERGY
  ⟨0x3118, 1, 0x0, 1, 8, cnt⟩,
  -- GBOOT_CTL
  ⟨0x3200, 1, 0x0, 1, 4, [⟨31, 31, .wo, 0⟩, ⟨30, 30, .wo, 0⟩, ⟨29, 29, .wo, 0⟩, ⟨26, 16, .wo, 0⟩, ⟨2, 0, .wo, 0⟩]⟩,
  -- GBOOT_STATUS
  ⟨0x3204, 1, 0x0, 1, 4, [⟨31, 31, .ro, 0⟩, ⟨30, 30, .ro, 0⟩, ⟨26, 16, .ro, 0⟩, ⟨15, 0, .ro, 0⟩]⟩,
  -- GBOOT_RXMAP
  ⟨0x3300, 32, 0x8, 1, 8, [⟨63, 0, .ro, 0⟩]⟩ ]

/-- All rows of block GAL. -/
def galRows : List RegRow := galRows0 ++ galRows1

/-- Rows of block LND. -/
def lndRows0 : List RegRow := [
  -- LND_ID
  ⟨0x0, 1, 0x0, 1, 4, [⟨31, 24, .ro, 1⟩, ⟨23, 16, .ro, 1⟩, ⟨12, 12, .ro, 0⟩, ⟨11, 11, .ro, 0⟩, ⟨10, 10, .ro, 0⟩, ⟨8, 0, .ro, 0⟩]⟩,
  -- LND_CFG
  ⟨0x4, 1, 0x0, 1, 4, [⟨31, 16, .rw, 0x64⟩, ⟨15, 8, .rw, 0⟩, ⟨0, 0, .rw, 0⟩]⟩,
  -- LND_STATUS
  ⟨0x8, 1, 0x0, 1, 4, [⟨4, 4, .ro, 0⟩, ⟨3, 3, .ro, 0⟩, ⟨2, 2, .ro, 0⟩, ⟨1, 1, .w1c, 0⟩, ⟨0, 0, .ro, 0⟩]⟩,
  -- LND_TBL_SEL
  ⟨0xC, 1, 0x0, 1, 4, [⟨31, 16, .wo, 0⟩, ⟨3, 3, .wo, 0⟩, ⟨2, 2, .wo, 0⟩, ⟨1, 1, .wo, 0⟩, ⟨0, 0, .ro, 0⟩]⟩,
  -- LND_FAULT_INFO
  ⟨0x10, 1, 0x0, 1, 8, [⟨47, 47, .ro, 0⟩, ⟨46, 43, .ro, 0⟩, ⟨42, 39, .ro, 0xF⟩, ⟨38, 37, .ro, 0⟩, ⟨36, 28, .ro, 0x1FF⟩, ⟨27, 12, .ro, 0⟩, ⟨11, 6, .ro, 0⟩]⟩,
  -- LND_CNT_CLR
  ⟨0x18, 1, 0x0, 1, 4, [⟨31, 0, .wo, 0⟩]⟩,
  -- LND_FLT_ARRIVE
  ⟨0x20, 1, 0x0, 1, 8, [⟨63, 58, .wo, 0⟩, ⟨57, 42, .wo, 0⟩, ⟨41, 38, .wo, 0⟩, ⟨31, 0, .wo, 0⟩]⟩,
  -- LND_RST
  ⟨0x28, 1, 0x0, 1, 4, [⟨1, 1, .ro, 0⟩, ⟨0, 0, .wo, 0⟩]⟩,
  -- LND_FLITS_OUT
  ⟨0x40, 1, 0x0, 1, 8, cnt⟩,
  -- LND_PREEMPT
  ⟨0x48, 1, 0x0, 1, 8, cnt⟩,
  -- LND_MC_PRUNED
  ⟨0x50, 1, 0x0, 1, 8, cnt⟩,
  -- LND_DISCARD
  ⟨0x58, 1, 0x0, 1, 8, cnt⟩,
  -- LND_FLT_SAT
  ⟨0x60, 1, 0x0, 1, 8, cnt⟩,
  -- LND_LINK_PERR
  ⟨0x68, 1, 0x0, 1, 8, ecnt⟩,
  -- LND_FLT_FAULT
  ⟨0x70, 1, 0x0, 1, 8, ecnt⟩,
  -- LND_FLT_GEN
  ⟨0x100, 16, 0x8, 1, 8, [⟨63, 0, .ro, 0⟩]⟩,
  -- RT
  ⟨0x1000, 2, 0x1000, 20, 8, [⟨63, 0, .rw, 0⟩]⟩,
  -- LIVE
  ⟨0x1100, 2, 0x1000, 4, 8, [⟨63, 0, .rw, 0⟩]⟩,
  -- LIVE, word 4: bits 312 to 319 of a mask are reserved (R12)
  ⟨0x1120, 2, 0x1000, 1, 8, [⟨55, 0, .rw, 0⟩]⟩,
  -- FLAG_DST
  ⟨0x1140, 2, 0x1000, 1, 8, [⟨8, 0, .rw, 0⟩]⟩,
  -- MPL
  ⟨0x1180, 2, 0x1000, 4, 8, [⟨55, 0, .rw, 0⟩]⟩ ]

/-- Rows of block LND. -/
def lndRows1 : List RegRow := [
  -- BRL
  ⟨0x11A0, 2, 0x1000, 1, 8, [⟨14, 0, .rw, 0⟩]⟩,
  -- ERL
  ⟨0x11C0, 2, 0x1000, 1, 8, [⟨51, 0, .rw, 0⟩]⟩,
  -- FT
  ⟨0x1200, 2, 0x1000, 64, 8, [⟨63, 56, .rw, 0⟩, ⟨52, 37, .rw, 0⟩]⟩,
  -- VT
  ⟨0x1400, 2, 0x1000, 80, 8, [⟨63, 63, .rw, 0⟩, ⟨56, 48, .rw, 0⟩, ⟨47, 47, .rw, 0⟩, ⟨40, 32, .rw, 0⟩, ⟨31, 31, .rw, 0⟩, ⟨24, 16, .rw, 0⟩, ⟨15, 15, .rw, 0⟩, ⟨8, 0, .rw, 0⟩]⟩,
  -- LMAP
  ⟨0x1800, 2, 0x1000, 128, 8, [⟨63, 63, .rw, 0⟩, ⟨56, 48, .rw, 0⟩, ⟨47, 47, .rw, 0⟩, ⟨40, 32, .rw, 0⟩, ⟨31, 31, .rw, 0⟩, ⟨24, 16, .rw, 0⟩, ⟨15, 15, .rw, 0⟩, ⟨8, 0, .rw, 0⟩]⟩ ]

/-- All rows of block LND. -/
def lndRows : List RegRow := lndRows0 ++ lndRows1

/-- Rows of block QB. -/
def qbRows : List RegRow := [
  -- Q_ID
  ⟨0x0, 1, 0x0, 1, 4, [⟨31, 24, .ro, 1⟩, ⟨23, 16, .ro, 1⟩, ⟨3, 0, .ro, 0⟩]⟩,
  -- Q_TMO
  ⟨0x8, 1, 0x0, 1, 8, [⟨47, 32, .rw, 0x14⟩, ⟨31, 16, .rw, 0x64⟩, ⟨15, 0, .rw, 0x1F4⟩]⟩,
  -- Q_EPOCH
  ⟨0x10, 1, 0x0, 1, 4, [⟨8, 4, .ro, 0⟩, ⟨3, 0, .ro, 0⟩]⟩,
  -- Q_CNT_CLR
  ⟨0x18, 1, 0x0, 1, 4, [⟨17, 16, .wo, 0⟩, ⟨5, 0, .wo, 0⟩]⟩,
  -- Q_HANG_INFO
  ⟨0x20, 1, 0x0, 1, 8, [⟨63, 48, .ro, 0⟩, ⟨47, 42, .ro, 0⟩, ⟨41, 38, .ro, 0⟩, ⟨37, 22, .ro, 0⟩, ⟨21, 21, .ro, 0⟩]⟩,
  -- Q_HANG_TGT
  ⟨0x28, 1, 0x0, 1, 8, [⟨63, 0, .ro, 0⟩]⟩,
  -- Q_ND_ORDER
  ⟨0x40, 1, 0x0, 1, 8, cnt⟩,
  -- Q_ND_RAW
  ⟨0x48, 1, 0x0, 1, 8, cnt⟩,
  -- Q_STALE
  ⟨0x50, 1, 0x0, 1, 8, cnt⟩,
  -- Q_DRAINED
  ⟨0x58, 1, 0x0, 1, 8, ecnt⟩,
  -- Q_REFUSED
  ⟨0x60, 1, 0x0, 1, 8, ecnt⟩,
  -- Q_DRAIN_CTL
  ⟨0x80, 1, 0x0, 1, 4, [⟨31, 31, .wo, 0⟩, ⟨4, 0, .ro, 0⟩]⟩,
  -- Q_CFG
  ⟨0x100, 16, 0x8, 1, 8, [⟨63, 63, .rw, 0⟩, ⟨62, 62, .rw, 0⟩, ⟨61, 61, .rw, 0⟩, ⟨60, 60, .rw, 0⟩, ⟨59, 59, .rw, 0⟩, ⟨58, 58, .rw, 0⟩, ⟨57, 57, .rw, 0⟩, ⟨51, 44, .rw, 8⟩, ⟨23, 16, .rw, 0⟩, ⟨8, 0, .rw, 0⟩]⟩,
  -- Q_RING
  ⟨0x180, 16, 0x8, 1, 8, [⟨21, 12, .rw, 0⟩, ⟨4, 0, .rw, 0xC⟩]⟩,
  -- Q_STATE
  ⟨0x200, 16, 0x8, 1, 8, [⟨63, 0, .ro, 0⟩]⟩,
  -- Q_MSGS/Q_BYTES/Q_ESTALL
  ⟨0x400, 16, 0x20, 3, 8, cnt⟩,
  -- CH_TGT/CH_STATE
  ⟨0x800, 64, 0x40, 2, 8, [⟨63, 0, .ro, 0⟩]⟩,
  -- CH_MSGS/CH_BYTES/CH_CSTALL
  ⟨0x810, 64, 0x40, 3, 8, cnt⟩,
  -- Q_DRAINQ
  ⟨0x1800, 128, 0x8, 1, 8, [⟨63, 0, .ro, 0⟩]⟩,
  -- MCS
  ⟨0x1C00, 64, 0x8, 1, 8, [⟨63, 0, .ro, 0⟩]⟩ ]

/-- Rows of block DEV. -/
def devRows : List RegRow := [
  -- DEV_ID
  ⟨0x0, 1, 0x0, 1, 4, idv⟩,
  -- DEV_PART
  ⟨0x4, 1, 0x0, 1, 4, [⟨31, 28, .ro, 1⟩, ⟨27, 12, .ro, 0⟩]⟩,
  -- DEV_SERIAL
  ⟨0x8, 1, 0x0, 1, 8, [⟨63, 0, .ro, 0⟩]⟩,
  -- DEV_FUSE
  ⟨0x10, 1, 0x0, 1, 8, [⟨55, 48, .ro, 0⟩, ⟨47, 40, .ro, 0⟩, ⟨39, 32, .ro, 0⟩, ⟨0, 0, .ro, 0⟩]⟩,
  -- BOOT_STATUS
  ⟨0x18, 1, 0x0, 1, 4, [⟨15, 12, .ro, 0⟩, ⟨11, 10, .ro, 0⟩, ⟨9, 7, .ro, 0⟩, ⟨3, 0, .ro, 0⟩]⟩,
  -- BOOT_READY
  ⟨0x20, 1, 0x0, 1, 8, [⟨63, 0, .ro, 0⟩]⟩,
  -- DEV_GAL_OFF
  ⟨0x40, 5, 0x8, 1, 8, [⟨63, 0, .ro, 0⟩]⟩,
  -- MAP_DIR
  ⟨0x100, 35, 0x4, 1, 4, [⟨31, 0, .ro, 0⟩]⟩ ]

/-- Rows of block SEC. -/
def secRows : List RegRow := [
  -- SEC_ID
  ⟨0x0, 1, 0x0, 1, 4, idv⟩,
  -- SEC_STATUS
  ⟨0x4, 1, 0x0, 1, 4, [⟨12, 8, .ro, 0⟩, ⟨7, 7, .ro, 0⟩, ⟨6, 6, .ro, 0⟩, ⟨5, 5, .ro, 0⟩, ⟨4, 4, .ro, 0⟩, ⟨3, 3, .ro, 0⟩, ⟨1, 0, .ro, 0⟩]⟩,
  -- SEC_CTL
  ⟨0x8, 1, 0x0, 1, 4, [⟨0, 0, .wo, 0⟩]⟩,
  -- SEC_FLOOR
  ⟨0x10, 1, 0x0, 1, 4, [⟨31, 0, .rw, 0⟩]⟩,
  -- SEC_BOOTS
  ⟨0x18, 1, 0x0, 1, 8, [⟨63, 0, .ro, 0⟩]⟩,
  -- SEC_DBG_NONCE
  ⟨0x20, 4, 0x8, 1, 8, [⟨63, 0, .ro, 0⟩]⟩,
  -- SEC_MB_CTL
  ⟨0x40, 1, 0x0, 1, 4, [⟨31, 24, .rw, 0⟩, ⟨23, 1, .rw, 0⟩, ⟨0, 0, .wo, 0⟩]⟩,
  -- SEC_MB_STATUS
  ⟨0x44, 1, 0x0, 1, 4, [⟨31, 24, .ro, 0⟩, ⟨23, 1, .ro, 0⟩, ⟨0, 0, .ro, 0⟩]⟩,
  -- SEC_REQ_BUF
  ⟨0x20000, 65536, 0x8, 1, 8, [⟨63, 0, .rw, 0⟩]⟩,
  -- SEC_RSP_BUF
  ⟨0xA0000, 8192, 0x8, 1, 8, [⟨63, 0, .ro, 0⟩]⟩ ]

/-- Rows of block RST. -/
def rstRows : List RegRow := [
  -- RST_ID
  ⟨0x0, 1, 0x0, 1, 4, idv⟩,
  -- RST_CTL
  ⟨0x4, 1, 0x0, 1, 4, [⟨2, 2, .wo, 0⟩, ⟨1, 1, .wo, 0⟩, ⟨0, 0, .wo, 0⟩]⟩,
  -- RST_STATUS
  ⟨0x8, 1, 0x0, 1, 4, [⟨31, 16, .ro, 0⟩, ⟨11, 8, .ro, 0⟩, ⟨7, 4, .ro, 0⟩, ⟨3, 3, .ro, 0⟩, ⟨2, 2, .ro, 0⟩, ⟨1, 1, .ro, 0⟩, ⟨0, 0, .ro, 0⟩]⟩,
  -- RST_CNT_CLR
  ⟨0xC, 1, 0x0, 1, 4, [⟨31, 0, .wo, 0⟩]⟩,
  -- RST_TMO
  ⟨0x10, 1, 0x0, 1, 8, [⟨63, 58, .rw, 0xF⟩, ⟨57, 52, .rw, 0xA⟩, ⟨51, 44, .rw, 0x14⟩, ⟨43, 36, .rw, 1⟩, ⟨35, 24, .rw, 0xC8⟩, ⟨23, 12, .rw, 0x64⟩, ⟨7, 0, .rw, 0xA⟩]⟩,
  -- RST_UPTIME
  ⟨0x18, 1, 0x0, 1, 8, [⟨63, 0, .ro, 0⟩]⟩,
  -- RST_HIST
  ⟨0x20, 4, 0x8, 1, 8, [⟨63, 0, .ro, 0⟩]⟩,
  -- RST_MERGED
  ⟨0x40, 1, 0x0, 1, 8, cnt⟩,
  -- SNAP_FAB_BAD
  ⟨0x48, 1, 0x0, 1, 8, cnt⟩,
  -- CP_WD
  ⟨0x60, 4, 0x4, 1, 4, [⟨31, 31, .w1s, 0⟩, ⟨30, 30, .wo, 0⟩, ⟨15, 0, .rw, 0x64⟩]⟩,
  -- SNAP_CFG
  ⟨0x80, 1, 0x0, 1, 8, [⟨63, 32, .rw, 0⟩, ⟨31, 16, .rw, 0xA⟩, ⟨15, 13, .rw, 4⟩, ⟨6, 6, .rw, 0⟩, ⟨5, 5, .rw, 0⟩, ⟨4, 4, .rw, 1⟩, ⟨3, 3, .rw, 1⟩, ⟨2, 2, .rw, 1⟩, ⟨1, 1, .rw, 1⟩]⟩,
  -- SNAP_STATUS
  ⟨0x88, 1, 0x0, 1, 4, [⟨15, 8, .ro, 0⟩, ⟨4, 4, .ro, 0⟩, ⟨3, 1, .ro, 0⟩, ⟨0, 0, .ro, 0⟩]⟩,
  -- SNAP_CTL
  ⟨0x8C, 1, 0x0, 1, 4, [⟨1, 1, .wo, 0⟩, ⟨0, 0, .wo, 0⟩]⟩,
  -- SNAP_TIME
  ⟨0x90, 1, 0x0, 1, 8, [⟨63, 0, .ro, 0⟩]⟩,
  -- SNAP_PEER
  ⟨0xA0, 16, 0x4, 1, 4, [⟨16, 0, .rw, 0⟩]⟩,
  -- DUMP_CFG
  ⟨0xE0, 1, 0x0, 1, 4, [⟨31, 16, .rw, 0xA⟩, ⟨1, 1, .rw, 1⟩, ⟨0, 0, .rw, 1⟩]⟩,
  -- DUMP_CTL
  ⟨0xE4, 1, 0x0, 1, 4, [⟨0, 0, .wo, 0⟩]⟩,
  -- DUMP_ADDR
  ⟨0xE8, 1, 0x0, 1, 8, [⟨63, 0, .rw, 0⟩]⟩,
  -- DUMP_STATUS
  ⟨0xF0, 1, 0x0, 1, 4, [⟨17, 2, .ro, 0⟩, ⟨1, 1, .ro, 0⟩, ⟨0, 0, .ro, 0⟩]⟩ ]

/-- Rows of block FLT. -/
def fltRows : List RegRow := [
  -- FLT_ID
  ⟨0x0, 1, 0x0, 1, 4, idv⟩,
  -- FLT_CFG
  ⟨0x4, 1, 0x0, 1, 4, [⟨31, 16, .rw, 0x2D0⟩, ⟨15, 12, .rw, 2⟩, ⟨11, 10, .rw, 3⟩, ⟨9, 2, .rw, 0x10⟩, ⟨0, 0, .rw, 1⟩]⟩,
  -- FLT_STATUS
  ⟨0x8, 1, 0x0, 1, 4, [⟨31, 27, .ro, 0⟩, ⟨26, 22, .ro, 0⟩, ⟨20, 12, .ro, 0⟩, ⟨11, 11, .ro, 0⟩]⟩,
  -- FLT_CNT_CLR
  ⟨0xC, 1, 0x0, 1, 4, [⟨31, 0, .wo, 0⟩]⟩,
  -- FLT_ESN
  ⟨0x10, 1, 0x0, 1, 4, [⟨31, 0, .ro, 0⟩]⟩,
  -- FLT_DEFMAP
  ⟨0x18, 1, 0x0, 1, 8, [⟨63, 0, .ro, 0⟩]⟩,
  -- FLT_RECORDS
  ⟨0x40, 1, 0x0, 1, 8, cnt⟩,
  -- FLT_SUPPRESSED
  ⟨0x48, 1, 0x0, 1, 8, cnt⟩,
  -- FLT_REMAPS
  ⟨0x50, 1, 0x0, 1, 8, cnt⟩,
  -- FLT_STRIKES
  ⟨0x58, 1, 0x0, 1, 8, cnt⟩,
  -- FLT_DEFMAP_FAIL
  ⟨0x60, 1, 0x0, 1, 8, ecnt⟩,
  -- FLT_MAP
  ⟨0x1000, 1024, 0x8, 1, 8, [⟨63, 0, .ro, 0⟩]⟩,
  -- FLT_PSTATE
  ⟨0x3000, 40, 0x8, 1, 8, [⟨63, 0, .ro, 0⟩]⟩ ]

/-- Rows of block ST. -/
def stRows : List RegRow := [
  -- ST_ID
  ⟨0x0, 1, 0x0, 1, 4, idv⟩,
  -- ST_CFG
  ⟨0x4, 1, 0x0, 1, 4, [⟨31, 16, .rw, 0x3E8⟩, ⟨2, 2, .rw, 1⟩, ⟨1, 1, .rw, 0⟩, ⟨0, 0, .rw, 0⟩]⟩,
  -- ST_CNT_CLR
  ⟨0x8, 1, 0x0, 1, 4, [⟨31, 0, .wo, 0⟩]⟩,
  -- ST_LOG_HEAD
  ⟨0xC, 1, 0x0, 1, 4, [⟨31, 0, .ro, 0⟩]⟩,
  -- ST_SEED
  ⟨0x10, 1, 0x0, 1, 8, [⟨63, 0, .rw, 0⟩]⟩,
  -- ST_HALF
  ⟨0x20, 2, 0x8, 1, 8, [⟨44, 40, .ro, 0⟩, ⟨39, 36, .ro, 0xF⟩, ⟨35, 32, .ro, 0⟩, ⟨31, 27, .ro, 0⟩, ⟨26, 18, .ro, 0x1FF⟩, ⟨17, 9, .ro, 0⟩, ⟨8, 0, .ro, 0x1FF⟩]⟩,
  -- ST_MOVES0
  ⟨0x40, 1, 0x0, 1, 8, cnt⟩,
  -- ST_PASSES0
  ⟨0x48, 1, 0x0, 1, 8, cnt⟩,
  -- ST_TRANSIENT0
  ⟨0x50, 1, 0x0, 1, 8, cnt⟩,
  -- ST_FAILS0
  ⟨0x58, 1, 0x0, 1, 8, ecnt⟩,
  -- ST_SKIPS0
  ⟨0x60, 1, 0x0, 1, 8, cnt⟩,
  -- ST_SWEEPS0
  ⟨0x68, 1, 0x0, 1, 8, cnt⟩,
  -- ST_MOVES1
  ⟨0x80, 1, 0x0, 1, 8, cnt⟩,
  -- ST_PASSES1
  ⟨0x88, 1, 0x0, 1, 8, cnt⟩,
  -- ST_TRANSIENT1
  ⟨0x90, 1, 0x0, 1, 8, cnt⟩,
  -- ST_FAILS1
  ⟨0x98, 1, 0x0, 1, 8, ecnt⟩,
  -- ST_SKIPS1
  ⟨0xA0, 1, 0x0, 1, 8, cnt⟩,
  -- ST_SWEEPS1
  ⟨0xA8, 1, 0x0, 1, 8, cnt⟩,
  -- ST_LOG
  ⟨0x10000, 65536, 0x8, 1, 8, [⟨63, 0, .ro, 0⟩]⟩ ]

/-- Rows of block SEQ. -/
def seqRows : List RegRow := [
  -- SEQ_ID
  ⟨0x0, 1, 0x0, 1, 4, idv⟩,
  -- SEQ_CFG
  ⟨0x4, 1, 0x0, 1, 4, [⟨31, 16, .rw, 0x64⟩, ⟨10, 8, .rw, 2⟩, ⟨0, 0, .rw, 0⟩]⟩,
  -- SEQ_STATUS
  ⟨0x8, 1, 0x0, 1, 4, [⟨31, 24, .ro, 0xFF⟩, ⟨19, 16, .ro, 0⟩, ⟨4, 4, .ro, 0⟩, ⟨3, 0, .ro, 0⟩]⟩,
  -- SEQ_CTL
  ⟨0xC, 1, 0x0, 1, 4, [⟨3, 3, .wo, 0⟩, ⟨2, 2, .wo, 0⟩, ⟨1, 1, .wo, 0⟩, ⟨0, 0, .wo, 0⟩]⟩,
  -- SEQ_WD
  ⟨0x10, 1, 0x0, 1, 8, [⟨47, 32, .rw, 0x32⟩, ⟨19, 0, .rw, 0x2710⟩]⟩,
  -- SEQ_STEP
  ⟨0x18, 1, 0x0, 1, 8, [⟨63, 0, .ro, 0⟩]⟩,
  -- SEQ_COMMITTED
  ⟨0x20, 1, 0x0, 1, 8, [⟨63, 0, .ro, 0⟩]⟩,
  -- SEQ_CNT_CLR
  ⟨0x28, 1, 0x0, 1, 4, [⟨31, 0, .wo, 0⟩]⟩,
  -- SEQ_REEXECS
  ⟨0x40, 1, 0x0, 1, 8, cnt⟩,
  -- SEQ_WD_TRIPS
  ⟨0x48, 1, 0x0, 1, 8, ecnt⟩ ]

/-- Rows of block ND. -/
def ndRows : List RegRow := [
  -- ND_ID
  ⟨0x0, 1, 0x0, 1, 4, idv⟩,
  -- ND_STATUS
  ⟨0x4, 1, 0x0, 1, 4, [⟨4, 4, .ro, 0⟩, ⟨3, 3, .ro, 0⟩, ⟨2, 2, .ro, 0⟩, ⟨1, 1, .ro, 0⟩, ⟨0, 0, .ro, 0⟩]⟩,
  -- ND_TOTAL
  ⟨0x8, 1, 0x0, 1, 8, cnt⟩,
  -- ND_STEP
  ⟨0x10, 1, 0x0, 1, 8, [⟨63, 0, .ro, 0⟩]⟩,
  -- DIG_STATUS
  ⟨0x18, 1, 0x0, 1, 8, [⟨41, 1, .ro, 0⟩, ⟨0, 0, .ro, 0⟩]⟩ ]

/-- Rows of block MEM. -/
def memRows : List RegRow := [
  -- MEM_ID
  ⟨0x0, 1, 0x0, 1, 4, idv⟩,
  -- MEM_STACKS
  ⟨0x4, 1, 0x0, 1, 4, [⟨15, 8, .ro, 0⟩, ⟨7, 0, .ro, 0⟩]⟩,
  -- MEM_DDR
  ⟨0x8, 1, 0x0, 1, 4, [⟨23, 16, .ro, 0⟩, ⟨15, 8, .ro, 0⟩, ⟨7, 7, .ro, 0⟩, ⟨0, 0, .rw, 0⟩]⟩,
  -- MEM_IRGN_LO
  ⟨0x100, 16, 0x10, 1, 8, [⟨63, 49, .rw, 0⟩, ⟨27, 0, .rw, 0⟩]⟩,
  -- MEM_IRGN_HI
  ⟨0x108, 16, 0x10, 1, 8, [⟨52, 0, .rw, 0⟩]⟩,
  -- MEMC_ID
  ⟨0x1000, 16, 0x100, 1, 4, idv⟩,
  -- MEMC_CFG
  ⟨0x1004, 16, 0x100, 1, 4, [⟨31, 24, .rw, 0x5F⟩, ⟨23, 16, .rw, 0x18⟩, ⟨15, 12, .rw, 0⟩, ⟨0, 0, .rw, 0⟩]⟩,
  -- MEMC_STATUS
  ⟨0x1008, 16, 0x100, 1, 4, [⟨31, 24, .ro, 0⟩, ⟨4, 4, .ro, 0⟩, ⟨3, 3, .ro, 0⟩, ⟨2, 2, .ro, 0⟩, ⟨1, 1, .ro, 0⟩, ⟨0, 0, .ro, 0⟩]⟩,
  -- MEMC_CNT_CLR
  ⟨0x100C, 16, 0x100, 1, 4, [⟨31, 0, .wo, 0⟩]⟩,
  -- MEMC_ERR_INFO
  ⟨0x1010, 16, 0x100, 1, 8, [⟨47, 47, .ro, 0⟩, ⟨46, 43, .ro, 0⟩, ⟨42, 37, .ro, 0⟩, ⟨36, 28, .ro, 0x1FF⟩, ⟨27, 24, .ro, 0xF⟩, ⟨23, 20, .ro, 0xF⟩]⟩,
  -- MEMC_ERR_ADDR
  ⟨0x1018, 16, 0x100, 1, 8, [⟨63, 0, .ro, 0⟩]⟩,
  -- MEMC_FENCE
  ⟨0x1020, 16, 0x100, 1, 8, [⟨63, 0, .ro, 0⟩]⟩,
  -- MEMC_CE/MEMC_UE/MEMC_UE_RECOVERED/MEMC_GUARD_REJ
  ⟨0x1040, 16, 0x100, 4, 8, ecnt⟩,
  -- MEMC_RCB_HITS/MEMC_RCB_FULL/MEMC_ND_ATOMIC/MEMC_RD_LINES/MEMC_WR_LINES
  ⟨0x1060, 16, 0x100, 5, 8, cnt⟩,
  -- MEMC_GUARD
  ⟨0x4000, 16, 0x400, 128, 8, [⟨63, 0, .ro, 0⟩]⟩ ]

/-- Rows of block MESH. -/
def meshRows : List RegRow := [
  -- MESH_ID
  ⟨0x0, 1, 0x0, 1, 4, idv⟩,
  -- MESH_DIST_GEN
  ⟨0x8, 1, 0x0, 1, 8, [⟨63, 0, .ro, 0⟩]⟩,
  -- MESH_DIST
  ⟨0x10000, 8192, 0x8, 1, 8, [⟨63, 0, .ro, 0⟩]⟩ ]

/-- Rows of block PORT. -/
def portRows : List RegRow := [
  -- FAB_PORT_CFG
  ⟨0x0, 1, 0x0, 1, 4, [⟨31, 16, .rw, 0xC8⟩, ⟨15, 12, .rw, 4⟩, ⟨2, 2, .rw, 0⟩, ⟨1, 1, .rw, 1⟩, ⟨0, 0, .rw, 0⟩]⟩,
  -- FAB_PORT_STATUS
  ⟨0x4, 1, 0x0, 1, 4, [⟨15, 12, .ro, 0⟩, ⟨11, 8, .ro, 0⟩, ⟨7, 5, .ro, 7⟩, ⟨4, 4, .ro, 0⟩, ⟨3, 0, .ro, 0⟩]⟩,
  -- FAB_PORT_CTL
  ⟨0x8, 1, 0x0, 1, 4, [⟨1, 1, .wo, 0⟩, ⟨0, 0, .wo, 0⟩]⟩,
  -- FAB_PORT_CNT_CLR
  ⟨0xC, 1, 0x0, 1, 4, [⟨31, 0, .wo, 0⟩]⟩,
  -- FAB_PORT_PEER
  ⟨0x10, 1, 0x0, 1, 8, [⟨55, 40, .ro, 0⟩, ⟨39, 34, .ro, 0⟩, ⟨33, 30, .ro, 0⟩, ⟨29, 26, .ro, 0xF⟩, ⟨25, 25, .ro, 0⟩]⟩,
  -- FAB_PORT_FAULT_INFO
  ⟨0x18, 1, 0x0, 1, 8, [⟨63, 48, .ro, 0⟩, ⟨47, 47, .ro, 0⟩, ⟨46, 43, .ro, 0⟩, ⟨42, 39, .ro, 0⟩]⟩,
  -- FAB_PORT_VLCRED
  ⟨0x20, 1, 0x0, 1, 8, [⟨63, 0, .rw, 0x1010101010101010⟩]⟩,
  -- LNK_TX_FRAMES
  ⟨0x40, 1, 0x0, 1, 8, cnt⟩,
  -- LNK_RX_FRAMES
  ⟨0x48, 1, 0x0, 1, 8, cnt⟩,
  -- LNK_REPLAYS
  ⟨0x50, 1, 0x0, 1, 8, cnt⟩,
  -- LNK_CRC_ERR
  ⟨0x58, 1, 0x0, 1, 8, ecnt⟩,
  -- LNK_FEC_UNCORR
  ⟨0x60, 1, 0x0, 1, 8, ecnt⟩,
  -- LNK_POISON
  ⟨0x68, 1, 0x0, 1, 8, ecnt⟩,
  -- LNK_LOS
  ⟨0x70, 1, 0x0, 1, 8, ecnt⟩,
  -- LNK_FEC_SYM0
  ⟨0x78, 1, 0x0, 1, 8, cnt⟩,
  -- LNK_FEC_SYM1
  ⟨0x80, 1, 0x0, 1, 8, cnt⟩,
  -- LNK_FEC_SYM2
  ⟨0x88, 1, 0x0, 1, 8, cnt⟩,
  -- LNK_FEC_SYM3
  ⟨0x90, 1, 0x0, 1, 8, cnt⟩ ]

/-- Rows of block FABC. -/
def fabcRows : List RegRow := [
  -- FAB_QUAL
  ⟨0x0, 1, 0x0, 1, 8, [⟨31, 16, .rw, 0xC28D⟩, ⟨15, 0, .rw, 0x1036⟩]⟩,
  -- FAB_LATCH
  ⟨0x8, 1, 0x0, 1, 4, [⟨23, 16, .ro, 0⟩, ⟨15, 8, .w1c, 0⟩, ⟨7, 0, .ro, 0⟩]⟩,
  -- FAB_TOPO
  ⟨0x10, 1, 0x0, 1, 8, [⟨48, 48, .rw, 0⟩, ⟨47, 32, .rw, 0⟩, ⟨20, 16, .rw, 0⟩, ⟨12, 8, .rw, 0⟩, ⟨5, 0, .rw, 0⟩]⟩,
  -- FAB_RT_CFG
  ⟨0x18, 1, 0x0, 1, 4, [⟨31, 16, .rw, 0x64⟩, ⟨15, 4, .rw, 0x32⟩, ⟨0, 0, .rw, 0⟩]⟩,
  -- FAB_TP_CFG
  ⟨0x20, 1, 0x0, 1, 8, [⟨63, 48, .rw, 0xC8⟩, ⟨47, 44, .rw, 8⟩, ⟨43, 40, .rw, 2⟩, ⟨39, 29, .rw, 0x400⟩, ⟨28, 21, .rw, 0x10⟩, ⟨20, 8, .rw, 0xC8⟩, ⟨7, 0, .rw, 0x64⟩]⟩,
  -- FAB_TIME_CFG
  ⟨0x28, 1, 0x0, 1, 8, [⟨63, 63, .rw, 0⟩, ⟨62, 60, .rw, 7⟩, ⟨59, 56, .rw, 0xF⟩, ⟨55, 40, .rw, 0x64⟩]⟩,
  -- FAB_TIME_STATUS
  ⟨0x30, 1, 0x0, 1, 8, [⟨47, 32, .ro, 0⟩, ⟨1, 0, .ro, 0⟩]⟩,
  -- FAB_ORDER
  ⟨0x38, 1, 0x0, 1, 4, [⟨8, 8, .ro, 0⟩, ⟨3, 0, .rw, 3⟩]⟩,
  -- FAB_ORDER_NO
  ⟨0x40, 1, 0x0, 1, 8, [⟨63, 0, .ro, 0⟩]⟩ ]

/-- Rows of block ER. -/
def erRows : List RegRow := [
  -- ER_ID
  ⟨0x0, 1, 0x0, 1, 4, idv⟩,
  -- ER_CNT_CLR
  ⟨0x8, 1, 0x0, 1, 4, [⟨31, 0, .wo, 0⟩]⟩,
  -- ER_PKT_BAD
  ⟨0x40, 1, 0x0, 1, 8, ecnt⟩,
  -- ER_ECRC_ERR
  ⟨0x48, 1, 0x0, 1, 8, ecnt⟩,
  -- ER_DWELL_DROP
  ⟨0x50, 1, 0x0, 1, 8, cnt⟩,
  -- ER_TP_DUP
  ⟨0x58, 1, 0x0, 1, 8, cnt⟩,
  -- ER_TP_OUTWIN
  ⟨0x60, 1, 0x0, 1, 8, cnt⟩,
  -- ER_TP_RETX
  ⟨0x68, 1, 0x0, 1, 8, cnt⟩,
  -- ER_CTX_WAIT
  ⟨0x70, 1, 0x0, 1, 8, cnt⟩,
  -- ER_UNREACH
  ⟨0x78, 1, 0x0, 1, 8, ecnt⟩,
  -- ER_BAR_LATE
  ⟨0x80, 1, 0x0, 1, 8, cnt⟩,
  -- ER_BAR_FAULT
  ⟨0x88, 1, 0x0, 1, 8, ecnt⟩,
  -- ER_LOST_DROP
  ⟨0x90, 1, 0x0, 1, 8, cnt⟩,
  -- ER_ORDER_REJ
  ⟨0x98, 1, 0x0, 1, 8, ecnt⟩,
  -- FAB_BAR
  ⟨0x100, 16, 0x20, 1, 8, [⟨63, 58, .rw, 0⟩, ⟨47, 0, .rw, 0⟩]⟩,
  -- FAB_BAR, children 0 to 3
  ⟨0x108, 16, 0x20, 1, 8, [⟨63, 0, .rw, 0⟩]⟩,
  -- FAB_BAR, children 4 and 5
  ⟨0x110, 16, 0x20, 1, 8, [⟨31, 0, .rw, 0⟩]⟩,
  -- FAB_BAR_GEN
  ⟨0x118, 16, 0x20, 1, 8, [⟨63, 48, .ro, 0⟩]⟩,
  -- ER_MCS
  ⟨0x400, 4, 0x200, 49, 8, [⟨63, 0, .ro, 0⟩]⟩,
  -- ER_GROUP
  ⟨0x10000, 1024, 0x40, 1, 8, [⟨63, 28, .rw, 0⟩]⟩,
  -- ER_GROUP, the local queue name
  ⟨0x10008, 1024, 0x40, 1, 8, [⟨63, 0, .rw, 0⟩]⟩,
  -- ER_GROUP, the children
  ⟨0x10010, 1024, 0x40, 6, 8, [⟨63, 28, .rw, 0⟩]⟩ ]

/-- Rows of block SCL. -/
def sclRows0 : List RegRow := [
  -- SCL_ID
  ⟨0x0, 1, 0x0, 1, 4, idv⟩,
  -- SCL_CFG
  ⟨0x4, 1, 0x0, 1, 4, [⟨31, 16, .rw, 0x7D0⟩, ⟨13, 8, .rw, 0⟩, ⟨1, 1, .rw, 0⟩, ⟨0, 0, .rw, 0⟩]⟩,
  -- SCL_STATUS
  ⟨0x8, 1, 0x0, 1, 4, [⟨7, 4, .ro, 0⟩, ⟨2, 0, .ro, 0⟩]⟩,
  -- SCL_CNT_CLR
  ⟨0xC, 1, 0x0, 1, 4, [⟨31, 0, .wo, 0⟩]⟩,
  -- SCL_JRNL_BASE
  ⟨0x10, 1, 0x0, 1, 8, [⟨63, 12, .rw, 0⟩]⟩,
  -- SCL_JRNL_CFG
  ⟨0x18, 1, 0x0, 1, 4, [⟨31, 31, .rw, 0⟩, ⟨4, 0, .rw, 0xC⟩]⟩,
  -- SCL_JOB_ADDR
  ⟨0x20, 1, 0x0, 1, 8, [⟨63, 6, .rw, 0⟩]⟩,
  -- SCL_VLCRED
  ⟨0x28, 1, 0x0, 1, 8, [⟨63, 0, .rw, 0x81010281818⟩]⟩,
  -- SCL_FAULT_INFO
  ⟨0x30, 1, 0x0, 1, 8, [⟨63, 48, .ro, 0⟩, ⟨47, 47, .ro, 0⟩, ⟨46, 43, .ro, 0⟩, ⟨42, 27, .ro, 0⟩]⟩,
  -- SCL_DESC_ACC
  ⟨0x40, 1, 0x0, 1, 8, cnt⟩,
  -- SCL_CPL_WR
  ⟨0x48, 1, 0x0, 1, 8, cnt⟩,
  -- SCL_ERR_DROP
  ⟨0x50, 1, 0x0, 1, 8, ecnt⟩,
  -- SCL_DB_BAD
  ⟨0x58, 1, 0x0, 1, 8, ecnt⟩,
  -- SCL_MSG_BAD
  ⟨0x60, 1, 0x0, 1, 8, ecnt⟩,
  -- SCL_CRC_ERR
  ⟨0x68, 1, 0x0, 1, 8, ecnt⟩,
  -- SCL_REPLAYS
  ⟨0x70, 1, 0x0, 1, 8, cnt⟩,
  -- SCL_SNOOPS
  ⟨0x78, 1, 0x0, 1, 8, cnt⟩,
  -- SCL_CR_BASE
  ⟨0x400, 64, 0x10, 1, 8, [⟨63, 12, .rw, 0⟩]⟩,
  -- SCL_CR_CFG
  ⟨0x408, 64, 0x10, 1, 4, [⟨31, 31, .rw, 0⟩, ⟨30, 30, .rw, 0⟩, ⟨29, 24, .rw, 0⟩, ⟨4, 0, .rw, 6⟩]⟩,
  -- SCL_CPR_BASE
  ⟨0x800, 64, 0x10, 1, 8, [⟨63, 12, .rw, 0⟩]⟩ ]

/-- Rows of block SCL. -/
def sclRows1 : List RegRow := [
  -- SCL_CPR_CFG
  ⟨0x808, 64, 0x10, 1, 8, [⟨63, 63, .rw, 0⟩, ⟨47, 32, .rw, 0⟩, ⟨31, 16, .rw, 0⟩, ⟨15, 8, .rw, 1⟩, ⟨4, 0, .rw, 6⟩]⟩,
  -- SCL_CMD_DB
  ⟨0x1000, 64, 0x8, 1, 4, [⟨31, 0, .wo, 0⟩]⟩,
  -- SCL_CPL_DB
  ⟨0x1200, 64, 0x8, 1, 4, [⟨31, 0, .wo, 0⟩]⟩ ]

/-- All rows of block SCL. -/
def sclRows : List RegRow := sclRows0 ++ sclRows1

/-- Rows of block IC. -/
def icRows : List RegRow := [
  -- IC_ID
  ⟨0x0, 1, 0x0, 1, 4, idv⟩,
  -- IC_CTL
  ⟨0x4, 1, 0x0, 1, 4, [⟨0, 0, .rw, 0⟩]⟩,
  -- IC_CNT_CLR
  ⟨0xC, 1, 0x0, 1, 4, [⟨31, 0, .wo, 0⟩]⟩,
  -- IC_DELIV0
  ⟨0x40, 1, 0x0, 1, 8, cnt⟩,
  -- IC_DELIV1
  ⟨0x48, 1, 0x0, 1, 8, cnt⟩,
  -- IC_DELIV2
  ⟨0x50, 1, 0x0, 1, 8, cnt⟩,
  -- IC_DELIV3
  ⟨0x58, 1, 0x0, 1, 8, cnt⟩,
  -- IC_MERGED
  ⟨0x60, 1, 0x0, 1, 8, cnt⟩,
  -- IC_CP_CLAIM
  ⟨0x100, 4, 0x40, 1, 4, [⟨9, 0, .rc, 0⟩]⟩,
  -- IC_CP_THRESH
  ⟨0x104, 4, 0x40, 1, 4, [⟨3, 0, .rw, 0⟩]⟩,
  -- IC_CP_SWI
  ⟨0x108, 4, 0x40, 1, 4, [⟨15, 0, .w1s, 0⟩]⟩,
  -- IC_CP_STATUS
  ⟨0x10C, 4, 0x40, 1, 4, [⟨11, 7, .ro, 0⟩, ⟨6, 2, .ro, 0x1F⟩, ⟨1, 1, .ro, 0⟩, ⟨0, 0, .ro, 0⟩]⟩,
  -- IC_CP_CTL
  ⟨0x110, 4, 0x40, 1, 4, [⟨1, 1, .ro, 0⟩, ⟨0, 0, .rw, 0⟩]⟩,
  -- IC_CP_VBASE
  ⟨0x118, 4, 0x40, 1, 8, [⟨18, 10, .rw, 0⟩]⟩,
  -- IC_CP_TCMP
  ⟨0x120, 4, 0x40, 1, 8, [⟨63, 0, .rw, 0⟩]⟩,
  -- IC_CP_MOD
  ⟨0x804, 4, 0x40, 7, 4, [⟨15, 0, .rw, 0⟩]⟩,
  -- IC_SRC_PRIV
  ⟨0x1000, 4, 0x100, 64, 4, [⟨31, 31, .w1c, 0⟩, ⟨30, 30, .wo, 0⟩, ⟨29, 29, .ro, 0⟩, ⟨28, 28, .rw, 1⟩, ⟨27, 26, .rw, 0⟩, ⟨25, 23, .rw, 0⟩, ⟨22, 19, .rw, 0⟩]⟩,
  -- IC_SRC
  ⟨0x2000, 512, 0x4, 1, 4, [⟨31, 31, .w1c, 0⟩, ⟨30, 30, .wo, 0⟩, ⟨29, 29, .ro, 0⟩, ⟨28, 28, .rw, 1⟩, ⟨27, 26, .rw, 0⟩, ⟨25, 23, .rw, 0⟩, ⟨22, 19, .rw, 0⟩]⟩ ]

/-- Rows of block PWR. -/
def pwrRows : List RegRow := [
  -- PWR_ID
  ⟨0x0, 1, 0x0, 1, 4, idv⟩,
  -- PWR_CFG
  ⟨0x4, 1, 0x0, 1, 4, [⟨27, 24, .rw, 8⟩, ⟨23, 20, .rw, 0⟩, ⟨19, 12, .rw, 0x20⟩, ⟨11, 8, .rw, 0xA⟩, ⟨7, 0, .rw, 0x14⟩]⟩,
  -- PWR_STATUS
  ⟨0x8, 1, 0x0, 1, 4, [⟨15, 12, .ro, 0⟩, ⟨11, 8, .ro, 0⟩, ⟨4, 4, .ro, 0⟩, ⟨3, 3, .ro, 0⟩, ⟨2, 2, .ro, 0⟩, ⟨1, 1, .ro, 0⟩, ⟨0, 0, .ro, 0⟩]⟩,
  -- PWR_CNT_CLR
  ⟨0xC, 1, 0x0, 1, 4, [⟨31, 0, .wo, 0⟩]⟩,
  -- PWR_CAP
  ⟨0x10, 1, 0x0, 1, 8, [⟨47, 32, .rw, 0⟩, ⟨15, 0, .rw, 0⟩]⟩,
  -- PWR_NOW
  ⟨0x18, 1, 0x0, 1, 8, [⟨55, 48, .ro, 0⟩, ⟨47, 32, .ro, 0⟩, ⟨15, 0, .ro, 0⟩]⟩,
  -- THERM_CFG
  ⟨0x20, 1, 0x0, 1, 4, [⟨23, 16, .ro, 0x73⟩, ⟨15, 8, .ro, 0x69⟩, ⟨7, 0, .rw, 0x64⟩]⟩,
  -- PWR_E_TOTAL
  ⟨0x40, 1, 0x0, 1, 8, cnt⟩,
  -- PWR_E_JOB
  ⟨0x48, 1, 0x0, 1, 8, cnt⟩,
  -- PWR_E_CORE_W
  ⟨0x50, 1, 0x0, 1, 8, cnt⟩,
  -- PWR_E_CORE_E
  ⟨0x58, 1, 0x0, 1, 8, cnt⟩,
  -- PWR_E_HBM
  ⟨0x60, 1, 0x0, 1, 8, cnt⟩,
  -- PWR_E_OPT
  ⟨0x68, 1, 0x0, 1, 8, cnt⟩,
  -- PWR_E_DDR
  ⟨0x70, 1, 0x0, 1, 8, cnt⟩,
  -- PWR_E_OTHER
  ⟨0x78, 1, 0x0, 1, 8, cnt⟩,
  -- PWR_CAPPED_MS
  ⟨0x80, 1, 0x0, 1, 8, cnt⟩,
  -- PWR_CLAMPS
  ⟨0x88, 1, 0x0, 1, 8, cnt⟩,
  -- THERM_MS
  ⟨0x90, 1, 0x0, 1, 8, cnt⟩ ]

/-- Rows of block MGMT. -/
def mgmtRows : List RegRow := [
  -- MGMT_ID
  ⟨0x0, 1, 0x0, 1, 4, idv⟩,
  -- MGMT_CFG
  ⟨0x4, 1, 0x0, 1, 4, [⟨3, 3, .wo, 0⟩, ⟨2, 1, .rw, 2⟩, ⟨0, 0, .rw, 1⟩]⟩,
  -- MGMT_STATUS
  ⟨0x8, 1, 0x0, 1, 4, [⟨31, 16, .ro, 0⟩, ⟨2, 2, .ro, 0⟩, ⟨1, 1, .ro, 0⟩, ⟨0, 0, .ro, 0⟩]⟩,
  -- MGMT_CNT_CLR
  ⟨0xC, 1, 0x0, 1, 4, [⟨31, 0, .wo, 0⟩]⟩,
  -- MGMT_MAC
  ⟨0x10, 1, 0x0, 1, 8, [⟨63, 0, .ro, 0⟩]⟩,
  -- MGMT_IP4
  ⟨0x18, 1, 0x0, 1, 8, [⟨63, 63, .rw, 0⟩, ⟨37, 0, .rw, 0⟩]⟩,
  -- MGMT_DEST
  ⟨0x20, 2, 0x8, 1, 8, [⟨63, 0, .rw, 0⟩]⟩,
  -- SVC_LED
  ⟨0x30, 1, 0x0, 1, 4, [⟨2, 2, .rw, 0⟩, ⟨1, 0, .rw, 0⟩]⟩,
  -- SVC_STATUS
  ⟨0x34, 1, 0x0, 1, 4, [⟨31, 16, .ro, 0⟩, ⟨3, 3, .wo, 0⟩, ⟨2, 0, .ro, 0⟩]⟩,
  -- MGMT_RX
  ⟨0x40, 1, 0x0, 1, 8, cnt⟩,
  -- MGMT_TX
  ⟨0x48, 1, 0x0, 1, 8, cnt⟩,
  -- MGMT_BAD
  ⟨0x50, 1, 0x0, 1, 8, cnt⟩,
  -- MGMT_REC_DROP
  ⟨0x58, 1, 0x0, 1, 8, cnt⟩ ]

end RegMap

end Sys2Proof.Machine
end

