-- ==== Sys2Proof/Machine/RegReset.lean ====
section
/-! DEFINITION. The lookup of a register in the map and the value each register has after reset, the values a table
gives as a formula (the unit's own number, the fuses, the assignment tables of R437, R14 and R117) included. -/

namespace Sys2Proof.Machine

/-- Which block of the map the offset `k` from S lies in: the rows and the offset inside the block (R461, R463 to
R465); `none` for a reserved address. -/
def regBlock (k : Nat) : Option (List RegRow × Nat) :=
  if k < 0x2000000 then
    let off := k % 0x100000
    match k / 0x100000 with
    | 0 => some (RegMap.devRows, off)
    | 1 => some (RegMap.secRows, off)
    | 2 => some (RegMap.rstRows, off)
    | 3 => some (RegMap.fltRows, off)
    | 4 => some (RegMap.stRows, off)
    | 5 => some (RegMap.seqRows, off)
    | 6 => some (RegMap.ndRows, off)
    | 7 => some (RegMap.memRows, off)
    | 8 => some (RegMap.meshRows, off)
    | 9 => if off < 0x4000 then some (RegMap.portRows, off % 0x100) else some (RegMap.fabcRows, off - 0x4000)
    | 10 | 11 => some (RegMap.erRows, off)
    | 12 => some (RegMap.sclRows, off)
    | 13 => some (RegMap.icRows, off)
    | 14 => some (RegMap.pwrRows, off)
    | 15 => some (RegMap.mgmtRows, off)
    | _ => none
  else if 0x10000000 ≤ k ∧ k < 0x10000000 + 0x4000 * 312 then some (RegMap.lndRows, (k - 0x10000000) % 0x4000)
  else if 0x20000000 ≤ k ∧ k < 0x20000000 + 0x40000 * 312 then
    let off := (k - 0x20000000) % 0x40000
    if off < 0x4000 then some (RegMap.galRows, off)
    else if off < 0x4800 then some (RegMap.mcRows, (off - 0x4000) % 0x100)
    else if off < 0x4C00 then some (RegMap.vcRows, (off - 0x4800) % 0x100)
    else if off < 0x4E00 then some (RegMap.scRows, (off - 0x4C00) % 0x100)
    else if off < 0x20000 then none
    else some (RegMap.qbRows, (off - 0x20000) % 0x2000)
  else none

/-- The position inside a row's array that an offset falls on: (i, j, byte within the register). -/
def RegRow.find (r : RegRow) (off : Nat) : Option (Nat × Nat × Nat) :=
  if off < r.off then none
  else
    let d := off - r.off
    let i := if r.s1 = 0 then 0 else d / r.s1
    let e := if r.s1 = 0 then d else d % r.s1
    let j := e / r.bytes
    if i < r.n1 ∧ j < r.n2 then some (i, j, e % r.bytes) else none

/-- The row that holds an offset of a block. -/
def findRow : List RegRow → Nat → Option (RegRow × Nat × Nat × Nat)
  | [], _ => none
  | r :: rs, off =>
    match r.find off with
    | some (i, j, b) => some (r, i, j, b)
    | none => findRow rs off

/-- The register that the byte offset `k` from S falls in: its row, its own offset from S, and the byte within it. -/
def regAt (k : Nat) : Option (RegRow × Nat × Nat) :=
  match regBlock k with
  | none => none
  | some (rows, off) => (findRow rows off).map fun (r, _, _, b) => (r, k - b, b)

/-- The constant part of a row's reset value. -/
def RegRow.resetWord (r : RegRow) : Word :=
  w64 (r.fields.foldl (fun a f => a + f.rst * 2 ^ f.lo) 0)

/-- The physical galleries of half `h` that carry logical numbers in the factory map (R13, R14, R393), in row-major
order: the good galleries outside column 6, and as many column-6 galleries as LPH needs beyond them: those the rule of
REBUILD (R365) would take last as spares (DEDUCED, log entry 3). -/
def factoryList (f : Fuses) (h : Nat) : List Nat :=
  let ps := (List.range 156).map (· + 156 * h)
  let good := ps.filter fun p => !inMask f.galOff p
  let out6 := good.filter fun p => p % 156 % 13 ≠ 6
  let col6 := good.filter fun p => p % 156 % 13 = 6
  let in6 := col6.drop (col6.length - (f.lph - out6.length))
  good.filter fun p => decide (p ∈ out6) || decide (p ∈ in6)

/-- The factory map (R14): the physical gallery of logical number `g`. -/
def factoryMap (f : Fuses) (g : Nat) : Option Nat :=
  if g < f.lph then (factoryList f 0)[g]?
  else if g < 2 * f.lph then (factoryList f 1)[g - f.lph]?
  else none

/-- The FLT_PSTATE code of physical gallery `p` in the factory state (R372, R393): 0xF at 312 and above, FUSED_OFF,
IN_SERVICE or SPARE. -/
def factoryPstate (f : Fuses) (p : Nat) : Nat :=
  if 312 ≤ p then 0xF
  else if inMask f.galOff p then 6
  else if p ∈ factoryList f (p / 156) then 0 else 1

/-- The IC_SRC reset value of a private source (R437): urgent sources of CP1 are enabled at priority 15. -/
def privSrcReset (n s : Nat) : Word :=
  if s < 16 then w64 (n * 2 ^ 26 + 2 * 2 ^ 19)
  else if s = 16 then w64 (n * 2 ^ 26 + 3 * 2 ^ 19)
  else if n = 1 ∧ 32 ≤ s ∧ s ≤ 53 then w64 (2 ^ 29 + 2 ^ 28 + 2 ^ 26 + 15 * 2 ^ 19)
  else 0

/-- Reset TARGET and PRIO of the shared source `id` (R437); `none` for a reserved source. -/
def sharedSrc (id : Nat) : Option (Nat × Nat) :=
  if id < 64 then none
  else if id ≤ 79 then some (1, 6)
  else if id ≤ 143 then some (1, 6)
  else if id ≤ 151 then
    match (id - 144) % 4 with
    | 0 => some (1, 6)
    | 1 => some (3, 6)
    | 2 => some (3, 6)
    | _ => some (2, 6)
  else if id ≤ 215 then some (2, 8)
  else if id ≤ 279 then some (2, 5)
  else match id with
    | 280 => some (2, 9)
    | 281 => some (2, 10)
    | 282 => some (2, 7)
    | 283 => some (0, 4)
    | 284 => some (3, 4)
    | 285 => some (3, 4)
    | 286 => some (3, 7)
    | 287 => some (3, 9)
    | 288 => some (3, 9)
    | 289 => some (1, 6)
    | 290 => some (3, 1)
    | 291 => some (1, 12)
    | 292 => some (1, 3)
    | 293 => some (1, 3)
    | 294 => some (3, 11)
    | 295 => some (3, 4)
    | 296 => some (2, 5)
    | 297 => some (0, 4)
    | _ => none

/-- The IC_SRC reset value of a shared source: disabled, at its TARGET and PRIO. -/
def sharedSrcReset (id : Nat) : Word :=
  match sharedSrc id with
  | some (t, pr) => w64 (t * 2 ^ 26 + pr * 2 ^ 19)
  | none => 0

/-- Sustained cap and excursion limit of the part (R24, R432). -/
def partCap (f : Fuses) : Nat × Nat :=
  if f.part = 0x2304 then (1100, 1300) else if f.part = 0x2048 then (1000, 1180) else (880, 1050)

/-- MAP_DIR entry `n` (R468). -/
def mapDir (n : Nat) : Word :=
  let kind := if n < 16 then n + 1 else if n = 32 then 0x20 else if n = 33 then 0x21 else if n = 34 then 0x22 else 0
  if kind = 0 then 0 else w64 (0x01010000 + kind * 256 + 1)

/-- The attach landings of the four drops (R117). -/
def attachLandings : List Nat := [64, 77, 90, 103, 208, 221, 234, 247]

/-- LND_ID of landing `p` (R146, R117): drop attach, memory port in rows 0 and 11, stair side. -/
def lndIdReset (p : Nat) : Word :=
  let r := p % 156 / 13
  let c := p % 13
  w64 (0x01010000 + (if p ∈ attachLandings then 2 ^ 12 else 0) + (if r = 0 ∨ r = 11 then 2 ^ 11 else 0)
    + (if (p < 156 ∧ c = 12) ∨ (156 ≤ p ∧ c = 0) then 2 ^ 10 else 0) + p)

/-- The value of the register at offset `k` from S after reset, before any write. -/
def regReset (f : Fuses) (k : Nat) : Word :=
  if k < 0x2000000 then
    if k = Reg.DEV_PART then w64 (f.stepping * 2 ^ 28 + f.part * 2 ^ 12)
    else if k = Reg.DEV_SERIAL then f.serial
    else if k = Reg.DEV_FUSE then
      w64 (f.lph * 2 ^ 48 + f.engOff.toNat * 2 ^ 40 + f.stkOff.toNat * 2 ^ 32 + f.prodLock.toNat)
    else if 0x40 ≤ k ∧ k < 0x68 then maskWord f.galOff ((k - 0x40) / 8)
    else if 0x100 ≤ k ∧ k < 0x18C then mapDir ((k - 0x100) / 4)
    else if k = Reg.ST_HALF 0 then 0xF007FC01FF
    else if k = Reg.ST_HALF 1 then putBits 0xF007FC01FF 17 9 156
    else if k = Reg.MEM_STACKS then w64 (0xFF - f.stkOff.toNat)
    else if k = Reg.PWR_CAP then w64 ((partCap f).2 * 2 ^ 32 + (partCap f).1)
    else if k = Reg.MGMT_MAC then w64 (0x02 * 2 ^ 40 + f.serial.toNat % 2 ^ 40)
    else if 0xD01000 ≤ k ∧ k < 0xD01400 then privSrcReset ((k - 0xD01000) / 0x100) ((k - 0xD01000) % 0x100 / 4)
    else if 0xD02000 ≤ k ∧ k < 0xD02800 then sharedSrcReset ((k - 0xD02000) / 4 + 64)
    else if 0x301000 ≤ k ∧ k < 0x303000 then
      w64 ((List.range 4).foldl (fun a j =>
        a + (match factoryMap f ((k - 0x301000) / 2 + j) with
          | some p => (0x8000 + p) * 2 ^ (16 * j)
          | none => 0)) 0)
    else if 0x303000 ≤ k ∧ k < 0x303140 then
      w64 ((List.range 8).foldl (fun a j => a + factoryPstate f (k - 0x303000 + j) * 2 ^ (8 * j)) 0)
    else match regAt k with
      | some (r, _, _) => r.resetWord
      | none => 0
  else if k < 0x20000000 then
    if (k - 0x10000000) % 0x4000 = 0 then lndIdReset ((k - 0x10000000) / 0x4000)
    else match regAt k with
      | some (r, _, _) => r.resetWord
      | none => 0
  else
    let p := (k - 0x20000000) / 0x40000
    let off := (k - 0x20000000) % 0x40000
    if off = 0 then w64 p
    else if 0x4000 ≤ off ∧ off < 0x4E00 ∧ off % 0x100 = 0 then
      w64 (0x01010000 + (if off < 0x4800 then (off - 0x4000) / 0x100 else if off < 0x4C00 then (off - 0x4800) / 0x100
        else (off - 0x4C00) / 0x100))
    else if 0x20000 ≤ off ∧ off % 0x2000 = 0 then w64 (0x01010000 + (off - 0x20000) / 0x2000)
    else match regAt k with
      | some (r, _, _) => r.resetWord
      | none => 0

end Sys2Proof.Machine
end

