-- ==== Sys2Proof/Machine/Formats.lean ====
section
/-! DEFINITION. Number formats and rounding (02_number_formats.md): format codes, exact values, the two rounding modes,
MX blocks and the conversions between elements. Values are exact: a sign, a magnitude and a power of two. -/

namespace Sys2Proof.Machine

/-- The formats of R25. -/
inductive Fmt where
  | fp64 | fp32 | bf16 | fp16 | int32 | int8 | mxfp4 | mxfp6a | mxfp6b | mxfp8a | mxfp8b | mxint8
deriving DecidableEq, Repr

/-- The format of an 8-bit code; every other code is reserved (R25). -/
def Fmt.ofCode : Nat → Option Fmt
  | 0x01 => some .fp64
  | 0x02 => some .fp32
  | 0x03 => some .bf16
  | 0x04 => some .fp16
  | 0x40 => some .int32
  | 0x41 => some .int8
  | 0x80 => some .mxfp4
  | 0x81 => some .mxfp6a
  | 0x82 => some .mxfp6b
  | 0x83 => some .mxfp8a
  | 0x84 => some .mxfp8b
  | 0x85 => some .mxint8
  | _ => none

/-- MX formats. -/
def Fmt.isMx : Fmt → Bool
  | .mxfp4 | .mxfp6a | .mxfp6b | .mxfp8a | .mxfp8b | .mxint8 => true
  | _ => false

/-- The plain floating-point formats ("FP" of R78). -/
def Fmt.isFp : Fmt → Bool
  | .fp64 | .fp32 | .bf16 | .fp16 => true
  | _ => false

/-- The integer formats ("INT" of R78). -/
def Fmt.isInt : Fmt → Bool
  | .int32 | .int8 => true
  | _ => false

/-- Element width in bits (R25). -/
def Fmt.width : Fmt → Nat
  | .fp64 => 64
  | .fp32 | .int32 => 32
  | .bf16 | .fp16 => 16
  | .int8 | .mxfp8a | .mxfp8b | .mxint8 => 8
  | .mxfp6a | .mxfp6b => 6
  | .mxfp4 => 4

/-- Bytes of one storage unit of a plain format; the element bytes of one 32-element block of an MX format (R25). -/
def Fmt.unitBytes (f : Fmt) : Nat := if f.isMx then 4 * f.width else f.width / 8

/-- The layout of a floating-point element: exponent bits, mantissa bits, bias, and what its top exponent code means
(R27). -/
structure FpLay where
  eb : Nat
  mb : Nat
  bias : Nat
  /-- the largest finite magnitude code -/
  maxCode : Nat
  /-- the format has infinities -/
  hasInf : Bool
deriving DecidableEq, Repr

/-- The element layouts of R27 (the integer formats have none). -/
def Fmt.lay : Fmt → FpLay
  | .fp64 => ⟨11, 52, 1023, 0x7FEFFFFFFFFFFFFF, true⟩
  | .fp32 => ⟨8, 23, 127, 0x7F7FFFFF, true⟩
  | .bf16 => ⟨8, 7, 127, 0x7F7F, true⟩
  | .fp16 => ⟨5, 10, 15, 0x7BFF, true⟩
  | .mxfp4 => ⟨2, 1, 1, 0x7, false⟩
  | .mxfp6a => ⟨2, 3, 1, 0x1F, false⟩
  | .mxfp6b => ⟨3, 2, 3, 0x1F, false⟩
  | .mxfp8a => ⟨4, 3, 7, 0x7E, false⟩
  | .mxfp8b => ⟨5, 2, 15, 0x7B, true⟩
  | .int32 | .int8 | .mxint8 => ⟨0, 0, 0, 0, false⟩

/-- The canonical NaN of a format (R29); formats without one have 0. -/
def Fmt.canonNan : Fmt → Nat
  | .fp64 => 0x7FF8000000000000
  | .fp32 => 0x7FC00000
  | .bf16 => 0x7FC0
  | .fp16 => 0x7E00
  | .mxfp8a => 0x7F
  | .mxfp8b => 0x7E
  | _ => 0

/-- An exact value: NaN, an infinity, or ± m × 2^e. A zero keeps its sign. -/
inductive FV where
  | nan
  | inf (neg : Bool)
  | fin (neg : Bool) (m : Nat) (e : Int)
deriving DecidableEq, Repr

/-- The value of an element code (R27, R28). -/
def Fmt.decode (f : Fmt) (c : Nat) : FV :=
  match f with
  | .int32 => let v := signed 32 c; .fin (decide (v < 0)) v.natAbs 0
  | .int8 => let v := signed 8 c; .fin (decide (v < 0)) v.natAbs 0
  | .mxint8 => let v := signed 8 c; .fin (decide (v < 0)) v.natAbs (-6)
  | _ =>
    let l := f.lay
    let neg := c.testBit (l.eb + l.mb)
    let ex := natBits c (l.eb + l.mb - 1) l.mb
    let mn := c % 2 ^ l.mb
    let mag := c % 2 ^ (l.eb + l.mb)
    if l.maxCode < mag then
      if l.hasInf ∧ mn = 0 then .inf neg else .nan
    else if ex = 0 then .fin neg mn (1 - (l.bias : Int) - l.mb)
    else .fin neg (2 ^ l.mb + mn) ((ex : Int) - l.bias - l.mb)

/-- floor(log2 |v|) of a non-zero finite value. -/
def FV.exponent : FV → Option Int
  | .fin _ m e => if m = 0 then none else some ((Nat.log2 m : Int) + e)
  | _ => none

/-- Is the value a zero of either sign? -/
def FV.isZero : FV → Bool
  | .fin _ m _ => m == 0
  | _ => false

/-- Is the value NaN or infinite? -/
def FV.nonfinite : FV → Bool
  | .fin _ _ _ => false
  | _ => true

/-- The value with its sign reversed. -/
def FV.negate : FV → FV
  | .nan => .nan
  | .inf s => .inf (!s)
  | .fin s m e => .fin (!s) m e

/-- The exact value times 2^k. -/
def FV.scale (v : FV) (k : Int) : FV :=
  match v with
  | .fin s m e => .fin s m (e + k)
  | x => x

/-- The signed significand at the exponent `e0` at or below the value's own. -/
def FV.atExp (s : Bool) (m : Nat) (e e0 : Int) : Int :=
  let v : Int := (m <<< (e - e0).toNat : Nat)
  if s then -v else v

/-- Exact product under the special-value rules of IEEE 754 (R48): infinity × 0 is NaN. -/
def FV.mul (a b : FV) : FV :=
  match a, b with
  | .nan, _ => .nan
  | _, .nan => .nan
  | .inf s, .inf t => .inf (s != t)
  | .inf s, .fin t m _ => if m = 0 then .nan else .inf (s != t)
  | .fin t m _, .inf s => if m = 0 then .nan else .inf (s != t)
  | .fin s m e, .fin t n f => .fin (s != t) (m * n) (e + f)

/-- Exact sum (R48): infinities of opposite sign give NaN; an exact zero is +0 unless both addends are −0. -/
def FV.add (a b : FV) : FV :=
  match a, b with
  | .nan, _ => .nan
  | _, .nan => .nan
  | .inf s, .inf t => if s = t then .inf s else .nan
  | .inf s, .fin _ _ _ => .inf s
  | .fin _ _ _, .inf t => .inf t
  | .fin s m e, .fin t n f =>
    let e0 := min e f
    let v := FV.atExp s m e e0 + FV.atExp t n f e0
    if v = 0 then .fin (s && t) 0 e0 else .fin (decide (v < 0)) v.natAbs e0

/-- A NaN that an operation made from operands that were not NaN (R49, NANGEN). -/
def nanMade (ins : List FV) (out : FV) : Bool := out == .nan && ins.all fun v => v != .nan

/-- The two rounding modes (R38): to nearest with ties to even, or stochastic with the 24-bit draw `r` (R39). -/
inductive Rnd where
  | rne
  | sr (r : Nat)
deriving DecidableEq, Repr

/-- Does a magnitude q + rem / 2^sh round up to q + 1? -/
def roundsUp (rnd : Rnd) (q rem sh : Nat) : Bool :=
  match rnd with
  | .rne => decide (2 ^ sh < 2 * rem) || (decide (2 * rem = 2 ^ sh) && q % 2 == 1)
  | .sr r => decide (2 ^ 24 ≤ rem * 2 ^ 24 / 2 ^ sh + r)

/-- m / 2^sh rounded to an integer; a magnitude below 2^-25 of the spacing rounds to 0 in either mode. -/
def roundShift (rnd : Rnd) (m sh : Nat) : Nat :=
  if Nat.log2 m + 26 < sh then 0 else
  let q := m >>> sh
  if roundsUp rnd q (m % 2 ^ sh) sh then q + 1 else q

/-- The magnitude code that m × 2^e rounds to in a layout whose exponent range had no top (R38): the code past the
largest finite one stands for overflow. -/
def FpLay.roundMag (l : FpLay) (rnd : Rnd) (m : Nat) (e : Int) : Nat :=
  if m = 0 then 0
  else
    let emin : Int := 1 - l.bias
    let top : Int := (Nat.log2 m : Int) + e
    let q : Int := max top emin - l.mb
    let base := (q + l.mb + l.bias - 1).toNat * 2 ^ l.mb
    if q ≤ e then base + (m <<< (e - q).toNat) else base + roundShift rnd m (q - e).toNat

/-- The events of R49 that one result counts. -/
structure Ev where
  nangen : Nat := 0
  ovf : Nat := 0
  sat : Nat := 0
  nonfinite : Nat := 0
deriving DecidableEq, Repr

/-- Both lots of events. -/
def Ev.add (a b : Ev) : Ev :=
  ⟨a.nangen + b.nangen, a.ovf + b.ovf, a.sat + b.sat, a.nonfinite + b.nonfinite⟩

/-- The sign bit of a layout, as a number. -/
def FpLay.signBit (l : FpLay) (neg : Bool) : Nat := if neg then 2 ^ (l.eb + l.mb) else 0

/-- A value written in a plain floating-point format with IEEE overflow (R42): the code and whether it overflowed. -/
def Fmt.encodeIeee (f : Fmt) (rnd : Rnd) (v : FV) : Nat × Bool :=
  let l := f.lay
  match v with
  | .nan => (f.canonNan, false)
  | .inf s => (l.signBit s + (l.maxCode + 1), false)
  | .fin s m e =>
    let c := l.roundMag rnd m e
    if l.maxCode < c then (l.signBit s + (l.maxCode + 1), true) else (l.signBit s + c, false)

/-- A value written as an `n`-bit integer (R42): rounded to nearest even, saturated; NaN gives 0. The code and its
events. -/
def encodeInt (n : Nat) (v : FV) : Nat × Ev :=
  let top : Int := (2 ^ (n - 1) : Nat)
  match v with
  | .nan => (0, { nangen := 1 })
  | .inf s => (unsigned n (if s then -top else top - 1), { sat := 1 })
  | .fin s m e =>
    let q := if 0 ≤ e then m <<< e.toNat else roundShift .rne m (-e).toNat
    let i : Int := if s then -(q : Int) else q
    if i < -top then (unsigned n (-top), { sat := 1 })
    else if top - 1 < i then (unsigned n (top - 1), { sat := 1 })
    else (unsigned n i, {})

/-- A finite value divided by the block scale, written as an MX element (R37): rounded, saturated with a SAT event; the
element formats keep the sign of zero, MXINT8 has one zero (R28). The result that saturates is the rounded one: a quotient
above the largest element that rounds back to it (6.5 in E2M1) counts no SAT event (DEDUCED, log entry 49). -/
def Fmt.encodeElem (f : Fmt) (rnd : Rnd) (s : Bool) (m : Nat) (e : Int) : Nat × Ev :=
  match f with
  | .mxint8 =>
    let e' := e + 6
    let q := if 0 ≤ e' then m <<< e'.toNat else roundShift rnd m (-e').toNat
    let i : Int := if s then -(q : Int) else q
    if i < -128 then (unsigned 8 (-128), { sat := 1 })
    else if 127 < i then (127, { sat := 1 })
    else (unsigned 8 i, {})
  | _ =>
    let l := f.lay
    let c := l.roundMag rnd m e
    if l.maxCode < c then (l.signBit s + l.maxCode, { sat := 1 }) else (l.signBit s + c, {})

/-- emax of R34. -/
def Fmt.emax : Fmt → Int
  | .mxfp4 | .mxfp6a => 2
  | .mxfp6b => 4
  | .mxfp8a => 8
  | .mxfp8b => 15
  | _ => 0

/-- The largest exponent among the finite non-zero values of a block. -/
def maxExp (vs : List FV) : Option Int :=
  vs.foldl (fun a v =>
    match a, v.exponent with
    | none, x => x
    | some y, some x => some (max y x)
    | some y, none => some y) none

/-- The scale code of a block of finite values (R34, R35). -/
def Fmt.blockScale (f : Fmt) (vs : List FV) : Nat :=
  match maxExp vs with
  | none => 0
  | some x => (min (max (x - f.emax + 127) 0) 254).toNat

/-- A block of values converted to an MX format (R34 to R37, R41): element codes, scale code, events. `draw i` is the
rounding of element `i`. -/
def Fmt.encodeBlock (f : Fmt) (draw : Nat → Rnd) (vs : List FV) : List Nat × Nat × Ev :=
  if vs.any FV.nonfinite then (vs.map fun _ => 0, 0xFF, { nonfinite := 1 })
  else
    let s := f.blockScale vs
    let rs := vs.zipIdx.map fun (v, i) =>
      match v with
      | .fin neg m e => f.encodeElem (draw i) neg m (e - ((s : Int) - 127))
      | _ => (0, {})
    (rs.map (·.1), s, rs.foldl (fun a r => a.add r.2) {})

/-- The value of an element of a block with scale code `s` (R33). -/
def Fmt.decodeScaled (f : Fmt) (s c : Nat) : FV :=
  if s = 0xFF then .nan else (f.decode c).scale ((s : Int) - 127)

/-- Element `j` of the packed bytes of MX blocks, as one little-endian number (R32): the packing is the same in every
format, element `j` at bit width × j. -/
def Fmt.elemAt (f : Fmt) (packed j : Nat) : Nat := (packed >>> (f.width * j)) % 2 ^ f.width

/-- Elements packed little-endian (R32). -/
def Fmt.pack (f : Fmt) (cs : List Nat) : Nat :=
  cs.zipIdx.foldl (fun a (c, j) => a + (c % 2 ^ f.width) * 2 ^ (f.width * j)) 0

/-- The FP32 value of a code. -/
def fp32 (c : Nat) : FV := Fmt.fp32.decode c

/-- The FP32 code nearest to a value, and whether it overflowed (R44). -/
def rneFp32 (v : FV) : Nat × Bool := Fmt.fp32.encodeIeee .rne v

end Sys2Proof.Machine
end

