-- ==== Sys2Proof/Machine/Tbl.lean ====
section
/-! DEFINITION. Tables: sorted lists of key and value with one canonical form, used for memory, the registers of the
set-up region and every indexed unit of the part. What an unlisted key reads as is the default `d`. -/

namespace Sys2Proof.Machine

/-- A table from numbers to values: keys strictly rising, no entry equal to the default. -/
abbrev Tbl (α : Type) := List (Nat × α)

/-- The value of key `k`; an unlisted key has the default value. -/
def Tbl.get {α : Type} (d : Nat → α) : Tbl α → Nat → α
  | [], k => d k
  | (k', v) :: t, k => if k = k' then v else Tbl.get d t k

/-- The table without key `k`. -/
def Tbl.erase {α : Type} (t : Tbl α) (k : Nat) : Tbl α := t.filter fun e => e.1 != k

/-- The table with an entry for key `k`, kept in order. -/
def Tbl.insert {α : Type} : Tbl α → Nat → α → Tbl α
  | [], k, v => [(k, v)]
  | (k', v') :: t, k, v =>
    if k < k' then (k, v) :: (k', v') :: t else if k = k' then (k, v) :: t else (k', v') :: Tbl.insert t k v

/-- The table with key `k` at value `v`; writing the default removes the entry. -/
def Tbl.set {α : Type} [DecidableEq α] (d : Nat → α) (t : Tbl α) (k : Nat) (v : α) : Tbl α :=
  if v = d k then Tbl.erase t k else Tbl.insert t k v

/-- The table with every key in `lo ≤ k < hi` back at its default. -/
def Tbl.clearRange {α : Type} (t : Tbl α) (lo hi : Nat) : Tbl α :=
  t.filter fun e => decide (e.1 < lo) || decide (hi ≤ e.1)

/-- The keys strictly rise. -/
def Tbl.sorted {α : Type} : Tbl α → Bool
  | [] => true
  | [_] => true
  | (k, _) :: (k', v') :: t => decide (k < k') && Tbl.sorted ((k', v') :: t)

/-- The canonical form: keys strictly rise and no entry equals the default. -/
def Tbl.wf {α : Type} [DecidableEq α] (d : Nat → α) (t : Tbl α) : Bool :=
  Tbl.sorted t && t.all fun e => decide (e.2 ≠ d e.1)

/-- Memory: the bytes of every array of the part, by location key (Machine/Mem.lean gives the keys). -/
abbrev Memory := List Host.Cell

/-- What a byte nothing has written reads as (log entry 2). -/
def memDefault : Nat → Byte := fun _ => 0

/-- One byte of memory. -/
def Memory.get (m : Memory) (k : Nat) : Byte := Tbl.get memDefault m k

/-- One change of memory: a byte stored, a range of bytes set to zero, or a range copied to another place. -/
inductive MemOp where
  | put (k : Nat) (v : Byte)
  | clear (lo hi : Nat)
  | copy (lo hi dst : Nat)
deriving DecidableEq, Repr

/-- The memory after one change. -/
def Memory.apply (m : Memory) : MemOp → Memory
  | .put k v => Tbl.set memDefault m k v
  | .clear lo hi => Tbl.clearRange m lo hi
  | .copy lo hi dst =>
    (m.filter fun e => decide (lo ≤ e.1) && decide (e.1 < hi)).foldl
      (fun (t : Memory) e => Tbl.insert t (e.1 - lo + dst) e.2) (Tbl.clearRange m dst (dst + (hi - lo)))

/-- The memory after a list of changes, the OLDEST LAST in the list. -/
def Memory.applyAll (m : Memory) : List MemOp → Memory
  | [] => m
  | op :: older => Memory.apply (Memory.applyAll m older) op

/-- A byte as the changes not yet in memory show it, the newest first. -/
def Memory.peek (m : Memory) : List MemOp → Nat → Byte
  | [], k => Memory.get m k
  | .put k' v :: older, k => if k = k' then v else Memory.peek m older k
  | .clear lo hi :: older, k => if lo ≤ k ∧ k < hi then 0 else Memory.peek m older k
  | .copy lo hi dst :: older, k =>
    if dst ≤ k ∧ k < dst + (hi - lo) then Memory.peek m older (k - dst + lo) else Memory.peek m older k

/-- Memory is in canonical form: addresses strictly rise and no entry is the byte an unlisted address reads as. -/
def Memory.wf (m : Memory) : Bool := Tbl.wf memDefault m

end Sys2Proof.Machine
end

