-- ==== Sys2Proof/Machine/State.lean ====
section
/-! DEFINITION. The state of the part: the registers of the set-up region, every memory, and the state the chapters give
each unit beyond its registers; the queue of commands that wait. Plain data. INVENTORY.md lists every piece with the
rule that names it. -/

namespace Sys2Proof.Machine

/-- The part's own stops: none comes from the manual, which has no processor fault. -/
inductive Fault where
  /-- a command names a unit the part does not have: a gallery of 312 or above, a core, agent, port, controller or
  control processor out of range. Raised by every meaning that has such an operand. Safe: no unit changes. -/
  | noSuchUnit
deriving DecidableEq, Repr

/-- Commands without a meaning. -/
inductive Refusal where
  /-- the command's meaning is not written yet. Raised only by exec's arms. Safe. -/
  | notModelled (mnemonic : String)
deriving DecidableEq, Repr

/-! ### The gallery's cores -/

/-- A tile of a matrix core (R54): its formats, the reduction steps and blocks so far, the 65 × 65 accumulators
(65 × row + column), and the exponent maxima of R63. -/
structure Tile where
  fmtA : Fmt
  fmtB : Fmt
  fmtOut : Fmt
  k : Nat
  blocks : Nat
  tag : Nat
  cAddr : Nat
  cPitch : Nat
  acc : List Nat
  eA : List (Option Int)
  eB : List (Option Int)
  eCcol : List (Option Int)
  eCrow : List (Option Int)
deriving DecidableEq, Repr

/-- A matrix core beyond its registers (R50 to R71): the open tile, the command in progress and its next 32-step block,
the command decoded ahead and whether it was found malformed, the tile that drains. -/
structure MCore where
  tile : Option Tile := none
  cmd : Option (List Word) := none
  blk : Nat := 0
  ahead : Option (List Word × Bool) := none
  draining : Option Tile := none
  /-- a lost token was answered with ERR_RSP: the core stalls (R132) -/
  stalled : Bool := false
  /-- null tokens to send after the completion of the tile that drains, and of the tile in progress (R56) -/
  nullsDrain : Nat := 0
  nullsCmd : Nat := 0
deriving DecidableEq, Repr

/-- What a vector core's next step waits for (R75, R76, R80). -/
inductive VWait where
  | run
  /-- VEND executed: the kernel waits for its writes to be acknowledged -/
  | ended
  /-- an access beyond local memory is answered with an address error; the core takes the answer next -/
  | answer
  /-- a poisoned answer: the core stalls (R103) -/
  | stalled
deriving DecidableEq, Repr

/-- A vector core beyond its registers (R74, R75). -/
structure VCore where
  v : Tbl VReg := []
  m : Tbl MReg := []
  x : Tbl Word := []
  running : Bool := false
  tag : Nat := 0
  wait : VWait := .run
deriving DecidableEq, Repr

/-- One load or store beyond local memory that has not returned (R88). -/
structure FarAccess where
  isLoad : Bool
  dst : Nat
  addr : Word
  size : Nat
  pc : Nat
  /-- a store that waits for earlier accesses to the same address: what it stores -/
  data : Option Nat := none
deriving DecidableEq, Repr

/-- What a scalar core or control processor waits for. -/
inductive HWait where
  | run
  /-- STEPWAIT (R184) -/
  | step
  /-- CONNECT sent on the slot, no answer yet (R157) -/
  | connect (slot : Nat)
  /-- CLOSE sent on the slot, no CLOSE_ACK yet (R156) -/
  | close (slot : Nat)
  /-- a multicast SEND on the slot is in progress (R165) -/
  | mcast (slot : Nat)
  /-- a poisoned answer: the core stalls (R103) -/
  | stalled
  /-- HALT executed (R87) -/
  | halted
deriving DecidableEq, Repr

/-- A scalar core or control processor beyond its registers (R86, R435). -/
structure SCore where
  s : Tbl Word := []
  /-- the program counter of a control processor; a scalar core's is SC_PC -/
  pc : Nat := 0
  outs : List FarAccess := []
  wait : HWait := .run
  /-- control processor: the save stack of R439, newest first: saved pc and saved running priority -/
  stack : List (Nat × Nat) := []
  /-- beside the save stack: the source each handler was entered for, 0x3FF once it is claimed (R443) -/
  given : List Nat := []
  /-- control processor: data-cache lines held, line address and bytes, newest first -/
  dcache : List (Nat × List Byte) := []
deriving DecidableEq, Repr

/-! ### Hall, data mover, steering unit -/

/-- The merge latch of a bank (R99). -/
structure Latch where
  live : Bool := false
  line : Nat := 0
  cycle : Nat := 0
  window : Nat := 0
  master : Nat := 0
  /-- the bank read the line with a parity error -/
  poison : Bool := false
deriving DecidableEq, Repr

/-- The crossbar and the atomic tracker of a gallery (R97, R99, R101). -/
structure Hall where
  latch : Tbl Latch := []
  /-- master granted last, per target (16 banks, then the landing egress) -/
  last : Tbl Nat := []
  /-- the tracker: word offset and source, most recently used first, at most 64 -/
  tracker : List (Nat × Nat) := []
  /-- words evicted from the tracker during the step -/
  evicted : List Nat := []
  /-- the scalar core that used the shared master port 12 last (R96) -/
  scLast : Nat := 1
deriving DecidableEq, Repr

/-- Where a descriptor of the data mover stands (R108). -/
inductive DmState where
  | waiting
  | moving
  | done
deriving DecidableEq, Repr

/-- A request of the data mover that has no answer yet: a line read, write or atomic at `addr`; a line read or the old
value of an atomic goes to `dst`. -/
structure DmOut where
  typ : Nat
  addr : Word
  dst : Word
  len : Nat
deriving DecidableEq, Repr

/-- A descriptor taken by the data mover: its six words, or a null token in its place; the lines it has asked for, and
whether more wait for one of the 64 reads that may be out (R108). -/
structure DmJob where
  isNull : Bool := false
  words : List Word := []
  state : DmState := .waiting
  pruned : Nat := 0
  outs : List DmOut := []
  lines : Nat := 0
  held : Bool := false
deriving DecidableEq, Repr

/-- The data mover beyond its registers (R106 to R110): its in-flight descriptors in order, stalled, halted. -/
structure DataMover where
  jobs : List DmJob := []
  stalled : Bool := false
  halted : Bool := false
deriving DecidableEq, Repr

/-- A control of the steering unit: a null control token, or a value. -/
inductive SuCtrl where
  | null
  | value (v : Nat)
deriving DecidableEq, Repr

/-- One entry of the steering unit in action (R112 to R114): expected tag, data slots handled in the step, the step's
control once taken, tokens per fan member. -/
structure SuRun where
  tag : Nat := 0
  slot : Nat := 0
  ctrl : Option SuCtrl := none
  count : Tbl Nat := []
deriving DecidableEq, Repr

/-- The steering unit beyond its registers: its entries in action, all of them stopped, and the entry that fired last
(R115). -/
structure Steer where
  runs : Tbl SuRun := []
  stopped : Bool := false
  turn : Nat := 255
deriving DecidableEq, Repr

/-! ### Queue engines (07_channels_and_queues.md) -/

/-- The key of a sender (R158): device, logical gallery, agent, send slot. -/
structure SenderKey where
  dev : Nat := 0
  gal : Nat := 0
  agent : Nat := 0
  slot : Nat := 0
deriving DecidableEq, Repr

/-- A receive connection (R151 to R156). -/
structure RConn where
  isOpen : Bool := false
  inc : Nat := 0
  queue : Nat := 0
  key : SenderKey := {}
  srcLand : Nat := 0
  expSeq : Nat := 0
  slots : Nat := 0
  lines : Nat := 0
  freedSlots : Nat := 0
  freedLines : Nat := 0
  epoch : Nat := 0
  /-- RTAG and exit of the sender, returned unchanged (R151), and the fabric channel its CONNECT came by -/
  rtag : Nat := 0
  srcExit : Nat := 0
  chan : Option Nat := none
deriving DecidableEq, Repr

/-- A token a sender has not sent yet because it waits for credit: TKIND and payload. -/
structure OutTok where
  kind : Nat
  data : List Byte
deriving DecidableEq, Repr

/-- A send slot (R157, R175 CH_STATE): state 0 free, 1 connecting, 2 open, 3 closing, 4 hung. -/
structure SendSlot where
  state : Nat := 0
  name : Word := 0
  conn : Nat := 0
  slots : Nat := 0
  lines : Nat := 0
  grantSlots : Nat := 0
  grantLines : Nat := 0
  seq : Nat := 0
  raw : Bool := false
  ring : Bool := false
  mc : Bool := false
  mcs : Nat := 0
  epoch : Nat := 0
  prod : Nat := 0
  /-- SEND with PLACE done and POST not yet: the message length -/
  placed : Option Nat := none
  /-- tokens waiting for credit, in order -/
  waitq : List OutTok := []
  /-- opened from the channel table (R149) -/
  table : Bool := false
  /-- a send waits on credit (R172) -/
  waiting : Bool := false
  /-- the ring's global address once the name of another device has been resolved, and whether the header of the message
  being posted has gone out (R162) -/
  ringAddr : Option Word := none
  hdr : Bool := false
deriving DecidableEq, Repr

/-- A multicast slot MCS0-3 (R165 to R167, R175). -/
structure McSlot where
  inUse : Bool := false
  gen : Nat := 0
  flight : Nat := 0
  phase : Nat := 0
  all : Bool := false
  released : Bool := false
  target : Mask := 0
  acked : Mask := 0
  reserved : Mask := 0
  pruned : Mask := 0
  late : Mask := 0
  data : List Byte := []
  need : Nat := 0
  /-- TKIND of the message: data or null -/
  kind : Nat := 0
deriving DecidableEq, Repr

/-- A reservation at a multicast queue (R165): waiting for slots, or holding them. -/
structure Reserve where
  queue : Nat
  slots : Nat
  flight : Nat
  gen : Nat
  held : Bool
  pkt : Packet
deriving DecidableEq, Repr

/-- The queue engine of one agent. -/
structure Agent where
  queues : Tbl (List Packet) := []
  conns : Tbl RConn := []
  slots : Tbl SendSlot := []
  mcs : Tbl McSlot := []
  early : List Packet := []
  drain : List Packet := []
  /-- ring consumer offset per queue -/
  ringCons : Tbl Nat := []
  /-- lines of the last presented ring message, not yet released, per queue, with its connection -/
  ringHeld : Tbl (Nat × Nat) := []
  reserves : List Reserve := []
  /-- expected SEQ of a multicast queue -/
  mcSeq : Tbl Nat := []
  /-- the one source of a multicast queue in this epoch (R164): device, landing, RTAG -/
  mcSrc : Tbl (Option (Nat × Nat × Nat)) := []
  /-- sender of the token presented last, per queue (none: nothing presented since the connections opened) -/
  lastKey : Tbl (Option SenderKey) := []
  /-- a consumer waits on the empty queue -/
  ewait : Tbl Bool := []
  /-- the configuration queues take at the next epoch switch (R170), register offset in the block and value -/
  nextCfg : List (Nat × Word) := []
  /-- the channel table of an agent without CONNECT (R149): send slot, queue name, operand SB of CONNECT -/
  table : List (Nat × Word × Word) := []
deriving DecidableEq, Repr

/-! ### Faults on their way to CP1 (R358) -/

/-- What CP1 has to act on. -/
inductive WorkKind where
  /-- a gallery fault flag -/
  | gallery
  /-- a schedule fault: rollback -/
  | schedule
  /-- a queue hang or an output stall: context drain, then rollback -/
  | hang
  /-- landing parity, framing, malformed header: the landing's own rows of R358 -/
  | landing
  /-- a poisoned line or exhausted retries at a memory controller (R222); the record's AUX is the address -/
  | memory
deriving DecidableEq, Repr

/-- The parts of an error record its source fills (R353, R354). -/
structure RecBody where
  cls : Nat := 0
  kind : Nat := 0
  sev : Nat := 0
  urgent : Bool := false
  phys : Option Nat := none
  agent : Option Nat := none
  pc : Nat := 0
  connA : Nat := 0
  slotA : Nat := 0
  queueB : Nat := 0
  connB : Nat := 0xFFFF
  tag : Nat := 0
  info : Word := 0
  aux : Word := 0
  /-- the port, controller or link of the event, where INFO does not name it (R356) -/
  unit : Option Nat := none
  /-- SEQ_STEP and the global time at the event, of a record that is made later (R353) -/
  stamp : Option (Word × Nat) := none
deriving DecidableEq, Repr

/-- A fault CP1 has not yet handled. -/
structure Work where
  kind : WorkKind
  body : RecBody
deriving DecidableEq, Repr

/-! ### Schedules and steps (08_schedules_and_steps.md) -/

/-- Where the step sequencer stands within its STATE (R178, R185, R191, R194, R335). -/
inductive SeqPhase where
  /-- no step is due -/
  | idle
  /-- PROGRAM_DIGEST is being computed -/
  | digest
  /-- the START of SEQ_STEP is due, cold or warm -/
  | ready (cold : Bool)
  /-- the start barrier was entered -/
  | startBarrier
  /-- the step runs -/
  | run
  /-- the commit record write is issued, COMMITTED or PREPARED -/
  | record (committed : Bool)
  /-- PREPARED is acknowledged: the fabric release is awaited -/
  | fabric
  /-- the guard copies are being written -/
  | guards
  /-- rollback: the quiet time -/
  | quiet
  /-- rollback: the Restart phase -/
  | restart
deriving DecidableEq, Repr

/-- A loaded schedule image (R176): what the sequencer keeps of its header, its REGIONS words and its sections. -/
structure Img where
  addr : Word
  stks : Nat
  devices : Nat
  nseeds : Nat
  ncfg : Nat
  digest : List Byte
  commitBase : Word
  drainBase : Word
  seeds : List Word
  seedBlock : Word
  regions : List Word
  view : ImgView
deriving DecidableEq, Repr

/-- What the load in progress was asked for (R178, R301): start step, placement, INIT_STEPS, the JSN of its descriptor,
the end of the image. -/
structure LoadJob where
  start : Nat
  place : Nat
  init : Nat
  jsn : Nat
  bytes : Nat
deriving DecidableEq, Repr

/-- A move of a logical gallery to a spare: a migration or rotation move (R201, R345), that waits for the step boundary
or is being scanned. -/
structure Move where
  g : Nat
  src : Nat
  dst : Nat
  rotation : Bool
  scanning : Bool
deriving DecidableEq, Repr

/-- A remap in progress (R359 to R364): the logical gallery, the fenced one, the receiving spare, the attempt. -/
structure Remap where
  g : Nat
  old : Nat
  spare : Nat
  attempt : Nat
deriving DecidableEq, Repr

/-- The step sequencer beyond its registers. -/
structure Seq where
  phase : SeqPhase := .idle
  img : Option Img := none
  load : Option LoadJob := none
  cfg : Nat := 0
  runLimit : Nat := 0
  /-- the descriptors that complete at the next START: LOAD and REPLACE -/
  onStart : List Nat := []
  /-- the commit and ND releases of the step are in: the ND result (R327) -/
  release : Option Nat := none
  /-- SEQ_CTL.STOP was written -/
  stopReq : Bool := false
  /-- an abort after the commit point applies to the next step (R186) -/
  abortNext : Bool := false
  /-- that abort is a context drain (R200) -/
  drainNext : Bool := false
  /-- the rollback ends in STOPPED (R181, R196, R359) -/
  stopRoll : Bool := false
  /-- the flip that R182 requires before the next cold START has been made -/
  flipped : Bool := false
  /-- the next START waits for the start barrier (R335) -/
  startBar : Bool := false
  moves : List Move := []
  remaps : List Remap := []
  /-- remaps whose spare has not STARTed yet (R364) -/
  placed : List Remap := []
  /-- global time of the last commit (R331) -/
  commitTime : Nat := 0
  /-- context drain in progress: galleries that have not completed their scan (R200) -/
  draining : List Nat := []
  /-- galleries of the last drain recorded as no answer (R200) -/
  noAnswer : List Nat := []
deriving DecidableEq, Repr

/-- What the endpoint of a fabric channel keeps of a step (R197): tokens of the inbound log in order, and per outgoing
connection (logical gallery, RTAG, device) the CRCs of the tokens sent in the step and how many of the next tokens it
discards because they were sent before a rollback. -/
structure OutLog where
  key : Nat × Nat × Nat
  crcs : List Nat
  skip : Nat
deriving DecidableEq, Repr

/-- The logs of both directions (R197): inbound tokens with the edge router they came by, in order. -/
structure FabLog where
  inbound : List (Nat × Packet) := []
  outbound : List OutLog := []
deriving DecidableEq, Repr

/-! ### Resets in progress (R373) -/

/-- A reset domain of R373; a core is named by its gallery and agent code, an HBM channel by its controller and
pseudo-channel. -/
inductive Domain where
  | core (p a : Nat)
  | gallery (p : Nat)
  | landing (p : Nat)
  | half (h : Nat)
  | port (q : Nat)
  | hbm (m pc : Nat)
  | ddr (m : Nat)
  | warm
deriving DecidableEq, Repr

/-- A reset in progress: its domain and RST_UPTIME when it began. -/
structure ResetRun where
  dom : Domain
  start : Nat
deriving DecidableEq, Repr

/-! ### Landings (06_mesh_stair_and_flights.md) -/

/-- A flight in progress at a landing (R138): the sources that contributed (bit by port code), the combined value, the
local contribution's EPOCH, and whether the arrival went up. -/
structure Partial where
  srcs : Nat := 0
  value : Nat := 0
  epoch : Nat := 0
  sent : Bool := false
deriving DecidableEq, Repr

/-- A landing beyond its registers: partial flights, the FAULT_FLAG it holds (R142): gallery and landing masks, and its
output ports over STALL_TMO (R145). -/
structure Landing where
  parts : Tbl Partial := []
  flag : Option (Mask × Mask) := none
  stalled : List Nat := []
deriving DecidableEq, Repr

/-- A table flip in progress (R131): the bank, the landings it was sent to, acknowledged and pruned. -/
structure Flip where
  bank : Nat
  targets : Mask
  acked : Mask := 0
  pruned : Mask := 0
deriving DecidableEq, Repr

/-! ### Memory controllers -/

/-- An entry of a read-combining buffer (R216): the line's memory key and the last moment it serves a read, in ns. -/
structure RcbEntry where
  line : Nat
  last : Nat
  closed : Bool := false
  /-- the read that allocated it was answered poisoned -/
  poison : Bool := false
deriving DecidableEq, Repr

/-- A memory controller beyond its registers (R214 to R217, R225). -/
structure MemCtl where
  rcb : List RcbEntry := []
  /-- the tracker of R101 at this controller: word and source, most recently used first -/
  tracker : List (Nat × Nat) := []
  evicted : List Nat := []
  /-- events counted in MEMC_ND_ATOMIC since the last guard-copy write (R328) -/
  ndSince : Nat := 0
  /-- time of the last refresh, per bank number -/
  refreshed : Tbl Nat := []
  /-- lines, by memory key / 128, that a read found uncorrectable and nothing has written since (R221, R223) -/
  lost : List Nat := []
  /-- lines in which an error was found: what a later read of one finds is free (R220, R221; log entry 1) -/
  weak : List Nat := []
  /-- pseudo-channels, or 0 for a DDR5 channel, whose interface fails until their reset is over (R219) -/
  failing : List Nat := []
  /-- activations of each bank since its last management command or refresh, and the commands issued (R225) -/
  acts : Tbl Nat := []
  managed : Tbl Nat := []
deriving DecidableEq, Repr

/-! ### Barriers (R281 to R283) -/

/-- A barrier entry of an edge router beyond its register: the sources that are in for the expected generation (bit 0
the local member, bit 1 + c child c), whether ARRIVE went to the parent, the T of the last release, and a release whose
time T the local member waits for. -/
structure Bar where
  got : Nat := 0
  sent : Bool := false
  lastT : Option Nat := none
  due : Option Nat := none
deriving DecidableEq, Repr

/-! ### Fabric ports (10_fabric_links.md) -/

/-- Where the training of a port stands (R249). -/
inductive Train where
  | none
  | lock
  | identity
  | soak
deriving DecidableEq, Repr

/-- A fabric port beyond its registers (R234, R243 to R255): its role, training, the sequence of frames in both
directions, credits, packets on their way in and out. -/
structure Port where
  /-- R234's role has been assigned since the last cold reset -/
  named : Bool := false
  /-- role direction, 7 for a spare or none, and device ordinal (R234, R252) -/
  dir : Nat := 7
  ord : Nat := 0xF
  train : Train := .none
  /-- a phase of the training has missed its limit once -/
  missed : Bool := false
  /-- the training is that of a port that had FAILED (R253) -/
  again : Bool := false
  /-- LSEQ of the next DATA frame, and the frames not acknowledged, oldest first (R244) -/
  lseq : Nat := 0
  replay : List LinkFrame := []
  /-- consecutive replays from the oldest LSEQ (R246) -/
  tries : Nat := 0
  /-- expected LSEQ, and whether a NAK is out for it (R245) -/
  expect : Nat := 0
  missing : Bool := false
  /-- first transmissions per lane, the peer's freed counts, its shares, own freed counts (R243) -/
  sent : Tbl Nat := []
  ccum : Tbl Nat := []
  shares : List Nat := []
  freed : Tbl Nat := []
  cvl : Nat := 0
  /-- packets handed to the port: lane, bytes not yet sent, whether any was sent -/
  out : List (Nat × List Byte × Bool) := []
  /-- the frames of the codeword that is being filled, and its CWC (R237, R238) -/
  group : List LinkFrame := []
  cwc : Nat := 0
  /-- bytes of the packet partly received, per lane; frames that no packet of the router accounts for yet -/
  part : Tbl (List Byte) := []
  frames : Tbl Nat := []
  /-- the lane discards until the next packet that starts (R248) -/
  resync : Tbl Bool := []
  /-- on a spare: the failed port whose role it asked for with PROMOTE (R252) -/
  asked : Option Nat := none
  /-- spares that answered PROMOTE_NAK for this port -/
  refused : List Nat := []
  /-- a spare has taken this port's role (R253) -/
  replaced : Bool := false
  /-- DOWN was sent (R254) -/
  downSent : Bool := false
deriving DecidableEq, Repr

/-! ### Edge routers (11_fabric_network_and_transport.md) -/

/-- A packet in an edge router: the port, lane and input-buffer frames it came with, none for one of this device. -/
structure RouterPkt where
  pkt : FabPkt
  src : Option (Nat × Nat × Nat) := none
deriving DecidableEq, Repr

/-- A sequenced packet not yet acknowledged (R271, R273): how often it was sent, and whether SACK marks it. -/
structure TxPkt where
  pkt : FabPkt
  sent : Nat := 0
  sacked : Bool := false
deriving DecidableEq, Repr

/-- A message not yet covered by DONE_MSN (R261, R272, R274): its MSN, its packets as first made, and the mesh packets it
answers for. -/
structure TxMsg where
  msn : Nat
  pkts : List FabPkt
  reqs : List Packet
deriving DecidableEq, Repr

/-- State of a connection's sending end (R270). -/
inductive TxState where
  | closed
  /-- no context is free -/
  | waiting
  /-- OPEN sent -/
  | opening
  | opened
  /-- CLOSE sent -/
  | closing
deriving DecidableEq, Repr

/-- The sending end of a connection (R270 to R274). -/
structure TxConn where
  dev : Nat
  state : TxState := .closed
  psn : Nat := 0
  msn : Nat := 0
  pkts : List TxPkt := []
  msgs : List TxMsg := []
  otherPlane : Bool := false
  stalled : Bool := false
deriving DecidableEq, Repr

/-- A message partly received (R272), with what an ATOMIC does. -/
structure RxMsg where
  msn : Nat
  got : Nat
  pkts : List FabPkt
  atom : Option (AtomOp × Word) := none
deriving DecidableEq, Repr

/-- The receiving end of a connection (R271, R272): EPSN, PSNs at or beyond it received, messages not delivered, the next
MSN to deliver, which is DONE_MSN, and arrivals since the last TACK. -/
structure RxConn where
  dev : Nat
  isOpen : Bool := true
  epsn : Nat := 0
  marks : List Nat := []
  msgs : List RxMsg := []
  done : Nat := 0
  since : Nat := 0
  /-- when the context was closed (R270) -/
  closedAt : Nat := 0
deriving DecidableEq, Repr

/-- A READ or ATOMIC sent and not answered, by its mesh packet (R261). -/
structure FabReq where
  dev : Nat
  req : Packet
deriving DecidableEq, Repr

/-- One fabric channel at the endpoint of an edge router (R197). `toFabric`: the local leg of a channel to another
device, where the endpoint receives; otherwise the leg of a channel from another device, where the endpoint sends. -/
structure FabChan where
  toFabric : Bool
  dev : Nat
  /-- the number the sending device's endpoint gave the connection -/
  conn : Nat
  /-- the landing of the local agent, and its RTAG; the queue name; ARG of its CONNECT -/
  land : Nat
  rtag : Nat
  name : Word
  arg : Word
  /-- the local queue's connection number once it granted, its credit, the next SEQ, tokens that wait -/
  far : Option Nat := none
  slots : Nat := 0
  seq : Nat := 0
  waitq : List Packet := []
deriving DecidableEq, Repr

/-- A reserve or a delivery in progress at a node of a multicast group (R276, R277): the group, GEN, data phase, the
members asked, the children that have not answered, the masks gathered, and at the root the sender: gallery, agent,
multicast slot. A node whose local name is a local multicast is itself the source of R165: `want` are its targets, `owed`
those that have not answered, `took` those that reserved or took the data, `shed` those pruned. -/
structure GroupRun where
  group : Nat
  gen : Nat
  data : Bool
  asked : Nat
  waits : List Nat
  all : Bool := true
  got : Nat := 0
  pruned : Nat := 0
  root : Option (Nat × Nat × Nat) := none
  want : Mask := 0
  owed : Mask := 0
  took : Mask := 0
  shed : Mask := 0
deriving DecidableEq, Repr

/-- The WRITE message that WR_REQ packets of one landing and RTAG still continue (R261): the packets so far, and their
bytes. -/
structure OpenWrite where
  dev : Nat
  land : Nat
  rtag : Nat
  addr : Word
  bytes : Nat
  reqs : List Packet
deriving DecidableEq, Repr

/-- An edge router beyond its registers. -/
structure Router where
  writes : List OpenWrite := []
  queue : List RouterPkt := []
  tx : List TxConn := []
  rx : List RxConn := []
  reqs : List FabReq := []
  chans : List FabChan := []
  groups : List GroupRun := []
  /-- per group, the targets of the node's local multicast that hold a reservation (R276) -/
  held : Tbl Mask := []
  orderMsn : Nat := 0
deriving DecidableEq, Repr

/-- An order being assembled (R285): packets by SRC and MSN, the pieces received. -/
structure OrderAsm where
  via : Nat
  src : Nat
  msn : Nat
  mlen : Nat
  pieces : List (Nat × List Byte)
deriving DecidableEq, Repr

/-- Time keeping (R278, R279): exchanges missed, whether the counter has stepped to its parent's time, the link delay last
measured and the correction that the counter still slews by, both in ps. -/
structure TimeKeep where
  missed : Nat := 0
  waiting : Bool := false
  stepped : Bool := false
  delay : Int := 0
  owed : Int := 0
deriving DecidableEq, Repr

/-! ### Flash and the defect map (R367 to R369, R409, R454) -/

/-- A defect-map entry (R368). -/
structure DefEntry where
  utype : Nat
  unit : Nat
  state : Nat
  cls : Nat
  kind : Nat
  origin : Nat
  strikes : Nat
  life : Nat
  aux : Nat
  time : Nat
deriving DecidableEq, Repr

/-- What a flash operation in CP0's queue writes (R454, R409). -/
inductive FlashOp where
  /-- the defect map and the logical map -/
  | defmap
  /-- the last accepted ORDER_NO -/
  | orderNo (n : Nat)
  /-- SEC_FLOOR -/
  | floor (v : Nat)
  /-- a key set with its QUORUM -/
  | keys (quorum : Nat) (ks : List (List Byte))
  /-- bytes of a firmware slot, at an offset -/
  | firmware (slot off : Nat) (data : List Byte)
  /-- a dump, copied or written directly, to the crash area -/
  | crash (data : List Byte)
  /-- MGMT_CFG, MGMT_IP4 and MGMT_DEST -/
  | mgmt (ws : List Word)
deriving DecidableEq, Repr

/-- What the flash holds (R367, R406, R409, R410, R454), the two copies of each item taken as one valid copy (log
entry 15): defect map and logical map with GEN, LIFE_S as last written and as it was when power rose, key set, ORDER_NO,
floor, BAD marks, boot counter, firmware slots, identity certificate, crash area, management settings. -/
structure Flash where
  defects : List DefEntry := []
  logical : List Word := []
  gen : Nat := 0
  lifeS : Nat := 0
  life : Nat := 0
  keys : List (List Byte) := []
  quorum : Nat := 3
  orderNo : Nat := 0
  floor : Nat := 0
  badA : Bool := false
  badB : Bool := false
  boots : Nat := 0
  slotA : List Byte := []
  slotB : List Byte := []
  cert : List Byte := []
  crash : List Byte := []
  mgmt : List Word := []
deriving DecidableEq, Repr

/-! ### The host link and its rings (12_host_link_and_rings.md) -/

/-- How far a descriptor has come (R308, R312). -/
inductive DPhase where
  /-- its ACCEPT record is written and not acknowledged -/
  | accepting
  /-- accepted: it waits to act, or for its step -/
  | accepted
  /-- its action runs -/
  | acting
  /-- complete on the device: its completion waits for its place in the slot order -/
  | complete
  /-- the completion record is written and not acknowledged -/
  | writing
  /-- FINISH waits for room in the journal -/
  | finWait
  /-- FINISH is written and not acknowledged -/
  | finishing
deriving DecidableEq, Repr

/-- An accepted descriptor (R301, R307, R312): the eight words, its places in the rings, its binding, what it completes
with, its transfer (offset of the next request, requests unanswered, bytes it writes out), its FAIL record (0 none,
1 due, 2 unacknowledged, 3 acknowledged), and what an accept-time check found (no effect). -/
structure Desc where
  jsn : Nat
  ring : Nat
  index : Nat
  cpr : Nat
  cslot : Nat
  words : List Word
  bound : Bool
  start : Nat
  target : Nat
  dcrc : Nat
  status : Nat := 0
  detail : Word := 0
  step : Nat := 0
  phase : DPhase := .accepting
  pos : Nat := 0
  left : Nat := 0
  buf : List Byte := []
  failRec : Nat := 0
deriving DecidableEq, Repr

/-- A command ring beyond its registers (R299, R300, R316): last doorbell, index of the next descriptor, and whether it
accepts since DEVICE_READY. -/
structure CmdRing where
  prod : Nat := 0
  next : Nat := 0
  armed : Bool := true
deriving DecidableEq, Repr

/-- A completion ring beyond its registers (R304, R306, R316): consumer index, next slot to reserve, next slot to write,
records written since the last event. -/
structure CplRing where
  ci : Nat := 0
  next : Nat := 0
  write : Nat := 0
  since : Nat := 0
  armed : Bool := true
  /-- as the error ring it was found full, and that has been recorded (R305, R354 class 0x0D KIND 0xC) -/
  full : Bool := false
deriving DecidableEq, Repr

/-- What an outstanding request of the device to the host is for. -/
inductive SclOp where
  | accept (jsn : Nat)
  | completion (jsn : Nat)
  | finish (jsn : Nat)
  | failRec (jsn : Nat)
  /-- the job line, rewritten -/
  | job
  /-- an error record on completion ring `c` -/
  | errRec (c : Nat)
  /-- a line of a descriptor's transfer, at this offset: to device memory, or to host memory -/
  | dmaIn (jsn off : Nat)
  | dmaOut (jsn off : Nat)
  /-- a line of host memory, to be kept shared -/
  | shared (line : Nat)
  /-- a line of a transfer that began again (R311): its answer is discarded, and its tag is free after it -/
  | lost
deriving DecidableEq, Repr

/-- The SCL engine (R296 to R312): rings, accepted descriptors in JSN order, requests outstanding by tag, requests that wait
for a tag, messages held while the link is down with their virtual lanes, lines of the host-line cache newest first, the
next JSN. -/
structure HostLink where
  rings : Tbl CmdRing := []
  cpls : Tbl CplRing := []
  descs : List Desc := []
  ops : List (Nat × SclOp) := []
  waiting : List (SclMsg × SclOp) := []
  held : List (Nat × SclMsg) := []
  lines : List Nat := []
  jsn : Nat := 0
  /-- training of the link (R293), a phase missed once -/
  train : Train := .none
  missed : Bool := false
  /-- sequence, credits, and byte streams of the link's virtual lanes in both directions, as a fabric port has them (R291,
  R292) -/
  link : Port := {}
  /-- lines of RD_SHARED requests that a SNP_INV met while outstanding (R298), by tag -/
  snooped : List Nat := []
deriving DecidableEq, Repr

/-! ### Self-test (14_self_test.md) -/

/-- How far a test has come (R343, R345, R350). -/
inductive TestPhase where
  /-- it waits in the queue of its half, or for a tick -/
  | queued
  /-- its target waits for a step boundary, or is being moved -/
  | moving
  /-- its elements run -/
  | running
deriving DecidableEq, Repr

/-- A test (R343 to R351): scope and unit of R350, ORIGIN of R340, the elements still to run with their units, the seed of
a TEST descriptor, its JSN, entries so far, how many did not pass. -/
structure Test where
  scope : Nat
  unit : Nat
  origin : Nat
  elems : List (Nat × Nat)
  seed : Word := 0
  jsn : Option Nat := none
  entries : List (List Byte) := []
  bad : Nat := 0
  phase : TestPhase := .queued
deriving DecidableEq, Repr

/-- The test controller beyond its registers: tests queued and running, oldest first; galleries that are tested again at
the next tick of their half (R348, R366); sweep counts of the halves (R343); the state a device-wide test returns to
(R350); the instruction register of the test access port and the result entries read through it (R351). -/
structure SelfTest where
  tests : List Test := []
  again : List Nat := []
  sweeps : Tbl Nat := []
  back : Nat := 0
  tap : Nat := 1
  tapRead : Nat := 0
deriving DecidableEq, Repr

/-! ### Power (19_power_clocks_thermal.md) -/

/-- The power controller beyond its registers (R421 to R431): intervals in a row above the cap and below the
hysteresis, intervals since the last one above the cap; halves held by a low rail; per sensor the last reading plus
1000, the readings of 115 °C or above in a row, whether it is faulty, and whether it holds its islands, with the
intervals since it cooled. -/
structure Power where
  capped : Nat := 0
  under : Nat := 0
  uncapped : Nat := 1000
  railLow : List Nat := []
  sensors : Tbl Nat := []
  hot : Tbl Nat := []
  faulty : List Nat := []
  throttling : List Nat := []
  cooled : Tbl Nat := []
  /-- the fast clamp tripped in the interval in progress (R425) -/
  clamped : Bool := false
  /-- engines whose lasers are off (R380, R420, R429, R430); a thermal trip has happened -/
  engines : List Nat := []
  tripped : Bool := false
deriving DecidableEq, Repr

/-! ### Management (21_management_and_service.md) -/

/-- A path of the record stream (R451): ESN of the last REC_ACK, and of the newest record sent. -/
structure RecPath where
  acked : Option Nat := none
  last : Option Nat := none
deriving DecidableEq, Repr

/-- The management unit beyond its registers: records not acknowledged on every path, with the FM mark, oldest first;
paths 0 Ethernet and 1 MCTP; the message count of the device; the order staging with its station; the I3C dynamic address;
bytes of the firmware slot written so far. -/
structure Mgmt where
  recs : List (Bool × List Word) := []
  paths : Tbl RecPath := []
  seq : Nat := 0
  staging : Option (Nat × List Byte) := none
  i3c : Option Nat := none
  writing : Bool := false
  /-- RST_UPTIME when ATTN_STATE became DRAINED (R456) -/
  drainedAt : Nat := 0
deriving DecidableEq, Repr

/-! ### What the part has sent out -/

/-- What the part has handed to an interface or raised as an event, newest first in `Chip.out` (the model's own field:
nobody inside the part reads it back). -/
inductive Out where
  /-- a packet entered the mesh at landing `land` (R126) -/
  | mesh (land : Nat) (pkt : Packet)
  /-- a packet leaves the vestibule for the mesh or another device (R229) -/
  | vest (pkt : Packet)
  /-- the crossbar of gallery `p` answers master `m`: the bytes, the poison mark, an address error (R97, R103, R105) -/
  | reply (p m : Nat) (data : List Byte) (poison err : Bool)
  /-- a packet leaves landing `land` by a port (R117, R127) -/
  | hop (land port : Nat) (pkt : Packet)
  /-- a release leaves a root landing on the drop to the vestibule, as the flight word of R139 (R137 VEST) -/
  | drop (land : Nat) (word : Word)
  /-- an agent of gallery `p` contributes to a flight at its landing: flight, generation, value (R139, R165) -/
  | contribute (p flight gen value : Nat)
  /-- GSTEP_CTL is multicast to every live gallery: START, COLD, ABORT (R185, R191) -/
  | gstep (start cold abort : Bool)
  /-- a transport or control packet goes to the router of edge router `h` (R261 to R263) -/
  | fab (h : Nat) (pkt : FabPkt)
  /-- a frame leaves on fabric port `q` (R240) -/
  | frame (q : Nat) (f : LinkFrame)
  /-- a codeword leaves on lane `l` of fabric port `q`: link data and lane word (R237) -/
  | codeword (q l : Nat) (c : List Byte × BitVec 20)
  /-- a message leaves on the host link (R295, R296) -/
  | scl (m : SclMsg)
  /-- a management message leaves by path 0 Ethernet or 1 MCTP to a station: MTYPE, SEQ, STATUS, FLAGS, body (R449) -/
  | mgmt (path station mtype seq status flags : Nat) (body : List Byte)
  /-- an answer of a transport below the management messages, or of the test access port: what it is, its bytes -/
  | wire (what : Nat) (body : List Byte)
  /-- an access of the external Ethernet PHY at an MDIO address (R479) -/
  | mdio (addr : Nat)
  /-- the answer of a read of the register at offset `reg`, or of a command read -/
  | value (reg : Nat) (v : Word)
  /-- the one overflow event of the counter register at offset `reg` (R11) -/
  | overflow (reg : Nat)
deriving DecidableEq, Repr

/-- The last snapshot (R383): its trigger, the record that caused it, and the copy of what the registers show. -/
structure Snap where
  source : Nat
  esn : Nat
  uptime : Nat
  step : Nat
  resets : List ResetRun := []
  remaps : List Remap := []
  tests : List Test := []
  descs : List Desc := []
  dimms : Nat := 0
  regs : Tbl Word
  agents : Tbl Agent
  cps : Tbl SCore
deriving DecidableEq, Repr

/-- A dump in progress (R386, R387): the blocks that have not answered within 64 µs. -/
structure Dump where
  noAnswer : List Nat := []
deriving DecidableEq, Repr

/-- The report of a boot receiver (R400): pages of the image (0 while not known), round, next window to contribute. -/
structure BootRx where
  pages : Nat := 0
  round : Nat := 0
  window : Nat := 0
deriving DecidableEq, Repr

/-- When records of one key went out within the last second, and how many are held back (R356). -/
structure RecRate where
  key : Nat × Nat × Nat
  sent : List Nat
  held : Nat
deriving DecidableEq, Repr

/-! ### The whole part -/

/-- Everything but memory and the command queue. Units are indexed as the comments say; `p` is a physical gallery. -/
structure Chip where
  fuses : Fuses := Config.oyw2304
  /-- the set-up region, by offset from S -/
  regs : Tbl Word := []
  /-- global time in ns (R278) -/
  time : Nat := 0
  /-- matrix cores, 8 p + n -/
  mcs : Tbl MCore := []
  /-- vector cores, 4 p + n -/
  vcs : Tbl VCore := []
  /-- scalar cores, 2 p + n -/
  scs : Tbl SCore := []
  /-- control processors -/
  cps : Tbl SCore := []
  /-- moderation timers that hold their sources: 8 × CP + timer number (R443), the newest first -/
  modRun : List Nat := []
  halls : Tbl Hall := []
  dms : Tbl DataMover := []
  sus : Tbl Steer := []
  /-- queue engines, 16 p + agent code -/
  agents : Tbl Agent := []
  /-- landings, by physical index -/
  landings : Tbl Landing := []
  /-- the table flip in progress -/
  flip : Option Flip := none
  /-- FAULT_FLAG masks that came over the four drops and CP1 has not read (R142) -/
  flags : Tbl (Mask × Mask) := []
  /-- memory controllers: HBM stacks 0 to 7, DDR5 channels 8 to 15 -/
  mctl : Tbl MemCtl := []
  /-- resets in progress, oldest first -/
  resets : List ResetRun := []
  /-- the main rails are on and power-good (R420): after State.reset the part is powered -/
  powered : Bool := true
  /-- the level of the output EPHY_RST_L, high from step 4 of the cold sequence (R479) -/
  ephyRst : Bool := false
  /-- DIMM presence pins, bit 2 c + d for slot d of channel c (R227, R458) -/
  dimms : Nat := 0
  /-- the job's peer map (R288): its devices in rising order, and its MAP_GEN -/
  peers : List Nat := []
  mapGen : Nat := 0
  host : HostLink := {}
  seq : Seq := {}
  /-- GSTEP_STATE.STATE of a gallery when its scan began (R199) -/
  scans : Tbl Nat := []
  /-- the fabric channel endpoints' logs of the step (R197) -/
  fabLog : FabLog := {}
  /-- set-up region writes of the command in progress, in order: offset, size, value, requester; empty between
  commands -/
  bus : List (Nat × Nat × Nat × Word) := []
  /-- barrier entries, 16 × edge router + entry -/
  bars : Tbl Bar := []
  /-- when a gallery passed its latest test, in order of passing; 0 for one that has not passed (R344, R360) -/
  passAt : Tbl Nat := []
  /-- passes so far, by which `passAt` is ordered -/
  passes : Nat := 0
  /-- fabric ports 0 to 63 -/
  ports : Tbl Port := []
  routers : Tbl Router := []
  /-- orders being assembled, oldest first; complete orders not verified yet, with the edge router they came by, or 2
  for the management port -/
  orderAsm : List OrderAsm := []
  orders : List (List Byte × Nat) := []
  timeKeep : TimeKeep := {}
  flash : Flash := {}
  /-- flash operations of CP0, in order; the first is in progress -/
  flashQ : List FlashOp := []
  /-- the defect map as the device holds it (R367) -/
  defects : List DefEntry := []
  /-- the manager key set in force (R410, R411) -/
  keys : List (List Byte) := []
  snap : Option Snap := none
  /-- the time T of a fabric trigger that has not latched (R385) -/
  snapAt : Option Nat := none
  dump : Option Dump := none
  /-- cause of a warm reset that waits for the dump to end (R387) -/
  warmWait : Option Nat := none
  test : SelfTest := {}
  power : Power := {}
  mgmt : Mgmt := {}
  /-- galleries reset since they were last fenced (R372 UNFENCE) -/
  wasReset : List Nat := []
  /-- faults CP1 has taken during a move and not handled yet (R346) -/
  deferred : List Work := []
  /-- the mailbox operation in progress and its inputs as sampled (R416): OP, LEN, request bytes -/
  mailbox : Option (Nat × Nat × List Byte) := none
  /-- landings whose island a power switch holds off (R376) -/
  lndOff : List Nat := []
  /-- reports of the boot receivers in progress, by gallery (R400) -/
  gboot : Tbl BootRx := []
  /-- exits that failed their qualification (R398): 1 memory port, 2 drop, 3 bridge, 4 edge router; landing -/
  exitsBad : List (Nat × Nat) := []
  /-- RST_UPTIME when the watchdog of a control processor was last restarted (R375) -/
  kicks : Tbl Nat := []
  /-- blocks held in reset: power lost, out of service, safe state or thermal trip (R342, R380, R420, R430) -/
  held : Bool := false
  /-- faults CP1 has not handled, oldest first -/
  work : List Work := []
  /-- error records created and not yet streamed, oldest first: eight words each (R353) -/
  recQ : List (List Word) := []
  recRate : List RecRate := []
  /-- what has been sent out, newest first -/
  out : List Out := []
  /-- draws of free values so far (log entry 1) -/
  freeCtr : Nat := 0
deriving DecidableEq, Repr

/-- The state of the part. -/
structure State where
  chip : Chip
  mem : Memory
  /-- commands that wait, first in first out -/
  pending : List Instr
  /-- bytes of the on-chip arrays, by memory key, whose stored parity bit does not match (R102) -/
  badPar : List Nat := []
deriving DecidableEq, Repr

/-- The part right after reset: every register at its reset value, every unit idle, memory with nothing listed, no
command waiting (log entries 2 and 3). -/
def State.reset : State := { chip := {}, mem := [], pending := [] }

end Sys2Proof.Machine
end

