-- ==== Sys2Proof/Machine/Ycg.lean ====
section
/-! DEFINITION. The Yilur counter generator (04_vector_and_scalar_cores.md R89) and the CRC-32C the spec names. -/

namespace Sys2Proof.Machine

/-- 32-bit left rotation. -/
def rotl32 (x n : Nat) : Nat := (x * 2 ^ n + x / 2 ^ (32 - n)) % 2 ^ 32

/-- The rotation counts of the eight rounds (R89). -/
def ycgRot : List Nat := [13, 15, 11, 5, 17, 25, 9, 19]

/-- One round: x0 takes the sum, x1 the rotation XOR x0. -/
def ycgRound (x : Nat × Nat) (r : Nat) : Nat × Nat :=
  let x0 := (x.1 + x.2) % 2 ^ 32
  (x0, rotl32 x.2 r ^^^ x0)

/-- The generator word for key `k`, stream `t` and counter `c` (R89). -/
def ycg (k : Word) (t c : Nat) : Word :=
  let ks0 := k.toNat % 2 ^ 32
  let ks1 := k.toNat / 2 ^ 32
  let ks2 := ks0 ^^^ ks1 ^^^ 0x5A4D3C27
  let x := ((c + ks0) % 2 ^ 32, (t + ks1) % 2 ^ 32)
  let x := (ycgRot.take 4).foldl ycgRound x
  let x := ((x.1 + ks1) % 2 ^ 32, (x.2 + ks2 + 1) % 2 ^ 32)
  let x := (ycgRot.drop 4).foldl ycgRound x
  let x := ((x.1 + ks2) % 2 ^ 32, (x.2 + ks0 + 2) % 2 ^ 32)
  w64 (x.2 * 2 ^ 32 + x.1)

/-- One bit of the CRC-32C register (reflected polynomial 0x82F63B78; PRESUMED, the published CRC-32C, log entry 6). -/
def crcBit (c : Nat) : Nat := if c % 2 = 1 then (c / 2) ^^^ 0x82F63B78 else c / 2

/-- One byte of the CRC-32C register. -/
def crcByte (c : Nat) (b : Byte) : Nat :=
  (List.range 8).foldl (fun c _ => crcBit c) (c ^^^ b.toNat)

/-- CRC-32C of a run of bytes: initial value all-ones, result inverted. -/
def crc32c (bs : List Byte) : Nat := bs.foldl crcByte 0xFFFFFFFF ^^^ 0xFFFFFFFF

end Sys2Proof.Machine
end

