-- ==== Sys2Proof/Machine/Ops.lean ====
section
/-! DEFINITION. The named operations of a command in progress: reading and writing registers, fields, units and memory,
counters (R11), free values (log entry 1), and how a command ends. A command works on a `W`: the chip, memory as it was
when the command began, and the changes of memory so far; `run` is the one place where memory changes. -/

namespace Sys2Proof.Machine

/-- A command in progress. -/
structure W where
  c : Chip
  mem : Memory
  /-- changes of memory so far, newest first -/
  log : List MemOp
  /-- bytes whose stored parity bit does not match (R102) -/
  bad : List Nat := []

/-- The part before a command has done anything. -/
def State.w (s : State) : W := ⟨s.chip, s.mem, [], s.badPar⟩

/-- What a command leaves: the chip, and memory with its changes; the command queue is untouched. -/
def State.after (s : State) (w : W) : State :=
  { chip := w.c, mem := s.mem.applyAll w.log, pending := s.pending, badPar := w.bad }

/-- A command carried out: its effect on the chip and its changes of memory; the command queue is untouched. With `on`
false the block it acts on is held in reset and nothing changes. -/
def runIf (on : Bool) (s : State) (f : W → W) : Host.Outcome State Fault Refusal :=
  .next (if on then s.after (f s.w) else s)

/-- The rails are on and no thermal trip has happened (R420, R430). -/
def State.aux (s : State) : Bool := s.chip.powered && !s.chip.power.tripped

/-- Moreover no block is held in reset (R342, R380). -/
def State.live (s : State) : Bool := s.aux && !s.chip.held

/-- A command on the part. -/
def run (s : State) (f : W → W) : Host.Outcome State Fault Refusal := runIf s.live s f

/-- A command on what still runs out of service and in safe state: CP0, CP3, management, reset, flash (R342, R380). -/
def runAux (s : State) (f : W → W) : Host.Outcome State Fault Refusal := runIf s.aux s f

/-- A command on a unit: `ok` says the part has the unit. -/
def runOn (ok : Bool) (s : State) (f : W → W) : Host.Outcome State Fault Refusal :=
  if ok then run s f else .fault .noSuchUnit

/-- Physical gallery or landing `p` exists (R12). -/
def galOk (p : Nat) : Bool := decide (p < 312)

namespace W

/-! ### Registers -/

/-- The register at offset `k` from S. -/
def reg (w : W) (k : Nat) : Word := Tbl.get (regReset w.c.fuses) w.c.regs k

/-- The register at `k` set to `v`. -/
def setReg (w : W) (k : Nat) (v : Word) : W :=
  { w with c := { w.c with regs := Tbl.set (regReset w.c.fuses) w.c.regs k v } }

/-- A field of a register. -/
def fld (w : W) (k : Nat) (f : Fld) : Nat := bits (w.reg k) f.hi f.lo

/-- A field of one bit, as a truth value. -/
def flag (w : W) (k : Nat) (f : Fld) : Bool := w.fld k f != 0

/-- A register with one field replaced. -/
def setFld (w : W) (k : Nat) (f : Fld) (v : Nat) : W := w.setReg k (putBits (w.reg k) f.hi f.lo v)

/-- A register with one-bit field set to a truth value. -/
def setFlag (w : W) (k : Nat) (f : Fld) (b : Bool) : W := w.setFld k f b.toNat

/-- The registers in `lo ≤ k < hi` back at their reset values. -/
def resetRegs (w : W) (lo hi : Nat) : W := { w with c := { w.c with regs := Tbl.clearRange w.c.regs lo hi } }

/-- The run of `n` 64-bit register words from `k`, as one number, word 0 lowest (R469). -/
def regWords (w : W) (k n : Nat) : List Word := (List.range n).map fun i => w.reg (k + 8 * i)

/-- A run of register words written. -/
def setRegWords (w : W) (k : Nat) (ws : List Word) : W :=
  ws.zipIdx.foldl (fun w (v, i) => w.setReg (k + 8 * i) v) w

/-- A 320-bit mask held in five register words. -/
def regMask (w : W) (k : Nat) : Mask := maskOfWords (w.regWords k 5)

/-- A 320-bit mask written to five register words. -/
def setRegMask (w : W) (k : Nat) (m : Mask) : W := w.setRegWords k ((List.range 5).map fun i => maskWord m i)

/-! ### Counters (R11, R73) -/

/-- `n` events counted in a counter of `width` bits with its sticky flag in bit 63: an event at all-ones is not counted
and sets the flag, and the first one to set it raises the overflow event. -/
def countW (w : W) (k width n : Nat) : W :=
  let v := w.reg k
  let c := bits v (width - 1) 0
  let top := 2 ^ width - 1
  if c + n ≤ top then w.setReg k (putBits v (width - 1) 0 (c + n))
  else
    let w' := w.setReg k (putBit (putBits v (width - 1) 0 top) 63 true)
    if bit v 63 then w' else { w' with c := { w'.c with out := .overflow k :: w'.c.out } }

/-- `n` events in a performance and event counter. -/
def count (w : W) (k n : Nat) : W := w.countW k 48 n

/-- One event in an error counter. -/
def countErr (w : W) (k : Nat) : W := w.countW k 16 1

/-- The counters named by the set bits of a clear mask cleared, with their flags: bit i names `base + 8 i`, i < n. -/
def clearCounters (w : W) (base n : Nat) (mask : Word) : W :=
  (setBitsBelow n mask.toNat).foldl (fun w i => w.setReg (base + 8 * i) 0) w

/-- A nondeterminism event of gallery `p` (R325, R326): GND_PEND counts it and sticks at all ones. -/
def ndEvent (w : W) (p : Nat) : W :=
  w.setFld (Reg.GND_PEND p) ⟨31, 0⟩ (min 0xFFFFFFFF (w.fld (Reg.GND_PEND p) ⟨31, 0⟩ + 1))

/-! ### Memory -/

/-- One byte of memory, as the command sees it. -/
def rd (w : W) (k : Nat) : Byte := Memory.peek w.mem w.log k

/-- A run of bytes. -/
def rdBytes (w : W) (k n : Nat) : List Byte := (List.range n).map fun i => w.rd (k + i)

/-- A little-endian number of `n` bytes. -/
def rdNat (w : W) (k n : Nat) : Nat := leNat (w.rdBytes k n)

/-- One byte written, with its parity (R102). -/
def wr (w : W) (k : Nat) (b : Byte) : W := { w with log := .put k b :: w.log, bad := w.bad.filter (· ≠ k) }

/-- A run of bytes written, lowest address first. -/
def wrBytes (w : W) (k : Nat) : List Byte → W
  | [] => w
  | b :: bs => W.wrBytes (w.wr k b) (k + 1) bs

/-- A little-endian number of `n` bytes written. -/
def wrNat (w : W) (k n v : Nat) : W := w.wrBytes k (leBytes n v)

/-- A range of memory set to zero. -/
def zero (w : W) (lo hi : Nat) : W :=
  { w with log := .clear lo hi :: w.log, bad := w.bad.filter fun k => decide (k < lo) || decide (hi ≤ k) }

/-- A range of memory copied to another place, its parity unchanged (R102). -/
def copyMem (w : W) (lo hi dst : Nat) : W :=
  let moved := (w.bad.filter fun k => decide (lo ≤ k) && decide (k < hi)).map fun k => k - lo + dst
  { w with log := .copy lo hi dst :: w.log,
           bad := (w.bad.filter fun k => decide (k < dst) || decide (dst + (hi - lo) ≤ k)) ++ moved }

/-- The bytes of a run whose stored parity does not match (R102): the first, counted from the run's start, and how
many. -/
def badRun (w : W) (k n : Nat) : Option (Nat × Nat) :=
  match w.bad.filter fun b => decide (k ≤ b) && decide (b < k + n) with
  | [] => none
  | b :: bs => some (bs.foldl min b - k, bs.length + 1)

/-- The stored parity of `n` bytes no longer matches. -/
def spoil (w : W) (k n : Nat) : W :=
  { w with bad := ((List.range n).map (k + ·)).filter (fun b => !w.bad.contains b) ++ w.bad }

/-! ### Units -/

def mc (w : W) (p n : Nat) : MCore := Tbl.get (fun _ => {}) w.c.mcs (8 * p + n)
def setMc (w : W) (p n : Nat) (v : MCore) : W :=
  { w with c := { w.c with mcs := Tbl.set (fun _ => {}) w.c.mcs (8 * p + n) v } }
def vc (w : W) (p n : Nat) : VCore := Tbl.get (fun _ => {}) w.c.vcs (4 * p + n)
def setVc (w : W) (p n : Nat) (v : VCore) : W :=
  { w with c := { w.c with vcs := Tbl.set (fun _ => {}) w.c.vcs (4 * p + n) v } }
def sc (w : W) (p n : Nat) : SCore := Tbl.get (fun _ => {}) w.c.scs (2 * p + n)
def setSc (w : W) (p n : Nat) (v : SCore) : W :=
  { w with c := { w.c with scs := Tbl.set (fun _ => {}) w.c.scs (2 * p + n) v } }
def cp (w : W) (k : Nat) : SCore := Tbl.get (fun _ => {}) w.c.cps k
def setCp (w : W) (k : Nat) (v : SCore) : W :=
  { w with c := { w.c with cps := Tbl.set (fun _ => {}) w.c.cps k v } }
def hall (w : W) (p : Nat) : Hall := Tbl.get (fun _ => {}) w.c.halls p
def setHall (w : W) (p : Nat) (v : Hall) : W :=
  { w with c := { w.c with halls := Tbl.set (fun _ => {}) w.c.halls p v } }
def dm (w : W) (p : Nat) : DataMover := Tbl.get (fun _ => {}) w.c.dms p
def setDm (w : W) (p : Nat) (v : DataMover) : W :=
  { w with c := { w.c with dms := Tbl.set (fun _ => {}) w.c.dms p v } }
def landing (w : W) (l : Nat) : Landing := Tbl.get (fun _ => {}) w.c.landings l
def setLanding (w : W) (l : Nat) (v : Landing) : W :=
  { w with c := { w.c with landings := Tbl.set (fun _ => {}) w.c.landings l v } }
def memc (w : W) (m : Nat) : MemCtl := Tbl.get (fun _ => {}) w.c.mctl m
def setMemc (w : W) (m : Nat) (v : MemCtl) : W :=
  { w with c := { w.c with mctl := Tbl.set (fun _ => {}) w.c.mctl m v } }
def su (w : W) (p : Nat) : Steer := Tbl.get (fun _ => {}) w.c.sus p
def setSu (w : W) (p : Nat) (v : Steer) : W :=
  { w with c := { w.c with sus := Tbl.set (fun _ => {}) w.c.sus p v } }
def agent (w : W) (p a : Nat) : Agent := Tbl.get (fun _ => {}) w.c.agents (16 * p + a)
def setAgent (w : W) (p a : Nat) (v : Agent) : W :=
  { w with c := { w.c with agents := Tbl.set (fun _ => {}) w.c.agents (16 * p + a) v } }

/-! ### Out, faults, free values -/

/-- A reset of a domain begins (R373): the domain completes, or times out, by a command of its own. -/
def startReset (w : W) (d : Domain) : W :=
  if w.c.resets.any fun r => r.dom == d then w
  else { w with c := { w.c with resets := w.c.resets ++ [⟨d, (w.reg Reg.RST_UPTIME).toNat⟩] } }

/-- Something sent out. -/
def emit (w : W) (o : Out) : W := { w with c := { w.c with out := o :: w.c.out } }

/-- A fresh free value (log entry 1). -/
def draw (w : W) : Word × W :=
  (Config.freeWord w.c.freeCtr, { w with c := { w.c with freeCtr := w.c.freeCtr + 1 } })

/-- `n` fresh free bytes (log entry 1). -/
def drawBytes (w : W) (n : Nat) : List Byte × W :=
  let bs := Config.freeBytes w.c.freeCtr n
  ((bs ++ List.replicate n 0).take n, { w with c := { w.c with freeCtr := w.c.freeCtr + 1 } })

/-- The logical numbers of the part run from 0 to 2 LPH − 1 (R14, R392). -/
def logicals (w : W) : Nat := 2 * w.c.fuses.lph

/-- FLT_MAP entry of logical gallery `g` (R372): 16 bits, [15] VALID, [14] ABSENT, [8:0] PHYS. -/
def mapEntry (w : W) (g : Nat) : Nat :=
  natBits (w.reg (Reg.FLT_MAP (g / 4))).toNat (16 * (g % 4) + 15) (16 * (g % 4))

/-- FLT_MAP entry written. -/
def setMapEntry (w : W) (g v : Nat) : W :=
  w.setReg (Reg.FLT_MAP (g / 4)) (putBits (w.reg (Reg.FLT_MAP (g / 4))) (16 * (g % 4) + 15) (16 * (g % 4)) v)

/-- The physical gallery that carries logical number `g`, when one does. -/
def physOf (w : W) (g : Nat) : Option Nat :=
  let e := w.mapEntry g
  if g < 4096 ∧ natBits e 15 15 = 1 ∧ natBits e 14 14 = 0 then some (natBits e 8 0) else none

/-- The logical number that physical gallery `p` carries, when it carries one. -/
def logicalOf (w : W) (p : Nat) : Option Nat := (List.range w.logicals).find? fun g => w.physOf g == some p

/-- A reset of the gallery, or of its half, is in progress (R373). -/
def islandResets (w : W) (p : Nat) : Bool := w.c.resets.any fun r => r.dom == .gallery p || r.dom == .half (p / 156)

/-- A reset of the agent with code `a` of gallery `p` is in progress (R373). -/
def agentResets (w : W) (p a : Nat) : Bool := w.c.resets.any fun r => r.dom == .core p a

/-- The agents of gallery `p` may issue: its fence is not in effect (R357), the step is not aborted (R191) and the island
not in reset. -/
def galRuns (w : W) (p : Nat) : Bool :=
  let st := w.fld (Reg.GSTEP_STATE p) F.GSTEP_STATE_STATE
  st != 4 && !(st == 5 && Tbl.get (fun _ => 0) w.c.scans p == 4) && !w.flag (Reg.GAL_FENCE p) F.GAL_FENCE_FENCED &&
    !w.islandResets p

/-- The agent with code `a` of gallery `p` may issue. -/
def agentRuns (w : W) (p a : Nat) : Bool := w.galRuns p && !w.agentResets p a

/-- FLT_PSTATE of physical gallery `p` (R372). -/
def pstate (w : W) (p : Nat) : Nat :=
  natBits (w.reg (Reg.FLT_PSTATE (p / 8))).toNat (8 * (p % 8) + 3) (8 * (p % 8))

/-- FLT_PSTATE written. -/
def setPstate (w : W) (p v : Nat) : W :=
  w.setReg (Reg.FLT_PSTATE (p / 8)) (putBits (w.reg (Reg.FLT_PSTATE (p / 8))) (8 * (p % 8) + 3) (8 * (p % 8)) v)

/-- Island `p` runs at point `pt` (R422, R423). -/
def setPoint (w : W) (p pt : Nat) : W := (w.setFld (Reg.GPWR p) F.GPWR_PT pt).setFld (Reg.GPWR p) F.GPWR_TARGET pt

/-- Every powered gallery island of the mask of halves goes to point 0 (R421, R429). -/
def pointZero (w : W) (on : Nat → Bool) : W :=
  (List.range 312).foldl (fun w p =>
    if on (p / 156) && !w.flag (Reg.GPWR p) F.GPWR_GATED then w.setPoint p 0 else w) w

/-- An interrupt source event of shared source `id`: PEND is set, or the event merges and counts (R438). -/
def pend (w : W) (id : Nat) : W :=
  let k := Reg.IC_SRC (id - 64)
  if (sharedSrc id).isNone then w
  else if w.flag k F.IC_SRC_PEND then w.count Reg.IC_MERGED 1 else w.setFlag k F.IC_SRC_PEND true

/-- An event of private source `s` of CPn. -/
def pendPriv (w : W) (n s : Nat) : W :=
  let k := Reg.IC_SRC_PRIV n s
  if privSrcReset n s = 0 then w
  else if w.flag k F.IC_SRC_PEND then w.count Reg.IC_MERGED 1 else w.setFlag k F.IC_SRC_PEND true

end W

/-- Apply `f` when the condition holds. -/
def W.when (w : W) (b : Bool) (f : W → W) : W := if b then f w else w

end Sys2Proof.Machine
end

