-- ==== Sys2Proof/Machine/Records.lean ====
section
/-! DEFINITION. Error records (R353, R354) and how a fault starts on its way to CP1 (R358). -/

namespace Sys2Proof.Machine

namespace W

/-- The device's own ID in global addresses (R205): FAB_TOPO.SELF, 0 while FAB_TOPO is not valid. -/
def selfDev (w : W) : Nat :=
  if w.flag Reg.FAB_TOPO F.FAB_TOPO_VALID then w.fld Reg.FAB_TOPO F.FAB_TOPO_SELF else 0

/-- Does a record reach SEV 4 or above, or is it marked urgent by its source (R355)? -/
def urgentOf (b : RecBody) : Bool := b.urgent || decide (4 ≤ b.sev)

/-- Is a schedule loaded? SEQ_STATUS.STATE is not IDLE (R202). -/
def loaded (w : W) : Bool := w.fld Reg.SEQ_STATUS F.SEQ_STATUS_STATE != 0

/-- STEP of a record made now (R353). -/
def stepNow (w : W) : Word := if w.loaded then w.reg Reg.SEQ_STEP else 0

/-- Words 0 to 6 and the ESN of a record, without its CRC (R353). -/
def recordWords (w : W) (b : RecBody) (esn repeats : Nat) : List Word :=
  let dev := if w.flag Reg.FAB_TOPO F.FAB_TOPO_VALID then w.fld Reg.FAB_TOPO F.FAB_TOPO_SELF else 0
  let logical := match b.phys with
    | some p => (w.logicalOf p).getD 0xFFF
    | none => 0xFFF
  [ w64 (0x01 * 2 ^ 56 + b.cls % 256 * 2 ^ 48 + b.kind % 16 * 2 ^ 44 + b.sev % 8 * 2 ^ 41
      + (urgentOf b).toNat * 2 ^ 40 + dev % 2 ^ 16 * 2 ^ 24 + min repeats 0xFF * 2 ^ 16 + 0x02),
    (match b.stamp with | some t => t.1 | none => w.stepNow),
    w64 ((b.stamp.map (·.2)).getD w.c.time),
    w64 (logical * 2 ^ 52 + b.phys.getD 0x1FF * 2 ^ 43 + b.agent.getD 0 * 2 ^ 39 + b.agent.isSome.toNat * 2 ^ 38
      + b.pc % 2 ^ 32),
    w64 (b.connA % 2 ^ 16 * 2 ^ 48 + b.slotA % 64 * 2 ^ 42 + b.queueB % 16 * 2 ^ 38 + b.connB % 2 ^ 16 * 2 ^ 22
      + b.tag % 2 ^ 16 * 2 ^ 6),
    b.info, b.aux,
    w64 esn ]

/-! ### State sensors (R452) -/

/-- A PLDM platform event goes to the BMC: a state sensor and its new state. -/
def sensorEvent (w : W) (id state : Nat) : W := w.emit (.wire 2 (leBytes 2 id ++ leBytes 1 state))

/-- BOOT_STATUS.STATE changes: sensor 21. -/
def setBootState (w : W) (v : Nat) : W :=
  if w.fld Reg.BOOT_STATUS F.BOOT_STATUS_STATE = v then w
  else (w.setFld Reg.BOOT_STATUS F.BOOT_STATUS_STATE v).sensorEvent 21 v

/-- SVC_STATUS.ATTN_STATE changes (R455): sensor 23. -/
def setAttn (w : W) (v : Nat) : W :=
  if w.fld Reg.SVC_STATUS F.SVC_STATUS_ATTN_STATE = v then w
  else
    let w := (w.setFld Reg.SVC_STATUS F.SVC_STATUS_ATTN_STATE v).sensorEvent 23 v
    if v = 2 then { w with c := { w.c with mgmt := { w.c.mgmt with drainedAt := (w.reg Reg.RST_UPTIME).toNat } } } else w

/-! ### Snapshots (R383 to R386) -/

def router (w : W) (h : Nat) : Router := Tbl.get (fun _ => {}) w.c.routers h
def setRouter (w : W) (h : Nat) (r : Router) : W :=
  { w with c := { w.c with routers := Tbl.set (fun _ => {}) w.c.routers h r } }

/-- A packet of this device enters edge router `h` (R261, R282, R285). -/
def fabSend (w : W) (h : Nat) (t : FabPkt) : W :=
  w.setRouter h { w.router h with queue := (w.router h).queue ++ [{ pkt := t }] }

/-- The dump engine starts (R386). -/
def startDump (w : W) : W :=
  if w.c.dump.isSome then w
  else { w with c := { w.c with dump := some {} } }.setReg Reg.DUMP_STATUS 1

/-- TRIGGER goes to every valid SNAP_PEER, with T the lead ahead (R385). -/
def sendTriggers (w : W) : W :=
  let t := w.c.time + w.fld Reg.SNAP_CFG F.SNAP_CFG_LEAD_US * 1000
  (List.range 16).foldl (fun w n =>
    let x := w.reg (Reg.SNAP_PEER n)
    if bit x 16 then
      w.fabSend 0 { ptype := 0xB, dst := bits x 15 0, src := w.fld Reg.FAB_TOPO F.FAB_TOPO_SELF, last := true, len := 8,
                    mlen := 8, data := leBytes 8 t, addr := w64 (3 * 2 ^ 60) }
    else w) w

/-- A trigger of source `src` (R383, R384): every block's state is latched; a trigger while one is held is missed. -/
def snapLatch (w : W) (src esn : Nat) (late : Bool) : W :=
  if w.flag Reg.SNAP_STATUS F.SNAP_STATUS_HELD then
    w.setFld Reg.SNAP_STATUS F.SNAP_STATUS_MISSED (min 0xFF (w.fld Reg.SNAP_STATUS F.SNAP_STATUS_MISSED + 1))
  else
    let s : Snap := { source := src, esn := esn, uptime := (w.reg Reg.RST_UPTIME).toNat, step := (w.reg Reg.SEQ_STEP).toNat,
                      regs := w.c.regs, agents := w.c.agents, cps := w.c.cps, resets := w.c.resets,
                      remaps := w.c.seq.remaps, tests := w.c.test.tests, descs := w.c.host.descs, dimms := w.c.dimms }
    let w := { w with c := { w.c with snap := some s } }
    let w := ((w.setFld Reg.SNAP_STATUS F.SNAP_STATUS_SOURCE src).setFlag Reg.SNAP_STATUS F.SNAP_STATUS_LATE late).setFlag
      Reg.SNAP_STATUS F.SNAP_STATUS_HELD true
    let w := (w.setReg Reg.SNAP_TIME (w64 w.c.time)).pend 294
    let w := w.when (w.flag Reg.SNAP_CFG F.SNAP_CFG_FAB_OUT && src != 4) sendTriggers
    w.when (w.flag Reg.DUMP_CFG F.DUMP_CFG_AUTO) startDump

/-- Does an error record trigger a snapshot (R384 source 0x1)? -/
def recordSnaps (w : W) (b : RecBody) : Bool :=
  w.flag Reg.SNAP_CFG F.SNAP_CFG_FAULT &&
    (decide (w.fld Reg.SNAP_CFG F.SNAP_CFG_SEV ≤ b.sev) || (w.fld Reg.SNAP_CFG F.SNAP_CFG_CLASS).testBit b.cls)

/-- The record with its CRC over bytes 0 to 59, ESN included: the ESN is taken as bytes 56 to 59 (R353). -/
def sealRecord (ws : List Word) : List Word :=
  let crc := crc32c ((wordBytes ws).take 60)
  ws.take 7 ++ [w64 (crc * 2 ^ 32 + bits (ws.getD 7 0) 31 0)]

/-- The unit of a record's key (R356): PHYS, or the port, controller or link of the event, or what INFO names: the peer and
plane of class 0x0C, the unit of a result entry, the address of a refused access, the unit of classes 0x10 and 0x12. Where
neither names one it is 0 (DESIGN CHOICE, log entry 15). -/
def recUnit (b : RecBody) : Nat :=
  match b.phys, b.unit with
  | some p, _ => p
  | none, some u => u
  | none, none =>
    match b.cls with
    | 0x0C => bits b.info 16 0
    | 0x0E => bits b.info 40 32
    | 0x0F => b.info.toNat
    | 0x10 => b.info.toNat
    | 0x12 => bits b.info 24 16
    | _ => 0

/-- The key of a record (R356): class, kind and unit. -/
def recKey (b : RecBody) : Nat × Nat × Nat := (b.cls, b.kind, recUnit b)

/-- An error record is created (R353): the next ESN, FLT_RECORDS counts, it joins the queue of CP3 and the source "error
record queue not empty" is set. With FLT_CFG.RATE not 0 a record past the rate within any second is suppressed and
counted instead, and the next one of its key carries the count (R356). -/
def record (w : W) (b : RecBody) : W :=
  let esn := (bits (w.reg Reg.FLT_ESN) 31 0 + 1) % 2 ^ 32
  let w := (w.setReg Reg.FLT_ESN (w64 esn)).count Reg.FLT_RECORDS 1
  let w := w.when (w.recordSnaps b) (W.snapLatch · 1 esn false)
  let rate := w.fld Reg.FLT_CFG F.FLT_CFG_RATE
  let key := recKey b
  let cur := (w.c.recRate.find? fun e => e.key == key).getD ⟨key, [], 0⟩
  let cur := { cur with sent := cur.sent.filter fun t => decide (w.c.time < t + 1000000000) }
  let rest := w.c.recRate.filter fun e => e.key != key
  if rate ≠ 0 ∧ rate ≤ cur.sent.length ∧ ¬ urgentOf b ∧ b.sev < 3 then
    { w with c := { w.c with recRate := { cur with held := cur.held + 1 } :: rest } }.count Reg.FLT_SUPPRESSED 1
  else
    let r := sealRecord (w.recordWords b esn cur.held)
    let w := { w with c := { w.c with
      recQ := w.c.recQ ++ [r], recRate := { cur with sent := cur.sent ++ [w.c.time], held := 0 } :: rest } }
    w.pend 286

/-- Work for CP1; its record will carry the step and the time of the event. -/
def addWork (w : W) (k : WorkKind) (b : RecBody) : W :=
  let b := { b with stamp := some (w.stepNow, w.c.time) }
  { w with c := { w.c with work := w.c.work ++ [⟨k, b⟩] } }

/-- A gallery fault flag rises (R142): the fault is noted for CP1 and the gallery's FAULT_FLAG enters its landing. -/
def raiseGallery (w : W) (p : Nat) (b : RecBody) : W :=
  (w.addWork .gallery { b with phys := some p, urgent := true }).emit
    (.mesh p { typ := 0xB, srcLand := p, mask := maskOf p })

/-- A schedule fault of an agent of gallery `p` is raised (R358): as the gallery's flag, for CP1 (log entry 7). -/
def raiseSched (w : W) (p : Nat) (b : RecBody) : W :=
  (w.addWork .schedule { b with phys := some p }).emit (.mesh p { typ := 0xB, srcLand := p, mask := maskOf p })

/-- A hang of an agent of gallery `p` (R172). -/
def raiseHang (w : W) (p : Nat) (b : RecBody) : W :=
  (w.addWork .hang { b with phys := some p }).emit (.mesh p { typ := 0xB, srcLand := p, mask := maskOf p })

/-- Landing `l` raises its fault flag (R142). -/
def raiseLanding (w : W) (l : Nat) (b : RecBody) : W :=
  (w.addWork .landing { b with phys := some l }).emit (.mesh l { typ := 0xB, srcLand := l, lmask := maskOf l })

/-- A refused register write (R354 class 0x0F): KIND 0x1 size or alignment, 0x2 refused in the current state, 0x3
injection refused; INFO is the address and AUX the requester. -/
def recordAccess (w : W) (kind k : Nat) (requester : Word) : W :=
  w.record { cls := 0x0F, kind := kind, info := w64 (0x7FF000000000 + k), aux := requester }

end W

end Sys2Proof.Machine
end

