-- ==== Sys2Proof/Machine/Mem.lean ====
section
/-! DEFINITION. Where the bytes of the part lie in `Memory`: HBM by stack and stack-local address, DDR5 by channel, the
arrays of each physical gallery by hall-window offset, the control processors' local memories
(03 R57, 04 R91, 05 R95 and R104, 09 R203 and R209, 20 R434, 01 package table). -/

namespace Sys2Proof.Machine

/-- The byte at stack-local address `a` of HBM stack `k` (128 GiB each). -/
def hbmKey (k a : Nat) : Nat := k * 2 ^ 37 + a

/-- The byte at address `a` of DDR5 channel `c`. -/
def ddrKey (c a : Nat) : Nat := 2 ^ 40 + c * 2 ^ 38 + a

/-- The byte at window offset `off` of physical gallery `p` (R104). -/
def galKey (p off : Nat) : Nat := 2 ^ 42 + p * 2 ^ 23 + off

/-- The byte at address `a` of the local memory of CPk (R434). -/
def cpKey (k a : Nat) : Nat := 2 ^ 43 + k * 2 ^ 19 + a

/-- Window offset of the local buffer of MCn (R57). -/
def mcBuf (n : Nat) : Nat := 0x400000 + n * 0x40000

/-- Window offset of the local memory of VCn (R91). -/
def vcBuf (n : Nat) : Nat := 0x600000 + n * 0x20000

/-- Window offset of the local memory of SCn (R91). -/
def scBuf (n : Nat) : Nat := 0x680000 + n * 0x10000

/-- The first reserved window offset (R104). -/
def windowTop : Nat := 0x6A0000

end Sys2Proof.Machine
end

