-- ==== Sys2Proof/Machine/Queues.lean ====
section
/-! DEFINITION. The queue engines (07_channels_and_queues.md): queues and their order of presentation, connections and
credits, send slots, rings, multicast reservations, epochs and the drain queue, as operations the token commands and the
cores share. -/

namespace Sys2Proof.Machine

/-- The agents by code (R137 DCORE): 14 is the steering unit, 15 the data mover. -/
def agentOk (p a : Nat) : Bool := galOk p && decide (a < 16)

/-- TKIND of a token (R151). -/
def tkind (t : Packet) : Nat := bits t.arg 63 60

/-- A token that is null. -/
def isNull (t : Packet) : Bool := tkind t == 1

/-- Slots a token of `len` payload bytes uses (R148). -/
def slotsOf (len : Nat) : Nat := max 1 (ceilDiv len 64)

/-- Slots a queued token uses: a null token one (R148). -/
def tokSlots (t : Packet) : Nat := if isNull t then 1 else slotsOf t.len

/-- Sender keys compare by device, gallery, agent, send slot (R158). -/
def SenderKey.lt (a b : SenderKey) : Bool :=
  decide (a.dev < b.dev) || (a.dev == b.dev && (decide (a.gal < b.gal) || (a.gal == b.gal &&
    (decide (a.agent < b.agent) || (a.agent == b.agent && decide (a.slot < b.slot))))))

namespace Agent

def queue (g : Agent) (q : Nat) : List Packet := Tbl.get (fun _ => []) g.queues q
def setQueue (g : Agent) (q : Nat) (v : List Packet) : Agent :=
  { g with queues := Tbl.set (fun _ => []) g.queues q v }
def conn (g : Agent) (i : Nat) : RConn := Tbl.get (fun _ => {}) g.conns i
def setConn (g : Agent) (i : Nat) (v : RConn) : Agent := { g with conns := Tbl.set (fun _ => {}) g.conns i v }
def slot (g : Agent) (s : Nat) : SendSlot := Tbl.get (fun _ => {}) g.slots s
def setSlot (g : Agent) (s : Nat) (v : SendSlot) : Agent := { g with slots := Tbl.set (fun _ => {}) g.slots s v }
def mcSlot (g : Agent) (m : Nat) : McSlot := Tbl.get (fun _ => {}) g.mcs m
def setMcSlot (g : Agent) (m : Nat) (v : McSlot) : Agent := { g with mcs := Tbl.set (fun _ => {}) g.mcs m v }

/-- Indices of the connections open on queue `q`. -/
def openOn (g : Agent) (q : Nat) : List Nat :=
  (List.range 64).filter fun i => (g.conn i).isOpen && (g.conn i).queue == q

/-- The connection index a token's CONN names, when it is open with that incarnation (R151, R152). -/
def lookup (g : Agent) (c : Nat) : Option Nat :=
  let i := c % 64
  if (g.conn i).isOpen ∧ (g.conn i).inc = c / 64 then some i else none

/-- The CONN number of connection index `i`. -/
def number (g : Agent) (i : Nat) : Nat := (g.conn i).inc * 64 + i

/-- Slots in use in queue `q` (Q_STATE.USED). -/
def used (g : Agent) (q : Nat) : Nat := ((g.queue q).map tokSlots).sum

/-- Slots reserved at queue `q` by multicast reservations that hold them. -/
def reserved (g : Agent) (q : Nat) : Nat :=
  ((g.reserves.filter fun r => r.held && r.queue == q).map (·.slots)).sum

/-- Slots held by connections and reservations (Q_STATE.ASSIGNED). -/
def assigned (g : Agent) (q : Nat) : Nat := ((g.openOn q).map fun i => (g.conn i).slots).sum + g.reserved q

/-- Sender keys of the open connections of queue `q`, in ascending order. -/
def keys (g : Agent) (q : Nat) : List SenderKey :=
  ((g.openOn q).map fun i => (g.conn i).key).insertionSort fun a b => !(SenderKey.lt b a)

/-- Sender of the token presented last on queue `q`. -/
def last (g : Agent) (q : Nat) : Option SenderKey := Tbl.get (fun _ => none) g.lastKey q

/-- The connection the rotation presents next (R158, R159): the first open one after the sender presented last, wrapping
to the lowest; the lowest when nothing has been presented. -/
def rotation (g : Agent) (q : Nat) : Option SenderKey :=
  let ks := g.keys q
  match g.last q with
  | none => ks.head?
  | some k =>
    match ks.find? fun x => SenderKey.lt k x with
    | some x => some x
    | none => ks.head?

/-- The sender key of a queued token: that of its connection; a release or a multicast token has none. -/
def keyOf (g : Agent) (t : Packet) : Option SenderKey := (g.lookup t.conn).map fun i => (g.conn i).key

/-- A waiting reservation now holds its slots. -/
def holdReserve (g : Agent) (r : Reserve) : Agent :=
  let f := fun (x : Reserve) => if x = r then { x with held := true } else x
  { g with reserves := g.reserves.map f }

end Agent

namespace W

/-- The current epoch of an agent (Q_EPOCH.CUR, R168). -/
def epoch (w : W) (p a : Nat) : Nat := w.fld (Reg.Q_EPOCH p a) F.Q_EPOCH_CUR

/-- A field of Q_CFGq. -/
def qcfg (w : W) (p a q : Nat) (f : Fld) : Nat := w.fld (Reg.Q_CFG p a q) f

/-- The index in queue `q` of the token that is presented next: the arrival order, or under ORDER = 1 the first token of
the rotation's choice, and none while that connection has no token (R158, R159, R171). -/
def headAt (w : W) (p a q : Nat) : Option Nat :=
  let g := w.agent p a
  let ts := g.queue q
  if ts = [] then none
  else if w.qcfg p a q F.Q_CFG_ORDER = 1 ∧ w.qcfg p a q F.Q_CFG_RAW = 0 ∧ (g.openOn q) ≠ [] then
    match g.rotation q with
    | none => some 0
    | some k => ts.findIdx? fun t => g.keyOf t == some k
  else some 0

/-- The token presented at the head of queue `q`, when one is present. -/
def head (w : W) (p a q : Nat) : Option Packet := (w.headAt p a q).bind fun i => ((w.agent p a).queue q)[i]?

/-- Landing bank in use (R131). -/
def bank (w : W) (p : Nat) : Nat := w.fld (Reg.LND_TBL_SEL p) F.LND_TBL_SEL_ACTIVE

/-- LMAP of landing `p` for logical gallery `g`: the physical landing when the entry is valid (R126, R146). -/
def lmap (w : W) (p g : Nat) : Option Nat :=
  let e := natBits (w.reg (Reg.LMAP p (w.bank p) (g / 4))).toNat (16 * (g % 4) + 15) (16 * (g % 4))
  if g < 512 ∧ natBits e 15 15 = 1 then some (natBits e 8 0) else none

/-- A CREDIT packet to the sender of a connection (R151, R154, R168): its RTAG unchanged, the epoch of what it answers. -/
def sendCredit (w : W) (p : Nat) (kind conn lines slots : Nat) (c : RConn) : W :=
  w.emit (.mesh p { typ := 8, epoch := c.epoch, dst := c.srcLand, exit := c.srcExit, srcLand := p, rtag := c.rtag,
                    conn := conn, srcDev := c.key.dev, chan := c.chan, addr := w64 (c.key.dev * 2 ^ 48),
                    arg := w64 (kind * 2 ^ 60 + conn * 2 ^ 32 + lines % 2 ^ 16 * 2 ^ 16 + slots % 2 ^ 16) })

/-- A fault of a queue engine (R354 class 0x07). -/
def engineFault (w : W) (p a kind : Nat) : W :=
  w.raiseSched p { cls := 0x07, kind := kind, agent := some a, info := w.reg (Reg.Q_HANG_INFO p a),
                   aux := w.reg (Reg.Q_HANG_TGT p a) }

/-- A token goes to the drain queue (R168, R169): counted, and kept while fewer than 16 are held. -/
def drainToken (w : W) (p a : Nat) (t : Packet) : W :=
  let w := w.countErr (Reg.Q_DRAINED p a)
  let g := w.agent p a
  if g.drain.length < 16 then w.setAgent p a { g with drain := g.drain ++ [t] } else w

/-- A token to the drain queue with its schedule fault (R152, R168). -/
def drainFault (w : W) (p a : Nat) (t : Packet) : W := (w.drainToken p a t).engineFault p a 2

/-- CRED_BATCH as it acts: 0 is 1, above 64 is 64 (R175). -/
def credBatch (w : W) (p a q : Nat) : Nat := min 64 (max 1 (w.qcfg p a q F.Q_CFG_CRED_BATCH))

/-- Everything connection `i` has freed goes back in one CREDIT packet (R155). -/
def flushCredit (w : W) (p a i : Nat) : W :=
  let g := w.agent p a
  let c := g.conn i
  if c.isOpen ∧ (0 < c.freedSlots ∨ 0 < c.freedLines) then
    (w.setAgent p a (g.setConn i { c with freedSlots := 0, freedLines := 0 })).sendCredit p 0 (g.number i)
      c.freedLines c.freedSlots c
  else w

/-- Slots and lines of connection `i` freed; they go back at once when either count reaches CRED_BATCH (R155). -/
def freeCredit (w : W) (p a i slots lines : Nat) : W :=
  let g := w.agent p a
  let c := g.conn i
  let c := { c with freedSlots := c.freedSlots + slots, freedLines := c.freedLines + lines }
  let w := w.setAgent p a (g.setConn i c)
  let b := w.credBatch p a c.queue
  if b ≤ c.freedSlots ∨ b ≤ c.freedLines then w.flushCredit p a i else w

/-- The lines of the ring message presented last on queue `q` are released (R163). -/
def releaseRing (w : W) (p a q : Nat) : W :=
  let g := w.agent p a
  let h := Tbl.get (fun _ => (0, 0)) g.ringHeld q
  if h.2 = 0 then w
  else (w.setAgent p a { g with ringHeld := Tbl.set (fun _ => (0, 0)) g.ringHeld q (0, 0) }).freeCredit p a h.1 0 h.2

/-- Waiting reservations of queue `q` take their slots as far as they are free, in order (R165): each that does answers
twice, with WR_ACK and with a contribution of 1 to its reserve flight. -/
def grantReserves (w : W) (p a q : Nat) : W :=
  (w.agent p a).reserves.foldl (fun w r =>
    if r.held ∨ r.queue ≠ q then w
    else
      let g := w.agent p a
      let free := w.qcfg p a q F.Q_CFG_SIZE - g.used q - g.reserved q
      if r.slots ≤ free then
        let ack : Packet :=
          { typ := 4, srcLand := p, dst := r.pkt.srcLand, exit := r.pkt.srcExit, rtag := r.pkt.rtag, mask := maskOf p, arg := 1 }
        ((w.setAgent p a (g.holdReserve r)).emit (.mesh p ack)).emit (.contribute p r.flight r.gen 1)
      else w) w

/-- Connection `i` closes (R156): its credits are free, the lines of its last message with them, CLOSE_ACK goes out, the
incarnation moves on modulo 0x3FF (R151). -/
def closeConn (w : W) (p a i : Nat) : W :=
  let g := w.agent p a
  let c := g.conn i
  let g := g.setConn i { inc := (c.inc + 1) % 0x3FF }
  let g := if g.openOn c.queue = [] then { g with lastKey := Tbl.set (fun _ => none) g.lastKey c.queue none } else g
  let g := if (Tbl.get (fun _ => (0, 0)) g.ringHeld c.queue).1 = i then
    { g with ringHeld := Tbl.set (fun _ => (0, 0)) g.ringHeld c.queue (0, 0) } else g
  (w.setAgent p a g).sendCredit p 3 (c.inc * 64 + i) 0 0 c

/-- A pad of `lines` lines of connection `c` reaches the head of queue `q` (R163): its slot is free at once; its lines too,
unless those of the message before it are still held, which they follow in ring order. -/
def freePad (w : W) (p a q c lines : Nat) : W :=
  let g := w.agent p a
  let h := Tbl.get (fun _ => (0, 0)) g.ringHeld q
  if h.2 = 0 then w.freeCredit p a c 1 lines
  else (w.setAgent p a { g with ringHeld := Tbl.set (fun _ => (0, 0)) g.ringHeld q (h.1, h.2 + lines) }).freeCredit p a c 1 0

/-- CLOSE tokens and ring pads at the head of queue `q` are acted on and never presented (R156, R163), at most `fuel`
of them. -/
def settle (w : W) (p a q : Nat) : Nat → W
  | 0 => w
  | fuel + 1 =>
    match w.headAt p a q with
    | none => w
    | some i =>
      let g := w.agent p a
      match (g.queue q)[i]? with
      | none => w
      | some t =>
        if tkind t = 3 then
          let w := w.setAgent p a (g.setQueue q ((g.queue q).eraseIdx i))
          match g.lookup t.conn with
          | none => W.settle w p a q fuel
          | some c => W.settle (w.closeConn p a c) p a q fuel
        else if tkind t = 5 then
          -- a pad runs to the end of the ring (R162)
          let size := 2 ^ w.fld (Reg.Q_RING p a q) F.Q_RING_LOG2
          let lines := (size - bits (payWord t.data 0) 31 0 % size) / 128
          let w := w.setAgent p a (g.setQueue q ((g.queue q).eraseIdx i))
          match g.lookup t.conn with
          | none => W.settle w p a q fuel
          | some c => W.settle (w.freePad p a q c lines) p a q fuel
        else w

/-- The token presented next on queue `q` is popped (R148, R155, R158, R159, R163, R171, R174): counters, the
nondeterminism counts, freed slots, released ring lines, and what follows at the head settles. -/
def pop (w : W) (p a q : Nat) : Option (Packet × W) :=
  match w.headAt p a q with
  | none => none
  | some i =>
    match ((w.agent p a).queue q)[i]? with
    | none => none
    | some t =>
      let w := w.releaseRing p a q
      let g := w.agent p a
      let key := g.keyOf t
      let raw := w.qcfg p a q F.Q_CFG_RAW = 1
      let nd := key.isSome ∧ ¬ raw ∧ w.qcfg p a q F.Q_CFG_ORDER = 0 ∧ 2 ≤ (g.openOn q).length ∧ key ≠ g.rotation q
      let ndRaw := raw ∧ key.isSome ∧ (g.last q).isSome ∧ key ≠ g.last q
      let g' := g.setQueue q ((g.queue q).eraseIdx i)
      let g' := if key.isSome then { g' with lastKey := Tbl.set (fun _ => none) g'.lastKey q key } else g'
      let w := w.setAgent p a g'
      let w := (w.count (Reg.Q_MSGS p a q) 1).count (Reg.Q_BYTES p a q) t.len
      let w := w.when (decide nd) fun w => (w.count (Reg.Q_ND_ORDER p a) 1).ndEvent p
      let w := w.when (decide ndRaw) fun w => (w.count (Reg.Q_ND_RAW p a) 1).ndEvent p
      let w :=
        match g.lookup t.conn with
        | none => w
        | some c =>
          let w := w.freeCredit p a c (tokSlots t) 0
          if tkind t = 4 then
            let g := w.agent p a
            let lines := ceilDiv (16 + bits (payWord t.data 0) 63 32) 128
            w.setAgent p a { g with ringHeld := Tbl.set (fun _ => (0, 0)) g.ringHeld q (c, lines) }
          else w
      let w := w.grantReserves p a q
      some (t, w.settle p a q (((w.agent p a).queue q).length + 1))

/-- A token enters a queue (R152): nobody waits on it empty any more, and a CLOSE or pad at the head is acted on. -/
def enqueue (w : W) (p a q : Nat) (t : Packet) : W :=
  let g := w.agent p a
  let w := w.setAgent p a { g.setQueue q (g.queue q ++ [t]) with ewait := Tbl.set (fun _ => false) g.ewait q false }
  w.settle p a q (((w.agent p a).queue q).length + 1)

/-- The source of a multicast token: device, landing, RTAG. -/
def mcSource (t : Packet) : Nat × Nat × Nat := (t.srcDev, t.srcLand, t.rtag)

/-- Queue `q` takes multicast tokens, and `t` comes from its one source of this epoch (R164). -/
def mcTakes (w : W) (p a q : Nat) (t : Packet) : Bool :=
  let src := Tbl.get (fun _ => none) (w.agent p a).mcSrc q
  w.qcfg p a q F.Q_CFG_EN == 1 && w.qcfg p a q F.Q_CFG_MCQ == 1 && (src.isNone || src == some (mcSource t))

/-- A token on a multicast queue (R164, R166): CONN 0xFFFE, one source, its own expected SEQ, and a reservation that it
uses up. -/
def arriveMulticast (w : W) (p a : Nat) (t : Packet) : W :=
  let q := bits t.arg 59 56
  let g := w.agent p a
  let exp := Tbl.get (fun _ => 0) g.mcSeq q
  if w.mcTakes p a q t ∧ t.seq = exp then
    let g := { g with mcSrc := Tbl.set (fun _ => none) g.mcSrc q (some (mcSource t)),
                      mcSeq := Tbl.set (fun _ => 0) g.mcSeq q ((exp + 1) % 2 ^ 16) }
    let g := match g.reserves.find? fun r => r.held && r.queue == q with
      | some r => { g with reserves := g.reserves.erase r }
      | none => g
    let w := (w.setAgent p a g).emit (.mesh p { typ := 4, srcLand := p, dst := t.srcLand, rtag := t.rtag,
                                                 mask := maskOf p })
    w.enqueue p a q t
  else w.drainFault p a t

/-- A DATA, NULL, CLOSE, RING_MSG or RING_PAD token arrives (R152, R168): the epoch, the connection, its incarnation and
SEQ are checked; what fails goes to the drain queue with a schedule fault. -/
def arrive (w : W) (p a : Nat) (t : Packet) : W :=
  if t.epoch ≠ w.epoch p a then w.drainFault p a t
  else if t.conn = 0xFFFE then w.arriveMulticast p a t
  else
    let g := w.agent p a
    match g.lookup t.conn with
    | none => w.drainFault p a t
    | some i =>
      let c := g.conn i
      if t.seq = c.expSeq then
        (w.setAgent p a (g.setConn i { c with expSeq := (c.expSeq + 1) % 2 ^ 16 })).enqueue p a c.queue t
      else w.drainFault p a t

/-- The sender a CONNECT names (R151, R158): a CONNECT that entered the mesh by OUTER comes from its device, any other from
this one. -/
def connectKey (w : W) (t : Packet) : SenderKey :=
  { dev := if t.srcExit = 2 then t.srcDev else w.selfDev, gal := bits t.arg 27 16, agent := bits t.arg 31 28,
    slot := t.rtag % 64 }

/-- The connection that a CONNECT asks for, at queue `q`: to whom its answers go. -/
def asked (w : W) (t : Packet) (q : Nat) : RConn :=
  { isOpen := true, queue := q, key := w.connectKey t, srcLand := t.srcLand, epoch := t.epoch, rtag := t.rtag,
    srcExit := t.srcExit, chan := t.chan }

/-- A CONNECT is refused (R153): counted, and REFUSE carries the epoch of the CONNECT. -/
def refuse (w : W) (p a : Nat) (t : Packet) : W :=
  (w.countErr (Reg.Q_REFUSED p a)).sendCredit p 2 0 0 0 (w.asked t 0)

/-- A CONNECT is answered with GRANT or REFUSE (R153). -/
def answerConnect (w : W) (p a : Nat) (t : Packet) : W :=
  let q := bits t.arg 59 56
  let ask := bits t.arg 15 0
  let g := w.agent p a
  let size := w.qcfg p a q F.Q_CFG_SIZE
  let ring := w.qcfg p a q F.Q_CFG_RING = 1
  let ringLines := 2 ^ w.fld (Reg.Q_RING p a q) F.Q_RING_LOG2 / 128
  let fits := if ring then (g.openOn q).isEmpty && ask == ringLines else decide (ask ≤ size - g.assigned q)
  match (List.range 64).find? fun i => !(g.conn i).isOpen with
  | none => w.refuse p a t
  | some i =>
    if w.qcfg p a q F.Q_CFG_EN = 1 ∧ w.qcfg p a q F.Q_CFG_FLIGHTQ = 0 ∧ w.qcfg p a q F.Q_CFG_MCQ = 0
        ∧ w.qcfg p a q F.Q_CFG_RAW = bits t.arg 51 51 ∧ fits then
      let slots := if ring then size else ask
      let lines := if ring then ringLines else 0
      let c : RConn := { w.asked t q with inc := (g.conn i).inc, slots := slots, lines := lines }
      let g := g.setConn i c
      let g := if ring then { g with ringCons := Tbl.set (fun _ => 0) g.ringCons q 0 } else g
      (w.setAgent p a g).sendCredit p 1 (g.number i) lines slots c
    else w.refuse p a t

/-! ### Sending -/

/-- The TOKEN packet of a send (R123, R151). -/
def tokenPacket (w : W) (p a s kind : Nat) (name : Word) (conn seq : Nat) (raw : Bool) (karg : Nat)
    (data : List Byte) : Packet :=
  { typ := 7, epoch := w.epoch p a, srcLand := p,
    dst := if bit name 39 then (w.lmap p (bits name 35 24)).getD 0x1FF else 0x1FF,
    exit := if bit name 39 then 0 else 2,
    nbody := if data.length ≤ 96 then 0 else ceilDiv data.length 128,
    addr := if bit name 39 then 0 else w64 (bits name 55 40 * 2 ^ 48 + 0x7F0000000000 + bits name 35 24 * 2 ^ 23),
    seq := seq, conn := conn, rtag := a * 64 + s, len := data.length,
    arg := w64 (kind * 2 ^ 60 + bits name 3 0 * 2 ^ 56 + bits name 7 4 * 2 ^ 52 + raw.toNat * 2 ^ 51 + karg),
    data := data }

/-- Can the send slot send a token of kind `kind` and `len` bytes now (R155)? -/
def canSend (w : W) (p a s kind len : Nat) : Bool :=
  let x := (w.agent p a).slot s
  x.state == 2 && decide ((if kind = 1 then 1 else slotsOf len) ≤ x.slots)

/-- One token goes out on send slot `s`, its credit spent and counted (R152, R155, R174). -/
def sendNow (w : W) (p a s kind : Nat) (data : List Byte) : W :=
  let g := w.agent p a
  let x := g.slot s
  let t := w.tokenPacket p a s kind x.name x.conn x.seq x.raw 0 data
  let need := if kind = 1 then 1 else slotsOf data.length
  let w := w.setAgent p a (g.setSlot s { x with slots := x.slots - need, seq := (x.seq + 1) % 2 ^ 16, waiting := false })
  ((w.emit (.mesh p t)).count (Reg.CH_MSGS p a s) 1).count (Reg.CH_BYTES p a s) data.length

/-- A send on slot `s` waits on credit in one island cycle (R155, R172, R174). -/
def creditStall (w : W) (p a s : Nat) : W :=
  let g := w.agent p a
  (w.setAgent p a (g.setSlot s { g.slot s with waiting := true })).count (Reg.CH_CSTALL p a s) 1

/-- The consumer of queue `q` waits in one island cycle: counted while the queue is empty (R174, R175 EWAIT). -/
def estall (w : W) (p a q : Nat) : W :=
  let g := w.agent p a
  if (g.queue q).isEmpty then
    (w.setAgent p a { g with ewait := Tbl.set (fun _ => false) g.ewait q true }).count (Reg.Q_ESTALL p a q) 1
  else w

/-- Tokens waiting on send slot `s` go out in order as far as the credit allows; one that has to wait counts. -/
def flushSlot (w : W) (p a s : Nat) : Nat → W
  | 0 => w
  | fuel + 1 =>
    let g := w.agent p a
    let x := g.slot s
    match x.waitq with
    | [] => w
    | o :: os =>
      if w.canSend p a s o.kind o.data.length then
        W.flushSlot ((w.setAgent p a (g.setSlot s { x with waitq := os })).sendNow p a s o.kind o.data) p a s fuel
      else if x.state = 1 then w else w.creditStall p a s

/-- Slots that a waiting token needs. -/
def OutTok.need (o : OutTok) : Nat := if o.kind = 1 then 1 else slotsOf o.data.length

/-- A unit without its own wait sends a token on slot `s` (R56, R68, R75, R108, R112): at once with credit, in its turn
otherwise, on a slot that is connecting or hung (R173) when that has passed; a send on a slot that is free or closing, or
a token larger than the whole grant, is malformed (R149, R155). -/
def unitSend (w : W) (p a s kind : Nat) (data : List Byte) : W :=
  let g := w.agent p a
  let x := g.slot s
  if x.state = 0 ∨ x.state = 3 ∨ (x.state ≠ 1 ∧ x.grantSlots < OutTok.need ⟨kind, data⟩) then w.engineFault p a 4
  else (w.setAgent p a (g.setSlot s { x with waitq := x.waitq ++ [⟨kind, data⟩] })).flushSlot p a s (x.waitq.length + 1)

/-- The payload of a completion token: 8 bytes, TAG in [63:48] and the count of pruned galleries in [15:0] (DESIGN
CHOICE, log entry 8; R52, R75, R106, R109 say what it carries). -/
def completionData (tag pruned : Nat) : List Byte := leBytes 8 (tag % 2 ^ 16 * 2 ^ 48 + pruned % 2 ^ 16)

/-- CONNECT goes out on send slot `s` (R153, R157): the slot is connecting, or no packet for a multicast name. -/
def sendConnect (w : W) (p a s : Nat) (name : Word) (credits : Nat) (raw table : Bool) : W :=
  let g := w.agent p a
  let ep := w.epoch p a
  let x : SendSlot := { state := 1, name := name, raw := raw, epoch := ep, table := table }
  let karg := a * 2 ^ 28 + (w.logicalOf p).getD 0 * 2 ^ 16 + credits % 2 ^ 16
  let t := w.tokenPacket p a s 2 name 0 0 raw karg []
  ((w.setAgent p a (g.setSlot s x)).emit (.mesh p t)).count (Reg.CH_MSGS p a s) 1

/-- Reservations without data are released at the end of a step, and by a drain (R166): those of the agents `on` names by
16 × gallery + agent code. -/
def dropReserves (w : W) (on : Nat → Bool) : W :=
  let f := fun (e : Nat × Agent) => if on e.1 then (e.1, { e.2 with reserves := [] }) else e
  { w with c := { w.c with agents := (w.c.agents.map f).filter fun e => decide (e.2 ≠ {}) } }

end W

end Sys2Proof.Machine
end

