-- ==== Sys2Proof/Machine/Harts.lean ====
section
/-! DEFINITION. What scalar cores and control processors share (04_vector_and_scalar_cores.md R86 to R88,
20_control_complex_and_interrupts.md R435): registers, program counter, instruction fields, faults, and the end of an
instruction that waited. -/

namespace Sys2Proof.Machine

/-- The core exists: SC0 and SC1 of each gallery, CP0 to CP3. -/
def hartOk : Hart → Bool
  | .sc p n => galOk p && decide (n < 2)
  | .cp k => decide (k < 4)

/-- Bytes of local memory (R86, R434). -/
def hartMem : Hart → Nat
  | .sc _ _ => 2 ^ 16
  | .cp _ => 2 ^ 19

/-- The memory key of local address `a`. -/
def hartKey : Hart → Nat → Nat
  | .sc p n, a => galKey p (scBuf n + a)
  | .cp k, a => cpKey k a

/-- A scalar instruction word, by its fields (R86). -/
structure SIns where
  op : Nat
  sd : Nat
  sa : Nat
  sb : Nat
  fn : Nat
  /-- IMM16 sign-extended -/
  imm : Int
  /-- OFF21 sign-extended -/
  off21 : Int
deriving DecidableEq, Repr

/-- The fields of a 32-bit word: forms A to D (R86). In form C the first source is in [25:21] and the second in
[20:16]. -/
def SIns.of (x : Nat) : SIns :=
  { op := natBits x 31 26, sd := natBits x 25 21, sa := natBits x 20 16, sb := natBits x 15 11, fn := natBits x 10 0,
    imm := signed 16 x, off21 := signed 21 x }

namespace W

/-- The core's state beyond its registers. -/
def hart (w : W) : Hart → SCore
  | .sc p n => w.sc p n
  | .cp k => w.cp k

/-- The core's state replaced. -/
def setHart (w : W) (h : Hart) (c : SCore) : W :=
  match h with
  | .sc p n => w.setSc p n c
  | .cp k => w.setCp k c

/-- General register `i`; s0 reads as zero (R86). -/
def sreg (w : W) (h : Hart) (i : Nat) : Word := if i = 0 then 0 else Tbl.get (fun _ => 0) (w.hart h).s i

/-- General register written; a write to s0 is ignored (R86). -/
def setSreg (w : W) (h : Hart) (i : Nat) (v : Word) : W :=
  if i = 0 then w else w.setHart h { w.hart h with s := Tbl.set (fun _ => 0) (w.hart h).s i v }

/-- The program counter. -/
def hpc (w : W) : Hart → Nat
  | .sc p n => (w.reg (Reg.SC_PC p n)).toNat
  | .cp k => (w.cp k).pc

/-- The program counter set. -/
def setHpc (w : W) (h : Hart) (a : Nat) : W :=
  match h with
  | .sc p n => w.setReg (Reg.SC_PC p n) (w64 (a % 2 ^ 32))
  | .cp k => w.setCp k { w.cp k with pc := a % 2 ^ 32 }

/-- A bit of SC_STATUS; a control processor has none. -/
def scFlag (w : W) (h : Hart) (f : Fld) (b : Bool) : W :=
  match h with
  | .sc p n => w.setFlag (Reg.SC_STATUS p n) f b
  | .cp _ => w

/-- Halted: SC_STATUS.HALTED, or IC_CPn_CTL.HALTED. -/
def hHalted (w : W) : Hart → Bool
  | .sc p n => w.flag (Reg.SC_STATUS p n) F.SC_STATUS_HALTED
  | .cp k => w.flag (Reg.IC_CP_CTL k) F.IC_CP_CTL_HALTED

/-- Enabled: SC_CFG.EN; IC_CPn_CTL.RUN, which CP0 always has (R436). -/
def hEnabled (w : W) : Hart → Bool
  | .sc p n => w.flag (Reg.SC_CFG p n) F.SC_CFG_EN && w.agentRuns p (12 + n)
  | .cp k => k == 0 || w.flag (Reg.IC_CP_CTL k) F.IC_CP_CTL_RUN

/-- Stopped in WFI: IC_CPn_STATUS.WFI. -/
def hWfi (w : W) : Hart → Bool
  | .sc _ _ => false
  | .cp k => w.flag (Reg.IC_CP_STATUS k) F.IC_CP_STATUS_WFI

/-- May the core issue an instruction now? -/
def hReady (w : W) (h : Hart) : Bool :=
  w.hEnabled h && !w.hHalted h && (w.hart h).wait == .run && !w.hWfi h

/-- The instruction at the program counter, when it lies in local memory. -/
def hFetch (w : W) (h : Hart) : SIns := SIns.of (w.rdNat (hartKey h (w.hpc h)) 4)

/-- One island cycle in which the core issues nothing (R92 SC_STALL_CYCLES). -/
def hStall (w : W) (h : Hart) (qwait : Bool) : W :=
  match h with
  | .sc p n => (w.count (Reg.SC_STALL_CYCLES p n) 1).when qwait fun w => w.scFlag h F.SC_STATUS_QWAIT true
  | .cp _ => w

/-- The core goes to `a` after an instruction: SC_INSTRET counts it, the wait is over. -/
def hGoto (w : W) (h : Hart) (a : Nat) : W :=
  let w := w.setHart h { w.hart h with wait := .run }
  let w := (w.setHpc h a).scFlag h F.SC_STATUS_QWAIT false
  match h with
  | .sc p n => w.count (Reg.SC_INSTRET p n) 1
  | .cp _ => w

/-- The next instruction in sequence. -/
def hNext (w : W) (h : Hart) : W := w.hGoto h (w.hpc h + 4)

/-- SD takes a value and the next instruction follows. -/
def hWrite (w : W) (h : Hart) (sd : Nat) (v : Word) : W := (w.setSreg h sd v).hNext h

/-- An instruction that waited returns `v` in its SD (R156, R157, R184). -/
def hReturn (w : W) (h : Hart) (v : Word) : W := w.hWrite h (w.hFetch h).sd v

/-- The core halts: no more issue; outstanding loads are dropped. -/
def hHalt (w : W) (h : Hart) (wait : HWait) : W :=
  let w := w.setHart h { w.hart h with wait := wait, outs := [] }
  match h with
  | .sc p n => ((w.setFlag (Reg.SC_STATUS p n) F.SC_STATUS_HALTED true).setFlag (Reg.SC_STATUS p n)
      F.SC_STATUS_BUSY false).setFlag (Reg.SC_STATUS p n) F.SC_STATUS_QWAIT false
  | .cp k => (w.setFlag (Reg.IC_CP_CTL k) F.IC_CP_CTL_HALTED true).setFlag (Reg.IC_CP_STATUS k) F.IC_CP_STATUS_WFI false

/-- A fault of KIND `kind` at program counter `pc` (R88, R92, R435): a scalar core records it, halts and raises a
schedule fault, or the gallery fault flag for residue and parity (KIND 1 to 4); a control processor halts. -/
def hFault (w : W) (h : Hart) (kind pc : Nat) (addr : Word) : W :=
  match h with
  | .cp _ => w.hHalt h .run
  | .sc p n =>
    let info := w64 (pc % 2 ^ 17 * 2 ^ 31 + kind * 2 ^ 20 + 2 ^ 19)
    let w := w.when (!w.flag (Reg.SC_FAULT_INFO p n) F.SC_FAULT_INFO_VALID) fun w =>
      w.setReg (Reg.SC_FAULT_INFO p n) info
    let st := Reg.SC_STATUS p n
    let w := if kind = 5 then w.setFlag st F.SC_STATUS_CMD_FAULT true
      else if kind = 1 then w.setFlag st F.SC_STATUS_CHECK_FAULT true
      else if kind ≤ 4 then w.setFlag st F.SC_STATUS_PARITY_FAULT true else w
    let w := w.hHalt h .run
    let b : RecBody := { cls := 0x03, kind := kind, agent := some (12 + n), pc := pc, info := info, aux := addr }
    if kind ≤ 4 then (w.countErr (Reg.SC_CHECK_FAIL p n)).raiseGallery p b else w.raiseSched p b

/-- SC_ENABLE (R86, R92): EN goes from 0 to 1: the core starts at local address 0, and HALTED clears when HALT set it. -/
def doScEnable (w : W) (p n : Nat) : W :=
  if w.flag (Reg.SC_CFG p n) F.SC_CFG_EN then w
  else
    let c := w.sc p n
    let st := Reg.SC_STATUS p n
    let w := w.setFlag (Reg.SC_CFG p n) F.SC_CFG_EN true
    let w := w.when (c.wait == .halted) fun w => w.setFlag st F.SC_STATUS_HALTED false
    if w.flag st F.SC_STATUS_HALTED then w
    else ((w.setSc p n { c with wait := .run, outs := [] }).setReg (Reg.SC_PC p n) 0).setFlag st F.SC_STATUS_BUSY true

/-- SC_DISABLE (R92): EN goes from 1 to 0: issue stops; loads still out return. -/
def doScDisable (w : W) (p n : Nat) : W :=
  if w.flag (Reg.SC_CFG p n) F.SC_CFG_EN then
    (w.setFlag (Reg.SC_CFG p n) F.SC_CFG_EN false).setFlag (Reg.SC_STATUS p n) F.SC_STATUS_BUSY false
  else w

end W

end Sys2Proof.Machine
end

