-- ==== Sys2Proof/Machine/Epochs.lean ====
section
/-! DEFINITION. Configuration epochs and flight releases at a queue engine (07_channels_and_queues.md R149, R160, R168 to
R170; 06_mesh_stair_and_flights.md R139), and the end of a channel instruction that waited. -/

namespace Sys2Proof.Machine

namespace W

/-- A queue engine answers an instruction that waited on send slot `s`: CONNECT, CLOSE or a multicast SEND of a scalar
core (R156, R157). -/
def slotReturn (w : W) (p a : Nat) (wait : HWait) (v : Int) : W :=
  if a = 12 ∨ a = 13 then
    let h := Hart.sc p (a - 12)
    if (w.hart h).wait = wait then w.hReturn h (w64 (unsigned 64 v)) else w
  else w

/-- An epoch switch ends what a scalar core waits for on a slot that it closes: CLOSE returns 0, as its connection is
closed; what a multicast SEND returns is not stated and free (DESIGN CHOICE, log entry 47). -/
def endWait (w : W) (p a : Nat) : W :=
  if a = 12 ∨ a = 13 then
    let h := Hart.sc p (a - 12)
    match (w.hart h).wait with
    | .close _ => w.hReturn h 0
    | .mcast _ => let (v, w) := w.draw; w.hReturn h v
    | _ => w
  else w

/-- The agent switches to the next epoch (R170): open connections close, their queued tokens drain, and if there are any
with one schedule fault (DEDUCED, log entry 47), reservations end, queues take their new configuration, held CONNECTs are
answered in arrival order. A CONNECT of the agent that has no answer yet goes on to its own; a core that waits in CLOSE or
in a multicast SEND goes on. -/
def switchEpoch (w : W) (p a : Nat) : W :=
  let g := w.agent p a
  let toks := (List.range 16).flatMap fun q => (g.queue q).filter fun t => t.conn != 0xFFFF
  let held := g.early
  let g' : Agent :=
    { g with
      queues := g.queues.map fun (q, ts) => (q, ts.filter fun t => t.conn == 0xFFFF),
      conns := (List.range 64).foldl (fun t i =>
        let c := g.conn i
        Tbl.set (fun _ => {}) t i (if c.isOpen then { inc := (c.inc + 1) % 0x3FF } else { inc := c.inc })) [],
      slots := g.slots.filter fun e => e.2.state == 1, mcs := [], early := [], ringCons := [],
      ringHeld := [], reserves := [], mcSeq := [], mcSrc := [],
      lastKey := [], nextCfg := [] }
  let g' := { g' with queues := g'.queues.filter fun e => !e.2.isEmpty }
  let w := w.setAgent p a g'
  let w := toks.foldl (fun w t => w.drainToken p a t) w
  let w := w.when (!toks.isEmpty) fun w => w.engineFault p a 2
  let w := g.nextCfg.foldl (fun w e => w.setReg (Reg.Q_ID p a + e.1) e.2) w
  let w := w.setFld (Reg.Q_EPOCH p a) F.Q_EPOCH_CUR (w.epoch p a + 1)
  (held.foldl (fun w t => w.answerConnect p a t) w).endWait p a

/-- The channel-table CONNECTs of an agent without CONNECT (R149). -/
def openTable (w : W) (p a : Nat) : W :=
  (w.agent p a).table.foldl (fun w e => w.sendConnect p a e.1 e.2.1 (bits e.2.2 15 0) (bit e.2.2 16) true) w

/-- A release token enters a queue as it is (R139, R160). -/
def pushRelease (w : W) (p a q : Nat) (t : Packet) : W :=
  let g := w.agent p a
  w.setAgent p a { g.setQueue q (g.queue q ++ [t]) with ewait := Tbl.set (fun _ => false) g.ewait q false }

/-- The flight queue on which an agent takes epoch releases, when it has one (R170, R175). -/
def epochQueue (w : W) (p a : Nat) : Option Nat :=
  (List.range 16).find? fun q =>
    w.qcfg p a q F.Q_CFG_EN == 1 && w.qcfg p a q F.Q_CFG_FLIGHTQ == 1 && w.qcfg p a q F.Q_CFG_EPOCHQ == 1

/-- Queue `q` has room for a release. -/
def hasRoom (w : W) (p a q : Nat) : Bool := decide ((w.agent p a).used q + 1 ≤ w.qcfg p a q F.Q_CFG_SIZE)

/-- A release that its queue does not take: discarded, counted, a schedule fault (R160). -/
def lostRelease (w : W) (p a : Nat) : W := (w.countErr (Reg.Q_DRAINED p a)).engineFault p a 2

/-- An epoch release is presented on queue `q`, and when it is for the agent's own CUR + 1 the agent switches (R170) and
opens its table channels (R149). -/
def takeEpoch (w : W) (p a q : Nat) (t : Packet) : W :=
  let w' := w.pushRelease p a q t
  if bits (payWord t.data 0) 41 38 = (w.epoch p a + 1) % 16 then (w'.switchEpoch p a).openTable p a else w'

/-- The epoch release `t` reaches another agent of the gallery. -/
def epochRelease (w : W) (p a : Nat) (t : Packet) : W :=
  match w.epochQueue p a with
  | some q => if w.hasRoom p a q then w.takeEpoch p a q t else w.lostRelease p a
  | none => w

/-- The queue engine's own use of a release (R160, R165): a target's reservation, or the send of the multicast slot that
waits for it. -/
def consumeRelease (w : W) (p a : Nat) (x : Word) : Option W :=
  let g := w.agent p a
  let f := bits x 63 58
  let gen := bits x 57 42
  let mine := (List.range 4).find? fun m => (g.mcSlot m).phase == 1 && (g.mcSlot m).flight == f && (g.mcSlot m).gen == gen
  let res := g.reserves.any fun r => r.flight == f && r.gen == gen
  match mine with
  | some m => some (w.setAgent p a (g.setMcSlot m { g.mcSlot m with released := true, all := decide (bits x 31 0 % 2 = 1) }))
  | none => if res then some w else none

/-- A flight release token enters queue `q` of an agent (R139, R160, R170, R193): a reserve release is the queue engine's;
only an enabled flight queue with room takes another, which is otherwise discarded, counted and raised; an epoch release
for CUR + 1 switches every agent of the gallery. -/
def deliverRelease (w : W) (p a q : Nat) (t : Packet) : W :=
  let x := payWord t.data 0
  match w.consumeRelease p a x with
  | some w => w
  | none =>
    if w.qcfg p a q F.Q_CFG_EN = 1 ∧ w.qcfg p a q F.Q_CFG_FLIGHTQ = 1 ∧ w.hasRoom p a q then
      if w.qcfg p a q F.Q_CFG_EPOCHQ = 1 ∧ bits x 41 38 = (w.epoch p a + 1) % 16 then
        ((List.range 16).filter (· ≠ a)).foldl (fun w b => w.epochRelease p b t) (w.takeEpoch p a q t)
      else w.pushRelease p a q t
    else w.lostRelease p a

end W

end Sys2Proof.Machine
end

