-- ==== Sys2Proof/Machine/Address.lean ====
section
/-! DEFINITION. The address map of the part (09_memory_tiers.md R203 to R209, R228; 05_galleries_and_halls.md R104, R105;
22_register_map.md R461) and the answers every unit gives to a mesh request (06_mesh_stair_and_flights.md R123, R124). -/

namespace Sys2Proof.Machine

/-- Where an address lies. -/
inductive Place where
  /-- a byte of HBM or DDR5: controller, pseudo-channel, interleave region (0xF for DDR5), memory key -/
  | mem (ctrl pc irgn key : Nat)
  /-- offset `off` of the window of physical gallery `p` -/
  | gal (p off : Nat)
  /-- offset `k` of the set-up region -/
  | setup (k : Nat)
  /-- another device -/
  | remote (dev : Nat)
  /-- outside the map: the address error of R105 and R204 -/
  | none
deriving DecidableEq, Repr

/-- An interleave region (R208): its range in bytes, stks, granule in lines, share start in bytes, COMB_W. -/
structure Irgn where
  base : Nat
  size : Nat
  stks : List Nat
  gran : Nat
  soff : Nat
  comb : Nat
deriving DecidableEq, Repr

/-- Lines of a granule (R208): HASH LINE, PAGE, BLOCK. -/
def granule (hash : Nat) : Nat := if hash = 0 then 1 else if hash = 1 then 32 else 16384

/-- The pseudo-channel of a stack-local line (R209). -/
def pcFold (l : Nat) : Nat := (l ^^^ (l >>> 6) ^^^ (l >>> 12) ^^^ (l >>> 18) ^^^ (l >>> 24)) % 64

/-- Base 2 logarithm of a channel count that is 4 or 8. -/
def chanLog (nc : Nat) : Nat := if nc = 8 then 3 else 2

namespace W

/-- A device-local address as a global address of this device (R205). -/
def loc (w : W) (a : Word) : Word := putBits a 63 48 w.selfDev

/-- Bytes of HBM of the part (R203). -/
def hbmBytes (w : W) : Nat := popCount 8 (w.fld Reg.MEM_STACKS F.MEM_STACKS_ENABLED) * 2 ^ 37

/-- Populated DDR5 channels, and the bytes installed (R227). -/
def ddrChans (w : W) : Nat := popCount 8 (w.fld Reg.MEM_DDR F.MEM_DDR_POP)
def ddrBytes (w : W) : Nat :=
  w.ddrChans * w.fld Reg.MEM_DDR F.MEM_DDR_SIZE_GIB * 2 ^ 30 * (w.fld Reg.MEM_DDR F.MEM_DDR_TWO_DPC + 1)

/-- Interleave region `n` (R208). -/
def irgn (w : W) (n : Nat) : Irgn :=
  let lo := w.reg (Reg.MEM_IRGN_LO n)
  let hi := w.reg (Reg.MEM_IRGN_HI n)
  { base := bits lo 27 0 * 4096, size := (bits hi 27 0 + 1) * 4096, stks := setBitsBelow 8 (bits lo 56 49),
    gran := granule (bits lo 62 61), soff := bits hi 52 28 * 4096, comb := bits lo 60 57 }

/-- The enabled interleave region that holds device-local address `a`. -/
def irgnOf (w : W) (a : Nat) : Option Nat :=
  (List.range 16).find? fun n =>
    let r := w.irgn n
    bit (w.reg (Reg.MEM_IRGN_LO n)) 63 && decide (r.base ≤ a) && decide (a < r.base + r.size)

/-- The stack, pseudo-channel and key of an HBM address in region `n` (R209). -/
def hbmPlace (w : W) (n a : Nat) : Place :=
  let r := w.irgn n
  let g := r.stks.length
  let j := (a - r.base) / 128
  let p := j / r.gran
  let q := p / g * r.gran + j % r.gran
  let l := r.soff / 128 + q
  match r.stks[p % g]? with
  | some s => .mem s (pcFold l) n (hbmKey s (128 * l + a % 128))
  | none => .none

/-- The channel and key of DDR5 offset `x` (R228). -/
def ddrPlace (w : W) (x : Nat) : Place :=
  let nc := w.ddrChans
  let u := x / 256
  let (k, off) :=
    if w.fld Reg.MEM_DDR F.MEM_DDR_ILV = 0 then
      ((u ^^^ (u >>> 8) ^^^ (u >>> 16)) % nc, (u >>> chanLog nc) * 256 + x % 256)
    else (x / (w.ddrBytes / nc), x % (w.ddrBytes / nc))
  let ch := if nc = 4 then 2 * k else k
  .mem (8 + ch) 0 0xF (ddrKey ch off)

/-- The gallery at logical number `g`, as the requester finds it: LMAP of its landing (R126), or the persistent map for
a requester of the vestibule; none where R105 answers with an address error. -/
def windowOf (w : W) (land : Option Nat) (g : Nat) : Option Nat :=
  match (match land with | some l => w.lmap l g | none => w.physOf g) with
  | some p => if w.logicals ≤ g ∨ w.flag (Reg.GAL_FENCE p) F.GAL_FENCE_FENCED then none else some p
  | none => none

/-- Where a global address lies, for a requester at landing `land` or in the vestibule (R203 to R205). -/
def place (w : W) (land : Option Nat) (addr : Word) : Place :=
  let dev := bits addr 63 48
  let a := bits addr 47 0
  if dev ≠ w.selfDev then .remote dev
  else if a < 0x10000000000 then
    if w.hbmBytes ≤ a then .none
    else match w.irgnOf a with
      | some n => w.hbmPlace n a
      | none => .none
  else if a < 0x7F0000000000 then
    if a - 0x10000000000 < w.ddrBytes then w.ddrPlace (a - 0x10000000000) else .none
  else if a < 0x7F0000000000 + 4096 * 2 ^ 23 then
    let x := a - 0x7F0000000000
    let off := x % 2 ^ 23
    if windowTop ≤ off then .none
    else match w.windowOf land (x / 2 ^ 23) with
      | some p => .gal p off
      | none => .none
  else if 0x7FF000000000 ≤ a ∧ a < 0x800000000000 then .setup (a - 0x7FF000000000)
  else .none

/-! ### Answers -/

/-- A response to a mesh request: to its SRC_LAND and SRC_EXIT, with its RTAG and ADDR (R123). -/
def respond (w : W) (land : Nat) (req : Packet) (r : Packet) : W :=
  w.emit (.mesh land { r with dst := req.srcLand, exit := req.srcExit, srcLand := land, rtag := req.rtag,
                              addr := req.addr, seq := req.seq, conn := req.conn, srcDev := req.srcDev })

/-- RD_RSP with the bytes read; NBODY as R122 places them. -/
def rdRsp (w : W) (land : Nat) (req : Packet) (bs : List Byte) (poison : Bool) : W :=
  w.respond land req { typ := 2, len := bs.length, data := bs, poison := poison,
                       nbody := if bs.length ≤ 96 then 0 else ceilDiv bs.length 128 }

/-- WR_ACK. -/
def wrAck (w : W) (land : Nat) (req : Packet) (poison : Bool) : W :=
  w.respond land req { typ := 4, poison := poison, mask := if req.mc then maskOf land else 0 }

/-- AT_RSP with the old value. -/
def atRsp (w : W) (land : Nat) (req : Packet) (old : Word) (poison : Bool) : W :=
  w.respond land req { typ := 6, len := 8, data := leBytes 8 old.toNat, poison := poison }

/-- ERR_RSP with a cause: 1 malformed, 2 port disabled, 3 address outside the map (R124). -/
def errRsp (w : W) (land : Nat) (req : Packet) (cause : Nat) : W :=
  w.respond land req { typ := 0xE, arg := w64 cause }

end W

/-! ### Atomics (R100, R101) -/

/-- The new value of a word under an atomic. -/
def atomNew (op : AtomOp) (old x cmp : Word) : Word :=
  match op with
  | .add64 => old + x
  | .add32 => w64 ((bits old 63 32 + bits x 63 32) % 2 ^ 32 * 2 ^ 32 + (bits old 31 0 + bits x 31 0) % 2 ^ 32)
  | .swap => x
  | .cas => if old = cmp then x else old

/-- A tracker of 64 words after an atomic of `src` on `word`, the words evicted from it, and whether the atomic counts:
its word is tracked with another source, or was evicted (R101). -/
def track (tr : List (Nat × Nat)) (ev : List Nat) (word src : Nat) : List (Nat × Nat) × List Nat × Bool :=
  match tr.find? fun e => e.1 == word with
  | some e => ((word, src) :: tr.filter (fun e => e.1 != word), ev, e.2 != src)
  | none =>
    let out := (tr.drop 63).map (·.1)
    ((word, src) :: tr.take 63, out ++ ev, ev.contains word)

/-- A device as the source of an atomic, in a tracker (R101). -/
def deviceSource (dev : Nat) : Nat := 1024 + dev

/-- The source of a request from the mesh as a tracker names it (R101): the requesting gallery, or for a request that
entered by OUTER the requesting device. -/
def requester (req : Packet) : Nat := if req.srcExit = 0 then 16 + req.srcLand else deviceSource req.srcDev

end Sys2Proof.Machine
end

