-- ==== Sys2Proof/Machine/Memory.lean ====
section
/-! DEFINITION. The memory controllers (09_memory_tiers.md R203 to R231) with the staged-state guard of
08_schedules_and_steps.md R188: what one line read, write or atomic does at a controller, scrubbing, refresh,
temperatures, interleave regions and DIMM presence. -/

namespace Sys2Proof.Machine

/-- Controllers: HBM stacks 0 to 7, DDR5 channels 8 to 15 (R231). -/
def memcOk (m : Nat) : Bool := decide (m < 16)

namespace W

/-! ### The guard (R188, R218) -/

/-- Word `i` of REGIONS entry `r` in the guard copy of controller `m` (R187, R231). -/
def guardEntry (w : W) (m r i : Nat) : Word := w.reg (Reg.MEMC_GUARD m (4 * r + i))

/-- The REGIONS entry of the guard copy of controller `m` that holds device-local address `a`. -/
def guardRegion (w : W) (m a : Nat) : Option Nat :=
  (List.range 16).find? fun r =>
    let kind := bits (w.guardEntry m r 3) 63 56
    let base := (w.guardEntry m r 0).toNat
    let size := (w.guardEntry m r 1).toNat * (if kind = 2 then 2 else 1)
    kind != 0 && decide (base ≤ a) && decide (a < base + size)

/-- Is the guard applied now (R218): from the first START after a load until SEQ_CTL.UNLOAD. -/
def guardOn (w : W) : Bool := decide (2 ≤ w.fld Reg.SEQ_STATUS F.SEQ_STATUS_STATE)

/-- Does the guard let a write of `n` bytes at device-local address `a` through (R188)? -/
def guardAllows (w : W) (m a n : Nat) : Bool :=
  if !w.guardOn then true
  else match w.guardRegion m a with
    | none => true
    | some r =>
      let base := (w.guardEntry m r 0).toNat
      let size := (w.guardEntry m r 1).toNat
      let app := bits (w.guardEntry m r 3) 31 0
      let limit := (w.reg (Reg.MEMC_GUARD m (65 + r))).toNat
      match bits (w.guardEntry m r 3) 63 56 with
      | 2 => (a - base) / size != bits (w.reg (Reg.MEMC_GUARD m 64)) 0 0
      | 3 => decide (limit ≤ a) && decide (a + n ≤ limit + app) && decide (limit + app ≤ base + size)
      | _ => false

/-! ### Error recording (R219 to R223, R231) -/

/-- MEMC_ERR_INFO's word for an event of KIND `kind` (R231). The rank, DIMM and sub-channel of a DDR5 address are the
controller's choice and free (log entry 1); bit 38 is reserved there. A thermal stop names no address and no region. -/
def memInfo (w : W) (m kind pc land irgn : Nat) (a : Word) : Word × W :=
  let (x, w) := if m < 8 then (w64 pc, w) else if kind = 7 then (0, w) else w.draw
  let x := if m < 8 then bits x 5 0 else bits x 5 2 * 4 + bits x 0 0
  let sreg := if kind = 7 then 0xF else (w.guardRegion m (bits a 47 0)).getD 0xF
  (w64 (2 ^ 47 + kind * 2 ^ 43 + x * 2 ^ 37 + land % 512 * 2 ^ 28 + irgn % 16 * 2 ^ 24 + sreg * 2 ^ 20), w)

/-- An event at controller `m` with its record body (R231, R354 class 0x0A): MEMC_ERR_INFO and MEMC_ERR_ADDR take it
unless they hold one of KIND 3 or above; the body names this event. -/
def memEvent (w : W) (m kind sev pc land irgn : Nat) (a : Word) : RecBody × W :=
  let (info, w) := w.memInfo m kind pc land irgn a
  let k := Reg.MEMC_ERR_INFO m
  let at' := w64 (bits a 47 0)
  ({ cls := 0x0A, kind := kind, sev := sev, unit := some m, info := info, aux := at' },
    if w.flag k F.MEMC_ERR_INFO_VALID ∧ 3 ≤ w.fld k F.MEMC_ERR_INFO_KIND then w
    else (w.setReg k info).setReg (Reg.MEMC_ERR_ADDR m) at')

/-- An event with its error record and interrupt source (R437). -/
def memRecord (w : W) (m kind sev pc land irgn : Nat) (a : Word) : W :=
  let (b, w) := w.memEvent m kind sev pc land irgn a
  (w.record b).pend (64 + m)

/-- An uncorrectable line answered poisoned, or an exhausted transfer (R219, R221): counted, recorded, an urgent source
to CP1, who acts under R222. -/
def memPoison (w : W) (m kind pc land irgn : Nat) (a : Word) : W :=
  let (b, w) := (w.countErr (Reg.MEMC_UE m)).memEvent m kind 0 pc land irgn a
  (w.addWork .memory { b with urgent := true }).pendPriv 1 (36 + m)

/-- A corrected read (R220): counted, a record when the count reaches a multiple of 2^CE_LOG. -/
def memCorrected (w : W) (m pc land irgn : Nat) (a : Word) : W :=
  let (b, w) := (w.countErr (Reg.MEMC_CE m)).memEvent m 1 1 pc land irgn a
  if bits (w.reg (Reg.MEMC_CE m)) 15 0 % 2 ^ w.fld (Reg.MEMC_CFG m) F.MEMC_CFG_CE_LOG = 0 then
    (w.record b).pend (64 + m)
  else w

/-- An uncorrectable read whose second read is clean or corrected (R221). -/
def memRecovered (w : W) (m pc land irgn : Nat) (a : Word) : W :=
  (w.countErr (Reg.MEMC_UE_RECOVERED m)).memRecord m 2 1 pc land irgn a

/-- A write or atomic that the guard rejects (R188, R218). -/
def guardRejects (w : W) (m pc land irgn : Nat) (a : Word) : W :=
  let (b, w) := (w.countErr (Reg.MEMC_GUARD_REJ m)).memEvent m 5 0 pc land irgn a
  (w.addWork .schedule b).pend (64 + m)

/-- Pseudo-channel or DDR5 channel fenced (R224). -/
def memFenced (w : W) (m pc : Nat) : Bool :=
  w.flag (Reg.MEMC_STATUS m) F.MEMC_STATUS_FENCED ||
    (if m < 8 then bit (w.reg (Reg.MEMC_FENCE m)) pc else bits (w.reg (Reg.MEMC_FENCE m)) 1 0 != 0)

/-- The controller takes requests: enabled, and not in a thermal stop (R225, R231). -/
def memTakes (w : W) (m : Nat) : Bool :=
  w.flag (Reg.MEMC_CFG m) F.MEMC_CFG_EN && !w.flag (Reg.MEMC_STATUS m) F.MEMC_STATUS_TSTOP

/-- The pseudo-channel or DDR5 channel whose interface failed is reset (R219), and fails until that is over. -/
def memReset (w : W) (m pc : Nat) : W :=
  let t := w.memc m
  (w.setMemc m { t with failing := pc :: t.failing.filter (· ≠ pc) }).startReset (if m < 8 then .hbm m pc else .ddr m)

/-- A bank is activated for an access (R225); at the stack's threshold the management command is issued. -/
def activateBank (w : W) (m pc line : Nat) : W :=
  let t := w.memc m
  let b := Config.bankOf m pc line
  let n := Tbl.get (fun _ => 0) t.acts b + 1
  w.setMemc m (if n < Config.activationLimit m then { t with acts := Tbl.set (fun _ => 0) t.acts b n }
    else { t with acts := Tbl.set (fun _ => 0) t.acts b 0,
                  managed := Tbl.set (fun _ => 0) t.managed b (Tbl.get (fun _ => 0) t.managed b + 1) })

/-- What a transfer with a line meets: a failing interface first, then what the command says, then what the line is known
to hold (R219 to R221; log entry 1). -/
def meets (w : W) (m pc line : Nat) (u : MemUpset) : MemUpset × W :=
  let t := w.memc m
  if t.failing.contains pc then (.retries, w)
  else if u ≠ .none then (u, w)
  else if t.lost.contains line then (.lost, w)
  else if t.weak.contains line then
    let (x, w) := w.draw
    (if bits x 1 0 = 1 then .corrected else if bits x 1 0 = 2 then .recovered else .none, w)
  else (.none, w)

/-- The line is weak: lost until it is written, or not. -/
def setWeak (w : W) (m line : Nat) (lost : Bool) : W :=
  let t := w.memc m
  let others := t.lost.filter (· ≠ line)
  w.setMemc m { t with weak := line :: t.weak.filter (· ≠ line), lost := if lost then line :: others else others }

/-- What one read of the DRAM finds (R219 to R221, R224): poisoned or not, with its counts and records. -/
def dramRead (w : W) (m pc land irgn line : Nat) (a : Word) (u : MemUpset) : Bool × W :=
  if w.memFenced m pc then (true, w.memPoison m 3 pc land irgn a)
  else match (w.activateBank m pc line).meets m pc line u with
    | (.none, w) => (false, w)
    | (.corrected, w) => (false, (w.setWeak m line false).memCorrected m pc land irgn a)
    | (.recovered, w) => (false, (w.setWeak m line false).memRecovered m pc land irgn a)
    | (.lost, w) => (true, (w.setWeak m line true).memPoison m 3 pc land irgn a)
    | (.retries, w) => (true, (w.memPoison m 4 pc land irgn a).memReset m pc)

/-- A line read at a controller (R214, R216): from a read-combining entry that was open when the request came, `ago` ns
before now, or from the DRAM, where it may allocate one until `lat` ns after now and the window. A latency that nothing
gives is free up to R214's worst case. -/
def memLoad (w : W) (m pc land irgn line : Nat) (a : Word) (ago : Nat) (lat : Option Nat) (u : MemUpset) : Bool × W :=
  let comb := if m < 8 then (w.irgn irgn).comb else 0
  let live := (w.memc m).rcb.filter fun e => decide (w.c.time ≤ e.last)
  match (if comb = 0 || w.memFenced m pc then none
    else (w.memc m).rcb.find? fun e => decide (w.c.time ≤ e.last + ago) && e.line == line && !e.closed) with
  | some e => (e.poison, w.count (Reg.MEMC_RCB_HITS m) 1)
  | none =>
    let (poison, w) := (w.count (Reg.MEMC_RD_LINES m) 1).dramRead m pc land irgn line a u
    if comb = 0 then (poison, w)
    else if live.length < 64 then
      let (x, w) := match lat with
        | some x => (x, w)
        | none => let (x, w) := w.draw; (x.toNat % 1301, w)
      let e : RcbEntry := { line := line, last := w.c.time + x + comb * 16, poison := poison }
      (poison, w.setMemc m { w.memc m with rcb := live ++ [e] })
    else (poison, (w.setMemc m { w.memc m with rcb := live }).count (Reg.MEMC_RCB_FULL m) 1)

/-- A write or atomic to a line closes its read-combining entry (R216). -/
def rcbClose (w : W) (m line : Nat) : W :=
  let t := w.memc m
  let f := fun (e : RcbEntry) => if e.line = line then { e with closed := true } else e
  w.setMemc m { t with rcb := t.rcb.map f }

/-- Bytes written to a line at a controller, the guard having let them through (R215, R219, R224): is the
acknowledgement poisoned? A write makes a lost line readable again. -/
def memStore (w : W) (m pc land irgn key : Nat) (a : Word) (bs : List Byte) (u : MemUpset) : Bool × W :=
  let line := key / 128
  if w.memFenced m pc then (true, w.memPoison m 3 pc land irgn a)
  else
    let w := w.activateBank m pc line
    if u = .retries || (w.memc m).failing.contains pc then
      let (junk, w) := w.drawBytes 128
      (true, ((w.wrBytes (line * 128) junk).memPoison m 4 pc land irgn a).memReset m pc)
    else
      let w := if (w.memc m).lost.contains line then w.setWeak m line false else w
      (false, (w.wrBytes key bs).count (Reg.MEMC_WR_LINES m) 1)

/-- Bytes of a request that lie in the line it starts in; a request without a length is a whole line. -/
def lineLen (req : Packet) : Nat :=
  let room := 128 - req.addr.toNat % 128
  if req.len = 0 then room else min req.len room

/-- A write of a line rejected by the guard and answered with an address error (R188, R218). -/
def guardReject (w : W) (m pc irgn : Nat) (req : Packet) : W :=
  (w.errRsp req.dst req 3).guardRejects m pc req.srcLand irgn req.addr

/-! ### Requests -/

/-- MEMC_READ (R204, R214, R216, R219 to R221): a line read at controller `m`, whose data returns `lat` ns later. -/
def doMemcRead (w : W) (m : Nat) (req : Packet) (ago lat : Nat) (u : MemUpset) : W :=
  if !w.memTakes m then w
  else match w.place none req.addr with
    | .mem c pc irgn key =>
      if c ≠ m then w.errRsp req.dst req 3
      else
        let (poison, w) := w.memLoad m pc req.srcLand irgn (key / 128) req.addr ago (some lat) u
        w.rdRsp req.dst req (w.rdBytes key (lineLen req)) poison
    | _ => w.errRsp req.dst req 3

/-- MEMC_WRITE (R188, R204, R215, R218, R219): poisoned write data is dropped and acknowledged poisoned. Whatever
becomes of it, the write closes the line's read-combining entry (R216). -/
def doMemcWrite (w : W) (m : Nat) (req : Packet) (u : MemUpset) : W :=
  if !w.memTakes m then w
  else match w.place none req.addr with
    | .mem c pc irgn key =>
      if c ≠ m then w.errRsp req.dst req 3
      else
        let w := w.rcbClose m (key / 128)
        let bs := req.data.take (128 - req.addr.toNat % 128)
        if !w.guardAllows m (bits req.addr 47 0) bs.length then w.guardReject m pc irgn req
        else if req.poison then w.wrAck req.dst req true
        else
          let (poison, w) := w.memStore m pc req.srcLand irgn key req.addr bs u
          w.wrAck req.dst req poison
    | _ => w.errRsp req.dst req 3

/-- The atomic itself at a memory key, with the controller's tracker (R101, R217). -/
def memAtomic (w : W) (m key src : Nat) (op : AtomOp) (x cmp : Word) : Word × W :=
  let old := w64 (w.rdNat key 8)
  let t := w.memc m
  let (tr, ev, nd) := track t.tracker t.evicted key src
  let w := w.setMemc m { t with tracker := tr, evicted := ev, ndSince := t.ndSince + nd.toNat }
  let w := w.when nd fun w => w.count (Reg.MEMC_ND_ATOMIC m) 1
  (old, w.wrNat key 8 (atomNew op old x cmp).toNat)

/-- MEMC_ATOMIC (R100, R188, R217): the operation, its operand and compare value come with the request. An address that
is not naturally aligned is answered as malformed (log entry 11); a poisoned request changes nothing and is answered
poisoned (R103). -/
def doMemcAtomic (w : W) (m : Nat) (req : Packet) (op : AtomOp) (cmp : Word) (u : MemUpset) : W :=
  if !w.memTakes m then w
  else match w.place none req.addr with
    | .mem c pc irgn key =>
      if c ≠ m then w.errRsp req.dst req 3
      else if req.addr.toNat % 8 ≠ 0 then w.errRsp req.dst req 1
      else
      let w := w.rcbClose m (key / 128)
      if !w.guardAllows m (bits req.addr 47 0) 8 then w.guardReject m pc irgn req
      else if req.poison then w.atRsp req.dst req 0 true
      else
        let (poison, w) := w.dramRead m pc req.srcLand irgn (key / 128) req.addr u
        if poison then w.atRsp req.dst req 0 true
        else
          let (old, w) := w.memAtomic m key (requester req) op req.arg cmp
          w.atRsp req.dst req old false
    | _ => w.errRsp req.dst req 3

/-- PATROL_SCRUB (R220, R223, R225): the scrubber reads the line at device-local address `a`. In a thermal stop only
refresh is issued; a fenced channel has no line to read. -/
def doPatrolScrub (w : W) (m : Nat) (a : Word) (u : MemUpset) : W :=
  if w.fld (Reg.MEMC_CFG m) F.MEMC_CFG_SCRUB_H = 0 ∨ w.memTakes m = false then w
  else match w.place none (w.loc a) with
    | .mem c pc irgn key =>
      if c ≠ m ∨ w.memFenced m pc then w
      else
        let line := key / 128
        match (w.activateBank m pc line).meets m pc line u with
        | (.none, w) => w
        | (.corrected, w) => (w.setWeak m line false).memCorrected m pc 0x1FF irgn a
        | (.recovered, w) => (w.setWeak m line false).memRecovered m pc 0x1FF irgn a
        | (.lost, w) => (w.setWeak m line true).memRecord m 6 0 pc 0x1FF irgn a
        | (.retries, w) => (w.memPoison m 4 pc 0x1FF irgn a).memReset m pc
    | _ => w

/-- REFRESH (R225): bank `b` is refreshed, which starts its count of activations anew. -/
def doRefresh (w : W) (m b : Nat) : W :=
  let t := w.memc m
  w.setMemc m { t with refreshed := Tbl.set (fun _ => 0) t.refreshed b w.c.time, acts := Tbl.set (fun _ => 0) t.acts b 0 }

/-- DRAM_TEMP_READ (R225, R429): the DRAM reports `temp` °C. -/
def doDramTempRead (w : W) (m temp : Nat) : W :=
  let st := Reg.MEMC_STATUS m
  let tt := min 105 (max 70 (w.fld (Reg.MEMC_CFG m) F.MEMC_CFG_TTHROT))
  let was := w.flag st F.MEMC_STATUS_TSTOP
  let w := w.setFld st F.MEMC_STATUS_TEMP (min temp 255)
  if tt + 10 ≤ temp then
    let w := (w.setFlag st F.MEMC_STATUS_THROTTLE true).setFlag st F.MEMC_STATUS_TSTOP true
    if was then w
    else
      let (b, w) := w.memEvent m 7 0 0 0x1FF 0xF 0
      let w := ((w.record { b with urgent := true }).pend (64 + m)).pendPriv 1 53
      if 8 ≤ m then w
      else
        -- the islands of the stack's half (R429)
        let aux := w64 (bits (w.reg Reg.PWR_NOW) 15 0 + min temp 255 * 2 ^ 16)
        (w.pointZero fun h => h == m / 4).record
          { cls := 0x11, kind := 7, sev := 3, urgent := true, info := w64 m, aux := aux }
  else if tt ≤ temp then w.setFlag st F.MEMC_STATUS_THROTTLE true
  else if temp + 5 < tt then (w.setFlag st F.MEMC_STATUS_THROTTLE false).setFlag st F.MEMC_STATUS_TSTOP false
  else w

/-! ### Regions and channels -/

/-- The shares [SOFF, SOFF + SIZE / g) of two regions overlap in a stack both name. -/
def sharesMeet (a b : Irgn) : Bool :=
  a.stks.any (fun s => b.stks.contains s) &&
    decide (a.soff < b.soff + b.size / b.stks.length) && decide (b.soff < a.soff + a.size / a.stks.length)

/-- Interleave region `n` is valid, or disabled (R210). -/
def irgnValid (w : W) (n : Nat) : Bool :=
  let on := fun i => bit (w.reg (Reg.MEM_IRGN_LO i)) 63
  if !on n then true
  else
    let r := w.irgn n
    let g := r.stks.length
    let usable := w.fld Reg.MEM_STACKS F.MEM_STACKS_ENABLED &&& (255 - w.fld Reg.MEM_STACKS F.MEM_STACKS_FAILED)
    decide (r.base + r.size ≤ w.hbmBytes) && decide (g ≠ 0) && decide (r.size % (g * r.gran * 128) = 0) &&
      decide (r.soff + r.size / g ≤ 2 ^ 37) && bits (w.reg (Reg.MEM_IRGN_LO n)) 62 61 != 3 &&
      r.stks.all (fun s => usable.testBit s) &&
      (List.range 16).all fun i =>
        i == n || !on i ||
          (let q := w.irgn i
           (decide (r.base + r.size ≤ q.base) || decide (q.base + q.size ≤ r.base)) && !sharesMeet r q)

/-- The sequencer is IDLE (R202). -/
def seqIdle (w : W) : Bool := w.fld Reg.SEQ_STATUS F.SEQ_STATUS_STATE == 0

/-- MEM_IRGN_WRITE (R208, R210): a word of MEM_IRGNn (0 or 1), refused unless IDLE and valid. -/
def doMemIrgnWrite (w : W) (n i : Nat) (v requester : Word) : W :=
  let k := if i = 0 then Reg.MEM_IRGN_LO n else Reg.MEM_IRGN_HI n
  let v := if i = 0 then w64 (bits v 63 49 * 2 ^ 49 + bits v 27 0) else w64 (bits v 52 0)
  let w' := w.setReg k v
  if w.seqIdle && w'.irgnValid n then w' else w.recordAccess 2 k requester

/-- MEM_DDR_ILV_WRITE (R228). -/
def doMemDdrIlvWrite (w : W) (v requester : Word) : W :=
  if w.seqIdle then w.setFld Reg.MEM_DDR F.MEM_DDR_ILV (bits v 0 0) else w.recordAccess 2 Reg.MEM_DDR requester

/-- A pseudo-channel or DDR5 channel is fenced (R224): MEMC_FENCE, FENCED when nothing is left, and the stack of an HBM
pseudo-channel marked failed. -/
def fenceChannel (w : W) (m pc : Nat) : W :=
  let k := Reg.MEMC_FENCE m
  let v := if m < 8 then w64 ((w.reg k).toNat ||| 2 ^ pc) else w64 ((w.reg k).toNat ||| 3)
  let w := w.setReg k v
  let all := if m < 8 then v.toNat == 2 ^ 64 - 1 else true
  let w := w.when all fun w => w.setFlag (Reg.MEMC_STATUS m) F.MEMC_STATUS_FENCED true
  if m < 8 then
    w.setFld Reg.MEM_STACKS F.MEM_STACKS_FAILED (w.fld Reg.MEM_STACKS F.MEM_STACKS_FAILED ||| 2 ^ m)
  else w

/-- DIMM_PRESENCE_CHANGE (R230, R458): slot `d` of channel `c` reads present or not; with the rails on the channel is
fenced until the next cold reset and a record is raised. -/
def doDimmPresenceChange (w : W) (c d : Nat) (present : Bool) : W :=
  let k := 2 * c + d
  if w.c.dimms.testBit k = present then w
  else
    let w := { w with c := { w.c with dimms := flipBit w.c.dimms k } }
    if w.c.powered then
      let w := w.fenceChannel (8 + c) 0
      ((w.record { cls := 0x0A, kind := 9, sev := 3, unit := some (8 + c), info := w.reg (Reg.MEMC_ERR_INFO (8 + c)),
                   aux := w.reg (Reg.MEMC_ERR_ADDR (8 + c)) }).pend (72 + c)).pend 289
    else w

end W

/-! ### The meanings -/

/-- MEMC_READ. -/
def execMemcRead (m : Nat) (req : Packet) (ago lat : Nat) (u : MemUpset) (s : State) :
    Host.Outcome State Fault Refusal := runOn (memcOk m) s fun w => w.doMemcRead m req ago lat u

/-- MEMC_WRITE. -/
def execMemcWrite (m : Nat) (req : Packet) (u : MemUpset) (s : State) : Host.Outcome State Fault Refusal :=
  runOn (memcOk m) s fun w => w.doMemcWrite m req u

/-- MEMC_ATOMIC. -/
def execMemcAtomic (m : Nat) (req : Packet) (op : AtomOp) (cmp : Word) (u : MemUpset) (s : State) :
    Host.Outcome State Fault Refusal := runOn (memcOk m) s fun w => w.doMemcAtomic m req op cmp u

/-- PATROL_SCRUB. -/
def execPatrolScrub (m : Nat) (a : Word) (u : MemUpset) (s : State) : Host.Outcome State Fault Refusal :=
  runOn (memcOk m) s fun w => w.doPatrolScrub m a u

/-- REFRESH. -/
def execRefresh (m b : Nat) (s : State) : Host.Outcome State Fault Refusal :=
  runOn (memcOk m) s fun w => w.doRefresh m b

/-- DRAM_TEMP_READ. -/
def execDramTempRead (m temp : Nat) (s : State) : Host.Outcome State Fault Refusal :=
  runOn (memcOk m) s fun w => w.doDramTempRead m temp

/-- MEM_IRGN_WRITE. -/
def execMemIrgnWrite (n i : Nat) (v requester : Word) (s : State) : Host.Outcome State Fault Refusal :=
  runOn (decide (n < 16) && decide (i < 2)) s fun w => w.doMemIrgnWrite n i v requester

/-- MEM_DDR_ILV_WRITE. -/
def execMemDdrIlvWrite (v requester : Word) (s : State) : Host.Outcome State Fault Refusal :=
  run s fun w => w.doMemDdrIlvWrite v requester

/-- DIMM_PRESENCE_CHANGE. -/
def execDimmPresenceChange (c d : Nat) (present : Bool) (s : State) : Host.Outcome State Fault Refusal :=
  if c < 8 ∧ d < 2 then runIf true s fun w => w.doDimmPresenceChange c d present else .fault .noSuchUnit

/-- MEMC_CNT_CLR (R231). -/
def execMemcCntClr (m : Nat) (v : Word) (s : State) : Host.Outcome State Fault Refusal :=
  runOn (memcOk m) s fun w => w.clearCounters (Reg.MEMC_CE m) 9 v

end Sys2Proof.Machine
end

