-- ==== Sys2Proof/Machine/Crossbar.lean ====
section
/-! DEFINITION. The banks of a hall as any master of the crossbar meets them (05_galleries_and_halls.md R95 to R99, R102,
R103): grants, the merge latch, byte parity. -/

namespace Sys2Proof.Machine

/-- Split `n` bytes from address `a` at line boundaries: offsets and lengths. -/
def linePieces (a n : Nat) : List (Nat × Nat) :=
  (List.range (ceilDiv (a % 128 + n) 128)).map fun i =>
    let lo := if i = 0 then 0 else 128 * i - a % 128
    let hi := min n (128 * (i + 1) - a % 128)
    (lo, hi - lo)

namespace W

/-- Bank of a hall offset (R95). -/
def hallBank (off : Nat) : Nat := natBits off 10 7

/-- The merge window of a hall offset (R98). -/
def mergeW (w : W) (p off : Nat) : Nat :=
  let hit := (List.range 8).find? fun n =>
    let k := Reg.HALL_REGION p n
    let base := w.fld k F.HALL_REGION_BASE * 4096
    let size := (w.fld k F.HALL_REGION_SIZE + 1) * 4096
    w.flag k F.HALL_REGION_EN && decide (base ≤ off) && decide (off < min 0x400000 (base + size))
  min 8 (match hit with
    | some n => w.fld (Reg.HALL_REGION p n) F.HALL_REGION_MERGE_W
    | none => w.fld (Reg.HALL_CFG p) F.HALL_CFG_DEF_MERGE_W)

/-- Is master `m` granted target `t` against its rivals (master, cycles waited) in this cycle (R97)? -/
def granted (w : W) (p t m age : Nat) (rivals : List (Nat × Nat)) : Bool :=
  let limit := 8 * w.fld (Reg.HALL_CFG p) F.HALL_CFG_AGE
  let old := fun (e : Nat × Nat) => limit != 0 && decide (limit ≤ e.2)
  let last := Tbl.get (fun _ => 0) (w.hall p).last t
  let turn := fun (m : Nat) => (m + 15 - (last + 1) % 15) % 15
  if old (m, age) then
    rivals.all fun e => !old e || decide (e.2 < age) || (e.2 == age && decide (m < e.1))
  else rivals.all fun e => !old e && decide (turn m < turn e.1)

/-- The grant is taken: the round-robin moves on, a bank with rivals counts a conflict cycle. -/
def takeGrant (w : W) (p t m : Nat) (rivals : List (Nat × Nat)) : W :=
  let h := w.hall p
  let w := w.setHall p { h with last := Tbl.set (fun _ => 0) h.last t m }
  w.when (decide (t < 16) && !rivals.isEmpty) fun w => w.count (Reg.HALL_CONFLICT_CYCLES p) 1

/-- A hall parity error (R103): HALL_PARITY_INFO takes the first, HALL_PARITY_ERR counts, the gallery flag rises. -/
def hallParity (w : W) (p side m off first n src : Nat) : W :=
  let k := Reg.HALL_PARITY_INFO p
  let w := w.when (!w.flag k F.HALL_PARITY_INFO_VALID) fun w =>
    w.setReg k (w64 (2 ^ 47 + side * 2 ^ 46 + m * 2 ^ 42 + hallBank off * 2 ^ 38 + natBits off 21 11 * 2 ^ 27
      + first % 128 * 2 ^ 20 + n % 256 * 2 ^ 12 + src % 512))
  (w.countErr (Reg.HALL_PARITY_ERR p)).raiseGallery p { cls := 4, kind := 1, info := w.reg k }

/-- A granted write ends the latch that holds its line (R99). -/
def endLatch (w : W) (p off : Nat) : W :=
  let h := w.hall p
  let b := hallBank off
  let la := Tbl.get (fun _ => {}) h.latch b
  if la.live ∧ la.line = off / 128 then
    w.setHall p { h with latch := Tbl.set (fun _ => {}) h.latch b { la with live := false } }
  else w

/-- A bank read of the line of hall offset `off`, granted in island cycle `cycle`: the latch takes it with its window
(R98, R99). -/
def loadLatch (w : W) (p m off cycle : Nat) (poison : Bool) : W :=
  let w := w.takeGrant p (hallBank off) m []
  let h := w.hall p
  let la : Latch := { live := true, line := off / 128, cycle := cycle, window := w.mergeW p off, master := m,
                      poison := poison }
  w.setHall p { h with latch := Tbl.set (fun _ => {}) h.latch (hallBank off) la }

/-- Master `m` writes bytes of one line of the window at `off` in a cycle that its command does not name, with no rival:
in the hall, its grant ends the latch of the line. -/
def putLine (w : W) (p m off : Nat) (bs : List Byte) : W :=
  let w := if off < 0x400000 then (w.takeGrant p (hallBank off) m []).endLatch p off else w
  w.wrBytes (galKey p off) bs

end W

end Sys2Proof.Machine
end

