-- ==== Sys2Proof/Machine/Matrix.lean ====
section
/-! DEFINITION. The matrix core (03_matrix_core.md R50 to R73): commands, tiles, the checksum lanes, the block and drain
checks, injection and counters. A tile advances one 32-step block at a time (MC_BLOCK_CLOSE); for INT8, BF16 and FP16 the
same command advances 32 reduction steps (log entry 9). -/

namespace Sys2Proof.Machine

/-- Core `n` of gallery `p` exists. -/
def mcOk (p n : Nat) : Bool := galOk p && decide (n < 8)

/-- A matrix command, by the fields of R52. -/
structure McCmd where
  tag : Nat
  transA : Bool
  transB : Bool
  keep : Bool
  init : Bool
  k : Nat
  fmtOut : Nat
  fmtB : Nat
  fmtA : Nat
  op : Nat
  c : Nat
  b : Nat
  a : Nat
  bScale : Nat
  aScale : Nat
  c0 : Nat
  version : Nat
  cPitch : Nat
  bPitch : Nat
  aPitch : Nat

/-- The fields of a 32-byte payload (R52). -/
def McCmd.ofWords (ws : List Word) : McCmd :=
  let w0 := ws.getD 0 0
  let w1 := ws.getD 1 0
  let w2 := ws.getD 2 0
  let w3 := ws.getD 3 0
  { tag := bits w0 63 48, transA := bit w0 47, transB := bit w0 46, keep := bit w0 45, init := bit w0 44,
    k := 32 * (bits w0 43 32 + 1), fmtOut := bits w0 31 24, fmtB := bits w0 23 16, fmtA := bits w0 15 8,
    op := bits w0 7 0, c := bits w1 53 36, b := bits w1 35 18, a := bits w1 17 0, bScale := bits w2 53 36,
    aScale := bits w2 35 18, c0 := bits w2 17 0, version := bits w3 55 48, cPitch := bits w3 47 32,
    bPitch := bits w3 31 16, aPitch := bits w3 15 0 }

/-- The format pairs of R51. -/
def mcPairOk (a b : Fmt) : Bool :=
  (a.isMx && b.isMx) || (a == .int8 && b == .int8) || (a == .bf16 && b == .bf16) || (a == .fp16 && b == .fp16)

/-- The result formats of R53 for an operand format. -/
def mcOutOk (a out : Fmt) : Bool :=
  if a = .int8 then out == .int32 else out == .fp32 || out == .bf16 || out == .fp16

/-- Bytes of a run of `n` elements: an MX run is whole blocks. -/
def runBytes (f : Fmt) (n : Nat) : Nat := if f.isMx then n / 32 * f.unitBytes else n * f.unitBytes

/-- A region of `rows` rows of `len` bytes is aligned, spaced and inside the 256 KiB buffer (R53). -/
def regionOk (addr pitch rows len : Nat) : Bool :=
  addr % 128 == 0 && pitch % 128 == 0 && decide (len ≤ pitch) && decide (addr + (rows - 1) * pitch + len ≤ 2 ^ 18)

/-- One operand's element region (R52, R53): 64 rows of K elements, or K runs of 64 when transposed. -/
def operandOk (f : Fmt) (trans : Bool) (addr pitch k : Nat) : Bool :=
  if trans then !f.isMx && regionOk addr pitch k (runBytes f 64) else regionOk addr pitch 64 (runBytes f k)

/-- A flat region that is aligned and inside the buffer. -/
def flatOk (addr len : Nat) : Bool := addr % 128 == 0 && decide (addr + len ≤ 2 ^ 18)

/-- Is a command well formed (R53, R54)? `opened` are the formats of the tile it continues; none when it opens one. -/
def mcCmdOk (len : Nat) (ws : List Word) (opened : Option (Fmt × Fmt × Fmt)) : Bool :=
  let x := McCmd.ofWords ws
  match Fmt.ofCode x.fmtA, Fmt.ofCode x.fmtB, Fmt.ofCode x.fmtOut with
  | some a, some b, some o =>
    len == 32 && x.op == 1 && x.version == 1 && mcPairOk a b && mcOutOk a o
      && operandOk a x.transA x.a x.aPitch x.k && operandOk b x.transB x.b x.bPitch x.k
      && (!a.isMx || (flatOk x.aScale (64 * (x.k / 32)) && flatOk x.bScale (64 * (x.k / 32))))
      && (!(x.init && opened.isNone) || flatOk x.c0 16384)
      && (x.keep || regionOk x.c x.cPitch 64 (64 * o.unitBytes))
      && (match opened with
          | some t => decide (t = (a, b, o))
          | none => true)
  | _, _, _ => false

/-- Cycles per reduction step s (R51). -/
def mcCycles (a b : Fmt) : Nat := if a = .mxfp4 ∧ b = .mxfp4 then 1 else if a.isMx || a == .int8 then 2 else 4

/-- Bits of a checksum operand (R60). -/
def checkWidth (f : Fmt) : Nat := if f.isMx then 40 else if f = .int8 then 15 else 32

namespace W

/-- A matrix core is halted. -/
def mcHalted (w : W) (p n : Nat) : Bool := w.flag (Reg.MC_STATUS p n) F.MC_STATUS_HALTED

/-- The gallery runs and the core is not stalled by a lost token (R132). -/
def mcRuns (w : W) (p n : Nat) : Bool := w.agentRuns p n && !(w.mc p n).stalled

/-- BUSY and DRAIN follow the core's tiles (R72). -/
def mcSync (w : W) (p n : Nat) : W :=
  let m := w.mc p n
  (w.setFlag (Reg.MC_STATUS p n) F.MC_STATUS_DRAIN m.draining.isSome).setFlag (Reg.MC_STATUS p n) F.MC_STATUS_BUSY
    (m.tile.isSome || m.draining.isSome)

/-- The core takes the effect of a malformed command (R53): CMD_FAULT, halt, schedule fault with the TAG. -/
def mcCmdFault (w : W) (p n tag : Nat) : W :=
  let w := (w.setFlag (Reg.MC_STATUS p n) F.MC_STATUS_CMD_FAULT true).setFlag (Reg.MC_STATUS p n)
    F.MC_STATUS_HALTED true
  w.raiseSched p { cls := 0x01, kind := 0xF, agent := some n, tag := tag, info := w.reg (Reg.MC_CHECK_INFO p n),
                   aux := w.reg (Reg.MC_CHECK_DELTA p n) }

/-- A failed check or a parity error (R67): the tile is aborted, the core halts, the first failure is recorded, the
gallery fault flag rises. -/
def mcFail (w : W) (p n : Nat) (parity : Bool) (tag block kind row col : Nat) (delta : Word) : W :=
  let w := w.setFlag (Reg.MC_STATUS p n) (if parity then F.MC_STATUS_PARITY_FAULT else F.MC_STATUS_CHECK_FAULT) true
  let w := w.setFlag (Reg.MC_STATUS p n) F.MC_STATUS_HALTED true
  let info := w64 (tag % 2 ^ 16 * 2 ^ 48 + block % 2 ^ 16 * 2 ^ 32 + kind * 2 ^ 28 + row * 2 ^ 21 + col * 2 ^ 14 + 2 ^ 13)
  let w := w.when (!w.flag (Reg.MC_CHECK_INFO p n) F.MC_CHECK_INFO_VALID) fun w =>
    (w.setReg (Reg.MC_CHECK_INFO p n) info).setReg (Reg.MC_CHECK_DELTA p n) delta
  let w := w.countErr (Reg.MC_CHECK_FAIL p n)
  w.raiseGallery p { cls := 0x01, kind := kind, agent := some n, tag := tag, info := info, aux := delta }

/-- Events of results, counted (R49). -/
def mcEvents (w : W) (p n : Nat) (e : Ev) : W :=
  (((w.count (Reg.MC_EVT_NANGEN p n) e.nangen).count (Reg.MC_EVT_OVF p n) e.ovf).count (Reg.MC_EVT_SAT p n)
    e.sat).count (Reg.MC_EVT_NONFINITE_BLOCK p n) e.nonfinite

/-! ### Operands -/

/-- A little-endian number of `len` bytes at buffer address `a` of MCn. -/
def mcRd (w : W) (p n a len : Nat) : Nat := w.rdNat (galKey p (mcBuf n + a)) len

/-- The 32 element codes of line `i` (an A row or a B column) in reduction steps 32 b to 32 b + 31 (R32, R52). -/
def mcCodes (w : W) (p n : Nat) (f : Fmt) (trans : Bool) (addr pitch i b : Nat) : List Nat :=
  if trans then
    (List.range 32).map fun k => w.mcRd p n (addr + (32 * b + k) * pitch + i * f.unitBytes) f.unitBytes
  else
    let x := w.mcRd p n (addr + i * pitch + runBytes f (32 * b)) (runBytes f 32)
    (List.range 32).map fun k => f.elemAt x k

/-- The scale of line `i` for block `b` (R52). -/
def mcScale (w : W) (p n addr kTot i b : Nat) : Nat := w.mcRd p n (addr + i * (kTot / 32) + b) 1

end W

/-! ### The arithmetic of one block -/

/-- An MX element as an integer in units of 2^-16; NaN and infinity enter as 0 (R43, R60). -/
def mxInt (f : Fmt) (c : Nat) : Int :=
  match f.decode c with
  | .fin s m e => FV.atExp s m e (-16)
  | _ => 0

/-- Sum of products. -/
def dot (xs ys : List Int) : Int := (List.zipWith (· * ·) xs ys).sum

/-- The sums, step by step, of the lines of an operand: the checksum operand (R60). -/
def lineSums (ls : List (List Int)) : List Int := ls.foldl (List.zipWith (· + ·)) (List.replicate 32 0)

/-- The 65 lines of an operand: its 64 lines and the checksum line. -/
def withSums (ls : List (List Int)) : List (List Int) := ls ++ [lineSums ls]

/-- One accumulator with a bit flipped, as an `n`-bit two's-complement number; a bit outside it has no effect. -/
def flipSigned (n bit : Nat) (v : Int) : Int := if bit < n then signed n (flipBit (unsigned n v) bit) else v

/-- What is wrong in one PE during a block, from an upset or an armed injection: PE, bit, and where (0 block
accumulator, 1 output accumulator, 2 checksum operand). -/
structure PeFlip where
  row : Nat
  col : Nat
  bit : Nat
  target : Nat
deriving DecidableEq, Repr

/-- The flip of a target made in PE(i, j), if there is one. -/
def peFlip (flips : List PeFlip) (target i j : Nat) : Option PeFlip :=
  flips.find? fun f => f.target == target && f.row == i && f.col == j

/-- The lines `x` and `y` as they enter the arithmetic of PE(i, j), with the flip of target 2 made by `flip` on the checksum
operand: at the first step of the 32, in the named PE alone, in A's sum at the corner (R72 says none of these three:
DESIGN CHOICE, log entry 22). -/
def peLines {α : Type} (flip : Nat → α → α) (flips : List PeFlip) (i j : Nat) (x y : List α) : List α × List α :=
  match peFlip flips 2 i j with
  | some f => if i = 64 then (x.modifyHead (flip f.bit), y) else if j = 64 then (x, y.modifyHead (flip f.bit)) else (x, y)
  | none => (x, y)

/-- The block accumulators of all 65 × 65 PEs (R43, R60), row by row, with the flips of targets 0 and 2; `ow` is the width
of a checksum operand. -/
def blockSums (ow : Nat) (as bs : List (List Int)) (flips : List PeFlip) : List (List Int) :=
  let as := withSums as
  let bs := withSums bs
  as.zipIdx.map fun (x, i) => bs.zipIdx.map fun (y, j) =>
    let l := peLines (flipSigned ow) flips i j x y
    let v := dot l.1 l.2
    match peFlip flips 0 i j with
    | some f => flipSigned (if i = 64 ∨ j = 64 then 88 else 72) f.bit v
    | none => v

/-- The products of the first of the 32 steps in every PE. -/
def firstProducts (ow : Nat) (as bs : List (List Int)) (flips : List PeFlip) : List (List Int) :=
  blockSums ow (as.map (·.take 1)) (bs.map (·.take 1)) (flips.filter (·.target == 2))

/-- The verdict of an exact check (R61, R62, R69): kind offset 0 column, 1 row, 2 corner; lowest failing row and column;
the difference of the check named. -/
structure Verdict where
  kind : Nat
  row : Nat
  col : Nat
  delta : Int
deriving DecidableEq, Repr

/-- The exact checks of a 65 × 65 array: 64 columns, 64 rows, and the two corner comparisons, which count as the checks
of column 64 and row 64 (R61, R62, R69). `norm` reduces sums as the check compares them. -/
def exactCheck (norm : Int → Int) (m : List (List Int)) : Option Verdict :=
  let at' := fun i j => (m.getD i []).getD j 0
  let colD := (List.range 65).map fun j =>
    norm (((List.range 64).map fun i => at' i j).sum) - norm (at' 64 j)
  let rowD := (List.range 65).map fun i =>
    norm (((List.range 64).map fun j => at' i j).sum) - norm (at' i 64)
  let col := colD.findIdx? (· ≠ 0)
  let row := rowD.findIdx? (· ≠ 0)
  match col, row with
  | none, none => none
  | _, _ =>
    let c := col.getD 0x7F
    let r := row.getD 0x7F
    if c < 64 then some ⟨0, r, c, colD.getD c 0⟩
    else if r < 64 then some ⟨1, r, c, rowD.getD r 0⟩
    else some ⟨2, r, c, if c = 64 then colD.getD 64 0 else rowD.getD 64 0⟩

/-- The special value of an MX block product in a PE, when it has one, and whether it is a NaN made from operands that
were not NaN: an infinity times 0, or infinite products of both signs, whatever NaN elements the block has beside
them (R45). -/
def mxSpecial (fa fb : Fmt) (sa sb : Nat) (xs ys : List Nat) : Option (FV × Bool) :=
  let vs := List.zipWith (fun x y => (fa.decode x, fb.decode y)) xs ys
  let ps := (vs.filter fun (x, y) => x.nonfinite || y.nonfinite).map fun (x, y) => x.mul y
  let made := vs.any (fun (x, y) => nanMade [x, y] (x.mul y)) || (ps.contains (.inf true) && ps.contains (.inf false))
  if sa = 0xFF ∨ sb = 0xFF then some (.nan, false)
  else if made || ps.contains .nan then some (.nan, made)
  else ps.head?.map fun v => (v, false)

/-- One addition into an FP32 accumulator with one rounding (R44, R45, R47): the new code and its events. -/
def accAdd (acc : Nat) (v : FV) : Nat × Ev :=
  let a := fp32 acc
  let s := a.add v
  let r := rneFp32 s
  (r.1, { nangen := (nanMade [a, v] s).toNat, ovf := r.2.toNat })

/-- One data PE closes an MX block (R44, R45). -/
def mxClose (fa fb : Fmt) (sa sb : Nat) (xs ys : List Nat) (blk : Int) (acc : Nat) : Nat × Ev :=
  match mxSpecial fa fb sa sb xs ys with
  | some (v, made) => let r := accAdd acc v; (r.1, r.2.add { nangen := made.toNat })
  | none => accAdd acc ((FV.fin (decide (blk < 0)) blk.natAbs (-32)).scale ((sa : Int) + sb - 254))

/-- 32 steps of one BF16 or FP16 PE: each product exact, added with one rounding (R47). -/
def fpSteps (xs ys : List FV) (acc : Nat) : Nat × Ev :=
  (xs.zip ys).foldl (fun (a, e) (x, y) =>
    let p := x.mul y
    let r := accAdd a p
    (r.1, (e.add r.2).add { nangen := (nanMade [x, y] p).toNat })) (acc, {})

/-- The exact sum of values, rounded once to FP32 (R60). -/
def fpSum (vs : List FV) : Nat := (rneFp32 (vs.foldl FV.add (.fin true 0 0))).1

/-- The checksum line of BF16 or FP16 lines: FP32 values (R60). -/
def fpLineSums (ls : List (List FV)) : List FV :=
  (List.range 32).map fun k => fp32 (fpSum (ls.map fun l => l.getD k .nan))

/-- Accumulator (row, col) of a tile. -/
def Tile.at (t : Tile) (i j : Nat) : Nat := t.acc.getD (65 * i + j) 0

/-- The 65 × 65 accumulators computed PE by PE. -/
def accGrid (f : Nat → Nat → Nat) : List Nat :=
  (List.range 65).flatMap fun i => (List.range 65).map fun j => f i j

/-- The later of two exponent maxima. -/
def optMax (a b : Option Int) : Option Int :=
  match a, b with
  | none, x => x
  | some x, none => some x
  | some x, some y => some (max x y)

/-- A new tile (R54, R60, R63): accumulators at zero, or at the initial values with the checksum lanes at their sums. -/
def openTile (a b o : Fmt) (tag : Nat) (init : Option (Nat → Nat → Nat)) : Tile :=
  let none64 : List (Option Int) := List.replicate 64 none
  match init with
  | none => ⟨a, b, o, 0, 0, tag, 0, 0, List.replicate 4225 0, none64, none64, none64, none64⟩
  | some c =>
    let ix := List.range 64
    let sumC := fun (vs : List Nat) =>
      if a = .int8 then unsigned 32 ((vs.map (signed 32)).sum) else fpSum (vs.map fp32)
    let rows := ix.map fun i => ix.map fun j => c i j
    let acc := accGrid fun i j =>
      if i < 64 then if j < 64 then c i j else sumC (rows.getD i [])
      else if j < 64 then sumC (ix.map fun i => c i j) else sumC rows.flatten
    let ex := fun (vs : List Nat) => maxExp (vs.map fp32)
    ⟨a, b, o, 0, 0, tag, 0, 0, acc, none64, none64, ix.map fun j => ex (ix.map fun i => c i j),
      rows.map ex⟩

namespace W

/-- A decoded command begins: it opens a tile or continues the open one (R52, R54). A tile of several commands carries the
TAG of the latest, so its completion token has the closing command's (DEDUCED, log entry 22). -/
def mcBegin (w : W) (p n : Nat) (ws : List Word) : W :=
  let x := McCmd.ofWords ws
  let m := w.mc p n
  match Fmt.ofCode x.fmtA, Fmt.ofCode x.fmtB, Fmt.ofCode x.fmtOut with
  | some a, some b, some o =>
    let t := match m.tile with
      | some t => { t with tag := x.tag }
      | none =>
        openTile a b o x.tag
          (if x.init then some fun i j => w.mcRd p n (x.c0 + 256 * i + 4 * j) 4 else none)
    (w.setMc p n { m with tile := some t, cmd := some ws, blk := 0 }).mcSync p n
  | _, _, _ => w

/-- The formats a command decoded now has to keep: those of the tile that will be open when it begins (R54). -/
def mcOpened (w : W) (p n : Nat) : Option (Fmt × Fmt × Fmt) :=
  let m := w.mc p n
  match m.cmd, m.tile with
  | some ws, some t => if (McCmd.ofWords ws).keep then some (t.fmtA, t.fmtB, t.fmtOut) else none
  | none, some t => some (t.fmtA, t.fmtB, t.fmtOut)
  | _, none => none

/-- MMA (R52, R53, R71): the command at the head of queue 0 is popped and decoded; it begins when the core has none in
progress, is held decoded ahead when it has, and faults at once when it is malformed and the core is idle. A parity error
of an operand staged ahead aborts the tile that still computes and is recorded under that tile's TAG, BLOCK 0 (DEDUCED,
log entry 22). -/
def doMma (w : W) (p n : Nat) (u : McUpset) : W :=
  let m := w.mc p n
  if !w.mcRuns p n || !w.flag (Reg.MC_CFG p n) F.MC_CFG_EN || w.mcHalted p n || m.ahead.isSome then w
  else
    match w.head p n 0 with
    | none => w.estall p n 0
    | some t =>
      if isNull t then w
      else
        match w.pop p n 0 with
        | none => w
        | some (t, w) =>
          let ws := (List.range 4).map (payWord t.data)
          let tag := bits (ws.getD 0 0) 63 48
          let ok := mcCmdOk t.len ws (w.mcOpened p n)
          if u = .operandParity ∧ ok then
            let inProgress := match m.cmd with
              | some c => (McCmd.ofWords c).tag
              | none => tag
            (w.setMc p n { m with tile := none, cmd := none, ahead := none, nullsCmd := 0 }).mcFail p n true inProgress
              0 0xA 0x7F 0x7F 0 |>.mcSync p n
          else if m.cmd.isSome then w.setMc p n { m with ahead := some (ws, !ok) }
          else if ok then w.mcBegin p n ws
          else if m.draining.isSome then w.setMc p n { m with ahead := some (ws, true) }
          else w.mcCmdFault p n tag

/-- A well-formed command held decoded ahead begins when the core takes commands and has none in progress (R71, R72). -/
def mcGo (w : W) (p n : Nat) : W :=
  let m := w.mc p n
  match m.cmd, m.ahead with
  | none, some (ws, false) =>
    if w.flag (Reg.MC_CFG p n) F.MC_CFG_EN && !w.mcHalted p n then (w.setMc p n { m with ahead := none }).mcBegin p n ws
    else w
  | _, _ => w

/-- MC_DEFERRED_CMD_FAULT (R53, R71): a fault found when a command was decoded ahead takes effect when the command would
begin: the core takes commands, and the tile in progress has finished, drained and sent its token. -/
def doMcDeferred (w : W) (p n : Nat) : W :=
  let m := w.mc p n
  match m.ahead with
  | some (ws, true) =>
    if w.flag (Reg.MC_CFG p n) F.MC_CFG_EN && m.cmd.isNone && m.draining.isNone && !w.mcHalted p n then
      (w.setMc p n { m with ahead := none }).mcCmdFault p n (bits (ws.getD 0 0) 63 48)
    else w
  | _ => w

/-- MC_NULL_TOKEN (R56): retired; the null token goes out behind the completion tokens of the tiles that end before it
in command order. -/
def doMcNull (w : W) (p n : Nat) : W :=
  if !w.mcRuns p n || !w.flag (Reg.MC_CFG p n) F.MC_CFG_EN || w.mcHalted p n || (w.mc p n).ahead.isSome then w
  else
    match w.head p n 0 with
    | none => w
    | some t =>
      if isNull t then
        match w.pop p n 0 with
        | none => w
        | some (_, w) =>
          let w := w.count (Reg.MC_NULL_SKIP p n) 1
          let m := w.mc p n
          let closing := match m.cmd with
            | some ws => !(McCmd.ofWords ws).keep
            | none => false
          if closing then w.setMc p n { m with nullsCmd := m.nullsCmd + 1 }
          else if m.draining.isSome then w.setMc p n { m with nullsDrain := m.nullsDrain + 1 }
          else w.unitSend p n 0 1 []
      else w

/-- The flips an armed injection makes in this block (R72), and the register with ARM cleared when it fires. One that names
no PE, no bit of its target or, with TARGET 2, no checksum lane stays armed (DEDUCED, log entry 22). -/
def mcInjection (w : W) (p n : Nat) (f0 : Fmt) : List PeFlip × W :=
  let k := Reg.MC_INJECT p n
  let f : PeFlip :=
    ⟨w.fld k F.MC_INJECT_ROW, w.fld k F.MC_INJECT_COL, w.fld k F.MC_INJECT_BIT, w.fld k F.MC_INJECT_TARGET⟩
  let lane := f.row == 64 || f.col == 64
  let fires := w.flag k F.MC_INJECT_ARM && decide (f.row ≤ 64) && decide (f.col ≤ 64) && match f.target with
    | 0 => f0.isMx && decide (f.bit < if lane then 88 else 72)
    | 1 => decide (f.bit < 32)
    | 2 => lane && decide (f.bit < checkWidth f0)
    | _ => false
  if fires then ([f], w.setFlag k F.MC_INJECT_ARM false) else ([], w)

end W

/-- The flip a physical upset makes in a PE. -/
def upsetFlips : McUpset → List PeFlip
  | .product r c b => [⟨r, c, b, 0⟩]
  | .accum r c b => [⟨r, c, b, 1⟩]
  | _ => []

/-- The bit of the output accumulator of PE(i, j) that a flip of target 1 turns over at its next accumulation. -/
def accBit (flips : List PeFlip) (i j : Nat) : Option Nat :=
  match peFlip flips 1 i j with
  | some f => if f.bit < 32 then some f.bit else none
  | none => none

/-- The PE of an MX array whose FP32 accumulator is flipped. The residue-3 or exponent check of its next block close finds
it (R65, R66): DEDUCED, since a flipped bit is no multiple of 3 (log entry 22). -/
def accUpset (flips : List PeFlip) : Option (Nat × Nat) :=
  (flips.find? fun f => f.target == 1 && decide (f.bit < 32) && decide (f.row ≤ 64) && decide (f.col ≤ 64)).map
    fun f => (f.row, f.col)

/-- The operands of one 32-step block: 64 A rows, 64 B columns, and their scales. -/
structure BlockOps where
  a : List (List Nat)
  b : List (List Nat)
  sa : List Nat
  sb : List Nat

namespace W

/-- Block `b` of a command's operands, read from the local buffer (R52, R57). -/
def mcOperands (w : W) (p n : Nat) (x : McCmd) (fa fb : Fmt) (b : Nat) : BlockOps :=
  let ix := List.range 64
  { a := ix.map fun i => w.mcCodes p n fa x.transA x.a x.aPitch i b,
    b := ix.map fun j => w.mcCodes p n fb x.transB x.b x.bPitch j b,
    sa := ix.map fun i => if fa.isMx then w.mcScale p n x.aScale x.k i b else 127,
    sb := ix.map fun j => if fb.isMx then w.mcScale p n x.bScale x.k j b else 127 }

end W

/-- One block of an MX tile (R43 to R45, R60, R61): the check's verdict, the accumulators, the events. -/
def mxBlock (t : Tile) (o : BlockOps) (flips : List PeFlip) : Option Verdict × List Nat × Ev :=
  let m := blockSums (checkWidth t.fmtA) (o.a.map (·.map (mxInt t.fmtA))) (o.b.map (·.map (mxInt t.fmtB))) flips
  let cell := fun i j => mxClose t.fmtA t.fmtB (o.sa.getD i 0) (o.sb.getD j 0) (o.a.getD i []) (o.b.getD j [])
    ((m.getD i []).getD j 0) (t.at i j)
  let res := (List.range 64).flatMap fun i => (List.range 64).map fun j => cell i j
  let acc := accGrid fun i j =>
    if i < 64 ∧ j < 64 then (res.getD (64 * i + j) (0, {})).1 else t.at i j
  (exactCheck id m, acc, res.foldl (fun e r => e.add r.2) {})

/-- 32 steps of an INT8 tile, checksum lanes included (R46, R60). -/
def intBlock (t : Tile) (o : BlockOps) (flips : List PeFlip) : List Nat :=
  let a := o.a.map (·.map (signed 8))
  let b := o.b.map (·.map (signed 8))
  let m := blockSums (checkWidth .int8) a b (flips.filter (·.target == 2))
  let first := firstProducts (checkWidth .int8) a b flips
  let flips := flips ++ (flips.filter (·.target == 0)).map fun f => { f with target := 1 }
  accGrid fun i j =>
    let d := (m.getD i []).getD j 0
    match accBit flips i j with
    | none => unsigned 32 (signed 32 (t.at i j) + d)
    | some k =>
      let h := (first.getD i []).getD j 0
      unsigned 32 (signed 32 (flipBit (unsigned 32 (signed 32 (t.at i j) + h)) k) + (d - h))

/-- 32 steps of a BF16 or FP16 tile, checksum lanes included (R47, R60). -/
def fpBlock (t : Tile) (o : BlockOps) (flips : List PeFlip) : List Nat × Ev :=
  let a := o.a.map (·.map t.fmtA.decode)
  let b := o.b.map (·.map t.fmtB.decode)
  let a := a ++ [fpLineSums a]
  let b := b ++ [fpLineSums b]
  let flips := flips ++ (flips.filter (·.target == 0)).map fun f => { f with target := 1 }
  let flipFp := fun (k : Nat) (h : FV) => if k < 32 then fp32 (flipBit (rneFp32 h).1 k) else h
  let res := (List.range 65).map fun i => (List.range 65).map fun j =>
    let l := peLines flipFp flips i j (a.getD i []) (b.getD j [])
    match accBit flips i j with
    | none => fpSteps l.1 l.2 (t.at i j)
    | some k =>
      let r := fpSteps (l.1.take 1) (l.2.take 1) (t.at i j)
      let s := fpSteps (l.1.drop 1) (l.2.drop 1) (flipBit r.1 k)
      (s.1, r.2.add s.2)
  let acc := accGrid fun i j => ((res.getD i []).getD j (0, {})).1
  let ev := (res.take 64).foldl (fun e r => (r.take 64).foldl (fun e x => e.add x.2) e) {}
  (acc, ev)

/-- The exponent maxima of R63 with one more block of lines. -/
def maxWith (old : List (Option Int)) (f : Fmt) (ls : List (List Nat)) : List (Option Int) :=
  List.zipWith (fun o l => optMax o (maxExp (l.map f.decode))) old ls

namespace W

/-- The tile of the command in progress is over, or goes on with the next command (R54, R71): a closing command sends the
tile to the drain, and a well-formed command decoded ahead begins, unless EN has been cleared since. -/
def mcCommandEnd (w : W) (p n : Nat) (x : McCmd) (t : Tile) : W :=
  let m := w.mc p n
  let m := if x.keep then { m with tile := some t, cmd := none, blk := 0 }
    else { m with tile := none, cmd := none, blk := 0, nullsDrain := m.nullsCmd, nullsCmd := 0,
                  draining := some { t with cAddr := x.c, cPitch := x.cPitch } }
  ((w.setMc p n m).mcSync p n).mcGo p n

/-- The cycles a reduction step is in the array for one more block (R50, R73): 32 steps, and the 128 cycles in which the
last step goes on to the corner where no command held decoded ahead follows it. -/
def mcArrayCycles (w : W) (p n s : Nat) (last : Bool) : Nat :=
  let follows := match (w.mc p n).ahead with
    | some (_, false) => w.flag (Reg.MC_CFG p n) F.MC_CFG_EN
    | _ => false
  32 * s + if last && !follows then 128 else 0

/-- The operand runs of one block hold a byte whose stored parity is wrong (R102). -/
def mcRunBad (w : W) (p n : Nat) (f : Fmt) (trans : Bool) (addr pitch b : Nat) : Bool :=
  let key := galKey p (mcBuf n)
  !w.bad.isEmpty &&
    (if trans then (List.range 32).any fun k => (w.badRun (key + addr + (32 * b + k) * pitch) (64 * f.unitBytes)).isSome
     else (List.range 64).any fun i => (w.badRun (key + addr + i * pitch + runBytes f (32 * b)) (runBytes f 32)).isSome)

/-- What the staging of block `b` meets: a stored parity error of an operand or scale byte, else the upset. -/
def mcStaged (w : W) (p n : Nat) (x : McCmd) (fa fb : Fmt) (b : Nat) (u : McUpset) : McUpset :=
  let scales := fun (addr : Nat) => !w.bad.isEmpty && (List.range 64).any fun i =>
    (w.badRun (galKey p (mcBuf n) + addr + i * (x.k / 32) + b) 1).isSome
  if w.mcRunBad p n fa x.transA x.a x.aPitch b || w.mcRunBad p n fb x.transB x.b x.bPitch b then .operandParity
  else if fa.isMx && (scales x.aScale || scales x.bScale) then .scaleParity else u

/-- MC_BLOCK_CLOSE (R61, R65, R67, R69): the next 32 steps of the command in progress. A closing command's last block
waits for the shadows to be free (R71). A scale parity error, which R72 gives no PE, records ROW and COL 0x7F; an operand
parity error records as BLOCK the 32-step blocks closed before it, in every format (DESIGN CHOICE, log entry 22). -/
def doMcBlock (w : W) (p n : Nat) (u : McUpset) : W :=
  let m := w.mc p n
  match m.tile, m.cmd with
  | some t, some ws =>
    let x := McCmd.ofWords ws
    let lastBlock := decide (x.k ≤ 32 * (m.blk + 1))
    if w.mcHalted p n || (lastBlock && !x.keep && m.draining.isSome) then w
    else
      let mx := t.fmtA.isMx
      let abort := fun (w : W) => w.setMc p n { m with tile := none, cmd := none, ahead := none, nullsCmd := 0 }
      let steps := w.count (Reg.MC_BUSY_CYCLES p n) (32 * mcCycles t.fmtA t.fmtB)
      match w.mcStaged p n x t.fmtA t.fmtB m.blk u with
      | .operandParity => ((abort w).mcFail p n true t.tag t.blocks 0xA 0x7F 0x7F 0).mcSync p n
      | .scaleParity =>
        if mx then ((abort steps).mcFail p n true t.tag t.blocks 0x9 0x7F 0x7F 0).mcSync p n else w
      | .closeCheck r c =>
        if mx then ((abort steps).mcFail p n false t.tag t.blocks 0x7 (min r 0x7F) (min c 0x7F) 0).mcSync p n else w
      | _ =>
        let (inj, w) := w.mcInjection p n t.fmtA
        let flips := inj ++ upsetFlips u
        let o := w.mcOperands p n x t.fmtA t.fmtB m.blk
        let w := w.count (Reg.MC_BUSY_CYCLES p n) (w.mcArrayCycles p n (mcCycles t.fmtA t.fmtB) lastBlock)
        let (verdict, acc, ev) :=
          if mx then mxBlock t o flips
          else if t.fmtA = .int8 then (none, intBlock t o flips, {})
          else (none, fpBlock t o flips)
        match if mx then accUpset flips else none, verdict with
        | some (r, c), _ => ((abort w).mcFail p n false t.tag t.blocks 0x7 r c 0).mcSync p n
        | none, some v =>
          ((abort w).mcFail p n false t.tag t.blocks (1 + v.kind) v.row v.col
            (w64 (unsigned 64 v.delta))).mcSync p n
        | none, none =>
          let w := w.mcEvents p n ev
          let t := { t with acc := acc, k := t.k + 32, blocks := t.blocks + 1,
                            eA := maxWith t.eA t.fmtA o.a, eB := maxWith t.eB t.fmtB o.b }
          if lastBlock then w.mcCommandEnd p n x t
          else w.setMc p n { w.mc p n with tile := some t, blk := m.blk + 1 }
  | _, _ => w

end W

/-! ### The drain -/

/-- Sum of 64 FP32 codes in a six-level tree, each addition rounded (R63). R63 does not say which values a level pairs:
adjacent ones here (DESIGN CHOICE, log entry 22). -/
def treeSum : Nat → List Nat → List Nat
  | 0, xs => xs
  | n + 1, xs =>
    treeSum n ((List.range (xs.length / 2)).map fun i =>
      (rneFp32 ((fp32 (xs.getD (2 * i) 0)).add (fp32 (xs.getD (2 * i + 1) 0)))).1)

/-- The tolerance of R63 as a power of two: the least n with τ ≤ 2^n. `small` is the exponent −18 or −12. Terms whose
operands are all zero are left out. -/
def tolExp (k : Nat) (ea eb ec : Option Int) (small : Int) : Int :=
  let terms : List (Nat × Int) :=
    (match ea, eb with
      | some a, some b => [(k, a + b + 2)]
      | _, _ => []) ++ (match ec with
      | some c => [(1, c + 1)]
      | none => []) ++ [(1, -125)]
  let e0 := terms.foldl (fun e t => min e t.2) (-125)
  let sum := terms.foldl (fun s t => s + t.1 * 2 ^ (t.2 - e0).toNat) 0
  let tau := (3 * k + 16) * sum
  (if tau = 2 ^ Nat.log2 tau then (Nat.log2 tau : Int) else Nat.log2 tau + 1) + e0 + small

/-- One tolerance check (R63, R64): the exact difference S − T when it fails; `none` in the first place when it is
skipped. -/
def tolCheck (vals : List Nat) (chk : Nat) (n : Int) : Option (Option FV) :=
  let s := fp32 ((treeSum 6 vals).getD 0 0)
  let t := fp32 chk
  if (vals.any fun v => (fp32 v).nonfinite) || s.nonfinite || t.nonfinite then none
  else
    let d := s.add t.negate
    match d with
    | .fin _ m e =>
      let e0 := min e n
      if m * 2 ^ (e - e0).toNat ≤ 2 ^ (n - e0).toNat then some none else some (some d)
    | _ => some none

/-- The drain checks of a BF16 or FP16 tile (R63, R64, R69): skipped checks, and the verdict with S − T. -/
def fpDrainCheck (t : Tile) : Nat × Option (Nat × Nat × Nat × FV) :=
  let ix := List.range 64
  let topA := t.eA.foldl optMax none
  let topB := t.eB.foldl optMax none
  let topC := t.eCcol.foldl optMax none
  let cols := ix.map fun j =>
    tolCheck (ix.map fun i => t.at i j) (t.at 64 j) (tolExp t.k topA (t.eB.getD j none) (t.eCcol.getD j none) (-18))
  let rows := ix.map fun i =>
    tolCheck (ix.map fun j => t.at i j) (t.at i 64) (tolExp t.k (t.eA.getD i none) topB (t.eCrow.getD i none) (-18))
  let cn := tolExp t.k topA topB topC (-12)
  let cols := cols ++ [tolCheck (ix.map fun i => t.at i 64) (t.at 64 64) cn]
  let rows := rows ++ [tolCheck (ix.map fun j => t.at 64 j) (t.at 64 64) cn]
  let skips := (cols ++ rows).countP Option.isNone
  let fails := fun (r : Option (Option FV)) => match r with
    | some (some _) => true
    | _ => false
  let delta := fun (l : List (Option (Option FV))) (i : Nat) => match l.getD i none with
    | some (some d) => d
    | _ => .fin false 0 0
  match cols.findIdx? fails, rows.findIdx? fails with
  | none, none => (skips, none)
  | c, r =>
    let c := c.getD 0x7F
    let r := r.getD 0x7F
    if c < 64 then (skips, some (4, r, c, delta cols c))
    else if r < 64 then (skips, some (5, r, c, delta rows r))
    else (skips, some (6, r, c, if c = 64 then delta cols 64 else delta rows 64))

namespace W

/-- The results of a tile go to the local buffer (R55): 64 rows of 64 values of FMT_OUT. Returns the overflow count. -/
def mcWriteResult (w : W) (p n : Nat) (t : Tile) : W :=
  (List.range 64).foldl (fun w i => (List.range 64).foldl (fun w j =>
    let v := t.at i j
    let r := if t.fmtOut = .bf16 ∨ t.fmtOut = .fp16 then t.fmtOut.encodeIeee .rne (fp32 v) else (v, false)
    let b := t.fmtOut.unitBytes
    let w := w.wrNat (galKey p (mcBuf n + t.cAddr + i * t.cPitch + j * b)) b r.1
    w.when r.2 fun w => w.count (Reg.MC_EVT_OVF p n) 1) w) w

/-- Null tokens that stand behind a completed tile go out (R56). -/
def mcNulls (w : W) (p n : Nat) : Nat → W
  | 0 => w
  | k + 1 => W.mcNulls (w.unitSend p n 0 1 []) p n k

/-- MC_DRAIN (R55, R62 to R65, R67, R68): results written, drain checks, completion token. A wrong bit of a shadow of an MX
tile is a parity error (R66). -/
def doMcDrain (w : W) (p n : Nat) (u : McUpset) : W :=
  let m := w.mc p n
  match m.draining with
  | none => w
  | some t =>
    let stop := fun (w : W) =>
      w.setMc p n { m with draining := none, tile := none, cmd := none, ahead := none, nullsDrain := 0, nullsCmd := 0 }
    let conv := t.fmtOut == .bf16 || t.fmtOut == .fp16
    let acc := (upsetFlips u).foldl (fun (a : List Nat) f =>
      if f.target = 1 ∧ f.bit < 32 ∧ f.row ≤ 64 ∧ f.col ≤ 64 then
        a.set (65 * f.row + f.col) (flipBit (a.getD (65 * f.row + f.col) 0) f.bit) else a) t.acc
    let t' := { t with acc := acc }
    let w := w.mcWriteResult p n t'
    if u = .shadowParity ∨ (t.fmtA.isMx ∧ acc ≠ t.acc) then ((stop w).mcFail p n true t.tag 0xFFFF 0xB 0x7F 0x7F 0).mcSync p n
    else if u = .convCheck ∧ conv then ((stop w).mcFail p n false t.tag 0xFFFF 0x8 0x7F 0x7F 0).mcSync p n
    else
      let (skips, bad) : Nat × Option (Nat × Nat × Nat × Word) :=
        if t.fmtA.isMx then (0, none)
        else if t.fmtA = .int8 then
          let g := (List.range 65).map fun i => (List.range 65).map fun j => signed 32 (t'.at i j)
          (0, (exactCheck (fun v => signed 32 (unsigned 32 v)) g).map fun v =>
            (4 + v.kind, v.row, v.col, w64 (unsigned 64 v.delta)))
        else
          let r := fpDrainCheck t'
          (r.1, r.2.map fun (k, a, b, d) => (k, a, b, w64 (Fmt.fp64.encodeIeee .rne d).1))
      let w := w.count (Reg.MC_CHECK_SKIP p n) skips
      match bad with
      | some (k, r, c, d) => ((stop w).mcFail p n false t.tag 0xFFFF k r c d).mcSync p n
      | none =>
        let w := (w.setMc p n { m with draining := none, nullsDrain := 0 }).mcSync p n
        let w := w.unitSend p n 0 0 (completionData t.tag 0)
        (w.count (Reg.MC_TILES p n) 1).mcNulls p n m.nullsDrain

/-- May an injection be armed (R72, R412): the gallery is in self-test, or debug is unlocked. -/
def injectOk (w : W) (p : Nat) : Bool := w.pstate p == 2 || w.flag Reg.SEC_STATUS F.SEC_STATUS_DEBUG

/-- A write of an injection register (R72, R92): taken as its fields say, ARM set by writing 1; at any other time no
effect and a class 0x0F record of KIND 0x3. -/
def writeInject (w : W) (p k : Nat) (v : Nat) (mask : Nat) (requester : Word) : W :=
  if w.injectOk p then
    let arm := v.testBit 31 || bit (w.reg k) 31
    w.setReg k (putBit (w64 (v &&& mask)) 31 arm)
  else w.recordAccess 3 k requester

end W

/-! ### The meanings -/

/-- MMA. -/
def execMma (p n : Nat) (u : McUpset) (s : State) : Host.Outcome State Fault Refusal :=
  runOn (mcOk p n) s fun w => w.doMma p n u

/-- MC_DEFERRED_CMD_FAULT. -/
def execMcDeferredCmdFault (p n : Nat) (s : State) : Host.Outcome State Fault Refusal :=
  runOn (mcOk p n) s fun w => w.when (w.mcRuns p n) fun w => w.doMcDeferred p n

/-- MC_NULL_TOKEN. -/
def execMcNullToken (p n : Nat) (s : State) : Host.Outcome State Fault Refusal :=
  runOn (mcOk p n) s fun w => w.doMcNull p n

/-- MC_BLOCK_CLOSE. -/
def execMcBlockClose (p n : Nat) (u : McUpset) (s : State) : Host.Outcome State Fault Refusal :=
  runOn (mcOk p n) s fun w => w.when (w.mcRuns p n) fun w => w.doMcBlock p n u

/-- MC_DRAIN. -/
def execMcDrain (p n : Nat) (u : McUpset) (s : State) : Host.Outcome State Fault Refusal :=
  runOn (mcOk p n) s fun w => w.when (w.mcRuns p n) fun w => w.doMcDrain p n u

/-- MC_INJECT_ARM: a write of MC_INJECT. -/
def execMcInjectArm (p n : Nat) (v requester : Word) (s : State) : Host.Outcome State Fault Refusal :=
  runOn (mcOk p n) s fun w => w.writeInject p (Reg.MC_INJECT p n) v.toNat 0x7FFFFF requester

/-- MC_CNT_CLR (R73): bit n clears the counter at 0x040 + 8 n, n from 0 to 8. -/
def execMcCntClr (p n : Nat) (v : Word) (s : State) : Host.Outcome State Fault Refusal :=
  runOn (mcOk p n) s fun w => w.clearCounters (Reg.MC_EVT_NANGEN p n) 9 v

end Sys2Proof.Machine
end

