-- ==== Sys2Proof/Machine/Parity.lean ====
section
/-! DEFINITION. Parity errors in the arrays of a gallery as a reader finds them (05_galleries_and_halls.md R102, R103,
R490): the hall records those of its banks, the core that owns a memory those of its own; and a line of the window as a
master of the crossbar reads it. -/

namespace Sys2Proof.Machine

namespace W

/-! ### Failures of a vector core (04 R84, R92) -/

/-- A vector core is halted. -/
def vcHalted (w : W) (p n : Nat) : Bool := w.flag (Reg.VC_STATUS p n) F.VC_STATUS_HALTED

/-- VC_PC. -/
def vpc (w : W) (p n : Nat) : Nat := (w.reg (Reg.VC_PC p n)).toNat

/-- The first failure is recorded in VC_CHECK_INFO (R92); the value for the record. -/
def vcInfo (w : W) (p n lane kind : Nat) : Word × W :=
  let v := w64 ((w.vc p n).tag % 2 ^ 16 * 2 ^ 48 + w.vpc p n % 2 ^ 17 * 2 ^ 31 + lane % 128 * 2 ^ 24 + kind * 2 ^ 20 + 2 ^ 19)
  (v, w.when (!w.flag (Reg.VC_CHECK_INFO p n) F.VC_CHECK_INFO_VALID) fun w => w.setReg (Reg.VC_CHECK_INFO p n) v)

/-- The kernel is over and the core halts. -/
def vcHalt (w : W) (p n : Nat) (f : Option Fld) : W :=
  let w := match f with
    | some f => w.setFlag (Reg.VC_STATUS p n) f true
    | none => w
  let w := w.setFlag (Reg.VC_STATUS p n) F.VC_STATUS_HALTED true
  let w := (w.setFlag (Reg.VC_STATUS p n) F.VC_STATUS_BUSY false).setFlag (Reg.VC_STATUS p n) F.VC_STATUS_QWAIT false
  w.setVc p n { w.vc p n with running := false, wait := .run }

/-- A residue or parity failure (R84). -/
def vcFail (w : W) (p n lane kind : Nat) : W :=
  let (info, w) := w.vcInfo p n lane kind
  let b : RecBody := { cls := 0x02, kind := kind, agent := some (8 + n), tag := (w.vc p n).tag, pc := w.vpc p n, info := info }
  let f := if kind = 1 then F.VC_STATUS_CHECK_FAULT else F.VC_STATUS_PARITY_FAULT
  ((w.vcHalt p n (some f)).countErr (Reg.VC_CHECK_FAIL p n)).raiseGallery p b

/-! ### Whose error it is -/

/-- The agent that owns a window offset beyond the hall: its code and, for the record, its class (R104, R490). -/
def ownerOf (off : Nat) : Nat :=
  if off < 0x600000 then (off - 0x400000) / 0x40000
  else if off < 0x680000 then 8 + (off - 0x600000) / 0x20000
  else 12 + (off - 0x680000) / 0x10000

/-- A matrix core finds a parity error in its local buffer for another reader (R490, R67): KIND 0xC. -/
def mcOwnParity (w : W) (p n : Nat) : W :=
  let m := w.mc p n
  let (tag, blk) := match m.tile with
    | some t => (t.tag, t.blocks)
    | none => (0, 0xFFFF)
  ((w.setMc p n { m with tile := none, cmd := none, ahead := none, nullsCmd := 0 }).mcFail p n true tag blk 0xC
    0x7F 0x7F 0).mcSync p n

/-- The core that owns a memory finds a parity error in it (R490): it acts as on a parity error of its own read. -/
def ownerParity (w : W) (p off : Nat) : W :=
  let a := ownerOf off
  if a < 8 then w.mcOwnParity p a
  else if a < 12 then w.vcFail p (a - 8) 0x7F 3
  else w.hFault (.sc p (a - 12)) 3 (w.hpc (.sc p (a - 12))) 0

/-- Master `m` reads `n` bytes of one line of the window at `off` in a cycle that its command does not name, with no
rival. In the hall the latch of another master's read of the line may serve it, and whether the cycle lies in the window is
free (log entry 1). A stored parity error poisons the line: the hall, or the core that owns the memory, records it. `src`
is SRC_PHYS. -/
def getLine (w : W) (p m off n src : Nat) : (List Byte × Bool) × W :=
  let bs := w.rdBytes (galKey p off) n
  let bad := w.badRun (galKey p off) n
  if off < 0x400000 then
    let la := Tbl.get (fun _ => {}) (w.hall p).latch (hallBank off)
    let (x, w) := w.draw
    if la.live && la.line == off / 128 && la.master != m && bit x 63 then
      ((bs, la.poison), w.count (Reg.HALL_MERGE_HITS p) 1)
    else
      let w := w.loadLatch p m off x.toNat bad.isSome
      match bad with
      | none => ((bs, false), w)
      | some (first, k) => ((bs, true), w.hallParity p 0 m off ((off + first) % 128) k src)
  else
    match bad with
    | none => ((bs, false), w)
    | some _ => ((bs, true), w.ownerParity p off)

/-- `n` bytes of the window from `off`, line by line: the bytes, and whether any line came poisoned. -/
def getLines (w : W) (p m off n src : Nat) : (List Byte × Bool) × W :=
  (linePieces off n).foldl (fun (r : (List Byte × Bool) × W) (lo, k) =>
    let (x, w) := r.2.getLine p m (off + lo) k src
    ((r.1.1 ++ x.1, r.1.2 || x.2), w)) (([], false), w)

end W

end Sys2Proof.Machine
end

