-- ==== Sys2Proof/Machine/Access.lean ====
section
/-! DEFINITION. What an access to the memory or a hall window of the part finds when its requester is answered
(05_galleries_and_halls.md R105, 09_memory_tiers.md R204, R218 to R221, R224): one line at a time, through the owning
controller or gallery. The set-up region and other devices are left to the requester. -/

namespace Sys2Proof.Machine

/-- The answer to one access. -/
inductive Ans where
  /-- the bytes read (none for a write), and the poison mark -/
  | ok (bs : List Byte) (poison : Bool)
  /-- the address error of R105 and R204 -/
  | error
  /-- no answer: the controller takes no requests -/
  | silent
  /-- a register of the set-up region, at its offset -/
  | setup (k : Nat)
  /-- an address of another device -/
  | remote (dev : Nat)
deriving DecidableEq, Repr

namespace W

/-- The master by which a requester reaches gallery `p` (R96): its own port `own` in its own gallery, else the landing's;
and SRC_PHYS (R116). -/
def masterOf (land : Option Nat) (own p : Nat) : Nat × Nat :=
  if land = some p then (own, 0x1FF) else (14, land.getD 0x1FF)

/-- `n` bytes of one line, read for a requester at landing `land` or in the vestibule, whose port in its own gallery is
`own`; `u` is what the read meets at a memory controller (R219 to R221). -/
def lineRead (w : W) (land : Option Nat) (addr : Word) (n : Nat) (own : Nat := 12) (u : MemUpset := .none) : Ans × W :=
  match w.place land addr with
  | .mem m pc irgn key =>
    if !w.memTakes m then (.silent, w)
    else
      let (poison, w) := w.memLoad m pc (land.getD 0x1FF) irgn (key / 128) addr 0 none u
      (.ok (w.rdBytes key n) poison, w)
  | .gal p off =>
    let (m, src) := masterOf land own p
    let ((bs, poison), w) := w.getLine p m off n src
    (.ok bs poison, w)
  | .setup k => (.setup k, w)
  | .remote d => (.remote d, w)
  | .none => (.error, w)

/-- Bytes of one line, written under the guard (R188). -/
def lineWrite (w : W) (land : Option Nat) (addr : Word) (bs : List Byte) (own : Nat := 12) : Ans × W :=
  match w.place land addr with
  | .mem m pc irgn key =>
    if !w.memTakes m then (.silent, w)
    else
      let w := w.rcbClose m (key / 128)
      if !w.guardAllows m (bits addr 47 0) bs.length then (.error, w.guardRejects m pc (land.getD 0x1FF) irgn addr)
      else
        let (poison, w) := w.memStore m pc (land.getD 0x1FF) irgn key addr bs .none
        (.ok [] poison, w)
  | .gal p off => (.ok [] false, w.putLine p (masterOf land own p).1 off bs)
  | .setup k => (.setup k, w)
  | .remote d => (.remote d, w)
  | .none => (.error, w)

/-- An atomic on memory or a hall (R100, R217): the old value. An atomic anywhere else is an address error. -/
def wordAtomic (w : W) (land : Option Nat) (src : Nat) (addr : Word) (op : AtomOp) (x cmp : Word) (own : Nat := 12) :
    Ans × W :=
  match w.place land addr with
  | .mem m pc irgn key =>
    if !w.memTakes m then (.silent, w)
    else
    let w := w.rcbClose m (key / 128)
    if !w.guardAllows m (bits addr 47 0) 8 then (.error, w.guardRejects m pc (land.getD 0x1FF) irgn addr)
    else
      let (poison, w) := w.dramRead m pc (land.getD 0x1FF) irgn (key / 128) addr .none
      if poison then (.ok (leBytes 8 0) true, w)
      else let (old, w) := w.memAtomic m key src op x cmp; (.ok (leBytes 8 old.toNat) false, w)
  | .gal p off =>
    if off < 0x400000 then
      let (m, sp) := masterOf land own p
      let w := (w.takeGrant p (hallBank off) m []).endLatch p off
      match w.badRun (galKey p off) 8 with
      | some (first, k) => (.ok (leBytes 8 0) true, w.hallParity p 0 m off ((off + first) % 128) k sp)
      | none =>
        let old := w64 (w.rdNat (galKey p off) 8)
        let h := w.hall p
        let (tr, ev, nd) := track h.tracker h.evicted off src
        let w := w.setHall p { h with tracker := tr, evicted := ev }
        let w := w.when nd fun w => (w.count (Reg.HALL_ND_ATOMIC p) 1).ndEvent p
        (.ok (leBytes 8 old.toNat) false, w.wrNat (galKey p off) 8 (atomNew op old x cmp).toNat)
    else (.error, w)
  | .remote d => (.remote d, w)
  | .setup _ => (.error, w)
  | .none => (.error, w)

end W

end Sys2Proof.Machine
end

