-- ==== Sys2Proof/Machine/Control.lean ====
section
/-! DEFINITION. The interrupt controller (20_control_complex_and_interrupts.md R436 to R445): sources, what is
deliverable, claims, software interrupts, timers, moderation, and releasing and holding a control processor. The entry of
a handler is in Machine/Recovery.lean, beside what CP1 does in it. -/

namespace Sys2Proof.Machine

/-- The register of source `id` as control processor `n` sees it: its private bank below 64, the shared bank above. -/
def srcReg (n id : Nat) : Nat := if id < 64 then Reg.IC_SRC_PRIV n id else Reg.IC_SRC (id - 64)

/-- The source exists (R437). -/
def srcOk (n id : Nat) : Bool := if id < 64 then privSrcReset n id != 0 else (sharedSrc id).isSome

/-- A control processor exists. -/
def cpOk (n : Nat) : Bool := decide (n < 4)

namespace W

/-- IC_CPn_STATUS.RUNPRI as a priority: `none` is −1, no handler active. -/
def runPri (w : W) (n : Nat) : Option Nat :=
  let r := w.fld (Reg.IC_CP_STATUS n) F.IC_CP_STATUS_RUNPRI
  if r = 0x1F then none else some r

/-- Source `id` is held back by IC_CTL.GDIS or by its moderation timer (R442, R443): urgent sources never are; a control
processor stopped in WFI is not moderated, nor is the source its handler was entered for until that source is claimed, as
the worked example shows; an interval of 0 holds nothing. -/
def srcHeld (w : W) (n id : Nat) : Bool :=
  let x := w.reg (srcReg n id)
  let m := bits x 25 23
  !bit x 29 && (bit (w.reg Reg.IC_CTL) 0 ||
    (m != 0 && !w.flag (Reg.IC_CP_STATUS n) F.IC_CP_STATUS_WFI && w.c.modRun.contains (8 * n + m) &&
      bits (w.reg (Reg.IC_CP_MOD n (m - 1))) 15 0 != 0 && !(w.cp n).given.contains id))

/-- Source `id` is pending, enabled, has `n` as its target and is not held. -/
def srcUp (w : W) (n id : Nat) : Bool :=
  let x := w.reg (srcReg n id)
  srcOk n id && bit x 31 && bit x 28 && (id < 64 || bits x 27 26 == n) && !w.srcHeld n id

/-- PRIO of a source. -/
def srcPrio (w : W) (n id : Nat) : Nat := bits (w.reg (srcReg n id)) 22 19

/-- The identifiers of a control processor's sources, lowest first. -/
def srcIds : List Nat := List.range 298

/-- The deliverable source of the highest PRIO, the lowest identifier of equals, leaving IE aside (R439). -/
def bestSource (w : W) (n : Nat) : Option Nat :=
  let ids := srcIds.filter fun id =>
    w.srcUp n id && decide (bits (w.reg (Reg.IC_CP_THRESH n)) 3 0 ≤ w.srcPrio n id) &&
      (match w.runPri n with | none => true | some r => decide (r < w.srcPrio n id))
  ids.foldl (fun (b : Option Nat) id =>
    match b with
    | none => some id
    | some j => if w.srcPrio n j < w.srcPrio n id then some id else some j) none

/-- A claim (R440): the identifier, or 0x3FF, and the source's PEND cleared. -/
def claim (w : W) (n : Nat) : Nat × W :=
  match srcIds.find? fun id => w.srcUp n id && w.runPri n == some (w.srcPrio n id) with
  | some id =>
    let c := w.cp n
    let w := w.setCp n { c with given := c.given.map fun g => if g = id then 0x3FF else g }
    (id, w.setReg (srcReg n id) (putBit (w.reg (srcReg n id)) 31 false))
  | none => (0x3FF, w)

/-- An event of a source, private or shared (R438). -/
def pendSrc (w : W) (n id : Nat) : W := if id < 64 then w.pendPriv n id else w.pend id

/-- The handler is entered (R439): the source's level is the running priority, the save stack keeps what it interrupts,
the delivery counts, its moderation timer starts (R443). -/
def enterHandler (w : W) (n id : Nat) : W :=
  let c := w.cp n
  let st := Reg.IC_CP_STATUS n
  let pr := w.srcPrio n id
  let m := bits (w.reg (srcReg n id)) 25 23
  let w := w.setCp n { c with stack := (c.pc, w.fld st F.IC_CP_STATUS_RUNPRI) :: c.stack, given := id :: c.given,
                              pc := (bits (w.reg (Reg.IC_CP_VBASE n)) 18 10 * 1024 + 64 * pr) % 2 ^ 32 }
  let w := ((w.setFld st F.IC_CP_STATUS_RUNPRI pr).setFlag st F.IC_CP_STATUS_WFI false).count (Reg.IC_DELIV0 + 8 * n) 1
  if m ≠ 0 ∧ bits (w.reg (Reg.IC_CP_MOD n (m - 1))) 15 0 ≠ 0 then
    { w with c := { w.c with modRun := (8 * n + m) :: w.c.modRun.filter (· ≠ 8 * n + m) } }
  else w

/-- The processor takes interrupts now: out of reset, not halted. -/
def cpTakes (w : W) (n : Nat) : Bool := w.hEnabled (.cp n) && !w.hHalted (.cp n)

/-- IC_CLAIM: the answer of the read. -/
def doIcClaim (w : W) (n : Nat) : W :=
  let (id, w) := w.claim n
  w.emit (.value (Reg.IC_CP_CLAIM n) (w64 id))

/-- A write of IC_CPn_SWI: every bit set is an event of that private source (R437, R444). -/
def doSwi (w : W) (n : Nat) (v : Word) : W := (setBitsBelow 16 v.toNat).foldl (fun w s => w.pendPriv n s) w

/-- The processor goes back to reset (R436): local memory is kept, the save stack is emptied. -/
def cpReset (w : W) (n : Nat) : W :=
  ((w.setCp n {}).setReg (Reg.IC_CP_STATUS n) (regReset w.c.fuses (Reg.IC_CP_STATUS n))).setFlag (Reg.IC_CP_CTL n)
    F.IC_CP_CTL_HALTED false

/-- A write of IC_CPn_CTL.RUN (R436): a release starts at VBASE + 0x400; CP0's bit cannot be written. -/
def doCpRun (w : W) (n : Nat) (on : Bool) : W :=
  if n = 0 ∨ w.flag (Reg.IC_CP_CTL n) F.IC_CP_CTL_RUN = on then w
  else
    let w := (w.cpReset n).setFlag (Reg.IC_CP_CTL n) F.IC_CP_CTL_RUN on
    if on then w.setHpc (.cp n) (bits (w.reg (Reg.IC_CP_VBASE n)) 18 10 * 1024 + 0x400) else w

/-- The interval of moderation timer `m` of a processor has passed (R443). -/
def doModeration (w : W) (n m : Nat) : W := { w with c := { w.c with modRun := w.c.modRun.filter (· ≠ 8 * n + m) } }

end W

/-! ### The meanings -/

/-- IC_CLAIM. -/
def execIcClaim (n : Nat) (s : State) : Host.Outcome State Fault Refusal := runOn (cpOk n) s fun w => w.doIcClaim n

/-- SOURCE_TRIGGER: TRIG of source `id`, private to CPn below 64 (R445). -/
def execSourceTrigger (n id : Nat) (s : State) : Host.Outcome State Fault Refusal :=
  runOn (cpOk n && decide (id < 576)) s fun w => w.pendSrc n id

/-- SOFTWARE_INTERRUPT. -/
def execSoftwareInterrupt (n : Nat) (v : Word) (s : State) : Host.Outcome State Fault Refusal :=
  runOn (cpOk n) s fun w => w.doSwi n v

/-- CP_TIMER. -/
def execCpTimer (n : Nat) (s : State) : Host.Outcome State Fault Refusal := runOn (cpOk n) s fun w => w.pendPriv n 16

/-- MODERATION_TIMEOUT: timer `m`, 1 to 7, of CPn. -/
def execModerationTimeout (n m : Nat) (s : State) : Host.Outcome State Fault Refusal :=
  runOn (cpOk n && decide (1 ≤ m) && decide (m ≤ 7)) s fun w => w.doModeration n m

/-- CP_RELEASE. -/
def execCpRelease (n : Nat) (s : State) : Host.Outcome State Fault Refusal := runOn (cpOk n) s fun w => w.doCpRun n true

/-- CP_HOLD. -/
def execCpHold (n : Nat) (s : State) : Host.Outcome State Fault Refusal := runOn (cpOk n) s fun w => w.doCpRun n false

/-- IC_CNT_CLR. -/
def execIcCntClr (v : Word) (s : State) : Host.Outcome State Fault Refusal :=
  run s fun w => w.clearCounters Reg.IC_DELIV0 5 v

end Sys2Proof.Machine
end

