-- ==== Sys2Proof/Machine/Defects.lean ====
section
/-! DEFINITION. The queue of flash operations (21_management_and_service.md R454), the defect map and strikes
(15_faults_and_fencing.md R366 to R368). -/

namespace Sys2Proof.Machine

/-- Defect-map and security-state writes go ahead of firmware and dump copies (R454). -/
def FlashOp.ahead : FlashOp → Bool
  | .firmware _ _ _ => false
  | .crash _ => false
  | .mgmt _ => false
  | _ => true

namespace W

/-- A flash operation joins CP0's queue (R454): the first one is in progress and stays first. -/
def flashPut (w : W) (op : FlashOp) : W :=
  let q := w.c.flashQ
  let q := if op.ahead then
      let busy := q.take 1
      let rest := q.drop 1
      busy ++ rest.takeWhile FlashOp.ahead ++ op :: rest.dropWhile FlashOp.ahead
    else q ++ [op]
  { w with c := { w.c with flashQ := q } }

/-- Powered seconds of the device (R367 LIFE_S). -/
def lifeS (w : W) : Nat := w.c.flash.lifeS + (w.reg Reg.RST_UPTIME).toNat / 1000000000

/-- A class 0x10 record (R364): SEV 2 for KIND 0x1, 0x7 and 0x8, and 3 for the others. -/
def capRecord (w : W) (kind info aux : Nat) (phys : Option Nat) : W :=
  w.record { cls := 0x10, kind := kind, sev := if kind = 1 ∨ kind = 7 ∨ kind = 8 then 2 else 3, phys := phys,
             info := w64 info, aux := w64 aux }

/-- The defect map goes to flash (R365, R367): one write is queued at a time behind the one in progress. -/
def saveMap (w : W) : W :=
  let w := (w.setFld Reg.FLT_DEFMAP ⟨31, 16⟩ w.c.defects.length).setFlag Reg.FLT_DEFMAP ⟨0, 0⟩ true
  if (w.c.flashQ.drop 1).contains .defmap then w else w.flashPut .defmap

/-- The entry of a unit. -/
def defEntry (w : W) (utype unit : Nat) : Option DefEntry :=
  w.c.defects.find? fun e => e.utype == utype && e.unit == unit

/-- The STRIKE entry with the oldest LIFE_S. -/
def oldestStrike (es : List DefEntry) : Option DefEntry :=
  es.foldl (fun (o : Option DefEntry) e =>
    if e.state ≠ 1 then o
    else match o with
      | none => some e
      | some b => if e.life < b.life then some e else some b) none

/-- An entry is written (R368): in place of the unit's own, in a free place, in place of the oldest STRIKE entry, or only
in memory. -/
def putEntry (w : W) (e : DefEntry) : W :=
  let es := w.c.defects
  let same := fun (x : DefEntry) => x.utype == e.utype && x.unit == e.unit && (e.utype != 6 || x.aux == e.aux)
  if es.any same then
    { w with c := { w.c with defects := es.map fun x => if same x then e else x } }.saveMap
  else if es.length < 1790 then { w with c := { w.c with defects := es ++ [e] } }.saveMap
  else match oldestStrike es with
    | some o => { w with c := { w.c with defects := es.map fun x => if x = o then e else x } }.saveMap
    | none => { w with c := { w.c with defects := es ++ [e] } }.capRecord 6 0
        (w.fld Reg.FLT_DEFMAP ⟨63, 32⟩) none

/-- A unit is entered as DEFECT. -/
def enterDefect (w : W) (utype unit cls kind origin aux : Nat) : W :=
  let strikes := match w.defEntry utype unit with | some e => e.strikes | none => 0
  w.putEntry { utype := utype, unit := unit, state := 2, cls := cls, kind := kind, origin := origin, strikes := strikes,
               life := w.lifeS, aux := aux, time := w.c.time }

/-- A strike on a unit (R366): the entry, its record, and whether it is DEFECT now. An edge router is fenced only by its own
test (R358): its strikes make no defect. -/
def strike (w : W) (utype unit cls kind origin : Nat) : Bool × W :=
  let win := max 1 (w.fld Reg.FLT_CFG F.FLT_CFG_STRIKE_H) * 3600
  let mx := max 1 (w.fld Reg.FLT_CFG F.FLT_CFG_STRIKE_MAX)
  let old := w.defEntry utype unit
  let n := match old with
    | some e => if w.lifeS - e.life < win then min 0xFF (e.strikes + 1) else 1
    | none => 1
  let bad := (decide (mx ≤ n) && utype != 8) || (match old with | some e => e.state == 2 | none => false)
  let w := w.putEntry { utype := utype, unit := unit, state := if bad then 2 else 1, cls := cls, kind := kind,
                        origin := origin, strikes := n, life := w.lifeS, aux := 0, time := w.c.time }
  (bad, (w.count Reg.FLT_STRIKES 1).capRecord 8 unit n (if utype = 1 then some unit else none))

end W

end Sys2Proof.Machine
end

