-- ==== Sys2Proof/Machine/Flits.lean ====
section
/-! DEFINITION. A packet as flits, and one link transfer with its parity (06_mesh_stair_and_flights.md R119, R122, R123,
R133, R142). -/

namespace Sys2Proof.Machine

/-- The four words of a packet's header (R123). -/
def headWords (t : Packet) : List Word :=
  [ w64 (t.version % 16 * 2 ^ 60 + t.typ % 16 * 2 ^ 56 + t.epoch % 16 * 2 ^ 52 + t.nbody % 64 * 2 ^ 46 + t.mc.toNat * 2 ^ 45
      + t.phase % 2 * 2 ^ 44 + t.exit % 8 * 2 ^ 41 + t.dst % 512 * 2 ^ 32 + t.viaLand % 512 * 2 ^ 23 + t.via.toNat * 2 ^ 22
      + t.srcLand % 512 * 2 ^ 13 + t.srcExit % 8 * 2 ^ 10),
    t.addr, w64 (t.seq % 2 ^ 16 * 2 ^ 48 + t.conn % 2 ^ 16 * 2 ^ 32 + t.rtag % 2 ^ 16 * 2 ^ 16 + t.len % 2 ^ 16), t.arg ]

/-- `n` bytes from place `off` of a list, zeros behind its end. -/
def padded (bs : List Byte) (off n : Nat) : List Byte := ((bs.drop off).take n ++ List.replicate n 0).take n

/-- The packet holds a gallery mask in bytes 32 to 71 of its head flit (R124, R133, R142), a FAULT_FLAG a landing mask
in the 40 bytes behind it. -/
def hasMask (t : Packet) : Bool := t.mc || t.typ == 0xB || t.typ == 0xD

/-- The 128 bytes of the head flit (R122, R123): header, masks, and the payload when no body flit carries it. -/
def headFlit (t : Packet) : List Byte :=
  let mask := if hasMask t then leBytes 40 t.mask.toNat else []
  let lmask := if t.typ = 0xB then leBytes 40 t.lmask.toNat else []
  padded (wordBytes (headWords t) ++ mask ++ lmask ++ (if t.nbody = 0 then t.data else [])) 0 128

/-- Body flit `i`. -/
def bodyFlit (t : Packet) (i : Nat) : List Byte := padded t.data (128 * i) 128

/-- The packet whose head flit is `bs`; what a head flit does not hold stays that of `t`. -/
def ofHeadFlit (t : Packet) (bs : List Byte) : Packet :=
  let w := fun (i : Nat) => payWord bs i
  let h := w 0
  let t := { t with version := bits h 63 60, typ := bits h 59 56, epoch := bits h 55 52, nbody := bits h 51 46, mc := bit h 45,
                    phase := bits h 44 44, exit := bits h 43 41, dst := bits h 40 32, viaLand := bits h 31 23, via := bit h 22,
                    srcLand := bits h 21 13, srcExit := bits h 12 10, addr := w 1, seq := bits (w 2) 63 48,
                    conn := bits (w 2) 47 32, rtag := bits (w 2) 31 16, len := bits (w 2) 15 0, arg := w 3 }
  let m := BitVec.ofNat 320 (leNat (padded bs 32 40))
  let at_ := if t.typ = 0xB then 112 else if hasMask t then 72 else 32
  { t with mask := if hasMask t then m else t.mask,
           lmask := if t.typ = 0xB then BitVec.ofNat 320 (leNat (padded bs 72 40)) else t.lmask,
           data := if t.nbody = 0 then padded bs at_ (min t.data.length (128 - at_)) else t.data }

/-! ### A link transfer (R119)

Bits 0 to 1023 of a transfer are the flit's bytes, 1024 to 1039 the group parity, 1040 and 1041 VC, 1042 HEAD, 1043 TAIL,
1044 POISON, 1045 the framing parity. -/

/-- The parity of a list of bytes: the XOR of their byte-parity bits (R102). -/
def parityOf (bs : List Byte) : Bool := bs.foldl (fun a b => a != decide (popCount 8 b.toNat % 2 = 1)) false

/-- Group bit `k` of a flit: the parity of bytes 8k to 8k + 7. -/
def groupBit (flit : List Byte) (k : Nat) : Bool := parityOf ((flit.drop (8 * k)).take 8)

/-- Bit `i` of a transfer is wrong under these upsets. -/
def upsetAt (flips : List Nat) (i : Nat) : Bool := decide (flips.count i % 2 = 1)

/-- The flit's bytes as received. -/
def receivedFlit (flit : List Byte) (flips : List Nat) : List Byte :=
  flit.zipIdx.map fun (b, i) =>
    b ^^^ BitVec.ofNat 8 ((List.range 8).foldl (fun a j => a + (upsetAt flips (8 * i + j)).toNat * 2 ^ j) 0)

/-- The groups that fail at the receiver: the group bit received against the 64 data bits received. -/
def badGroups (flit : List Byte) (flips : List Nat) : Nat :=
  (List.range 16).foldl (fun a k =>
    a + (groupBit (receivedFlit flit flips) k != (groupBit flit k != upsetAt flips (1024 + k))).toNat * 2 ^ k) 0

/-- The framing bits received fail their parity. -/
def badFraming (flips : List Nat) : Bool :=
  decide ((([1040, 1041, 1042, 1043, 1044, 1045].filter (upsetAt flips)).length) % 2 = 1)

/-- The groups of the flit bytes that failed their byte parity at the transmitter. -/
def groupsOf (bytes : List Nat) : Nat :=
  (List.range 16).foldl (fun a k => a + (bytes.any fun b => b / 8 == k).toNat * 2 ^ k) 0

/-- A packet as it is received: its content, the groups that failed, at the transmitter's buffer or on the link, and whether
a flit's framing failed. An even number of wrong bits in a group, or among the framing bits, is not found. -/
structure Received where
  pkt : Packet
  link : Nat := 0
  buffer : Nat := 0
  framing : Bool := false

/-- What the world does to one flit of a packet, the head being flit 0 (R119, R144). -/
def received (t : Packet) (u : FlitUpset) : Received :=
  match u with
  | .none => { pkt := t }
  | .buffer bytes => { pkt := { t with poison := t.poison || groupsOf bytes != 0 }, buffer := groupsOf bytes }
  | .link flit flips =>
    let bs := if flit = 0 then headFlit t else bodyFlit t (flit - 1)
    let got := receivedFlit bs flips
    let t' := if got = bs then t
      else if flit = 0 then ofHeadFlit t got
      else { t with data := t.data.take (128 * (flit - 1)) ++ got.take (t.data.length - 128 * (flit - 1)) ++
                          t.data.drop (128 * flit) }
    let bad := badGroups bs flips
    { pkt := { t' with poison := (t.poison != upsetAt flips 1044) || bad != 0 }, link := bad, framing := badFraming flips }

end Sys2Proof.Machine
end

