-- ==== Sys2Proof/Machine/Mesh.lean ====
section
/-! DEFINITION. Landings, routing, multicast, flights and fault flags (06_mesh_stair_and_flights.md R117 to R146, with the
port choices of R212, R229 and R260). A command that brings a packet to a landing ends with the packet leaving it: the
next hop is the next command, and no flit waits in a landing between commands (log entry 51). -/

namespace Sys2Proof.Machine

/-- Half, row and column of a physical index (R12). -/
def halfOf (p : Nat) : Nat := p / 156
def rowOf (p : Nat) : Nat := p % 156 / 13
def colOf (p : Nat) : Nat := p % 13
def landAt (h r c : Nat) : Nat := 156 * h + 13 * r + c

/-- The landing that a port leads to (R117): N, S, E, W inside the half, the two stair channels on the stair side. -/
def neighbour (l port : Nat) : Option Nat :=
  let (h, r, c) := (halfOf l, rowOf l, colOf l)
  match port with
  | 1 => if r = 0 then none else some (landAt h (r - 1) c)
  | 2 => if r = 11 then none else some (landAt h (r + 1) c)
  | 3 => if c < 12 then some (landAt h r (c + 1)) else if h = 0 then some (landAt 1 r 0) else none
  | 4 => if 0 < c then some (landAt h r (c - 1)) else if h = 1 then some (landAt 0 r 12) else none
  | 5 => if h = 0 ∧ c = 12 then some (landAt 1 r 0) else if h = 1 ∧ c = 0 then some (landAt 0 r 12) else none
  | _ => none

/-- The drop an attach landing belongs to: 0 west upper, 1 west lower, 2 east upper, 3 east lower (R117). -/
def dropOf (l : Nat) : Option Nat := (attachLandings.idxOf? l).map (· / 2)

/-- Landing `l` has port `c` (R117): LOCAL, the links inside the grid and the stair, MEM on rows 0 and 11, OUTER to an edge
router or a vestibule bridge, DROP at the attach landings. -/
def portHere (l c : Nat) : Bool :=
  let (h, r, k) := (halfOf l, rowOf l, colOf l)
  match c with
  | 0 => true
  | 6 => r == 0 || r == 11
  | 7 => k == (if h = 0 then 0 else 12) || (r == 11 && (if h = 0 then decide (10 ≤ k) else decide (k ≤ 2)))
  | 8 => (dropOf l).isSome
  | _ => (neighbour l c).isSome

/-- The bits of LND_CFG that are fields at landing `l`: PORT_EN bits of absent ports are RSV (R146). -/
def lndCfgBits (l : Nat) : Nat :=
  0xFFFF0001 + (List.range 8).foldl (fun a i => a + (portHere l (i + 1)).toNat * 2 ^ (8 + i)) 0

/-- The virtual channel of a packet (R120, R124). -/
def vcOf (t : Packet) : Nat :=
  if 9 ≤ t.typ ∧ t.typ ≤ 12 then 3
  else if t.typ = 2 ∨ t.typ = 4 ∨ t.typ = 6 ∨ t.typ = 8 ∨ t.typ = 13 ∨ t.typ = 14 then 1
  else if t.mc then 2 else 0

/-- A response (R124): it is never answered. -/
def isResponse (t : Packet) : Bool := vcOf t == 1

/-- A multicast of the mesh (R133). A token of a fabric group carries MC to the edge landing, as one packet (R260, R275). -/
def isMulti (t : Packet) : Bool := t.mc && t.exit != 2

/-- The gallery mask of a packet names a reserved bit (R12, R125). -/
def maskBad (m : Mask) : Bool := m.toNat / 2 ^ 312 != 0

/-- A malformed head flit (R122 to R125): reserved TYPE or EXIT, a VERSION other than 1, a reserved mask bit, a MC bit on
a type that is never multicast, or NBODY inconsistent with LEN. A read request has no payload (DEDUCED, log entry 12). -/
def headBad (t : Packet) : Bool :=
  let inl := if t.mc then 56 else 96
  let body := if t.len ≤ inl then 0 else ceilDiv t.len 128
  t.version != 1 || t.typ == 0 || decide (15 ≤ t.typ) || decide (3 ≤ t.exit) || decide (3 ≤ t.srcExit) ||
    (isMulti t && maskBad t.mask) || maskBad t.lmask || (t.mc && t.typ != 3 && t.typ != 7 && t.typ != 0xC) ||
    decide (4096 < t.len) ||
    (if t.typ = 1 ∨ t.typ = 0xB then t.nbody != 0
     else if t.typ = 0xC then !((t.nbody == 0 && t.len == 0) || (t.nbody == 1 && t.len == 128))
     else t.nbody != body)

/-- The flight word of R139: FLIGHT, GEN, EPOCH, VALUE. -/
def flightWord (f gen epoch value : Nat) : Word :=
  w64 (f % 64 * 2 ^ 58 + gen % 2 ^ 16 * 2 ^ 42 + epoch % 16 * 2 ^ 38 + value % 2 ^ 32)

namespace W

/-! ### Tables (R127 to R137) -/

/-- RT entry of landing `l` for landing `d` in the bank in use. -/
def rt (w : W) (l d : Nat) : Nat :=
  if d < 320 then bits (w.reg (Reg.RT l (w.bank l) (d / 16))) (4 * (d % 16) + 3) (4 * (d % 16)) else 0xF

/-- VT entry of landing `l` for landing `d`: the via, when enabled. -/
def vt (w : W) (l d : Nat) : Option Nat :=
  let e := bits (w.reg (Reg.VT l (w.bank l) (d / 4))) (16 * (d % 4) + 15) (16 * (d % 4))
  if d < 320 ∧ natBits e 15 15 = 1 then some (natBits e 8 0) else none

/-- LIVE mask of landing `l` in the bank in use. -/
def live (w : W) (l : Nat) : Mask := w.regMask (Reg.LIVE l (w.bank l) 0)

/-- FT entry of flight `f` at landing `l` in the bank in use. -/
def ft (w : W) (l f : Nat) : Word := w.reg (Reg.FT l (w.bank l) f)

/-- Expected generation of flight `f` at landing `l` (R138). -/
def fltGen (w : W) (l f : Nat) : Nat := bits (w.reg (Reg.LND_FLT_GEN l (f / 4))) (16 * (f % 4) + 15) (16 * (f % 4))

/-- Expected generation set. -/
def setFltGen (w : W) (l f v : Nat) : W :=
  let k := Reg.LND_FLT_GEN l (f / 4)
  w.setReg k (putBits (w.reg k) (16 * (f % 4) + 15) (16 * (f % 4)) v)

/-- The landing holds its local port empty (R94): its gallery is fenced, in reset or under test. -/
def localHeld (w : W) (l : Nat) : Bool :=
  w.flag (Reg.LND_STATUS l) F.LND_STATUS_FENCED_GAL ||
    (w.c.resets.any fun r => r.dom == .gallery l || r.dom == .half (halfOf l) || r.dom == .warm) ||
    w.c.test.tests.any fun t => (t.scope == 1 || t.scope == 2) && t.unit == l && t.phase == .running

/-- Is port `c` of landing `l` usable (R132)? LOCAL while its gallery is not fenced, in reset or under test (R94), another
that the landing has while its PORT_EN bit is set. -/
def portOn (w : W) (l c : Nat) : Bool :=
  if c = 0 then !w.localHeld l else portHere l c && bit (w.reg (Reg.LND_CFG l)) (7 + c)

/-! ### Landing faults (R144 to R146) -/

/-- LND_FAULT_INFO takes the first fault, and the landing raises its flag (R142). -/
def lndFault (w : W) (l kind port vc src groups : Nat) : W :=
  let k := Reg.LND_FAULT_INFO l
  let w := w.when (!w.flag k F.LND_FAULT_INFO_VALID) fun w =>
    (w.setReg k (w64 (2 ^ 47 + kind * 2 ^ 43 + port % 16 * 2 ^ 39 + vc % 4 * 2 ^ 37 + src % 512 * 2 ^ 28
      + groups % 2 ^ 16 * 2 ^ 12))).setFlag (Reg.LND_STATUS l) F.LND_STATUS_FAULT true
  w.raiseLanding l { cls := 8, kind := kind, info := w.reg k, urgent := true }

/-! ### Where a request goes (R126, R212, R229, R260) -/

/-- The memory port landing for an HBM line (R212): edge of the stack, column by the port hash. -/
def memPort (w : W) (l stack : Nat) (addr : Nat) : Option Nat :=
  let e := stack / 2
  let x := w.reg (Reg.MPL l (w.bank l) e)
  let np := bits x 3 0
  let h := addr % 2 ^ 48 / 128 * 0x9E3779B1 % 2 ^ 32
  let psel := h * np / 2 ^ 32
  if np = 0 then none
  else some (landAt (e / 2) (if e % 2 = 0 then 0 else 11) (bits x (4 * psel + 7) (4 * psel + 4)))

/-- The bridge landing for a DDR5, vestibule or set-up access (R229). -/
def bridge (w : W) (l addr : Nat) : Option Nat :=
  let x := w.reg (Reg.BRL l (w.bank l))
  let nb := bits x 1 0
  if nb = 0 then none
  else
    let b := addr % 2 ^ 48 / 128 % nb
    let h := if bit x 14 then 1 - halfOf l else halfOf l
    some (landAt h 11 (bits x (4 * b + 5) (4 * b + 2)))

/-- The edge landing for another device (R260). -/
def edgeLanding (w : W) (l dev : Nat) : Option Nat :=
  let x := w.reg (Reg.ERL l (w.bank l))
  let ne := bits x 3 0
  if ne = 0 then none
  else
    let e := (dev ^^^ l) % ne
    some (landAt (halfOf l) (bits x (4 * e + 7) (4 * e + 4)) (if halfOf l = 0 then 0 else 12))

/-- DST_LAND and EXIT of an address for the injecting landing `l`, or the cause of the ERR_RSP it gets (R126, R229). -/
def destination (w : W) (l : Nat) (addr : Word) : Nat × (Option (Nat × Nat)) :=
  let a := bits addr 47 0
  match w.place (some l) addr with
  | .none => (3, none)
  | .gal p _ => (0, some (p, 0))
  | .remote dev => match w.edgeLanding l dev with | some d => (0, some (d, 2)) | none => (2, none)
  | .mem m _ _ _ =>
    if m < 8 then match w.memPort l m a with | some d => (0, some (d, 1)) | none => (2, none)
    else match w.bridge l a with | some d => (0, some (d, 2)) | none => (2, none)
  | .setup _ => match w.bridge l a with | some d => (0, some (d, 2)) | none => (2, none)

/-! ### Moving a packet -/

/-- Output `port` of landing `l` sends: it is over STALL_TMO no longer (R145, R146). -/
def unstall (w : W) (l port : Nat) : W :=
  let ld := w.landing l
  if ld.stalled.contains port then
    let rest := ld.stalled.filter (· ≠ port)
    (w.setLanding l { ld with stalled := rest }).setFlag (Reg.LND_STATUS l) F.LND_STATUS_STALL (!rest.isEmpty)
  else w

/-- A packet leaves landing `l` by a port: its flits are counted, `pre` of them while a packet of another virtual channel
was open on the output (R121, R146). -/
def sendHop (w : W) (l port : Nat) (t : Packet) (pre : Nat) : W :=
  (((w.unstall l port).emit (.hop l port t)).count (Reg.LND_FLITS_OUT l) (1 + t.nbody)).count (Reg.LND_PREEMPT l)
    (min pre (1 + t.nbody))

/-- A multicast branch is discarded or masked: MC_PRUNE answers for its bits (R132, R134). The injecting landing tells
its own gallery. -/
def prune (w : W) (l : Nat) (t : Packet) (m : Mask) : W :=
  if m = 0 then w
  else
    let w := w.count (Reg.LND_MC_PRUNED l) (popCount 320 m.toNat)
    let r : Packet := { typ := 0xD, dst := t.srcLand, exit := t.srcExit, srcLand := l, rtag := t.rtag, mask := m,
                        seq := t.seq, conn := t.conn }
    if t.srcLand = l ∧ t.srcExit = 0 then w.emit (.hop l 0 r) else w.emit (.mesh l r)

/-- A packet routed to a disabled port or a fenced neighbour (R132): a multicast branch is pruned, a request or token gets
ERR_RSP, anything else no answer. -/
def portDiscard (w : W) (l : Nat) (t : Packet) : W :=
  let w := w.count (Reg.LND_DISCARD l) 1
  if isMulti t then w.prune l t t.mask
  else if vcOf t = 0 then w.errRsp l t 2
  else w

/-- One packet toward a port: sent, or discarded under R132. A request for the window of a fenced gallery is an address
error (R105). -/
def toPort (w : W) (l port : Nat) (t : Packet) (pre : Nat) : W :=
  if w.portOn l port then w.sendHop l port t pre
  else if port = 0 ∧ ¬ isMulti t ∧ (t.typ = 1 ∨ t.typ = 3 ∨ t.typ = 5) then w.errRsp l t 3
  else w.portDiscard l t

/-- A copy of a multicast with these target bits. -/
def mcCopy (t : Packet) (m : Mask) : Packet := { t with mask := m }

/-- A multicast splits by RT (R133): the landing's own bit goes to LOCAL, every port gets one copy with its own bits. A
TBL_FLIP names landings: its own bit is the landing's, whether its gallery is fenced or not (R131). -/
def split (w : W) (l : Nat) (t : Packet) (m : Mask) (pre : Nat) : W :=
  let bitsOf := fun (port : Nat) =>
    (setBitsBelow 312 m.toNat).foldl (fun (acc : Nat) (d : Nat) =>
      if (if d = l then 0 else w.rt l d) = port then acc + 2 ^ d else acc) 0
  let out := fun (w : W) (port : Nat) =>
    let b : Mask := BitVec.ofNat 320 (bitsOf port)
    if b = 0 then w
    else if port = 0xF then w.portDiscard l (mcCopy t b)
    else if port = 0 ∧ t.typ = 0xC then w.sendHop l 0 (mcCopy t b) pre
    else w.toPort l port (mcCopy t b) pre
  [0, 1, 2, 3, 4, 5, 0xF].foldl out w

/-- The target bits of a multicast that landing `l` keeps (R131, R133): those of LIVE; all of a TBL_FLIP, which names
landings. -/
def kept (w : W) (l : Nat) (t : Packet) : Mask := if t.typ = 0xC then t.mask else t.mask &&& w.live l

/-- A multicast at landing `l` (R131, R133, R134): the mask is ANDed with LIVE; at injection the targets that have vias
leave in one phase-0 copy per via. -/
def multicast (w : W) (l : Nat) (t : Packet) (inject : Bool) (pre : Nat) : W :=
  let keep := w.kept l t
  let w := w.prune l t (t.mask &&& ~~~keep)
  if inject then
    let ds := setBitsBelow 312 keep.toNat
    let vias := (ds.filterMap fun d => if d = l then none else w.vt l d).eraseDups
    let group := fun (v : Option Nat) => BitVec.ofNat 320 (ds.foldl (fun (acc : Nat) (d : Nat) =>
      if (if d = l then none else w.vt l d) = v then acc + 2 ^ d else acc) 0)
    let w := vias.foldl (fun w v =>
      w.toPort l (w.rt l v) { t with mask := group (some v), via := true, viaLand := v, phase := 0 } pre) w
    w.split l { t with phase := 1, via := false } (group none) pre
  else w.split l t keep pre

/-- A packet at its via landing goes on in phase 1 (R123, R130). -/
def atVia (t : Packet) (l : Nat) : Packet := if t.via ∧ t.phase = 0 ∧ t.viaLand = l then { t with phase := 1 } else t

/-- A unicast packet at landing `l` (R123, R126, R127, R130): toward VIA_LAND while PHASE is 0 and VIA is 1, else toward
DST_LAND, where EXIT names the port. -/
def unicast (w : W) (l : Nat) (t : Packet) (pre : Nat) : W :=
  let t := atVia t l
  if t.via ∧ t.phase = 0 then w.toPort l (w.rt l t.viaLand) t pre
  else if t.dst = l then w.toPort l (if t.exit = 0 then 0 else if t.exit = 1 then 6 else 7) t pre
  else w.toPort l (w.rt l t.dst) t pre

/-- The packet names its destination by ADDR (R126, R260): a request, or a token for another device or a fabric group,
whose number then stands for the device in R260's choice (log entry 17). -/
def byAddress (t : Packet) : Bool :=
  t.typ == 1 || t.typ == 3 || t.typ == 5 || (t.typ == 7 && t.exit == 2 && t.dst == 0x1FF)

/-- EXIT and SRC_EXIT code of a port that ends a packet's way (R123). -/
def exitCode (port : Nat) : Nat := if port = 6 then 1 else if port = 7 then 2 else 0

/-- A packet enters the mesh at landing `l` by `port` (R123, R126, R130): its destination comes from its address, and
the via table gives its phase. -/
def inject (w : W) (l port : Nat) (t : Packet) (pre : Nat) : W :=
  let t := { t with srcLand := l, srcExit := exitCode port }
  if isMulti t then w.multicast l t true pre
  else
    let (cause, d) := if byAddress t then w.destination l t.addr else (0, some (t.dst, t.exit))
    match d with
    | none => w.errRsp l t cause
    | some (dst, exit) =>
      let t := { t with dst := dst, exit := exit }
      match (if dst = l then none else w.vt l dst) with
      | some v => w.unicast l { t with via := true, viaLand := v, phase := 0 } pre
      | none => w.unicast l { t with via := false, phase := 1 } pre

/-- Where the branch for target `d` of a multicast now at landing `l` ends (R132 to R134): at the target, or at the landing
that clears its bit, with the port it was to leave by when it had one. `via` is the via it still heads for. -/
def mcEnd (w : W) (d : Nat) : Nat → Nat → Option Nat → Option (Nat × Option Nat)
  | 0, l, _ => some (l, none)
  | fuel + 1, l, via =>
    if !inMask (w.live l) d then some (l, none)
    else
      let via := if via = some l then none else via
      let port := if via = none ∧ d = l then 0 else w.rt l (via.getD d)
      if !w.portOn l port then some (l, some port)
      else if port = 0 then none
      else match neighbour l port with
        | some n => W.mcEnd w d fuel n via
        | none => some (l, some port)

/-- The same for a target of a multicast injected at landing `l`. -/
def mcEndFrom (w : W) (l d : Nat) : Option (Nat × Option Nat) := w.mcEnd d 128 l (if d = l then none else w.vt l d)

/-- The landings that clear bits of a multicast, each target's with its port, count them (R132, R134). -/
def countPruned (w : W) (ends : List (Nat × Option Nat)) : W :=
  let w := ends.foldl (fun w e => w.count (Reg.LND_MC_PRUNED e.1) 1) w
  (ends.filter fun e => e.2.isSome).eraseDups.foldl (fun w e => w.count (Reg.LND_DISCARD e.1) 1) w

/-! ### Fault flags (R142) -/

/-- A flag's masks join those already there. -/
def orFlag (f : Option (Mask × Mask)) (m lm : Mask) : Mask × Mask :=
  match f with
  | some (a, b) => (a ||| m, b ||| lm)
  | none => (m, lm)

/-- Landing `l` holds a fault flag (R142). -/
def holdFlag (w : W) (l : Nat) (m lm : Mask) : W :=
  let ld := w.landing l
  (w.setLanding l { ld with flag := some (orFlag ld.flag m lm) }).setFlag (Reg.LND_STATUS l) F.LND_STATUS_FLAG_PEND true

/-- A fault flag, on its way from landing `l` to the attach landing `dst`, in phase 0 toward its via, goes hop by hop
and over the drop, where it is an urgent source of CP1; a landing without a live output holds it and ORs later flags
into it. -/
def flagTravel (w : W) (l dst : Nat) (via : Option Nat) (phase : Nat) (m lm : Mask) : Nat → W
  | 0 => w.holdFlag l m lm
  | fuel + 1 =>
    let phase := if via.isNone ∨ via = some l then 1 else phase
    if phase = 1 ∧ dst = l then
      match dropOf l with
      | some d =>
        if w.portOn l 8 then
          let f := orFlag (w.c.flags.find? (fun e => e.1 == d) |>.map (·.2)) m lm
          ({ w with c := { w.c with flags := Tbl.set (fun _ => (0, 0)) w.c.flags d f } }).pendPriv 1 (32 + d)
        else w.holdFlag l m lm
      | none => w.holdFlag l m lm
    else
      let port := w.rt l (if phase = 0 then via.getD dst else dst)
      match neighbour l port with
      | some n =>
        if w.portOn l port then
          (w.sendHop l port { typ := 0xB, mask := m, lmask := lm, srcLand := l, dst := dst, via := via.isSome,
                              viaLand := via.getD 0, phase := phase } 0).flagTravel n dst via phase m lm fuel
        else w.holdFlag l m lm
      | none => w.holdFlag l m lm

/-- A fault flag leaves landing `l` (R130, R142): toward the attach landing FLAG_DST names, by the via VT gives. -/
def flagFrom (w : W) (l : Nat) (m lm : Mask) : W :=
  let dst := bits (w.reg (Reg.FLAG_DST l (w.bank l))) 8 0
  let via := if dst = l then none else w.vt l dst
  w.flagTravel l dst via (if via.isSome then 0 else 1) m lm 128

/-- The held flag of landing `l` is sent when a flip has given it a route, as FLAG_DST and VT of the new bank say (DEDUCED
from R142, log entry 46). -/
def releaseFlag (w : W) (l : Nat) : W :=
  match (w.landing l).flag with
  | none => w
  | some (m, lm) =>
    let w := (w.setLanding l { w.landing l with flag := none }).setFlag (Reg.LND_STATUS l) F.LND_STATUS_FLAG_PEND false
    w.flagFrom l m lm

/-! ### Flights (R137 to R140) -/

/-- A discarded contribution (R140): counted, recorded with the flight, a schedule fault whose record names it also when an
older fault holds LND_FAULT_INFO. -/
def flightFault (w : W) (l port f : Nat) : W :=
  let k := Reg.LND_FAULT_INFO l
  let w := (w.countErr (Reg.LND_FLT_FAULT l))
  let info := w64 (2 ^ 47 + 5 * 2 ^ 43 + port % 16 * 2 ^ 39 + 3 * 2 ^ 37 + 0x1FF * 2 ^ 28 + f % 64 * 2 ^ 6)
  let w := w.when (!w.flag k F.LND_FAULT_INFO_VALID) fun w =>
    (w.setReg k info).setFlag (Reg.LND_STATUS l) F.LND_STATUS_FAULT true
  (w.addWork .schedule { cls := 8, kind := 5, phys := some l, info := info }).emit
    (.mesh l { typ := 0xB, srcLand := l, lmask := maskOf l })

/-- A boot receiver contributes its next window to flight 63 (R400): the word of RXMAP, with the bits of pages at or above
N set. -/
def bootWindow (w : W) (p : Nat) : W :=
  let x := Tbl.get (fun _ => ({} : BootRx)) w.c.gboot p
  let n := ceilDiv x.pages 32
  if n ≤ x.window then w
  else
    let i := x.window
    let have_ := bits (w.reg (Reg.GBOOT_RXMAP p (i / 2))) (32 * (i % 2) + 31) (32 * (i % 2))
    let value := (List.range 32).foldl (fun (a : Nat) b =>
      if have_.testBit b || decide (x.pages ≤ 32 * i + b) then a + 2 ^ b else a) 0
    let w := { w with c := { w.c with gboot := Tbl.set (fun _ => {}) w.c.gboot p { x with window := i + 1 } } }
    w.emit (.contribute p 63 ((n * x.round + i) % 2 ^ 16) value)

/-- The release of flight `f` at landing `l` (R138, R139): the expected generation moves on, then children, the local
core, and at a root with VEST the drop. A gallery that reports its boot pages takes the release of flight 63 (R400). -/
def releaseAt (w : W) (l f : Nat) (gen value : Nat) : W :=
  let e := w.ft l f
  let ld := w.landing l
  let pt := Tbl.get (fun _ => {}) ld.parts f
  let w := (w.setLanding l { ld with parts := Tbl.set (fun _ => {}) ld.parts f {} }).setFltGen l f ((w.fltGen l f + 1) % 2 ^ 16)
  let w := (List.range 5).foldl (fun w i =>
    if bit e (48 + i) then w.toPort l (1 + i) { typ := 0xA, srcLand := l, arg := flightWord f gen 0 value } 0 else w) w
  let boots := f == 63 && (Tbl.get (fun _ => ({} : BootRx)) w.c.gboot l).pages != 0
  let w := if boots then w.bootWindow l
    else if bit e 47 ∧ w.portOn l 0 then
      w.deliverRelease l (bits e 41 38) (bits e 45 42)
        { typ := 7, conn := 0xFFFF, len := 8, data := leBytes 8 (flightWord f gen pt.epoch value).toNat }
    else w
  if bits e 59 56 = 0xF ∧ bit e 46 then w.emit (.drop l (flightWord f gen pt.epoch value)) else w

/-- Combining one value (R137, R138): the new value, and whether a COUNT saturated. -/
def combine (op a b : Nat) (first : Bool) : Nat × Bool :=
  match op with
  | 1 => (if first then b else a &&& b, false)
  | 2 => (a ||| b, false)
  | 3 => (min 0xFFFFFFFF (a + b), decide (0xFFFFFFFF < a + b))
  | _ => (0, false)

/-- A contribution from `port` (0 LOCAL) to a flight at landing `l` (R138 to R140): checked, combined, and sent up or
released when every source is in. -/
def contribute (w : W) (l port : Nat) (x : Word) : W :=
  let f := bits x 63 58
  let gen := bits x 57 42
  let e := w.ft l f
  let ld := w.landing l
  let pt := Tbl.get (fun _ => {}) ld.parts f
  let member := if port = 0 then bit e 47 else decide (port ≤ 5) && bit e (47 + port)
  if !bit e 63 || !member || gen != w.fltGen l f || pt.srcs.testBit port then w.flightFault l port f
  else
    let op := bits e 62 60
    let (v, sat) := combine op pt.value (bits x 31 0) (pt.srcs == 0)
    let pt := { pt with srcs := pt.srcs + 2 ^ port, value := v, epoch := if port = 0 then bits x 41 38 else pt.epoch }
    let w := w.when sat fun w => w.count (Reg.LND_FLT_SAT l) 1
    let need := bits e 47 47 + 2 * bits e 52 48
    if pt.srcs = need then
      let w := w.setLanding l { ld with parts := Tbl.set (fun _ => {}) ld.parts f { pt with sent := true } }
      if bits e 59 56 = 0xF then w.releaseAt l f gen v
      else w.toPort l (bits e 59 56) { typ := 9, srcLand := l, arg := flightWord f gen pt.epoch v } 0
    else w.setLanding l { ld with parts := Tbl.set (fun _ => {}) ld.parts f pt }

/-- FLT_RELEASE at a landing (R138). -/
def doFltRelease (w : W) (l : Nat) (x : Word) : W :=
  if bit (w.ft l (bits x 63 58)) 63 then w.releaseAt l (bits x 63 58) (bits x 57 42) (bits x 31 0) else w

/-! ### Flips (R131, R138, R140) -/

/-- Landing `l` takes bank `b`: partial flights end, the generations load when `gload` is set, a held flag goes out. -/
def flipTo (w : W) (l b : Nat) (gload gzero : Bool) (stepLo : Nat) (body : Option (List Byte)) : W :=
  let w := w.setFld (Reg.LND_TBL_SEL l) F.LND_TBL_SEL_ACTIVE b
  let w := w.setLanding l { w.landing l with parts := [] }
  let w := if gload then (List.range 64).foldl (fun w f =>
      if bit (w.ft l f) 37 then w.setFltGen l f (stepLo % 2 ^ 16)
      else if gzero then w.setFltGen l f 0
      else match body with
        | some bs => w.setFltGen l f (leNat ((bs.drop (2 * f)).take 2))
        | none => w) w
    else w
  w.releaseFlag l

/-- TBL_FLIP at a landing (R131): the switch, FLIP_SEEN, and the WR_ACK. -/
def doTblFlip (w : W) (l : Nat) (t : Packet) : W :=
  let w := w.flipTo l (bits t.arg 0 0) (bit t.arg 1) (bit t.arg 2) (bits t.arg 31 16)
    (if t.len = 128 then some t.data else none)
  (w.setFlag (Reg.LND_STATUS l) F.LND_STATUS_FLIP_SEEN true).wrAck l { t with mc := true } false

/-! ### The commands -/

/-- LND_HEAD_FLIT (R119, R125 to R127, R131 to R134, R144): a packet reaches landing `l` by port `port`, checked flit
by flit. A packet that enters by LOCAL, MEM or OUTER is injected there. -/
def doLndHeadFlit (w : W) (l port : Nat) (t : Packet) (pre : Nat) (u : FlitUpset) : W :=
  let x := received t u
  if !w.flag (Reg.LND_CFG l) F.LND_CFG_EN then w
  else if x.framing then
    (w.setReg (Reg.LND_CFG l) (putBit (w.reg (Reg.LND_CFG l)) (7 + port) false)).lndFault l 2 port (vcOf t) 0x1FF 0
  else
    let t := x.pkt
    let w := w.when (x.link != 0) fun w => (w.countErr (Reg.LND_LINK_PERR l)).lndFault l 1 port (vcOf t) t.srcLand x.link
    let w := w.when (x.buffer != 0) fun w => (w.countErr (Reg.LND_LINK_PERR l)).lndFault l 6 port (vcOf t) t.srcLand x.buffer
    if headBad t then
      let w := if isResponse t then w else w.errRsp l t 1
      (w.count (Reg.LND_DISCARD l) 1).lndFault l 4 port (vcOf t) t.srcLand 0
    else if t.typ = 9 then w.contribute l port t.arg
    else if t.typ = 0xA then w.doFltRelease l t.arg
    else if t.typ = 0xB then
      if port = 0 then w.flagFrom l t.mask t.lmask
      else w.flagTravel l t.dst (if t.via then some t.viaLand else none) t.phase t.mask t.lmask 128
    else if port = 0 ∨ port = 6 ∨ port = 7 then w.inject l port t pre
    else if isMulti t then
      let t := atVia t l
      if t.via ∧ t.phase = 0 then
        let keep := w.kept l t
        (w.prune l t (t.mask &&& ~~~keep)).toPort l (w.rt l t.viaLand) { t with mask := keep } pre
      else w.multicast l t false pre
    else w.unicast l t pre

/-- LND_STALL_TIMEOUT (R145): output `port` held a flit of channel `vc` from `src` for STALL_TMO. -/
def doLndStall (w : W) (l port vc src : Nat) : W :=
  let w := w.setFlag (Reg.LND_STATUS l) F.LND_STATUS_STALL true
  let w := w.setLanding l { w.landing l with stalled := port :: (w.landing l).stalled.filter (· ≠ port) }
  let k := Reg.LND_FAULT_INFO l
  let w := w.when (!w.flag k F.LND_FAULT_INFO_VALID) fun w =>
    (w.setReg k (w64 (2 ^ 47 + 3 * 2 ^ 43 + port % 16 * 2 ^ 39 + vc % 4 * 2 ^ 37 + src % 512 * 2 ^ 28))).setFlag
      (Reg.LND_STATUS l) F.LND_STATUS_FAULT true
  (w.addWork .hang { cls := 8, kind := 3, phys := some l, info := w.reg k }).emit
    (.mesh l { typ := 0xB, srcLand := l, lmask := maskOf l })

/-- A write of LND_TBL_SEL (R138, R146): FLIP switches to the other bank; on this path no body flit comes. -/
def doTblSel (w : W) (l : Nat) (v : Word) : W :=
  if bit v 1 then w.flipTo l (1 - w.bank l) (bit v 2) (bit v 3) (bits v 31 16) none else w

end W

/-! ### The meanings -/

/-- LND_HEAD_FLIT. -/
def execLndHeadFlit (l port : Nat) (t : Packet) (pre : Nat) (u : FlitUpset) (s : State) :
    Host.Outcome State Fault Refusal := runOn (galOk l && portHere l port) s fun w => w.doLndHeadFlit l port t pre u

/-- FLT_ARRIVE: from the child at `port`. -/
def execFltArrive (l port : Nat) (x : Word) (s : State) : Host.Outcome State Fault Refusal :=
  runOn (galOk l && decide (1 ≤ port) && decide (port ≤ 5)) s fun w => w.contribute l port x

/-- FLT_RELEASE. -/
def execFltRelease (l : Nat) (x : Word) (s : State) : Host.Outcome State Fault Refusal :=
  runOn (galOk l) s fun w => w.doFltRelease l x

/-- FAULT_FLAG: rises at landing `l`, with its gallery and landing masks. -/
def execFaultFlag (l : Nat) (m lm : Mask) (s : State) : Host.Outcome State Fault Refusal :=
  runOn (galOk l) s fun w => w.flagFrom l m lm

/-- TBL_FLIP. -/
def execTblFlip (l : Nat) (t : Packet) (s : State) : Host.Outcome State Fault Refusal :=
  runOn (galOk l) s fun w => w.doTblFlip l t

/-- LND_TBL_SEL_FLIP. -/
def execLndTblSelFlip (l : Nat) (v : Word) (s : State) : Host.Outcome State Fault Refusal :=
  runOn (galOk l) s fun w => w.doTblSel l v

/-- LND_STALL_TIMEOUT. -/
def execLndStallTimeout (l port vc src : Nat) (s : State) : Host.Outcome State Fault Refusal :=
  runOn (galOk l) s fun w => w.doLndStall l port vc src

/-- LND_CNT_CLR (R146). -/
def execLndCntClr (l : Nat) (v : Word) (s : State) : Host.Outcome State Fault Refusal :=
  runOn (galOk l) s fun w => w.clearCounters (Reg.LND_FLITS_OUT l) 7 v

end Sys2Proof.Machine
end

