-- ==== Sys2Proof/Machine/Fence.lean ====
section
/-! DEFINITION. Fencing a gallery island and powering it (15_faults_and_fencing.md R357; 13_determinism_and_audit.md R329;
19_power_clocks_thermal.md R422), and the spares of a half (15_faults_and_fencing.md R360, 14_self_test.md R344). -/

namespace Sys2Proof.Machine

namespace W

/-- Nondeterminism events are added to ND_TOTAL in step `s` (R325). -/
def addNd (w : W) (n s : Nat) : W := (w.count Reg.ND_TOTAL n).setReg Reg.ND_STEP (w64 s)

/-- The island of gallery `p` is power-gated. -/
def gated (w : W) (p : Nat) : Bool := w.flag (Reg.GPWR p) F.GPWR_GATED

/-- The island is powered, at point `pt`. -/
def islandOn (w : W) (p pt : Nat) : W :=
  let k := Reg.GPWR p
  ((w.setFlag k F.GPWR_GATED false).setFld k F.GPWR_PT pt).setFld k F.GPWR_TARGET pt

/-- The island is power-gated (R422). -/
def islandOff (w : W) (p : Nat) : W := w.setFlag (Reg.GPWR p) F.GPWR_GATED true

/-- Gallery fence (R357, R94, R132): the island stops issuing, the landing holds the local port empty and clears the
gallery's LIVE bit in both its banks. -/
def fenceIsland (w : W) (p : Nat) : W :=
  let k := Reg.GAL_FENCE p
  if w.flag k F.GAL_FENCE_FENCED then w.setFlag k F.GAL_FENCE_FENCE true
  else
    let w := ((w.setFlag k F.GAL_FENCE_FENCE true).setFlag k F.GAL_FENCE_FENCED true).setFlag k F.GAL_FENCE_PORT_HELD true
    let w := w.setFlag (Reg.LND_STATUS p) F.LND_STATUS_FENCED_GAL true
    let w := [0, 1].foldl (fun w b => w.setRegMask (Reg.LIVE p b 0) (clearMask (w.regMask (Reg.LIVE p b 0)) p)) w
    { w with c := { w.c with wasReset := w.c.wasReset.filter (· ≠ p) } }

/-- The fence is lifted. -/
def liftFence (w : W) (p : Nat) : W :=
  let k := Reg.GAL_FENCE p
  let w := ((w.setFlag k F.GAL_FENCE_FENCE false).setFlag k F.GAL_FENCE_FENCED false).setFlag k F.GAL_FENCE_PORT_HELD false
  w.setFlag (Reg.LND_STATUS p) F.LND_STATUS_FENCED_GAL false

/-- CP1 fences a gallery: its pending nondeterminism events are added to ND_TOTAL, or ND_STATUS.LOST is set when it does
not answer (R329). -/
def fenceGallery (w : W) (p : Nat) : W :=
  if w.flag (Reg.GAL_FENCE p) F.GAL_FENCE_FENCED then w.fenceIsland p
  else
    let n := w.fld (Reg.GND_PEND p) ⟨31, 0⟩
    let w := if w.gated p then w.setFlag Reg.ND_STATUS F.ND_STATUS_LOST true
      else if n = 0 then w else w.addNd n (w.reg Reg.SEQ_STEP).toNat
    w.fenceIsland p

/-- When gallery `p` passed its latest test, in order of passing; 0 when it has not passed. -/
def passedAt (w : W) (p : Nat) : Nat := Tbl.get (fun _ => 0) w.c.passAt p

/-- A pass or a failure of gallery `p`'s latest test. -/
def setPassed (w : W) (p : Nat) (ok : Bool) : W :=
  { w with c := { w.c with passes := w.c.passes + 1,
                           passAt := Tbl.set (fun _ => 0) w.c.passAt p (if ok then w.c.passes + 1 else 0) } }

/-- The passed spares of half `h` (R344). -/
def sparesOf (w : W) (h : Nat) : List Nat :=
  (List.range 312).filter fun p => halfOf p == h && w.pstate p == 1 && w.passedAt p != 0

/-- The receiving spare of half `h` (R344, R360): the newest pass, the lowest index of equals. -/
def bestSpare (w : W) (h : Nat) : Option Nat :=
  (w.sparesOf h).foldl (fun (b : Option Nat) p =>
    match b with
    | none => some p
    | some q => if w.passedAt q < w.passedAt p then some p else b) none

end W

end Sys2Proof.Machine
end

