-- ==== Sys2Proof/Machine/Points.lean ====
section
/-! DEFINITION. Operating points of the islands and the voltages of the half rails (19_power_clocks_thermal.md R419,
R422). -/

namespace Sys2Proof.Machine

/-- Island clock in MHz and voltage in mV at a point (R422). -/
def pointClock (pt : Nat) : Nat := 700 + 50 * pt
def pointVolt (pt : Nat) : Nat := [550, 570, 590, 610, 630, 650, 675, 695, 720].getD pt 720

namespace W

/-- The point island `p` runs at. -/
def point (w : W) (p : Nat) : Nat := w.fld (Reg.GPWR p) F.GPWR_PT

/-! ### Half rails (R419) -/

/-- The code on VID_W or VID_E: the highest voltage of the half's powered islands, in 5 mV steps from 0.55 V. -/
def vidCode (w : W) (h : Nat) : Nat :=
  let vs := ((List.range 156).filter fun i => !w.gated (156 * h + i)).map fun i => pointVolt (w.point (156 * h + i))
  (vs.foldl max 550 - 550) / 5

/-- GPWR.BYPASS: the island's voltage is less than 15 mV below the setpoint. -/
def bypass (w : W) (p : Nat) : Bool :=
  !w.gated p && decide (550 + 5 * w.vidCode (halfOf p) < pointVolt (w.point p) + 15)

end W

end Sys2Proof.Machine
end

