-- ==== Sys2Proof/Machine/Setup.lean ====
section
/-! DEFINITION. The set-up region as its requesters meet it (22_register_map.md R461 to R470; 00_scope.md R4 to R7): which
addresses answer, what a register shows, reads with their side effects, the snapshot mirror, and how a write is taken. A
write that is taken waits in `Chip.bus` and takes effect before its command ends (Machine/BusExec.lean). -/

namespace Sys2Proof.Machine

/-- The bits of a row's fields that have one of the access codes. -/
def RegRow.maskOf (r : RegRow) (f : Access → Bool) : Nat :=
  r.fields.foldl (fun (a : Nat) x => if f x.acc then a ||| (2 ^ (x.hi + 1) - 2 ^ x.lo) else a) 0

/-- The bits of a register that read as they are (R4): not WO, not RSV. -/
def RegRow.shown (r : RegRow) : Nat := r.maskOf fun a => a != .wo

/-- A row of the kind R383 copies: state of the block, not settings, not a constant, not a table. -/
def RegRow.snapped (r : RegRow) : Bool :=
  r.fields.any (fun x => x.acc == .ro || x.acc == .w1c) && decide (r.n1 * r.n2 ≤ 512) &&
    !(r.off == 0 && r.fields.any fun x => x.acc == .ro) && !r.fields.contains ⟨31, 24, .ro, 1⟩

/-- The register at offset `x` from S is one R383 copies. -/
def snapCopied (x : Nat) : Bool :=
  match regAt x with
  | some (r, kb, _) => r.snapped && (decide (0x100000 ≤ kb) || kb == Reg.BOOT_STATUS || kb == Reg.BOOT_READY)
  | none => false

/-- The word of a queue block that the agent's own state gives (R175). -/
def agentWord (g : Agent) (off : Nat) (v : Word) : Word :=
  if off = 0x10 then putBits v 8 4 g.early.length
  else if off = 0x80 then putBits v 4 0 g.drain.length
  else if 0x200 ≤ off ∧ off < 0x280 then
    let q := (off - 0x200) / 8
    w64 ((Tbl.get (fun _ => false) g.ewait q).toNat * 2 ^ 24 + min 63 (g.openOn q).length * 2 ^ 18
      + g.assigned q % 512 * 2 ^ 9 + g.used q % 512)
  else if 0x800 ≤ off ∧ off < 0x1800 then
    let x := g.slot ((off - 0x800) / 0x40)
    match (off - 0x800) % 0x40 with
    | 0 => x.name
    | 8 => w64 (x.conn % 2 ^ 16 * 2 ^ 48 + x.lines % 2 ^ 14 * 2 ^ 34 + x.slots % 512 * 2 ^ 25 + x.state % 8 * 2 ^ 22
        + x.raw.toNat * 2 ^ 21 + x.ring.toNat * 2 ^ 20 + x.mc.toNat * 2 ^ 19 + x.mcs % 4 * 2 ^ 16 + x.seq % 2 ^ 16)
    | _ => v
  else if 0x1800 ≤ off ∧ off < 0x1C00 then
    match g.drain[(off - 0x1800) / 0x40]? with
    | none => 0
    | some t =>
      let i := (off - 0x1800) % 0x40 / 8
      if i < 4 then (headWords t).getD i 0 else payWord (t.data ++ List.replicate 32 0) (i - 4)
  else if 0x1C00 ≤ off ∧ off < 0x1E00 then
    let x := g.mcSlot ((off - 0x1C00) / 0x80)
    let i := (off - 0x1C00) % 0x80 / 8
    if i = 0 then w64 (x.gen % 2 ^ 16 * 2 ^ 48 + x.flight % 64 * 2 ^ 42 + x.phase % 4 * 2 ^ 40 + x.all.toNat * 2 ^ 39)
    else if i < 6 then maskWord x.reserved (i - 1)
    else if i < 11 then maskWord x.pruned (i - 6)
    else maskWord x.late (i - 11)
  else v

namespace W

/-! ### What a register shows -/

/-- Gallery `p` is in a reset in progress, its own, a core's or its half's. -/
def galResets (w : W) (p : Nat) : Bool :=
  w.c.resets.any fun r => match r.dom with
    | .core q _ => q == p
    | .gallery q => q == p
    | .half h => h == p / 156
    | _ => false

/-- A vestibule register with the fields that other state gives. -/
def vestWord (w : W) (k : Nat) (v : Word) : Word :=
  let half := fun (h : Nat) => w.c.resets.any fun r => r.dom == .half h
  let put := fun (v : Word) (f : Fld) (x : Nat) => putBits v f.hi f.lo x
  if k = Reg.FLT_STATUS then
    let absent := ((List.range w.logicals).filter fun g => natBits (w.mapEntry g) 14 14 == 1).length
    put (put (put (put v F.FLT_STATUS_SPARES_W (w.sparesOf 0).length) F.FLT_STATUS_SPARES_E (w.sparesOf 1).length)
      F.FLT_STATUS_ABSENT absent) F.FLT_STATUS_BUSY (!w.c.seq.remaps.isEmpty).toNat
  else if k = Reg.RST_STATUS then
    put (put v F.RST_STATUS_HALF_W_BUSY (half 0).toNat) F.RST_STATUS_HALF_E_BUSY (half 1).toNat
  else if k = Reg.ST_HALF 0 ∨ k = Reg.ST_HALF 1 then
    let h := if k = Reg.ST_HALF 0 then 0 else 1
    let n := (w.c.test.tests.filter fun t => decide (1 ≤ t.scope) && decide (t.scope ≤ 3) && t.unit / 156 == h &&
      t.phase == .queued).length
    put (put v F.ST_HALF_QUEUED (min 31 n)) F.ST_HALF_SPARES (min 31 (w.sparesOf h).length)
  else if k = Reg.DIG_STATUS then
    let busy := w.c.host.descs.any fun d => bits (d.words.getD 0 0) 7 0 == 0x19 && d.phase == .acting && d.buf.isEmpty
    put v F.DIG_STATUS_BUSY busy.toNat
  else if k = Reg.SVC_STATUS then put v F.SVC_STATUS_DIMM w.c.dimms
  else if k = Reg.MGMT_STATUS then put v F.MGMT_STATUS_ORDER_OPEN w.c.mgmt.staging.isSome.toNat
  else if k = Reg.IC_CP_CTL 0 then put v F.IC_CP_CTL_RUN 1
  else
    match (List.range 4).find? fun n => k == Reg.IC_CP_STATUS n || k == Reg.IC_CP_SWI n with
    | some n =>
      if k = Reg.IC_CP_STATUS n then put v F.IC_CP_STATUS_DEPTH (w.cp n).stack.length
      else w64 ((List.range 16).foldl (fun (a : Nat) i =>
        if w.flag (Reg.IC_SRC_PRIV n i) F.IC_SRC_PEND then a + 2 ^ i else a) 0)
    | none =>
      match (List.range 16).find? fun m => k == Reg.MEMC_STATUS m with
      | some m =>
        let reset := w.c.resets.any fun r => match r.dom with
          | .warm => true
          | .hbm x _ => x == m
          | .ddr x => x == m
          | _ => false
        put v F.MEMC_STATUS_SREF (reset || w.fld Reg.BOOT_STATUS F.BOOT_STATUS_STATE == 5).toNat
      | none => v

/-- What the register at offset `kb` from S holds for a reader. -/
def regWord (w : W) (kb : Nat) : Word :=
  let v := w.reg kb
  if kb < 0x10000000 then w.vestWord kb v
  else if kb < 0x20000000 then
    let l := (kb - 0x10000000) / 0x4000
    if kb = Reg.LND_RST l then
      putBits v 1 1 (w.c.resets.any fun r => r.dom == .landing l || r.dom == .half (l / 156)).toNat
    else v
  else
    let p := (kb - 0x20000000) / 0x40000
    let off := (kb - 0x20000000) % 0x40000
    if off = 0 then
      match w.logicalOf p with
      | some g => putBits (putBits v 31 31 1) 27 16 g
      | none => v
    else if kb = Reg.GAL_RST p then putBits v 31 31 (w.galResets p).toNat
    else if kb = Reg.GPWR p then putBits v 8 8 (w.bypass p).toNat
    else if 0x20000 ≤ off then agentWord (w.agent p ((off - 0x20000) / 0x2000)) ((off - 0x20000) % 0x2000) v
    else v

/-! ### Which addresses answer (R462, R466) -/

/-- The offset lies in a slot that answers: not a gated gallery's outside 0x3100 to 0x311F, not of a landing island that is
off. -/
def slotAnswers (w : W) (k : Nat) : Bool :=
  if k < 0x10000000 then true
  else if k < 0x20000000 then !w.c.lndOff.contains ((k - 0x10000000) / 0x4000)
  else
    let p := (k - 0x20000000) / 0x40000
    let off := (k - 0x20000000) % 0x40000
    !w.c.lndOff.contains p && (!w.gated p || (decide (0x3100 ≤ off) && decide (off < 0x3120)))

/-- The register that serves offset `k`, when one answers. -/
def regFor (w : W) (k : Nat) : Option (RegRow × Nat × Nat) := if w.slotAnswers k then regAt k else none

/-! ### Reads -/

/-- A 32-bit read (R4, R440, R469): IC_CPn_CLAIM is the one register that a read changes. -/
def read32 (w : W) (k : Nat) : Option Nat × W :=
  match w.regFor k with
  | none => (none, w)
  | some (r, kb, b) =>
    match (List.range 4).find? fun n => kb == Reg.IC_CP_CLAIM n with
    | some n => let (id, w) := w.claim n; (some id, w)
    | none => (some (((w.regWord kb).toNat &&& r.shown) >>> (8 * b) % 2 ^ 32), w)

/-- The snapshot as a part of its own: its registers show what was latched. -/
def snapView (w : W) : Option W :=
  if !w.flag Reg.SNAP_STATUS F.SNAP_STATUS_HELD then none
  else w.c.snap.map fun s => { w with c := { w.c with
    regs := s.regs, agents := s.agents, cps := s.cps, resets := s.resets, dimms := s.dimms,
    seq := { w.c.seq with remaps := s.remaps }, test := { w.c.test with tests := s.tests },
    host := { w.c.host with descs := s.descs } } }

/-- 32 bits of the snapshot mirror (R467). -/
def mirror32 (w : W) (x : Nat) : Nat :=
  match w.snapView, regAt x with
  | some v, some (r, kb, b) => if snapCopied x then ((v.regWord kb).toNat &&& r.shown) >>> (8 * b) % 2 ^ 32 else 0
  | _, _ => 0

/-- A read of `size` bytes at offset `k` from S: the value, none for an address error. -/
def setupRead (w : W) (k size : Nat) (req : Word) : Option Nat × W :=
  if !(size == 4 || size == 8) || k % size != 0 then (some 0, w.recordAccess 1 k req)
  else if 0x800000000 ≤ k then
    let x := k - 0x800000000
    (some (if size = 4 then w.mirror32 x else w.mirror32 x + w.mirror32 (x + 4) * 2 ^ 32), w)
  else if size = 4 then w.read32 k
  else
    match w.regFor k with
    | some (r, kb, 0) =>
      if r.bytes = 8 then (some ((w.regWord kb).toNat &&& r.shown), w)
      else
        let (lo, w) := w.read32 k
        let (hi, w) := w.read32 (k + 4)
        (match lo, hi with
         | some a, some b => (some (a + b * 2 ^ 32), w)
         | _, _ => (none, w))
    | _ => (none, w)

/-- A write of `size` bytes at offset `k`: false for an address error. One that is taken waits until its command ends. -/
def setupWrite (w : W) (k size v : Nat) (req : Word) : Bool × W :=
  if !(size == 4 || size == 8) || k % size != 0 then (true, w.recordAccess 1 k req)
  else if 0x800000000 ≤ k then (true, w.recordAccess 2 k req)
  else if (w.regFor k).isNone || (size == 8 && (w.regFor (k + 4)).isNone) then (false, w)
  else (true, { w with c := { w.c with bus := w.c.bus ++ [(k, size, v % 2 ^ (8 * size), req)] } })

end W

end Sys2Proof.Machine
end

