-- ==== Sys2Proof/Machine/Far.lean ====
section
/-! DEFINITION. Accesses that any requester of the part makes to the whole address map, the set-up region included
(04_vector_and_scalar_cores.md R88, 05_galleries_and_halls.md R105, 22_register_map.md R466): ranges split at line
boundaries, each line served by the storage that holds it. -/

namespace Sys2Proof.Machine

namespace W

/-- The address lies in the map. -/
def farOk (w : W) (land : Option Nat) (addr : Word) : Bool := w.place land addr != .none

/-- One line or register read. `req` is the requester as R354 class 0x0F names it. -/
def farLine (w : W) (land : Option Nat) (req addr : Word) (n : Nat) (own : Nat := 12) (u : MemUpset := .none) : Ans × W :=
  match w.lineRead land addr n own u with
  | (.setup k, w) =>
    match w.setupRead k n req with
    | (some v, w) => (.ok (leBytes n v) false, w)
    | (none, w) => (.error, w)
  | r => r

/-- One line or register written. -/
def farPut (w : W) (land : Option Nat) (req addr : Word) (bs : List Byte) (own : Nat := 12) : Ans × W :=
  match w.lineWrite land addr bs own with
  | (.setup k, w) =>
    let (ok, w) := w.setupWrite k bs.length (leNat bs) req
    (if ok then .ok [] false else .error, w)
  | r => r

/-- A load of a scalar core or control processor. -/
def farLoad (w : W) (land : Option Nat) (addr : Word) (size : Nat) (req : Word) : Ans × W := w.farLine land req addr size

/-- A request for another device leaves a landing, or the vestibule. -/
def request (w : W) (land : Option Nat) (t : Packet) : W :=
  match land with
  | some l => w.emit (.mesh l { t with srcLand := l })
  | none => w.emit (.vest t)

/-- A store of a scalar core or control processor: false when it is answered with an address error. To another device
it goes out as a write request. -/
def farStore (w : W) (land : Option Nat) (addr : Word) (size v rtag : Nat) (req : Word) : Bool × W :=
  match w.farPut land req addr (leBytes size v) with
  | (.error, w) => (false, w)
  | (.remote _, w) => (true, w.request land { typ := 3, addr := addr, rtag := rtag, len := size, data := leBytes size v })
  | (_, w) => (true, w)

/-- A range read line by line: the bytes, or the first answer that is not data, with the offset it came at; `u` is what the
read of its first line meets. -/
def farRead (w : W) (land : Option Nat) (req addr : Word) (n : Nat) (u : MemUpset := .none) : (List Byte × Option (Ans × Nat)) × W :=
  (linePieces addr.toNat n).foldl (fun (r : (List Byte × Option (Ans × Nat)) × W) (lo, len) =>
    match r with
    | ((bs, none), w) =>
      (match w.farLine land req (addr + w64 lo) len 12 (if lo = 0 then u else .none) with
       | (.ok d false, w) => ((bs ++ d, none), w)
       | (a, w) => ((bs, some (a, lo)), w))
    | r => r) (([], none), w)

/-- A range written line by line, up to the first line that is not taken. -/
def farWrite (w : W) (land : Option Nat) (req addr : Word) (bs : List Byte) : Option (Ans × Nat) × W :=
  (linePieces addr.toNat bs.length).foldl (fun (r : Option (Ans × Nat) × W) (lo, len) =>
    match r with
    | (none, w) =>
      (match w.farPut land req (addr + w64 lo) ((bs.drop lo).take len) with
       | (.ok _ false, w) => (none, w)
       | (a, w) => (some (a, lo), w))
    | r => r) (none, w)

end W

end Sys2Proof.Machine
end

