-- ==== Sys2Proof/Machine/Wire.lean ====
section
/-! DEFINITION. Link frames as bytes, and as codewords on the lanes (10_fabric_links.md R237 to R242;
12_host_link_and_rings.md R291 for the coherent link's 16 lanes). -/

namespace Sys2Proof.Machine

/-! ### Arguments of CTRL frames (R241, R249, R252)

The manual names the arguments of TRAIN and PROMOTE; their places within bytes 17 to 63 are a DESIGN CHOICE (log entry
16). -/

/-- Bytes 17 to 63 of a CTRL frame's payload. -/
def argBytes : LinkArgs → List Byte
  | .none => List.replicate 47 0
  | .train dev port dir ord version shares depth =>
    leBytes 3 dev ++ leBytes 1 port ++ leBytes 1 dir ++ leBytes 1 ord ++ leBytes 1 version ++
      ((List.range 8).flatMap fun v => leBytes 1 (shares.getD v 0)) ++ leBytes 2 depth ++ List.replicate 30 0
  | .promote near far dir ord =>
    leBytes 1 near ++ leBytes 1 far ++ leBytes 1 dir ++ leBytes 1 ord ++ List.replicate 43 0

/-- The arguments of a CTRL frame of subtype `sub`. -/
def argsOf (sub : Nat) (bs : List Byte) : LinkArgs :=
  let at' := fun (o n : Nat) => leNat ((bs.drop o).take n)
  if sub = 1 then
    .train (at' 0 3) (at' 3 1) (at' 4 1) (at' 5 1) (at' 6 1) ((List.range 8).map fun v => at' (7 + v) 1) (at' 15 2)
  else if sub = 2 then .promote (at' 0 1) (at' 1 1) (at' 2 1) (at' 3 1)
  else .none

/-! ### A frame (R240, R241) -/

/-- VALID: the payload bytes in use. Those of a CTRL or NAK frame are its bytes 0 to 63 (log entry 16). -/
def frameValid (f : LinkFrame) : Nat := if f.ftype = 1 then f.data.length else 64

/-- The 496 bytes of payload. -/
def framePayload (f : LinkFrame) : List Byte :=
  let bs := if f.ftype = 1 then f.data
    else ((List.range 8).flatMap fun v => leBytes 2 (f.counts.getD v 0)) ++ leBytes 1 f.subtype ++ argBytes f.args
  (bs ++ List.replicate 496 0).take 496

/-- The 512 bytes of a frame: header, payload, and the CRC-32C of bytes 0 to 507. -/
def frameBytes (f : LinkFrame) : List Byte :=
  let w0 := f.ftype % 16 * 2 ^ 60 + f.vl % 8 * 2 ^ 57 + frameValid f % 512 * 2 ^ 48 + f.fpkt % 512 * 2 ^ 39 + f.poison.toNat * 2 ^ 38
    + f.lseq % 2 ^ 16 * 2 ^ 16 + f.ack % 2 ^ 16
  let w1 := f.ccum % 2 ^ 16 * 2 ^ 16 + f.cvl % 8 * 2 ^ 13
  let bs := leBytes 8 w0 ++ leBytes 4 w1 ++ framePayload f
  bs ++ leBytes 4 (crc32c bs)

/-- The frame that 512 bytes hold, when their CRC agrees and VALID is in range. -/
def frameOfBytes (bs : List Byte) : Option LinkFrame :=
  let body := bs.take 508
  let w0 := leNat (bs.take 8)
  let w1 := leNat ((bs.drop 8).take 4)
  let pay := (bs.drop 12).take 496
  let ft := natBits w0 63 60
  let n := natBits w0 56 48
  if leNat ((bs.drop 508).take 4) ≠ crc32c body ∨ 496 < n then none
  else
    let ctrl := decide (ft ≠ 1)
    let sub := leNat ((pay.drop 16).take 1)
    some { ftype := ft, vl := natBits w0 59 57, fpkt := natBits w0 47 39, poison := natBits w0 38 38 == 1,
           lseq := natBits w0 31 16, ack := natBits w0 15 0, ccum := natBits w1 31 16, cvl := natBits w1 15 13,
           counts := if ctrl then (List.range 8).map fun v => leNat ((pay.drop (2 * v)).take 2) else [],
           subtype := if ctrl then sub else 0, args := if ctrl then argsOf sub ((pay.drop 17).take 47) else .none,
           data := if ctrl then [] else pay.take n }

/-- A frame as its fields' widths leave it: what `frameOfBytes` reads from `frameBytes` when VALID is in range. -/
def clipFrame (f : LinkFrame) : LinkFrame :=
  let ctrl := decide (f.ftype % 16 ≠ 1)
  let sub := f.subtype % 256
  { ftype := f.ftype % 16, vl := f.vl % 8, fpkt := f.fpkt % 512, poison := f.poison, lseq := f.lseq % 2 ^ 16,
    ack := f.ack % 2 ^ 16, ccum := f.ccum % 2 ^ 16, cvl := f.cvl % 8,
    counts := if ctrl then (List.range 8).map fun v => f.counts.getD v 0 % 2 ^ 16 else [],
    subtype := if ctrl then sub else 0, args := if ctrl then argsOf sub (argBytes f.args) else .none,
    data := if ctrl then [] else f.data }

/-- The header of a frame is in order (R240 to R242): FTYPE and SUBTYPE not reserved, VALID at most 496, FPKT not beyond
VALID. -/
def frameForm (f : LinkFrame) : Bool :=
  decide (1 ≤ f.ftype) && decide (f.ftype ≤ 3) && decide (frameValid f ≤ 496) &&
    (f.fpkt == 0x1FF || decide (f.fpkt < frameValid f)) && (f.ftype != 2 || decide (f.subtype ≤ 6))

/-- Bytes with the bits at these places flipped. -/
def flipBytes (bs : List Byte) (flips : List Nat) : List Byte :=
  flips.foldl (fun bs i => bs.set (i / 8) (bs.getD (i / 8) 0 ^^^ (1#8 <<< (i % 8)))) bs

/-- The frame that the receiver's FEC and CRC let through (R239, R240, R242): up to 15 symbols of a codeword are
corrected. -/
def receivedFrame (f : LinkFrame) : FrameUpset → Option LinkFrame
  | .none => if frameForm (clipFrame f) then some (clipFrame f) else none
  | .corrected _ n => if n ≤ 15 ∧ frameForm (clipFrame f) then some (clipFrame f) else none
  | .flips ps =>
    match frameOfBytes (flipBytes (frameBytes f) ps) with
    | some g => if frameForm g then some g else none
    | none => none
  | .codeword _ => none

/-- A frame of a lane, filled from the lane's packets in order (R240, R241): at most `room` bytes, the offset of the
first packet that starts in it, and the packets that are left. -/
def fillFrame (vl : Nat) (old : Bool) : List (Nat × List Byte × Bool) → Nat → Nat →
    List Byte × Option Nat × List (Nat × List Byte × Bool)
  | [], _, _ => ([], none, [])
  | (v, bs, begun) :: rest, room, off =>
    if v ≠ vl ∨ room = 0 ∨ (old ∧ ¬ begun) then
      let (d, f, r) := fillFrame vl old rest room off
      (d, f, (v, bs, begun) :: r)
    else
      let n := min room bs.length
      let (d, f, r) := fillFrame vl old rest (room - n) (off + n)
      let left := bs.drop n
      (bs.take n ++ d, if begun then f else some off, if left = [] then r else (v, left, true) :: r)

/-! ### Codewords (R237, R238, R291)

A link of `n` lanes (4, or 16 for the coherent link) puts 512 / n bytes of each frame on each lane; a codeword of 640 bytes
carries the shares of 5 n / 4 consecutive frames. -/

/-- Frames of one codeword. -/
def codewordFrames (n : Nat) : Nat := 5 * n / 4

/-- The share of frame bytes on lane `l` of `n`. -/
def laneShare (n l : Nat) (bs : List Byte) : List Byte := (bs.drop (512 / n * l)).take (512 / n)

/-- The 20-bit lane word: LANE in two bits of a fabric port, four of the coherent link; CWC; the rest RSV. -/
def laneWord (n l cwc : Nat) : BitVec 20 :=
  if n = 4 then BitVec.ofNat 20 (l % 4 * 2 ^ 18 + cwc % 256 * 2 ^ 10)
  else BitVec.ofNat 20 (l % 16 * 2 ^ 16 + cwc % 256 * 2 ^ 8)

/-- LANE and CWC of a lane word. -/
def laneOfWord (n : Nat) (x : BitVec 20) : Nat := if n = 4 then natBits x.toNat 19 18 else natBits x.toNat 19 16
def cwcOfWord (n : Nat) (x : BitVec 20) : Nat := if n = 4 then natBits x.toNat 17 10 else natBits x.toNat 15 8

/-- The payload of the codeword of lane `l` that carries these frames: its link data and its lane word. -/
def codeword (n l cwc : Nat) (fs : List LinkFrame) : List Byte × BitVec 20 :=
  (fs.flatMap fun f => laneShare n l (frameBytes f), laneWord n l cwc)

/-- The frames of one codeword on each lane, in lane order with equal CWC. -/
def unstripe (n : Nat) (cs : List (List Byte)) : List (List Byte) :=
  (List.range (codewordFrames n)).map fun i => cs.flatMap fun c => (c.drop (512 / n * i)).take (512 / n)

/-- The lanes of a link lock (R238, R249, R293): a word from every lane, each naming its own lane, all of one CWC, arriving
within 40 ns of one another. -/
def lanesAgree (n : Nat) (seen : List (BitVec 20 × Nat)) : Bool :=
  let ts := seen.map (·.2)
  decide (seen.length = n) && (seen.zipIdx.all fun x => laneOfWord n x.1.1 == x.2) &&
    seen.all (fun x => seen.all fun y => cwcOfWord n x.1 == cwcOfWord n y.1) &&
    decide (ts.foldl max 0 ≤ ts.foldl min (ts.headD 0) + 40)

end Sys2Proof.Machine
end

