-- ==== Sys2Proof/Machine/SclFrames.lean ====
section
/-! DEFINITION. Messages of the coherent link as bytes, and the frames that carry them out (12_host_link_and_rings.md R291,
R292, R295): sequence, replay buffer and credits follow R240 to R246. -/

namespace Sys2Proof.Machine

/-- The number by which a link row names the coherent link. -/
def sclPort : Nat := 64

/-! ### Messages (R292, R295, R296) -/

/-- The message type has 64 bytes of data: WR_LINE, HWR, DATA. -/
def sclHasData (mtype : Nat) : Bool := mtype == 3 || mtype == 0x12 || mtype == 0x31

/-- A message as bytes: the header, the byte mask of a masked write, the data. -/
def msgBytes (m : SclMsg) : List Byte :=
  wordBytes [w64 (m.arg % 2 ^ 32 * 2 ^ 32 + m.rsv % 2 ^ 11 * 2 ^ 21 + m.masked.toNat * 2 ^ 20 + m.tag % 2 ^ 12 * 2 ^ 8
    + m.mtype % 2 ^ 8), m.line] ++ (if m.masked then wordBytes [m.bmask] else []) ++ m.data

/-- The message that begins a byte stream, when all of it is there, and the rest. A message of a reserved type is taken to
be its header alone (DESIGN CHOICE, log entry 16). -/
def msgOfBytes (bs : List Byte) : Option (SclMsg × List Byte) :=
  let x := payWord bs 0
  let mtype := bits x 7 0
  let masked := bit x 20
  let o := if masked && sclHasData mtype then 24 else 16
  let n := o + if sclHasData mtype then 64 else 0
  if bs.length < n then none
  else some ({ mtype := mtype, tag := bits x 19 8, masked := masked, rsv := bits x 31 21, arg := bits x 63 32,
               line := payWord bs 1, bmask := if o = 24 then payWord bs 2 else 0, data := (bs.take n).drop o }, bs.drop n)

/-- Every message complete in a byte stream, and what is left; at most `fuel` messages. -/
def takeMsgs : Nat → List Byte → List SclMsg × List Byte
  | 0, bs => ([], bs)
  | fuel + 1, bs =>
    match msgOfBytes bs with
    | none => ([], bs)
    | some (m, rest) =>
      let (ms, left) := takeMsgs fuel rest
      (m :: ms, left)

/-- The virtual lane of a message that the device sends, but for snoop responses, which go on lane 4 (R292). -/
def sclLane (mtype : Nat) : Nat := if mtype = 5 then 5 else if mtype < 0x10 then 0 else 2

namespace W

/-- The SCL engine replaced. -/
def setHost (w : W) (h : HostLink) : W := { w with c := { w.c with host := h } }

/-- The link is UP (R318). -/
def sclUp (w : W) : Bool := w.fld Reg.SCL_STATUS F.SCL_STATUS_STATE == 3

/-! ### Frames out -/

/-- A frame leaves with the current ACK and freed counts; with the twentieth, the codewords of the 16 lanes go out
(R291). -/
def sclSendFrame (w : W) (f : LinkFrame) : W :=
  let p := w.c.host.link
  let freed := fun (v : Nat) => Tbl.get (fun _ => 0) p.freed v
  let f := { f with ack := p.expect, cvl := p.cvl, ccum := freed p.cvl,
                    counts := if f.ftype = 1 then [] else (List.range 8).map freed }
  let fs := p.group ++ [f]
  let full := decide (codewordFrames 16 ≤ fs.length)
  let p := { p with cvl := (p.cvl + 1) % 8, group := if full then [] else fs, cwc := if full then (p.cwc + 1) % 256 else p.cwc }
  let cwc := w.c.host.link.cwc
  let w := (w.setHost { w.c.host with link := p }).emit (.frame sclPort f)
  w.when full fun w => (List.range 16).foldl (fun w l => w.emit (.codeword sclPort l (codeword 16 l cwc fs))) w

/-- The credit of lane `v`: shares are in units of 8 frames (R292). -/
def sclCredit (w : W) (v : Nat) : Nat :=
  let p := w.c.host.link
  let used := (Tbl.get (fun _ => 0) p.sent v + 2 ^ 16 - Tbl.get (fun _ => 0) p.ccum v % 2 ^ 16) % 2 ^ 16
  8 * p.shares.getD v 0 - used

/-- One DATA frame goes out, when a lane with bytes has credit and the replay buffer of 1,024 frames has room. -/
def sclSendData (w : W) : W :=
  let p := w.c.host.link
  if !w.sclUp || decide (1024 ≤ p.replay.length) then w
  else match (p.out.map (·.1)).find? fun v => decide (0 < w.sclCredit v) with
    | none => w
    | some v =>
      let (d, off, rest) := fillFrame v false p.out 496 0
      let f : LinkFrame := { ftype := 1, vl := v, fpkt := off.getD 0x1FF, lseq := p.lseq, data := d }
      let sent := Tbl.set (fun _ => 0) p.sent v ((Tbl.get (fun _ => 0) p.sent v + 1) % 2 ^ 16)
      let p := { p with out := rest, lseq := (p.lseq + 1) % 2 ^ 16, replay := p.replay ++ [f], sent := sent }
      (w.setHost { w.c.host with link := p }).sclSendFrame f

/-- Everything the credits and the replay buffer allow goes out. -/
def sclPump (w : W) : W :=
  let n := (w.c.host.link.out.map fun o => o.2.1.length / 496 + 1).sum
  (List.range (min 1024 n)).foldl (fun w _ => w.sclSendData) w

/-- A message goes out on a virtual lane, or is held while the link is not UP (R294). -/
def sclSendOn (w : W) (vl : Nat) (m : SclMsg) : W :=
  if w.sclUp then
    let h := w.c.host
    ((w.setHost { h with link := { h.link with out := h.link.out ++ [(vl, msgBytes m, false)] } }).emit (.scl m)).sclPump
  else w.setHost { w.c.host with held := w.c.host.held ++ [(vl, m)] }

/-- A message on the lane of its type. -/
def sclSend (w : W) (m : SclMsg) : W := w.sclSendOn (sclLane m.mtype) m

/-! ### What a received frame acknowledges -/

/-- ACK and freed counts of a received frame (R241, R243, R244). -/
def sclAck (w : W) (f : LinkFrame) : W :=
  let p := w.c.host.link
  let left := p.replay.dropWhile fun r => serialLater 16 f.ack r.lseq
  let cc := Tbl.set (fun _ => 0) p.ccum f.cvl f.ccum
  let cc := if f.ftype = 1 then cc else f.counts.zipIdx.foldl (fun t (n, v) => Tbl.set (fun _ => 0) t v n) cc
  w.setHost { w.c.host with link :=
    { p with replay := left, tries := if left.length < p.replay.length then 0 else p.tries, ccum := cc } }

/-- NAK of the expected LSEQ, once (R245). -/
def sclAsk (w : W) : W :=
  let p := w.c.host.link
  if p.missing then w else (w.setHost { w.c.host with link := { p with missing := true } }).sclSendFrame { ftype := 3 }

end W

end Sys2Proof.Machine
end

