-- ==== Sys2Proof/Machine/HostOut.lean ====
section
/-! DEFINITION. The device's side of the host link (12_host_link_and_rings.md): messages out, journal records,
completions in slot order, error records on the error ring, and the transfers of descriptors. -/

namespace Sys2Proof.Machine

/-- PHASE of free-running index `i` on a ring of 2^n (R299). -/
def phaseBit (n i : Nat) : Nat := (i / 2 ^ n + 1) % 2

/-- A 64-byte record of eight words with its CRC over bytes 0 to 59 in word 7 [63:32]. -/
def sealWords (ws : List Word) : List Byte :=
  let crc := crc32c ((wordBytes ws).take 60)
  wordBytes (ws.take 7 ++ [w64 (crc * 2 ^ 32 + bits (ws.getD 7 0) 31 0)])

/-- OPCODE of a descriptor (R301). -/
def Desc.opcode (d : Desc) : Nat := bits (d.words.getD 0 0) 7 0

/-- Device address and byte count of a copy (R303). -/
def Desc.devAddr (d : Desc) : Word := d.words.getD 2 0
def Desc.bytes (d : Desc) : Nat := bits (d.words.getD 3 0) 31 0

/-- COPY_IN and COPY_OUT move data in their step (R301). -/
def Desc.isCopy (d : Desc) : Bool := d.opcode == 5 || d.opcode == 6

/-- The host address of a transfer: word 1, but word 3 of DIGEST and word 2 of TEST (R303, R330, R349, R365). -/
def Desc.hostBase (d : Desc) : Nat :=
  (d.words.getD (if d.opcode = 0x19 then 3 else if d.opcode = 0x10 then 2 else 1) 0).toNat

/-- Bytes a transfer moves. -/
def Desc.len (d : Desc) : Nat := if d.isCopy then d.bytes else d.buf.length

namespace W

/-- The lowest free request tag. -/
def sclTag (w : W) : Option Nat := (List.range 4096).find? fun t => !(w.c.host.ops.any fun o => o.1 == t)

/-- A request goes out with a free tag, of at most 4,096 (R295), or waits for one. -/
def sclIssue (w : W) (m : SclMsg) (op : SclOp) : W :=
  match w.sclTag with
  | none => w.setHost { w.c.host with waiting := w.c.host.waiting ++ [(m, op)] }
  | some t => (w.setHost { w.c.host with ops := w.c.host.ops ++ [(t, op)] }).sclSend { m with tag := t }

/-- A request to the host with its purpose: RD_SHARED, RD_CUR or WR_LINE of the line at host address `a`. -/
def sclRequest (w : W) (mtype : Nat) (a : Nat) (data : List Byte) (op : SclOp) : W :=
  w.sclIssue { mtype := mtype, line := w64 (a / 64 * 64), data := data } op

/-- A tag is free again, and the request that has waited longest takes it. -/
def freeTag (w : W) (tag : Nat) : W :=
  let w := w.setHost { w.c.host with ops := w.c.host.ops.filter fun o => o.1 != tag }
  match w.c.host.waiting with
  | [] => w
  | (m, op) :: rest => (w.setHost { w.c.host with waiting := rest }).sclIssue m op

/-- EVENT (R296, R306). -/
def sclEvent (w : W) (vector cls index : Nat) : W :=
  w.sclSend { mtype := 5, arg := vector % 2 ^ 16 + cls % 256 * 2 ^ 16 + index % 256 * 2 ^ 24 }

/-- The error ring, while error records go to it (R305). -/
def errRing (w : W) : Option Nat :=
  if w.flag Reg.SCL_CFG F.SCL_CFG_ERR_EN then some (w.fld Reg.SCL_CFG F.SCL_CFG_ERR_RING) else none

/-- An event of the error ring (R306). -/
def errEvent (w : W) (cls : Nat) : W :=
  match w.errRing with
  | some c => w.sclEvent (w.fld (Reg.SCL_CPR_CFG c) F.SCL_CPR_CFG_VECTOR) cls c
  | none => w

def cmdRing (w : W) (r : Nat) : CmdRing := Tbl.get (fun _ => {}) w.c.host.rings r
def setCmdRing (w : W) (r : Nat) (x : CmdRing) : W :=
  w.setHost { w.c.host with rings := Tbl.set (fun _ => {}) w.c.host.rings r x }
def cplRing (w : W) (c : Nat) : CplRing := Tbl.get (fun _ => {}) w.c.host.cpls c
def setCplRing (w : W) (c : Nat) (x : CplRing) : W :=
  w.setHost { w.c.host with cpls := Tbl.set (fun _ => {}) w.c.host.cpls c x }

/-- Entries of a ring, as a power of two within its range (R299, R304). -/
def crLog (w : W) (r : Nat) : Nat := min 16 (max 6 (w.fld (Reg.SCL_CR_CFG r) F.SCL_CR_CFG_LOG2))
def cprLog (w : W) (c : Nat) : Nat := min 16 (max 6 (w.fld (Reg.SCL_CPR_CFG c) F.SCL_CPR_CFG_LOG2))
def jrnlLog (w : W) : Nat := min 20 (max 12 (w.fld Reg.SCL_JRNL_CFG F.SCL_JRNL_CFG_LOG2))

/-- The descriptor of JSN `j`. -/
def desc (w : W) (j : Nat) : Option Desc := w.c.host.descs.find? fun d => d.jsn == j

/-- A descriptor's entry replaced. -/
def setDesc (w : W) (d : Desc) : W :=
  let f := fun (x : Desc) => if x.jsn = d.jsn then d else x
  w.setHost { w.c.host with descs := w.c.host.descs.map f }

/-- The lowest JSN whose FINISH is not acknowledged; the next JSN when there is none (R307, R311). -/
def lowJsn (w : W) : Nat := (w.c.host.descs.map (·.jsn)).foldl min w.c.host.jsn

/-- The journal has room for one more record (R307). -/
def jrnlRoom (w : W) : Bool := decide (w.c.host.jsn - w.lowJsn < 2 ^ w.jrnlLog)

/-- A journal record of type `rtype` with the next JSN (R307). -/
def jrnlWrite (w : W) (d : Desc) (rtype status start target : Nat) (op : SclOp) : W :=
  let j := w.c.host.jsn
  let ws : List Word :=
    [ w64 (1 * 2 ^ 56 + rtype * 2 ^ 48 + d.opcode * 2 ^ 40 + status % 256 * 2 ^ 32 + d.ring % 64 * 2 ^ 26 + d.cpr % 64 * 2 ^ 20),
      w64 j, w64 (d.index % 2 ^ 32 * 2 ^ 32 + d.cslot % 2 ^ 32), w64 start, w64 target,
      w64 (bits (d.words.getD 0 0) 63 32), w64 d.dcrc, 0 ]
  let base := bits (w.reg Reg.SCL_JRNL_BASE) 63 12 * 4096
  (w.setHost { w.c.host with jsn := j + 1 }).sclRequest 3 (base + 64 * (j % 2 ^ w.jrnlLog)) (sealWords ws) op

/-- The address of slot `j` of a completion ring. -/
def cplAddr (w : W) (c j : Nat) : Nat := bits (w.reg (Reg.SCL_CPR_BASE c)) 63 12 * 4096 + 64 * (j % 2 ^ w.cprLog c)

/-- The completion record of a descriptor (R304). -/
def cplRecord (w : W) (d : Desc) : List Byte :=
  sealWords
    [ w64 (bits (d.words.getD 0 0) 63 32 * 2 ^ 32 + d.status % 256 * 2 ^ 24 + d.opcode * 2 ^ 16
        + phaseBit (w.cprLog d.cpr) d.cslot * 2 ^ 8 + 1),
      w64 d.jsn, w64 (d.ring % 64 * 2 ^ 32 + d.index % 2 ^ 32), w64 d.step, d.detail, w64 w.c.time, 0, 0 ]

/-- No completion of an earlier slot of its ring is still to be written (R312). -/
def slotTurn (w : W) (d : Desc) : Bool :=
  !(w.c.host.descs.any fun e => e.cpr == d.cpr && decide (e.jsn < d.jsn) &&
    !([DPhase.writing, .finWait, .finishing].contains e.phase))

/-- Completions that are due go out in the slot order of their rings, and FINISH records for which the journal has room
(R307, R312); one pass over the descriptors. -/
def pumpOnce (w : W) : W :=
  w.c.host.descs.foldl (fun w (d0 : Desc) =>
    match w.desc d0.jsn with
    | none => w
    | some d =>
      let r := w.cplRing d.cpr
      if w.sclTag.isNone then w
      else if d.phase = .complete ∧ w.slotTurn d then
        let w := (w.setCplRing d.cpr { r with write := (d.cslot + 1) % 2 ^ 32 }).setDesc { d with phase := .writing }
        (w.count Reg.SCL_CPL_WR 1).sclRequest 3 (w.cplAddr d.cpr d.cslot) (w.cplRecord d) (.completion d.jsn)
      else if d.phase = .finWait ∧ w.jrnlRoom then
        (w.setDesc { d with phase := .finishing }).jrnlWrite d 2 0 0 d.jsn (.finish d.jsn)
      else if d.failRec = 1 ∧ w.jrnlRoom then
        (w.setDesc { d with failRec := 2 }).jrnlWrite d 3 d.status 0 d.jsn (.failRec d.jsn)
      else w) w

/-- Everything due goes out. -/
def pump (w : W) : W := w.pumpOnce.pumpOnce

/-- A descriptor is complete on the device, with a status and a detail, by the commit of `step` (0 for a control
descriptor) (R312). -/
def complete (w : W) (j status : Nat) (detail : Word) (step : Nat) : W :=
  match w.desc j with
  | none => w
  | some d =>
    (w.setDesc { d with phase := .complete, status := if d.status = 0 then status else d.status, detail := detail,
                        step := step }).pump

/-- The job line (R309). -/
def jobLine (w : W) : W :=
  let s := w.c.seq
  let ws : List Word := match s.img with
    | some i => [i.addr, w64 (w.fld Reg.SEQ_STATUS F.SEQ_STATUS_PLACE), i.seedBlock, w64 s.runLimit,
                 w64 (leNat (i.digest.take 8)), 0, 0, 0]
    | none => [0, w64 0xFF, 0, w64 s.runLimit, 0, 0, 0, 0]
  w.sclRequest 3 (bits (w.reg Reg.SCL_JOB_ADDR) 63 6 * 64) (sealWords ws) .job

/-- An error record goes to the error ring, dropped when the ring is full (R305, R306); a ring that fills raises one record,
which management receives (R354 class 0x0D KIND 0xC; once per filling is a DESIGN CHOICE, log entry 15). -/
def errToRing (w : W) (ws : List Word) : W :=
  match w.errRing with
  | none => w
  | some c =>
    let r := w.cplRing c
    let n := w.cprLog c
    if !w.flag (Reg.SCL_CPR_CFG c) F.SCL_CPR_CFG_EN || decide (2 ^ n ≤ (r.next + 2 ^ 32 - r.ci) % 2 ^ 32) then
      let w := w.countErr Reg.SCL_ERR_DROP
      if r.full then w
      else (w.setCplRing c { r with full := true }).record
        { cls := 0x0D, kind := 0xC, sev := 0, info := w.reg Reg.SCL_FAULT_INFO }
    else
      let j := r.next
      let w0 := w64 ((ws.getD 0 0).toNat + phaseBit n j * 2 ^ 8)
      let urgent := bit w0 40
      let w := w.setCplRing c { r with next := (j + 1) % 2 ^ 32, write := (j + 1) % 2 ^ 32, full := false }
      let w := w.sclRequest 3 (w.cplAddr c j) (sealWords (w0 :: ws.drop 1)) (.errRec c)
      if urgent then w.errEvent 2 else w

/-! ### Transfers (R303, R331, R334, R349, R365) -/

/-- A transfer that is not bound to a step completes once its last line is answered. -/
def copyEnd (w : W) (j : Nat) : W :=
  match w.desc j with
  | none => w
  | some d =>
    if d.phase ≠ .acting ∨ d.left ≠ 0 ∨ d.pos < d.len then w
    else if !d.isCopy then w.complete j 0 d.detail d.step
    else if d.bound then w
    else w.complete j 0 (w64 (if d.status = 0 then d.bytes else 0)) 0

/-- A transfer fails: the first failure stays; a bound copy gets a FAIL record (R311). -/
def copyFail (w : W) (j status : Nat) : W :=
  match w.desc j with
  | none => w
  | some d =>
    if d.status ≠ 0 then w
    else ((w.setDesc { d with status := status, pos := d.len, failRec := if d.bound && d.isCopy then 1 else 0 }).pump).copyEnd j

/-- The next line of a transfer is requested: host data read, or device data written to the host. -/
def copyNext (w : W) (j : Nat) : W :=
  match w.desc j with
  | none => w
  | some d =>
    if d.phase ≠ .acting ∨ d.len ≤ d.pos ∨ w.sclTag.isNone then w
    else
      let o := d.pos
      let w := w.setDesc { d with pos := o + 64, left := d.left + 1 }
      if d.opcode = 5 then w.sclRequest 2 (d.hostBase + o) [] (.dmaIn j o)
      else if !d.isCopy then w.sclRequest 3 (d.hostBase + o) ((d.buf.drop o).take 64) (.dmaOut j o)
      else
        match w.farLine none (w64 0x1FF) (w.loc (d.devAddr + w64 o)) 64 with
        | (.ok bs false, w) => w.sclRequest 3 (d.hostBase + o) bs (.dmaOut j o)
        | (.ok _ true, w) => (w.setDesc { d with left := d.left }).copyFail j 7
        | (_, w) => (w.setDesc { d with left := d.left }).copyFail j 3

/-- A transfer starts: its requests go out while tags are free. -/
def copyStart (w : W) (j : Nat) : W :=
  match w.desc j with
  | none => w
  | some d =>
    let w := w.setDesc { d with phase := .acting, pos := 0, left := 0 }
    (List.range (min (d.len / 64) 4096)).foldl (fun w _ => w.copyNext j) w

/-- Bytes that a descriptor writes out to the host; it completes when the last line is acknowledged. -/
def outBytes (w : W) (j : Nat) (bs : List Byte) : W :=
  match w.desc j with
  | none => w
  | some d => (w.setDesc { d with buf := bs }).copyStart j

end W

end Sys2Proof.Machine
end

