-- ==== Sys2Proof/Machine/Banks.lean ====
section
/-! DEFINITION. What firmware writes into the landing banks, and table flips it makes (06_mesh_stair_and_flights.md
R130, R131, R137, R138; 15_faults_and_fencing.md R361): maps, masks and flight trees. A flight tree joins each member to
the root by columns first and rows then (DESIGN CHOICE). -/

namespace Sys2Proof.Machine

/-- The port of landing `l` toward landing `root`: along the row to the column, or to the stair of the other half, then
along the column; 0xF at the root. -/
def portToward (root l : Nat) : Nat :=
  if l = root then 0xF
  else if halfOf l ≠ halfOf root then (if halfOf l = 0 then 3 else 4)
  else if colOf l < colOf root then 3
  else if colOf root < colOf l then 4
  else if rowOf l < rowOf root then 2
  else 1

/-- The landings from `l` to `root` along these ports. -/
def pathToward (root : Nat) : Nat → Nat → List Nat
  | 0, l => [l]
  | fuel + 1, l =>
    if l = root then [l]
    else match neighbour l (portToward root l) with
      | some n => l :: pathToward root fuel n
      | none => [l]

/-- The FT entry of landing `l` for flight `f` with members at the galleries `ms` (R137). -/
def flightEntry (f : ImgFlight) (root : Nat) (ms : List Nat) (l : Nat) : Word :=
  let on := fun (x : Nat) => x == root || ms.any fun m => (pathToward root 64 m).contains x
  if !on l then 0
  else
    let childBits := (List.range 4).foldl (fun (a : Nat) i =>
      match neighbour l (1 + i) with
      | some c => if on c && c != root && neighbour c (portToward root c) == some l then a + 2 ^ (48 + i) else a
      | none => a) 0
    w64 (2 ^ 63 + f.op % 8 * 2 ^ 60 + portToward root l * 2 ^ 56 + childBits + (ms.contains l).toNat * 2 ^ 47
      + (f.vest && l == root).toNat * 2 ^ 46 + f.dq % 16 * 2 ^ 42 + f.dcore % 16 * 2 ^ 38 + f.stepkey.toNat * 2 ^ 37)

/-- The check of a flight's tree (R137): one root, at a drop attach landing when it has VEST, and members there are. -/
def flightOk (f : ImgFlight) (ms : List Nat) : Bool :=
  decide (f.num < 64) && decide (f.op < 4) && galOk f.root && !ms.isEmpty && ms.all galOk &&
    (!f.vest || (dropOf f.root).isSome)

namespace W

/-! ### The running image -/

/-- The placement in use. -/
def placement (w : W) : Option ImgPlacement :=
  w.c.seq.img.bind fun i => i.view.placements[w.fld Reg.SEQ_STATUS F.SEQ_STATUS_PLACE]?

/-- The configuration set in use. -/
def curCfg (w : W) : Option ImgCfg := w.placement.bind fun p => p.cfgs[w.c.seq.cfg]?

/-- Physical galleries of a list of logical ones; a logical gallery that is not mapped falls out. -/
def physList (w : W) (gs : List Nat) : List Nat := gs.filterMap w.physOf

/-- Galleries whose fence is not in effect. -/
def liveGals (w : W) : List Nat := (List.range 312).filter fun p => !w.flag (Reg.GAL_FENCE p) F.GAL_FENCE_FENCED

/-- Galleries the running placement uses, by physical index. -/
def usedGals (w : W) : List Nat := match w.placement with | some p => w.physList p.uses | none => []

/-! ### Banks -/

/-- LMAP of logical gallery `g` (R126): [15] VALID, [8:0] PHYS. -/
def lmapEntry (w : W) (g : Nat) : Nat := match w.physOf g with | some p => 2 ^ 15 + p | none => 0

/-- The mask of the galleries that carry a logical number and are not fenced. -/
def liveMask (w : W) : Mask :=
  BitVec.ofNat 320 (((List.range w.logicals).filterMap w.physOf).foldl (fun (a : Nat) p =>
    if w.flag (Reg.GAL_FENCE p) F.GAL_FENCE_FENCED || a.testBit p then a else a + 2 ^ p) 0)

/-- The inactive bank of landing `l` becomes a copy of the active one with the maps, the LIVE mask and the flight trees
as they are now (R361). -/
def writeBank (w : W) (l : Nat) : W :=
  let b := w.bank l
  let lo := lndBase l + 0x1000 + 0x1000 * b
  let dst := lndBase l + 0x1000 + 0x1000 * (1 - b)
  let kept := w.c.regs.filter fun e => decide (lo ≤ e.1) && decide (e.1 < lo + 0x1000)
  let w := w.resetRegs dst (dst + 0x1000)
  let w := kept.foldl (fun w e => w.setReg (e.1 - lo + dst) e.2) w
  let w := (List.range 128).foldl (fun w i =>
    w.setReg (Reg.LMAP l (1 - b) i) (w64 ((List.range 4).foldl (fun a j => a + w.lmapEntry (4 * i + j) * 2 ^ (16 * j)) 0))) w
  let w := w.setRegMask (Reg.LIVE l (1 - b) 0) w.liveMask
  match w.placement with
  | none => w
  | some p =>
    let w := (List.range 64).foldl (fun w f => w.setReg (Reg.FT l (1 - b) f) 0) w
    p.flights.foldl (fun w f => w.setReg (Reg.FT l (1 - b) f.num) (flightEntry f f.root (w.physList f.members) l)) w

/-- The inactive banks of every landing. -/
def writeBanks (w : W) : W := (List.range 312).foldl (fun w l => w.writeBank l) w

/-- Every tree of the running placement passes its check (R137). -/
def treesOk (w : W) : Bool :=
  match w.placement with
  | none => true
  | some p => p.flights.all fun f => flightOk f (w.physList f.members)

/-- The DM_MASK slots of the configuration set name the galleries that carry their logical members now (R109, R361). -/
def writeMasks (w : W) : W :=
  match w.curCfg with
  | none => w
  | some c => c.masks.foldl (fun w (g, slot, ms) =>
      match w.physOf g with
      | some p => w.setRegMask (Reg.DM_MASK p slot 0) (BitVec.ofNat 320 ((w.physList ms).foldl (fun (a : Nat) q =>
          if a.testBit q then a else a + 2 ^ q) 0))
      | none => w) w

/-! ### Flips -/

/-- The body of a flip that leaves GZERO clear: the expected generation of each flight at its root landing (R138). -/
def genBody (w : W) : List Byte :=
  (List.range 64).flatMap fun f =>
    let root := ((w.placement.bind fun p => p.flights.find? fun x => x.num == f).map (·.root)).getD 0
    leBytes 2 (w.fltGen root f)

/-- The bridge landing by which the vestibule injects into half `h`: the first of BRL (R131, R229). -/
def bridgeOf (w : W) (h : Nat) : Nat :=
  let x := w.reg (Reg.BRL (156 * h) (w.bank (156 * h)))
  landAt (if bit x 14 then 1 - h else h) 11 (bits x 5 2)

/-- The TBL_FLIP copy of half `h` (R124, R131, R138): its mask names every landing of the half, STEP_LO is that of the
step the sequencer starts next, and without GZERO the body carries the generations. -/
def flipPacket (w : W) (h bank : Nat) (gzero : Bool) : Packet :=
  let body := if gzero then [] else w.genBody
  { typ := 0xC, mc := true, srcLand := w.bridgeOf h, srcExit := 2, mask := BitVec.ofNat 320 ((2 ^ 156 - 1) * 2 ^ (156 * h)),
    len := body.length, nbody := if gzero then 0 else 1, data := body,
    arg := w64 (bank + w.loaded.toNat * 2 + gzero.toNat * 4 + bits (w.reg Reg.SEQ_STEP) 15 0 * 2 ^ 16) }

/-- The vestibule sends TBL_FLIP to every landing (R131), one copy per half. -/
def sendFlip (w : W) (bank : Nat) (gzero : Bool) : W :=
  let all := fun (h : Nat) => (w.flipPacket h bank gzero).mask
  let w' := { w with c := { w.c with flip := some { bank := bank, targets := all 0 ||| all 1 } } }
  (w'.emit (.mesh (w.bridgeOf 0) (w.flipPacket 0 bank gzero))).emit (.mesh (w.bridgeOf 1) (w.flipPacket 1 bank gzero))

/-- The same flip as it ends, when it is one part of a longer action of the sequencer: both copies are sent, and every
enabled landing has taken its own and answered. -/
def flipAll (w : W) (bank : Nat) (gzero : Bool) : W :=
  let pkt := fun (h : Nat) => w.flipPacket h bank gzero
  let w' := (w.emit (.mesh (w.bridgeOf 0) (pkt 0))).emit (.mesh (w.bridgeOf 1) (pkt 1))
  (List.range 312).foldl (fun w l =>
    if w.flag (Reg.LND_CFG l) F.LND_CFG_EN then w.doTblFlip l (pkt (halfOf l)) else w) w'

/-- A table whose flight trees fail their check is not flipped in (R137). -/
def flipChecked (w : W) (flip : W → W) : W := if w.treesOk then flip w else w

/-- The bank the landings use: landing 0 stands for all between flips. -/
def meshBank (w : W) : Nat := w.bank 0

end W

end Sys2Proof.Machine
end

