-- ==== Sys2Proof/Machine/Barrier.lean ====
section
/-! DEFINITION. Fabric barriers (11_fabric_network_and_transport.md R281 to R283): contributions, combining, release.
Entry `k` is entry k % 16 of edge router k / 16. -/

namespace Sys2Proof.Machine

namespace W

def bar (w : W) (k : Nat) : Bar := Tbl.get (fun _ => {}) w.c.bars k
def setBar (w : W) (k : Nat) (b : Bar) : W := { w with c := { w.c with bars := Tbl.set (fun _ => {}) w.c.bars k b } }

/-- Word `j` of the register of entry `k`. -/
def barWord (w : W) (k j : Nat) : Word := w.reg (Reg.FAB_BAR (k / 16) (k % 16) j)

/-- Expected GEN of entry `k`. -/
def barGen (w : W) (k : Nat) : Nat := bits (w.reg (Reg.FAB_BAR_GEN (k / 16) (k % 16))) 63 48

def setBarGen (w : W) (k g : Nat) : W :=
  let a := Reg.FAB_BAR_GEN (k / 16) (k % 16)
  w.setReg a (putBits (w.reg a) 63 48 g)

/-- The children of entry `k`. -/
def barChildren (w : W) (k : Nat) : List Nat :=
  (List.range (min 6 (bits (w.barWord k 0) 60 58))).map fun c =>
    if c < 4 then bits (w.barWord k 1) (16 * c + 15) (16 * c) else bits (w.barWord k 2) (16 * (c - 4) + 15) (16 * (c - 4))

/-- A BARRIER packet (R282). -/
def barPacket (w : W) (k dst bop gen : Nat) (t : Option Nat) : W :=
  let data := match t with | some t => leBytes 8 t | none => []
  w.fabSend (k / 16)
    { ptype := 0xB, dst := dst, src := w.selfDev, splane := k / 16, last := true, len := data.length, mlen := data.length,
      data := data, addr := w64 (bop * 2 ^ 60 + k % 16 * 2 ^ 56 + gen % 2 ^ 16 * 2 ^ 32) }

/-- The instance of entry `k` is released at `t`: GEN moves on, RELEASE goes to the children, the local member acts at
`t` (R282, R283). -/
def barRelease (w : W) (k t : Nat) : W :=
  let gen := w.barGen k
  let local_ := bit (w.barWord k 0) 61
  let w := (w.setBar k { lastT := some t, due := if local_ then some t else none }).setBarGen k ((gen + 1) % 2 ^ 16)
  (w.barChildren k).foldl (fun w c => w.barPacket k c 2 gen (some t)) w

/-- With every source in, the root releases at its time plus LEAD and any other node sends ARRIVE to its parent. -/
def barCheck (w : W) (k : Nat) : W :=
  let x := w.barWord k 0
  let need := (bit x 61).toNat + (List.range (w.barChildren k).length).foldl (fun a c => a + 2 ^ (1 + c)) 0
  let b := w.bar k
  if b.got ≠ need ∨ b.sent then w
  else if bit x 62 then w.barRelease k (w.c.time + bits x 31 0)
  else (w.setBar k { b with sent := true }).barPacket k (bits x 47 32) 1 (w.barGen k) none

/-- The local member contributes for generation `gen`; a generation other than the expected one begins a new instance
(DEDUCED: the entry's GEN is not written by software). -/
def barContribute (w : W) (k gen : Nat) : W :=
  if !bit (w.barWord k 0) 63 then w
  else
    let w := if w.barGen k = gen % 2 ^ 16 then w else (w.setBar k {}).setBarGen k (gen % 2 ^ 16)
    let b := w.bar k
    (w.setBar k { b with got := if b.got.testBit 0 then b.got else b.got + 1 }).barCheck k

/-- An instance of entry `k` is cancelled: it delivers no release (R289). -/
def barCancel (w : W) (k : Nat) : W := w.setBar k {}

end W

end Sys2Proof.Machine
end

