-- ==== Sys2Proof/Machine/Endpoint.lean ====
section
/-! DEFINITION. The fabric channel endpoint of an edge router (08_schedules_and_steps.md R197): the legs of channels from
other devices, the inbound log, and what is delivered again after a rollback. The local leg of a channel is an ordinary
channel (log entry 17). -/

namespace Sys2Proof.Machine

/-- Where the window of a gallery begins in a device's address map (R204). -/
def windowBase : Nat := 0x7F0000000000

namespace W

/-- The edge landing of edge router `h` nearest to the row of landing `p` (R260): the lower row on a tie, fenced landings
left out. -/
def nearLanding (w : W) (h p : Nat) : Nat :=
  let row := p % 156 / 13
  let at_ := fun (r : Nat) => 156 * h + 13 * r + (if h = 0 then 0 else 12)
  let dist := fun (r : Nat) => (r - row) + (row - r)
  let best := (List.range 12).foldl (fun (b : Option Nat) r =>
    if w.pstate (at_ r) = 5 then b
    else match b with
      | none => some r
      | some x => if dist r < dist x then some r else b) none
  at_ (best.getD row)

/-- The gallery a queue name of this device names, and the agent and queue (R150). -/
def nameTarget (w : W) (name : Word) : Option (Nat × Nat × Nat) :=
  (w.physOf (bits name 35 24)).map fun p => (p, bits name 7 4, bits name 3 0)

def setChan (w : W) (h k : Nat) (c : FabChan) : W :=
  let r := w.router h
  w.setRouter h { r with chans := r.chans.set k c }

/-- CONNECT goes to the local queue of channel `k`: the RTAG and key are those of the sender on the other device. -/
def chanConnect (w : W) (h k : Nat) (c : FabChan) (t : Packet) : W :=
  match w.nameTarget c.name with
  | none => w
  | some (p, _, _) =>
    let land := w.nearLanding h p
    w.emit (.mesh land { t with srcLand := land, srcExit := 2, dst := p, exit := 0, rtag := c.rtag, srcDev := c.dev,
                                chan := some k, addr := 0 })

/-- Tokens of channel `k` that wait go to the local queue as far as its credit allows. -/
def chanFlush (w : W) (h k : Nat) : Nat → W
  | 0 => w
  | fuel + 1 =>
    match (w.router h).chans[k]? with
    | none => w
    | some c =>
      match c.far, c.waitq, w.nameTarget c.name with
      | some n, t :: ts, some (p, _, _) =>
        let need := if tkind t = 3 then 0 else tokSlots t
        if c.slots < need then w
        else
          let land := w.nearLanding h p
          let w := w.setChan h k { c with slots := c.slots - need, seq := (c.seq + 1) % 2 ^ 16, waitq := ts }
          let w := w.emit (.mesh land { t with srcLand := land, srcExit := 2, dst := p, exit := 0, rtag := c.rtag,
                                               conn := n, seq := c.seq, chan := some k, addr := 0 })
          W.chanFlush w h k fuel
      | _, _, _ => w

/-- A logged token of another device is delivered: a CONNECT opens the leg to the queue, any other waits its turn. -/
def deliverToken (w : W) (h : Nat) (t : Packet) : W :=
  let r := w.router h
  let same := fun (c : FabChan) => !c.toFabric && c.dev == t.srcDev && c.conn == t.conn
  if tkind t = 2 then
    let c : FabChan := { toFabric := false, dev := t.srcDev, conn := t.conn, land := t.srcLand, rtag := t.rtag,
                         name := t.addr, arg := t.arg }
    match r.chans.findIdx? same with
    | some k => (w.setChan h k c).chanConnect h k c t
    | none => (w.setRouter h { r with chans := r.chans ++ [c] }).chanConnect h r.chans.length c t
  else match r.chans.findIdx? same with
    | none => w
    | some k =>
      match r.chans[k]? with
      | none => w
      | some c => (w.setChan h k { c with waitq := c.waitq ++ [t] }).chanFlush h k (c.waitq.length + 1)

/-- A token of another device arrives at the endpoint: one already in the step's log is discarded (R274); any other is
written to the inbound log and delivered. -/
def endpointToken (w : W) (h : Nat) (t : Packet) : W :=
  let l := w.c.fabLog
  let dup := l.inbound.any fun e => e.2.srcDev == t.srcDev && e.2.conn == t.conn && e.2.seq == t.seq && tkind e.2 == tkind t
  if dup then w
  else
    let size := fun (x : Packet) => ceilDiv (16 + x.data.length) 128 * 128
    let off := (l.inbound.map fun e => size e.2).sum
    let w := match w.c.seq.img with
      | some i =>
        let (base, bytes) := i.view.inlog
        if off + size t ≤ bytes then
          (w.farWrite none (w64 (t.srcDev * 2 ^ 48)) (w64 (w.selfDev * 2 ^ 48 + base + off))
            (wordBytes [w64 (t.seq * 2 ^ 48 + t.conn * 2 ^ 32 + t.rtag * 2 ^ 16 + t.len), t.arg] ++ t.data)).2
        else w
      | none => w
    { w with c := { w.c with fabLog := { l with inbound := l.inbound ++ [(h, t)] } } }.deliverToken h t

/-- The queue's answer to channel `k` (R153 to R155): credit, a grant, a refusal, the end. -/
def chanCredit (w : W) (h : Nat) (t : Packet) : W :=
  let k := t.chan.getD (w.router h).chans.length
  match (w.router h).chans[k]? with
  | none => w
  | some c =>
    let kind := bits t.arg 63 60
    if c.toFabric then w
    else if kind = 1 then (w.setChan h k { c with far := some (bits t.arg 47 32), slots := bits t.arg 15 0, seq := 0 }).chanFlush
      h k (c.waitq.length + 1)
    else if kind = 0 then (w.setChan h k { c with slots := c.slots + bits t.arg 15 0 }).chanFlush h k (c.waitq.length + 1)
    else if kind = 2 then w.addWork .schedule { cls := 7, kind := 6, aux := c.name }
    else w.setChan h k { c with far := none, waitq := [] }

/-- Gallery `b` carries on for gallery `a`: the channels of its agents to other devices keep their endpoint (R197). -/
def moveChans (w : W) (a b : Nat) : W :=
  [0, 1].foldl (fun w h =>
    let r := w.router h
    w.setRouter h { r with chans := r.chans.map fun c => if c.toFabric ∧ c.land = a then { c with land := b } else c }) w

/-- After a rollback (R197): outgoing tokens sent before are discarded, legs to local queues open again, and the logged
tokens are delivered again in order. -/
def replayLogs (w : W) : W :=
  let l := w.c.fabLog
  let f := fun (o : OutLog) => { o with skip := o.crcs.length }
  let w := { w with c := { w.c with fabLog := { l with outbound := l.outbound.map f } } }
  let w := [0, 1].foldl (fun w h =>
    (List.range (w.router h).chans.length).foldl (fun w k =>
      match (w.router h).chans[k]? with
      | none => w
      | some c =>
        if c.toFabric then w
        else
          let opened := l.inbound.any fun e => e.1 == h && tkind e.2 == 2 && e.2.srcDev == c.dev && e.2.conn == c.conn
          let c := { c with far := none, slots := 0, seq := 0, waitq := [] }
          let w := w.setChan h k c
          if opened then w
          else w.chanConnect h k c { typ := 7, arg := c.arg }) w) w
  l.inbound.foldl (fun w (h, t) => w.deliverToken h t) w

end W

end Sys2Proof.Machine
end

