-- ==== Sys2Proof/Machine/DataMover.lean ====
section
/-! DEFINITION. The data mover (05_galleries_and_halls.md R106 to R110). A descriptor's lines inside the part are moved in
one go, row by row and line by line (log entry 14); lines of another device go out as requests and their answers are the
response commands. -/

namespace Sys2Proof.Machine

/-- A descriptor, by its fields (R106). -/
structure DmCmd where
  tag : Nat
  version : Nat
  fmt : Nat
  opcode : Nat
  src : Word
  dst : Word
  dim1 : Nat
  dim0 : Nat
  dstPitch : Nat
  srcPitch : Nat
  arg : Word
deriving DecidableEq, Repr

/-- The fields of six words. -/
def DmCmd.ofWords (ws : List Word) : DmCmd :=
  let g := fun i => ws.getD i 0
  { tag := bits (g 0) 63 48, version := bits (g 0) 47 40, fmt := bits (g 0) 39 32, opcode := bits (g 0) 7 0, src := g 1,
    dst := g 2, dim1 := bits (g 3) 63 32, dim0 := bits (g 3) 31 0, dstPitch := bits (g 4) 63 32,
    srcPitch := bits (g 4) 31 0, arg := g 5 }

namespace DmCmd

def isMcast (x : DmCmd) : Bool := x.opcode == 0x11
def isFill (x : DmCmd) : Bool := x.opcode == 0x12
def isAtomic (x : DmCmd) : Bool := x.opcode == 0x13

/-- The compare value of CAS, and the operand: ARG[59:0] sign-extended (R106). -/
def cmp (x : DmCmd) : Word := w64 (x.dstPitch * 2 ^ 32 + x.srcPitch)
def operand (x : DmCmd) : Word := w64 (unsigned 64 (signed 60 x.arg.toNat))

/-- The operation of ATOMIC. -/
def atomOp (x : DmCmd) : Option AtomOp :=
  match bits x.arg 63 60 with
  | 0 => some .add64
  | 1 => some .add32
  | 2 => some .swap
  | 3 => some .cas
  | _ => none

/-- A malformed descriptor (R107, R10). DIM0 and DIM1 of 0 lie outside their ranges; fields an operation does not use
are ignored. -/
def bad (x : DmCmd) : Bool :=
  let rows := !x.isAtomic && (x.dim0 == 0 || x.dim1 == 0 || x.dim0 % 8 != 0 ||
    (decide (1 < x.dim1) && (decide (x.dstPitch < x.dim0) || (!x.isFill && decide (x.srcPitch < x.dim0)))))
  x.version != 1 || decide (x.opcode < 0x10) || decide (0x13 < x.opcode) ||
    (match Fmt.ofCode x.fmt with | none => true | some f => x.isFill && f.isMx) ||
    (!x.isFill && x.src.toNat % 8 != 0) || x.dst.toNat % 8 != 0 || rows || (x.isAtomic && x.atomOp.isNone)

/-- Bytes from first to last of a run of rows. -/
def span (x : DmCmd) (pitch : Nat) : Nat := if x.isAtomic then 8 else (x.dim1 - 1) * pitch + x.dim0

/-- Does the descriptor's source or destination overlap the destination of the earlier `y` (R108)? An MCAST's destination
takes no part. -/
def overlaps (x y : DmCmd) : Bool :=
  let meet := fun (a n b m : Nat) => decide (a < b + m) && decide (b < a + n)
  let yd := y.dst.toNat
  let yn := y.span y.dstPitch
  !y.isMcast && ((!x.isFill && meet x.src.toNat (x.span x.srcPitch) yd yn) ||
    (!x.isMcast && meet x.dst.toNat (x.span x.dstPitch) yd yn))

/-- The bytes of a FILL: the value at the storage width of FMT, repeated. -/
def fillBytes (x : DmCmd) (n : Nat) : List Byte :=
  let wd := match Fmt.ofCode x.fmt with | some f => f.unitBytes | none => 8
  (List.range n).map fun i => byte (x.arg.toNat / 256 ^ (i % max 1 wd))

/-- Bytes the descriptor moves. -/
def size (x : DmCmd) : Nat := if x.isAtomic then 8 else x.dim0 * x.dim1

end DmCmd

/-- A descriptor on its way: the requests still open, lines asked for so far, lines passed on this way through its rows,
line reads that may still go out, whether a line had to wait for one, and why it stopped (KIND and address of
DM_FAULT_INFO, or none for a request that is never answered). -/
structure DmRun where
  outs : List DmOut := []
  lines : Nat := 0
  seen : Nat := 0
  room : Nat := 64
  held : Bool := false
  stop : Option (Option (Nat × Word)) := none

/-- Nothing more of the descriptor moves for now. -/
def DmRun.still (r : DmRun) : Bool := r.stop.isSome || r.held

namespace W

/-- DM_FAULT_INFO and DM_FAULT_ADDR take the first failure. -/
def dmInfo (w : W) (p kind tag : Nat) (addr : Word) : W :=
  let k := Reg.DM_FAULT_INFO p
  if w.flag k F.DM_FAULT_INFO_VALID then w
  else (w.setReg k (w64 (tag % 2 ^ 16 * 2 ^ 48 + kind % 16 * 2 ^ 28 + 2 ^ 27))).setReg (Reg.DM_FAULT_ADDR p) addr

/-- A failure of the data mover (R107, R110): a poisoned response stalls it; anything else halts it and raises a schedule
fault, a parity error the gallery flag. -/
def dmFail (w : W) (p kind tag : Nat) (addr : Word) : W :=
  let w := w.dmInfo p kind tag addr
  let d := w.dm p
  if kind = 4 then w.setDm p { d with stalled := true }
  else
    let w := w.setDm p { d with halted := true }
    let b : RecBody := { cls := 5, kind := kind, agent := some 15, tag := tag, info := w.reg (Reg.DM_FAULT_INFO p),
                         aux := w.reg (Reg.DM_FAULT_ADDR p) }
    if kind = 5 then w.raiseGallery p b else w.raiseSched p b

/-- One line or piece written at a destination: done here, or a write request to another device. -/
def dmPut (w : W) (p : Nat) (r : DmRun) (dst : Word) (bs : List Byte) : DmRun × W :=
  match w.farPut (some p) (w64 p) dst bs 13 with
  | (.ok _ false, w) => (r, w)
  | (.ok _ true, w) => ({ r with stop := some (some (4, dst)) }, w)
  | (.remote _, w) =>
    ({ r with outs := r.outs ++ [⟨3, dst, 0, bs.length⟩] },
     w.request (some p) { typ := 3, addr := dst, rtag := 15 * 64, len := bs.length, data := bs,
                          nbody := if bs.length ≤ 96 then 0 else 1 })
  | (.silent, w) => ({ r with outs := r.outs ++ [⟨3, dst, 0, bs.length⟩], stop := some none }, w)
  | (_, w) => ({ r with stop := some (some (2, dst)) }, w)

/-- Bytes written to a destination, line by line. -/
def dmPutAll (w : W) (p : Nat) (r : DmRun) (dst : Word) (bs : List Byte) : DmRun × W :=
  (linePieces dst.toNat bs.length).foldl (fun (s : DmRun × W) (lo, n) =>
    if s.1.stop.isSome then s else s.2.dmPut p s.1 (dst + w64 lo) ((bs.drop lo).take n)) (r, w)

/-- The galleries an MCAST of the mask slot reaches, and those whose bits a landing on the way clears (R109, R130, R132 to
R134). -/
def dmTargets (w : W) (p slot : Nat) : List Nat × Mask :=
  let ds := setBitsBelow 312 (w.regMask (Reg.DM_MASK p slot 0)).toNat
  let lost := fun q => (w.mcEndFrom p q).isSome
  (ds.filter fun q => !lost q, BitVec.ofNat 320 ((ds.filter lost).foldl (fun (a : Nat) q => a + 2 ^ q) 0))

/-- Where the branches of an MCAST that do not reach their galleries end. -/
def dmPrunes (w : W) (p slot : Nat) : List (Nat × Option Nat) :=
  (setBitsBelow 312 (w.regMask (Reg.DM_MASK p slot 0)).toNat).filterMap (w.mcEndFrom p)

/-- Bytes written at a window offset of every gallery an MCAST reaches, one multicast a line. -/
def dmMcastPut (w : W) (p slot : Nat) (r : DmRun) (off : Nat) (bs : List Byte) : DmRun × W :=
  (linePieces off bs.length).foldl (fun (s : DmRun × W) (lo, n) =>
    if s.1.stop.isSome then s
    else if windowTop ≤ off + lo then ({ s.1 with stop := some (some (2, w64 (off + lo))) }, s.2)
    else (s.1, (s.2.dmTargets p slot).1.foldl (fun w q =>
      w.putLine q (masterOf (some p) 13 q).1 (off + lo) ((bs.drop lo).take n))
      (s.2.countPruned (s.2.dmPrunes p slot)))) (r, w)

/-- Bytes to the destination of a descriptor, at `delta` from its first row's place. -/
def dmDest (w : W) (p : Nat) (x : DmCmd) (r : DmRun) (delta : Nat) (bs : List Byte) : DmRun × W :=
  if x.isMcast then w.dmMcastPut p (bits x.arg 3 0) r ((x.dst.toNat + delta) % 2 ^ 23) bs
  else w.dmPutAll p r (x.dst + w64 delta) bs

/-- One line of a source read and written to its destination (COPY, MCAST), when it has not been asked for yet; a line of
another device waits while 64 reads are out (R108). -/
def dmLine (w : W) (p : Nat) (x : DmCmd) (r : DmRun) (src : Word) (delta n : Nat) (u : DmUpset) : DmRun × W :=
  let r' := { r with lines := r.lines + 1, seen := r.seen + 1 }
  let wait : DmRun := { r' with outs := r.outs ++ [⟨1, src, w64 delta, n⟩], room := r.room - 1 }
  if r.seen < r.lines then ({ r with seen := r.seen + 1 }, w)
  else if r.room = 0 then ({ r with held := true }, w)
  else if u = .poisoned r.lines then ({ r' with stop := some (some (4, src)) }, w)
  else if u = .silent r.lines then ({ wait with stop := some none }, w)
  else match w.farLine (some p) (w64 p) src n 13 with
    | (.ok bs false, w) => w.dmDest p x r' delta bs
    | (.ok _ true, w) => ({ r' with stop := some (some (4, src)) }, w)
    | (.remote _, w) => (wait, w.request (some p) { typ := 1, addr := src, rtag := 15 * 64, len := n })
    | (.silent, w) => ({ wait with stop := some none }, w)
    | (_, w) => ({ r' with stop := some (some (2, src)) }, w)

/-- One row. -/
def dmRow (w : W) (p : Nat) (x : DmCmd) (r : DmRun) (row : Nat) (u : DmUpset) : DmRun × W :=
  if r.still then (r, w)
  else if x.isFill then w.dmDest p x r (row * x.dstPitch) (x.fillBytes x.dim0)
  else
    let src := x.src + w64 (row * x.srcPitch)
    (linePieces src.toNat x.dim0).foldl (fun (s : DmRun × W) (lo, n) =>
      if s.1.still then s
      else s.2.dmLine p x s.1 (src + w64 lo) (row * x.dstPitch + lo) n u) (r, w)

/-- ATOMIC (R100, R106): the old value goes to DST. -/
def dmAtomic (w : W) (p : Nat) (x : DmCmd) (u : DmUpset) : DmRun × W :=
  match x.atomOp with
  | none => ({}, w)
  | some op =>
    let wait : DmRun := { outs := [⟨5, x.src, x.dst, 8⟩] }
    if u = .poisoned 0 then ({ stop := some (some (4, x.src)) }, w)
    else if u = .silent 0 then ({ wait with stop := some none }, w)
    else
      let src := match w.place (some p) x.src with
        | .gal q _ => if q = p then 13 else 16 + p
        | _ => 16 + p
      match w.wordAtomic (some p) src x.src op x.operand x.cmp 13 with
      | (.ok bs false, w) => w.dmPutAll p { lines := 1 } x.dst bs
      | (.ok _ true, w) => ({ stop := some (some (4, x.src)) }, w)
      | (.remote _, w) =>
        (wait, w.request (some p) { typ := 5, addr := x.src, rtag := 15 * 64, len := 8, arg := x.operand,
                                    data := leBytes 8 x.cmp.toNat })
      | (.silent, w) => ({ wait with stop := some none }, w)
      | (_, w) => ({ stop := some (some (2, x.src)) }, w)

/-- A job after its descriptor ran: its open requests; done when there are none. -/
def dmSettle (w : W) (p k : Nat) (x : DmCmd) (j : DmJob) (r : DmRun) : W :=
  let j := { j with outs := r.outs, lines := r.lines, held := r.held,
                    state := if r.outs.isEmpty && !r.still then .done else .moving }
  let d := w.dm p
  let w := w.setDm p { d with jobs := d.jobs.set k j }
  match r.stop with
  | some (some (kind, a)) => w.dmFail p kind x.tag a
  | _ => w

/-- Line reads of the data mover that may still go out: 64 less those outstanding (R108). -/
def dmRoom (w : W) (p : Nat) : Nat := 64 - (((w.dm p).jobs.flatMap (·.outs)).filter fun o => o.typ == 1).length

/-- The rows of job `k` from where it stands, with the requests `outs` open. -/
def dmRows (w : W) (p k : Nat) (x : DmCmd) (j : DmJob) (u : DmUpset) : W :=
  let (r, w) := (List.range x.dim1).foldl (fun (s : DmRun × W) row => s.2.dmRow p x s.1 row u)
    ({ outs := j.outs, lines := j.lines, room := w.dmRoom p }, w)
  w.dmSettle p k x j r

/-- Descriptors whose lines wait for a read to come back go on, in order, as far as 64 reads allow (R108). -/
def dmResume (w : W) (p : Nat) : W :=
  (List.range (w.dm p).jobs.length).foldl (fun w k =>
    match (w.dm p).jobs[k]? with
    | some j => if j.held ∧ !(w.dm p).halted ∧ !(w.dm p).stalled then w.dmRows p k (DmCmd.ofWords j.words) j .none else w
    | none => w) w

/-- Job `k` starts (R108, R109): an MCAST notes the galleries pruned. A mask with a reserved bit is malformed in the
landing (R125): the answer stalls the data mover. -/
def dmStart (w : W) (p k : Nat) (u : DmUpset) : W :=
  match (w.dm p).jobs[k]? with
  | none => w
  | some j =>
    let x := DmCmd.ofWords j.words
    if x.isMcast ∧ maskBad (w.regMask (Reg.DM_MASK p (bits x.arg 3 0) 0)) then
      ((w.count (Reg.LND_DISCARD p) 1).lndFault p 4 0 2 p 0).dmFail p 4 x.tag x.dst
    else
      let pr := (w.dmTargets p (bits x.arg 3 0)).2
      let w := w.when x.isMcast fun w => w.setRegMask (Reg.DM_MCAST_PRUNED p 0) pr
      let j := if x.isMcast then { j with pruned := popCount 320 pr.toNat } else j
      if x.isAtomic then let (r, w) := w.dmAtomic p x u; w.dmSettle p k x j r else w.dmRows p k x j u

/-- A job may start: it overlaps no earlier one that is not done (R108). -/
def dmClear (w : W) (p k : Nat) (x : DmCmd) : Bool :=
  (((w.dm p).jobs.take k).filter fun j => !j.isNull && j.state != .done).all fun j => !x.overlaps (DmCmd.ofWords j.words)

/-- The data mover may take tokens and start work. -/
def dmRuns (w : W) (p : Nat) : Bool := w.agentRuns p 15 && !(w.dm p).halted && !(w.dm p).stalled

/-- DM_COPY, DM_MCAST, DM_FILL, DM_ATOMIC (R106 to R109): the descriptor at the head of queue 0, when its opcode is `op`,
is taken. A malformed one faults whatever its opcode. -/
def doDescriptor (w : W) (p op : Nat) (u : DmUpset) : W :=
  if !w.dmRuns p || !w.flag (Reg.DM_CFG p) ⟨0, 0⟩ || decide (4 ≤ (w.dm p).jobs.length) then w
  else match w.head p 15 0 with
    | none => w.estall p 15 0
    | some t =>
      if isNull t then w
      else
        let ws := (List.range 6).map (payWord t.data)
        let x := DmCmd.ofWords ws
        let bad := t.len != 48 || x.bad
        if !bad && x.opcode != op then w
        else match w.pop p 15 0 with
          | none => w
          | some (_, w) =>
            if u = .tokenParity ∨ t.poison then w.dmFail p 5 x.tag 0
            else if bad then w.dmFail p 1 x.tag 0
            else
              let d := w.dm p
              let k := d.jobs.length
              let w := w.setDm p { d with jobs := d.jobs ++ [{ words := ws }] }
              if w.dmClear p k x then w.dmStart p k u else w

/-- DM_NULL_TOKEN (R108). -/
def doDmNull (w : W) (p : Nat) : W :=
  if !w.dmRuns p || !w.flag (Reg.DM_CFG p) ⟨0, 0⟩ || decide (4 ≤ (w.dm p).jobs.length) then w
  else match w.head p 15 0 with
    | none => w
    | some t =>
      if isNull t then
        match w.pop p 15 0 with
        | none => w
        | some (_, w) =>
          let d := w.dm p
          w.setDm p { d with jobs := d.jobs ++ [{ isNull := true, state := .done }] }
      else w

/-- DM_DESCRIPTOR_START (R108): the first waiting descriptor that overlaps nothing earlier starts. -/
def doDmStart (w : W) (p : Nat) (u : DmUpset) : W :=
  if !w.dmRuns p then w
  else
    let js := (w.dm p).jobs
    match (List.range js.length).find? fun k =>
        match js[k]? with
        | some j => j.state == .waiting && w.dmClear p k (DmCmd.ofWords j.words)
        | none => false with
    | some k => w.dmStart p k u
    | none => w

/-- DM_COMPLETION (R108, R109): the oldest descriptor is done; its completion or null token goes out. -/
def doDmCompletion (w : W) (p : Nat) : W :=
  let d := w.dm p
  match d.jobs with
  | [] => w
  | j :: rest =>
    if j.state ≠ .done ∨ d.halted then w
    else
      let w := w.setDm p { d with jobs := rest }
      if j.isNull then w.unitSend p 15 0 1 []
      else
        let x := DmCmd.ofWords j.words
        ((w.count (Reg.DM_DESCS p) 1).count (Reg.DM_BYTES p) x.size).unitSend p 15 0 0 (completionData x.tag j.pruned)

/-- DM_TIMEOUT (R110): the oldest open request is not answered in time. -/
def doDmTimeout (w : W) (p : Nat) : W :=
  if (w.dm p).halted then w
  else match (w.dm p).jobs.find? fun j => !j.outs.isEmpty with
    | none => w
    | some j => w.dmFail p 3 (DmCmd.ofWords j.words).tag ((j.outs.map (·.addr)).headD 0)

/-- An answer to a request of the data mover reaches it (R108, R110, R124): the job and request it belongs to, by type and
address; an answer to nothing is discarded (R191). -/
def dmAnswer (w : W) (p typ : Nat) (t : Packet) : W :=
  let js := (w.dm p).jobs
  let mine := fun (o : DmOut) => o.typ == typ && o.addr == t.addr
  if (w.dm p).halted then w
  else match (List.range js.length).find? fun k => ((js[k]?).map fun j => j.outs.any mine) == some true with
    | none => w
    | some k =>
      match js[k]? with
      | none => w
      | some j =>
        match j.outs.find? mine with
        | none => w
        | some o =>
          let x := DmCmd.ofWords j.words
          if t.poison then w.dmFail p 4 x.tag t.addr
          else
            let r : DmRun := { outs := j.outs.erase o, lines := j.lines, held := j.held }
            let (r, w) := if typ = 1 then w.dmDest p x r o.dst.toNat (t.data.take o.len)
              else if typ = 5 then w.dmPutAll p r o.dst (t.data.take 8) else (r, w)
            (w.dmSettle p k x j r).dmResume p

/-- ERR_RSP at the data mover (R110, R132): cause 0x3 is an address error, the others stall it as poisoned. -/
def dmError (w : W) (p : Nat) (t : Packet) : W :=
  match (w.dm p).jobs.find? fun j => j.outs.any fun o => o.addr == t.addr with
  | none => w
  | some j =>
    if (w.dm p).halted then w
    else w.dmFail p (if bits t.arg 3 0 = 3 then 2 else 4) (DmCmd.ofWords j.words).tag t.addr

end W

end Sys2Proof.Machine
end

