-- ==== Sys2Proof/Machine/Scalar.lean ====
section
/-! DEFINITION. The scalar instructions (04_vector_and_scalar_cores.md R86 to R89), which scalar cores and control
processors execute (20_control_complex_and_interrupts.md R435), and the channel instructions of
07_channels_and_queues.md R157, R162, R165 to R167. A command carries out the instruction at the program counter when it
is that instruction (log entry 10); an instruction that has to wait leaves the core where it is, and its command may
come again. -/

namespace Sys2Proof.Machine

/-- The register-form functions of OP 0x00 and OP 0x18 a core knows; a control processor has WFI to CINV and lacks the
channel and step functions (R87, R435). -/
def fnKnown (h : Hart) (op fn : Nat) : Bool :=
  if op = 0x00 then decide (fn ≤ 0x00F)
  else match h with
    | .sc _ _ => decide (0x100 ≤ fn) && decide (fn ≤ 0x109)
    | .cp _ => (decide (0x106 ≤ fn) && decide (fn ≤ 0x109)) || (decide (0x200 ≤ fn) && decide (fn ≤ 0x204))

/-- The opcodes of R87. -/
def sOpKnown (h : Hart) (i : SIns) : Bool :=
  if i.op = 0x00 ∨ i.op = 0x18 then fnKnown h i.op i.fn
  else (decide (0x01 ≤ i.op) && decide (i.op ≤ 0x06)) || (decide (0x08 ≤ i.op) && decide (i.op ≤ 0x17))

/-- The registers an instruction reads. -/
def sReads (i : SIns) : List Nat :=
  if i.op = 0x00 ∨ i.op = 0x18 then [i.sa, i.sb]
  else if i.op = 0x06 ∨ i.op = 0x16 then []
  else if 0x0C ≤ i.op ∧ i.op ≤ 0x0F then [i.sd, i.sa]
  else if 0x10 ≤ i.op ∧ i.op ≤ 0x15 then [i.sd, i.sa]
  else [i.sa]

/-- The address the register access record names for a core's accesses (R354): its landing, or 0x1F0 + n. -/
def hartRequester : Hart → Word
  | .sc p _ => w64 p
  | .cp k => w64 (0x1F0 + k)

/-- The landing a core's accesses enter the mesh by; a control processor is in the vestibule. -/
def hartLand : Hart → Option Nat
  | .sc p _ => some p
  | .cp _ => none

/-- The RTAG of a core's requests: its agent code, above a slot number (R123). -/
def hartTag : Hart → Nat
  | .sc _ n => (12 + n) * 64
  | .cp k => k

namespace W

/-- An injection of target `t` is armed at a scalar core; a control processor has none (R92). -/
def scArmed (w : W) (h : Hart) (t : Nat) : Bool :=
  match h with
  | .cp _ => false
  | .sc p n => w.flag (Reg.SC_INJECT p n) F.SC_INJECT_ARM && w.fld (Reg.SC_INJECT p n) F.SC_INJECT_TARGET == t

/-- The flip of the armed injection is made, and the injection is disarmed. -/
def scDisarm (w : W) (h : Hart) : W :=
  match h with
  | .cp _ => w
  | .sc p n => w.setFlag (Reg.SC_INJECT p n) F.SC_INJECT_ARM false

/-- A read of local memory by the core meets a parity error: one stored in these `len` bytes at `a`, the upset of this
instruction, or the flip of an armed injection (R88, R92). -/
def scMemBad (w : W) (h : Hart) (a len : Nat) (u : CoreUpset) : Bool × W :=
  if w.scArmed h 2 then (true, w.scDisarm h)
  else (decide (u = .memParity) || (w.badRun (hartKey h a) len).isSome, w)

/-- What goes wrong in a well-formed instruction (R88, R92): a product, or a register read; the upset of this instruction,
or the flip of an armed injection, which is then disarmed. The KIND. -/
def scTrouble (w : W) (h : Hart) (i : SIns) (u : CoreUpset) : Option Nat × W :=
  let mul := i.op == 0x00 && (i.fn == 0x00A || i.fn == 0x00B)
  let reads := !(sReads i).isEmpty
  if w.scArmed h 0 && mul then (some 1, w.scDisarm h)
  else if w.scArmed h 1 && reads then (some 2, w.scDisarm h)
  else match u with
    | .product _ _ => (if mul then some 1 else none, w)
    | .regParity _ => (if reads then some 2 else none, w)
    | _ => (none, w)

/-- One scalar instruction: the word at the program counter, when the core may issue and the word is the instruction
(`op`, and `fn` for the register form), is carried out by `f`: the parity of the fetched word first, then its form, then
what it reads and multiplies. A malformed word faults whatever it is; a word that reads or writes the register of a load
still out waits (R88). A program counter that is not a multiple of 4 faults as a misaligned access and one beyond local
memory as an address outside the map (DESIGN CHOICE, log entry 24). -/
def sInstr (w : W) (h : Hart) (op : Nat) (fn : Option Nat) (u : CoreUpset) (f : SIns → W → W) : W :=
  if !w.hReady h then w
  else
    let pc := w.hpc h
    if pc % 4 ≠ 0 then w.hFault h 6 pc 0
    else if hartMem h < pc + 4 then w.hFault h 7 pc (w64 pc)
    else
      let i := w.hFetch h
      let mine := i.op == op && (fn.isNone || fn == some i.fn)
      if !mine && sOpKnown h i then w
      else
        match w.scMemBad h pc 4 u with
        | (true, w) => w.hFault h 3 pc 0
        | (false, w) =>
          if !sOpKnown h i then w.hFault h 5 pc 0
          else match w.scTrouble h i u with
            | (some kind, w) => w.hFault h kind pc 0
            | (none, w) =>
              if (w.hart h).outs.any fun a => a.isLoad && a.dst != 0 && (a.dst == i.sd || a.dst ∈ sReads i) then
                w.hStall h false
              else f i w

/-- A register-form arithmetic instruction. -/
def sAlu (w : W) (h : Hart) (i : SIns) (f : Word → Word → Word) : W := w.hWrite h i.sd (f (w.sreg h i.sa) (w.sreg h i.sb))

/-- An immediate-form arithmetic instruction: IMM16 sign-extended. -/
def sImm (w : W) (h : Hart) (i : SIns) (f : Word → Word → Word) : W :=
  w.hWrite h i.sd (f (w.sreg h i.sa) (w64 (unsigned 64 i.imm)))

/-- SA + IMM16. -/
def sAddr (w : W) (h : Hart) (i : SIns) : Word := w.sreg h i.sa + w64 (unsigned 64 i.imm)

/-- Two accesses to the same address, by 8-byte words (R88). -/
def sameWord (a b : Word) : Bool := a.toNat / 8 == b.toNat / 8

/-- The access `a` is the core's newest beyond local memory. -/
def pushOut (w : W) (h : Hart) (a : FarAccess) : W := w.setHart h { w.hart h with outs := (w.hart h).outs ++ [a] }

/-- The request of a load goes out when another device holds the address; any other answer is SC_LOAD_RETURN's. -/
def loadRequest (w : W) (h : Hart) (a : Word) (size : Nat) : W :=
  match w.place (hartLand h) a with
  | .remote _ => w.request (hartLand h) { typ := 1, addr := a, rtag := hartTag h, len := size }
  | _ => w

/-- A store beyond local memory is made, as outstanding access `k`: done at once in this device, out until its WR_ACK comes
back from another. -/
def makeStore (w : W) (h : Hart) (k : Nat) (a : FarAccess) (v : Nat) : W :=
  match w.farStore (hartLand h) a.addr a.size v (hartTag h) (hartRequester h) with
  | (false, w) => w.hFault h 7 a.pc a.addr
  | (true, w) =>
    let c := w.hart h
    match w.place (hartLand h) a.addr with
    | .remote _ => w.setHart h { c with outs := c.outs.set k { a with data := none } }
    | _ => w.setHart h { c with outs := c.outs.eraseIdx k }

/-- Accesses that wait for earlier ones to the same address are made once those have completed, at most `fuel` of them. -/
def releaseOuts (w : W) (h : Hart) : Nat → W
  | 0 => w
  | fuel + 1 =>
    let os := (w.hart h).outs
    let due := fun (k : Nat) => (os[k]?).any fun a => a.data.isSome && !((os.take k).any fun o => sameWord o.addr a.addr)
    match (List.range os.length).find? due with
    | none => w
    | some k =>
      match os[k]? with
      | some a =>
        let w := match a.data, a.isLoad with
          | some v, false => w.makeStore h k a v
          | _, _ => (w.setHart h { w.hart h with outs := os.set k { a with data := none } }).loadRequest h a.addr a.size
        W.releaseOuts w h fuel
      | none => w

/-- A load of `size` bytes (R88): naturally aligned; local memory at once; beyond it an access of the map that does not
block issue, at most 8 of them outstanding. A load of another device behind a store that still waits waits with it. -/
def sLoad (w : W) (h : Hart) (i : SIns) (size : Nat) : W :=
  let a := w.sAddr h i
  let pc := w.hpc h
  if a.toNat % size ≠ 0 then w.hFault h 6 pc a
  else if a.toNat + size ≤ hartMem h then
    if (w.badRun (hartKey h a.toNat) size).isSome then w.hFault h 3 pc a
    else w.hWrite h i.sd (w64 (w.rdNat (hartKey h a.toNat) size))
  else if !w.farOk (hartLand h) a then w.hFault h 7 pc a
  else
    let c := w.hart h
    if 8 ≤ c.outs.length then w.hStall h false
    else
      let waits := c.outs.any fun o => o.data.isSome && sameWord o.addr a
      let w := w.pushOut h { isLoad := true, dst := i.sd, addr := a, size := size, pc := pc,
                             data := if waits then some 0 else none }
      (w.when (!waits) fun w => w.loadRequest h a size).hNext h

/-- A store of `size` bytes (R88). Beyond local memory it does not block issue either; it is made when earlier accesses
of the core to the same address have completed. -/
def sStore (w : W) (h : Hart) (i : SIns) (size : Nat) : W :=
  let a := w.sAddr h i
  let pc := w.hpc h
  let v := (w.sreg h i.sd).toNat % 2 ^ (8 * size)
  if a.toNat % size ≠ 0 then w.hFault h 6 pc a
  else if a.toNat + size ≤ hartMem h then (w.wrNat (hartKey h a.toNat) size v).hNext h
  else if !w.farOk (hartLand h) a then w.hFault h 7 pc a
  else
    let os := (w.hart h).outs
    let x : FarAccess := { isLoad := false, dst := 0, addr := a, size := size, pc := pc, data := some v }
    if 8 ≤ os.length then w.hStall h false
    else if os.any fun o => sameWord o.addr a then (w.pushOut h x).hNext h
    else
      match w.farStore (hartLand h) a size v (hartTag h) (hartRequester h) with
      | (true, w) =>
        (match w.place (hartLand h) a with
         | .remote _ => (w.pushOut h { x with data := none }).hNext h
         | _ => w.hNext h)
      | (false, w) => w.hFault h 7 pc a

/-- A branch (form C): the target counts from the branch itself. -/
def sBranch (w : W) (h : Hart) (i : SIns) (f : Word → Word → Bool) : W :=
  if f (w.sreg h i.sd) (w.sreg h i.sa) then w.hGoto h (unsigned 32 ((w.hpc h : Int) + 4 * i.imm)) else w.hNext h

/-- JAL. -/
def doJal (w : W) (h : Hart) (i : SIns) : W :=
  let pc := w.hpc h
  (w.setSreg h i.sd (w64 (pc + 4))).hGoto h (unsigned 32 ((pc : Int) + 4 * i.off21))

/-- JALR: the target is formed from the old SA, and cut to the 32 bits of SC_PC (DESIGN CHOICE, log entry 24). -/
def doJalr (w : W) (h : Hart) (i : SIns) : W :=
  let t := (w.sAddr h i).toNat
  (w.setSreg h i.sd (w64 (w.hpc h + 4))).hGoto h t

/-- SC_LOAD_RETURN (R88, R103): outstanding load `k` returns, unless an earlier access to the same address is still out.
`v` is the answer when another device holds the address; a control processor keeps the line in its data cache (R434). -/
def doLoadReturn (w : W) (h : Hart) (k : Nat) (v : Word) (u : CoreUpset) : W :=
  let w0 := w
  let c := w.hart h
  match c.outs[k]? with
  | none => w
  | some a =>
    if !a.isLoad || a.data.isSome || (c.outs.take k).any fun o => sameWord o.addr a.addr then w
    else
      let w := w.setHart h { c with outs := c.outs.eraseIdx k }
      let done := fun (w : W) => w.releaseOuts h 8
      if u = .poisoned then w.setHart h { w.hart h with wait := .stalled }
      else if u = .memParity ∨ (∃ l ≤ 127, u = .regParity l) ∨ u = .tokenParity then w.hFault h 2 a.pc a.addr
      else
        let line := a.addr.toNat / 128 * 128
        let cached : Option (List Byte) := match h with
          | .cp _ => (c.dcache.find? fun (e : Nat × List Byte) => e.1 == line).map (·.2)
          | .sc _ _ => none
        match cached with
        | some bs => done (w.setSreg h a.dst (w64 (leNat ((bs.drop (a.addr.toNat % 128)).take a.size))))
        | none =>
          match w.farLoad (hartLand h) a.addr a.size (hartRequester h) with
          | (.error, w) => w.hFault h 7 a.pc a.addr
          | (.silent, _) => w0
          | (.setup _, w) => done w
          | (.remote _, w) => done (w.setSreg h a.dst (w64 (v.toNat % 2 ^ (8 * a.size))))
          | (.ok _ true, w) => w.setHart h { w.hart h with wait := .stalled }
          | (.ok x false, w) =>
            let w := w.setSreg h a.dst (w64 (leNat x))
            match h with
            | .sc _ _ => done w
            | .cp _ => done <|
              if a.addr.toNat < 0x7F0000000000 then
                match w.farLoad (hartLand h) (w64 line) 128 (hartRequester h) with
                | (.ok l false, w) =>
                  w.setHart h { w.hart h with dcache := ((line, l) :: (w.hart h).dcache).take 256 }
                | (_, w) => w
              else w

/-- SC_LOAD_TIMEOUT (R88): a load that does not return in time, KIND 0x8. A store has no time-out. -/
def doLoadTimeout (w : W) (h : Hart) (k : Nat) : W :=
  match (w.hart h).outs[k]? with
  | none => w
  | some a => if a.isLoad then w.hFault h 8 a.pc a.addr else w

/-! ### Channel instructions -/

/-- Send slot state of a scalar core. -/
def scSlot (w : W) (p n s : Nat) : SendSlot := (w.agent p (12 + n)).slot s

/-- Waiting on a queue, on credit or on an answer. -/
def scWait (w : W) (p n : Nat) (x : HWait) : W :=
  (w.setSc p n { w.sc p n with wait := x }).setFlag (Reg.SC_STATUS p n) F.SC_STATUS_QWAIT true

/-- A send that lacks credit: an island cycle of waiting (R155, R174). -/
def scCredit (w : W) (p n s : Nat) : W := (w.creditStall p (12 + n) s).hStall (.sc p n) true

/-- A send slot that a scalar core cannot send on: beyond its 16, free, connecting or closing. One that is hung keeps
its stall (R156, R173). -/
def scNoSlot (w : W) (p n s : Nat) : Bool :=
  decide (16 ≤ s) || !((w.scSlot p n s).state == 2 || (w.scSlot p n s).state == 4)

/-- CONNECT (R157): a free send slot, or −2; the core waits for the answer. A multicast name is the CONNECT_MULTICAST
row's. -/
def doConnect (w : W) (p n : Nat) (i : SIns) : W :=
  let h := Hart.sc p n
  let name := w.sreg h i.sa
  let sb := w.sreg h i.sb
  if bit name 38 then w
  else
    match (List.range 16).find? fun s => (w.scSlot p n s).state == 0 with
    | none => w.hWrite h i.sd (w64 (unsigned 64 (-2)))
    | some s => (w.sendConnect p (12 + n) s name (bits sb 15 0) (bit sb 16) false).scWait p n (.connect s)

/-- CONNECT with MC (R157): a multicast slot opens locally; −2 without a free send slot or multicast slot. -/
def doConnectMc (w : W) (p n : Nat) (i : SIns) : W :=
  let h := Hart.sc p n
  let name := w.sreg h i.sa
  let sb := w.sreg h i.sb
  let a := 12 + n
  if !bit name 38 then w
  else
    let g := w.agent p a
    match (List.range 16).find? fun s => (g.slot s).state == 0, (List.range 4).find? fun m => !(g.mcSlot m).inUse with
    | some s, some m =>
      let g := g.setSlot s { state := 2, name := name, conn := 0xFFFE, mc := true, mcs := m, raw := bit sb 16,
                             epoch := w.epoch p a }
      let g := g.setMcSlot m { inUse := true, gen := bits sb 47 32, flight := bits sb 22 17 }
      (w.setAgent p a g).hWrite h i.sd (w64 s)
    | _, _ => w.hWrite h i.sd (w64 (unsigned 64 (-2)))

/-- A RESERVE token goes to the mask (R165): the multicast slot is reserving for a message of TKIND `kind`. -/
def sendReserve (w : W) (p n s m : Nat) (target : Mask) (kind : Nat) (data : List Byte) : W :=
  let a := 12 + n
  let g := w.agent p a
  let x := g.slot s
  let c := g.mcSlot m
  let need := OutTok.need ⟨kind, data⟩
  let t := w.tokenPacket p a s 6 x.name 0xFFFE x.seq x.raw
    (c.flight % 64 * 2 ^ 25 + c.gen % 2 ^ 16 * 2 ^ 9 + need % 2 ^ 9) []
  let c := { c with phase := 1, target := target, acked := 0, reserved := 0, pruned := 0, late := 0, released := false,
                    all := false, data := data, need := need, kind := kind }
  let w := (w.setAgent p a (g.setMcSlot m c)).emit (.mesh p { t with mc := true, mask := target })
  (w.count (Reg.CH_MSGS p a s) 1).scWait p n (.mcast s)

/-- A SEND of a message of TKIND `kind` on a multicast slot (R165, R167): the reserve phase begins, for the mask the slot
names or with RETRY for the late targets. A first SEND while targets are late is malformed, and so is a RETRY while none
is. -/
def mcSend (w : W) (p n s : Nat) (retry : Bool) (kind : Nat) (data : List Byte) : W :=
  let x := w.scSlot p n s
  let late := ((w.agent p (12 + n)).mcSlot x.mcs).late
  if decide (late = 0) = retry then w.hFault (.sc p n) 5 (w.hpc (.sc p n)) 0
  else
    let all := if bit x.name 39 then w.regMask (Reg.DM_MASK p (bits x.name 27 24) 0) else 0
    w.sendReserve p n s x.mcs (if retry then late else all) kind data

/-- The payload of a SEND: SB[63:48] bytes at local address SB[31:0]; none when it is too long or leaves local memory. -/
def sendPayload (w : W) (p n : Nat) (sb : Word) : Option (List Byte) :=
  let len := bits sb 63 48
  let a := bits sb 31 0
  if len ≤ 512 ∧ a + len ≤ 2 ^ 16 then some (w.rdBytes (hartKey (.sc p n) a) len) else none

/-- The payload of a SEND fails its parity as it is read from local memory (R88, R102). -/
def payloadBad (w : W) (p n : Nat) (sb : Word) : Bool :=
  (w.badRun (hartKey (.sc p n) (bits sb 31 0)) (bits sb 63 48)).isSome

/-- SEND without NULL, PLACE, POST and RETRY (R155, R157, R165, R173): one token, waiting for credit; on a multicast slot
the reserve phase begins. A slot that is free or closing, a payload that does not fit, and flags that go together in no
row of R157 are malformed. -/
def doSend (w : W) (p n : Nat) (i : SIns) : W :=
  let h := Hart.sc p n
  let sa := w.sreg h i.sa
  let s := bits sa 5 0
  let a := 12 + n
  let flags := bits sa 11 8
  if flags ∈ ([1, 2, 4, 8, 9] : List Nat) then w
  else
    let x := w.scSlot p n s
    match (if flags = 0 then w.sendPayload p n (w.sreg h i.sb) else none) with
    | none => w.hFault h 5 (w.hpc h) 0
    | some data =>
      if w.scNoSlot p n s then w.hFault h 5 (w.hpc h) 0
      else if w.payloadBad p n (w.sreg h i.sb) then w.hFault h 3 (w.hpc h) 0
      else if x.mc then w.mcSend p n s false 0 data
      else if x.ring ∨ x.grantSlots < slotsOf data.length then w.hFault h 5 (w.hpc h) 0
      else if w.canSend p a s 0 data.length then (w.sendNow p a s 0 data).hWrite h i.sd 0
      else w.scCredit p n s

/-- SEND with NULL, with or without RETRY (R157, R165, R167). -/
def doSendNull (w : W) (p n : Nat) (i : SIns) : W :=
  let h := Hart.sc p n
  let sa := w.sreg h i.sa
  let s := bits sa 5 0
  let retry := bit sa 11
  if bits sa 11 8 ≠ 1 ∧ bits sa 11 8 ≠ 9 then w
  else if w.scNoSlot p n s then w.hFault h 5 (w.hpc h) 0
  else if (w.scSlot p n s).mc then w.mcSend p n s retry 1 []
  else if retry then w.hFault h 5 (w.hpc h) 0
  else if w.canSend p (12 + n) s 1 0 then (w.sendNow p (12 + n) s 1 []).hWrite h i.sd 0
  else w.scCredit p n s

/-- SEND with RETRY (R167): reserve and data again for the late targets, same SEQ, same payload. -/
def doSendRetry (w : W) (p n : Nat) (i : SIns) : W :=
  let h := Hart.sc p n
  let sa := w.sreg h i.sa
  let s := bits sa 5 0
  if bits sa 11 8 ≠ 8 then w
  else match w.sendPayload p n (w.sreg h i.sb) with
    | none => w.hFault h 5 (w.hpc h) 0
    | some data =>
      if w.scNoSlot p n s ∨ ¬ (w.scSlot p n s).mc then w.hFault h 5 (w.hpc h) 0
      else if w.payloadBad p n (w.sreg h i.sb) then w.hFault h 3 (w.hpc h) 0
      else w.mcSend p n s true 0 data

/-- Where a ring lies (R161): the physical gallery, logical gallery and hall offset of the target of a name, when it is
on this device. -/
def ringBase (w : W) (name : Word) : Option (Nat × Nat × Nat) :=
  if bit name 39 then
    let g := bits name 35 24
    (w.physOf g).map fun p =>
      (p, g, w.fld (Reg.Q_RING p (bits name 7 4) (bits name 3 0)) F.Q_RING_BASE_4K * 4096)
  else none

/-- The two header words of a ring record (R161). -/
def ringHeader (type len seq lines : Nat) : List Byte :=
  leBytes 8 (len * 2 ^ 32 + type * 2 ^ 24 + 1 * 2 ^ 16 + seq % 2 ^ 16) ++ leBytes 8 (lines % 2 ^ 16)

/-- The global address of the ring of send slot `s`, where it is known: on this device from the target's Q_RING, on another
once a PLACE has resolved it. -/
def ringGlobal (w : W) (p n s : Nat) : Option Word :=
  let x := w.scSlot p n s
  match w.ringBase x.name with
  | some (_, lg, b) => some (w64 (w.selfDev * 2 ^ 48 + 0x7F0000000000 + lg * 2 ^ 23 + b))
  | none => x.ringAddr

/-- The ring of send slot `s` is resolved. Where a ring of another device lies in it the name does not say: its address
below the device ID is free (log entry 1). -/
def resolveRing (w : W) (p n s : Nat) : W :=
  let g := w.agent p (12 + n)
  let x := g.slot s
  if (w.ringGlobal p n s).isSome then w
  else
    let (v, w) := w.draw
    w.setAgent p (12 + n) (g.setSlot s { x with ringAddr := some (w64 (bits x.name 55 40 * 2 ^ 48 + bits v 47 0)) })

/-- A write to the ring of slot `s` has no acknowledgement yet (R162). -/
def ringBusy (w : W) (p n s size : Nat) : Bool :=
  match w.ringGlobal p n s with
  | none => false
  | some a => (w.sc p n).outs.any fun o => !o.isLoad && decide (a.toNat ≤ o.addr.toNat) && decide (o.addr.toNat < a.toNat + size)

/-- A record header written at ring offset `off`: at once in this device, as a write request to another. -/
def writeHeader (w : W) (p n s off : Nat) (bs : List Byte) : W :=
  let x := w.scSlot p n s
  match w.ringBase x.name, x.ringAddr with
  | some (q, _, b), _ => w.putLine q (masterOf (some p) 12 q).1 (b + off) bs
  | none, some a =>
    let h := Hart.sc p n
    let a := a + w64 off
    (w.pushOut h { isLoad := false, dst := 0, addr := a, size := bs.length, pc := w.hpc h }).request (some p)
      { typ := 3, addr := a, rtag := hartTag h, len := bs.length, data := bs }
  | none, none => w

/-- SEND with PLACE (R162): lines are reserved, with a pad record first when the message would wrap; the answer is the
global address of the payload. -/
def doSendPlace (w : W) (p n : Nat) (i : SIns) : W :=
  let h := Hart.sc p n
  let sa := w.sreg h i.sa
  let s := bits sa 5 0
  let a := 12 + n
  if bits sa 11 8 ≠ 2 then w
  else
    let x := w.scSlot p n s
    let len := bits (w.sreg h i.sb) 31 0
    let size := x.grantLines * 128
    let r := ceilDiv (16 + len) 128
    if w.scNoSlot p n s ∨ ¬ x.ring ∨ x.placed.isSome ∨ size = 0 ∨ size / 128 < r then w.hFault h 5 (w.hpc h) 0
    else if 8 ≤ (w.hart h).outs.length then w.hStall h false
    else
      let w := w.resolveRing p n s
      let off := x.prod % size
      let e := (size - off) / 128
      let step : Option W :=
        if e < r then
          if e ≤ x.lines ∧ w.canSend p a s 5 16 then
            let w := w.writeHeader p n s off (ringHeader 2 0 x.seq e)
            let w := w.sendNow p a s 5 (leBytes 16 off)
            let g := w.agent p a
            let y := g.slot s
            some (w.setAgent p a (g.setSlot s { y with prod := y.prod + 128 * e, lines := y.lines - e }))
          else none
        else some w
      match step with
      | none => w.scCredit p n s
      | some w =>
        let g := w.agent p a
        let y := g.slot s
        if r ≤ y.lines ∧ w.canSend p a s 4 16 then
          let y := { y with lines := y.lines - r, placed := some len, hdr := false, waiting := false }
          let w := w.setAgent p a (g.setSlot s y)
          w.hWrite h i.sd ((w.ringGlobal p n s).getD 0 + w64 (y.prod % size + 16))
        else w.scCredit p n s

/-- SEND with POST (R162): the message header, then, once every write of the agent to the ring is acknowledged, the RING_MSG
notice. -/
def doSendPost (w : W) (p n : Nat) (i : SIns) : W :=
  let h := Hart.sc p n
  let sa := w.sreg h i.sa
  let s := bits sa 5 0
  let a := 12 + n
  if bits sa 11 8 ≠ 4 then w
  else
    let x := w.scSlot p n s
    match x.placed with
    | none => w.hFault h 5 (w.hpc h) 0
    | some len =>
      let size := x.grantLines * 128
      let r := ceilDiv (16 + len) 128
      let off := x.prod % size
      if w.scNoSlot p n s then w.hFault h 5 (w.hpc h) 0
      else if ¬ x.hdr ∧ 8 ≤ (w.hart h).outs.length then w.hStall h false
      else
        let w := w.when (!x.hdr) fun w =>
          let g := w.agent p a
          (w.setAgent p a (g.setSlot s { g.slot s with hdr := true })).writeHeader p n s off (ringHeader 1 len x.seq r)
        if w.ringBusy p n s size then w.hStall h false
        else if w.canSend p a s 4 16 then
          let w := w.sendNow p a s 4 (leBytes 16 (len * 2 ^ 32 + off))
          let g := w.agent p a
          let y := g.slot s
          (w.setAgent p a (g.setSlot s { y with prod := y.prod + 128 * r, placed := none, hdr := false })).hWrite h i.sd 0
        else w.scCredit p n s

/-- RECV (R88, R157): the head token's payload to local memory and its description in SD. -/
def doRecv (w : W) (p n : Nat) (i : SIns) (u : CoreUpset) : W :=
  let h := Hart.sc p n
  let sa := w.sreg h i.sa
  let q := bits sa 3 0
  let a := bits (w.sreg h i.sb) 31 0
  let pc := w.hpc h
  if bit sa 5 then w
  else
    match w.pop p (12 + n) q with
    | none => (w.estall p (12 + n) q).hStall h true
    | some (t, w) =>
      if u = .tokenParity ∨ t.poison then w.hFault h 4 pc 0
      else if isNull t then
        (w.count (Reg.SC_NULL_RECV p n) 1).hWrite h i.sd
          (w64 (2 ^ 63 + t.seq % 2 ^ 16 * 2 ^ 32 + t.conn % 2 ^ 16 * 2 ^ 16))
      else if 2 ^ 16 < a + t.data.length then w.hFault h 7 pc (w64 a)
      else
        (w.wrBytes (hartKey h a) t.data).hWrite h i.sd
          (w64 ((tkind t == 4).toNat * 2 ^ 62 + t.seq % 2 ^ 16 * 2 ^ 32 + t.conn % 2 ^ 16 * 2 ^ 16 + t.len % 2 ^ 16))

/-- RECV with RELEASE_ONLY (R163): the lines of the last presented ring message are released; what SD holds is not
stated and is free (log entry 1). -/
def doRecvRelease (w : W) (p n : Nat) (i : SIns) : W :=
  let h := Hart.sc p n
  let sa := w.sreg h i.sa
  if !bit sa 5 then w
  else
    let (v, w) := (w.releaseRing p (12 + n) (bits sa 3 0)).draw
    w.hWrite h i.sd v

/-- CLOSE (R156, R157): sent after every earlier token; the core waits for CLOSE_ACK. A multicast slot closes locally. -/
def doClose (w : W) (p n : Nat) (i : SIns) : W :=
  let h := Hart.sc p n
  let s := bits (w.sreg h i.sa) 5 0
  let a := 12 + n
  let g := w.agent p a
  let x := g.slot s
  if w.scNoSlot p n s then w.hFault h 5 (w.hpc h) 0
  else if x.mc then (w.setAgent p a ((g.setSlot s {}).setMcSlot x.mcs {})).hWrite h i.sd 0
  else if w.canSend p a s 3 0 then
    let w := w.sendNow p a s 3 []
    let g := w.agent p a
    (w.setAgent p a (g.setSlot s { g.slot s with state := 3 })).scWait p n (.close s)
  else w.scCredit p n s

/-- A non-flight queue of gallery `p` holds a token (R184). -/
def boundaryBad (w : W) (p : Nat) : Bool :=
  (List.range 16).any fun a => (List.range 16).any fun q =>
    w.qcfg p a q F.Q_CFG_FLIGHTQ == 0 && !((w.agent p a).queue q).isEmpty

/-- The BOUNDARY check of a gallery that has arrived (R184): a schedule fault of class 0x09. -/
def boundaryCheck (w : W) (p : Nat) : W :=
  let k := Reg.GSTEP_STATE p
  if w.boundaryBad p && !w.flag k F.GSTEP_STATE_BFAULT then
    (w.setFlag k F.GSTEP_STATE_BFAULT true).raiseSched p
      { cls := 9, kind := 2, info := w64 (2 ^ 0 + w.fld Reg.SEQ_STATUS F.SEQ_STATUS_STATE * 2 ^ 16),
        aux := w.reg Reg.SEQ_COMMITTED }
  else w

/-- STEPWAIT (R184): the core waits for the next step; SC0 of a gallery that has arrived puts it into WAIT (DEDUCED from
the state codes of R202). -/
def doStepwait (w : W) (p n : Nat) : W :=
  let w := w.scWait p n .step
  let k := Reg.GSTEP_STATE p
  if n = 0 ∧ w.fld k F.GSTEP_STATE_STATE = 2 then (w.setFld k F.GSTEP_STATE_STATE 3).boundaryCheck p else w

/-- STEP: the step counter. -/
def doStep (w : W) (h : Hart) (i : SIns) : W := w.hWrite h i.sd (w.reg Reg.SEQ_STEP)

/-- FENCE: waits until every earlier access has completed. -/
def doFence (w : W) (h : Hart) : W := if (w.hart h).outs.isEmpty then w.hNext h else w.hStall h false

/-- HALT (R87, R435). -/
def doHalt (w : W) (h : Hart) : W := (w.hNext h).hHalt h .halted

end W

/-! ### The meanings -/

/-- The shape of a scalar instruction's meaning. -/
def sExec (h : Hart) (op : Nat) (fn : Option Nat) (u : CoreUpset) (s : State) (f : SIns → W → W) :
    Host.Outcome State Fault Refusal :=
  if hartOk h then
    runIf (if h = .cp 0 ∨ h = .cp 3 then s.aux else s.live) s fun w => w.sInstr h op fn u f
  else .fault .noSuchUnit

/-- The shape of a channel or step instruction's meaning: scalar cores only; on a control processor its word is
malformed (R435). -/
def chExec (h : Hart) (fn : Nat) (u : CoreUpset) (s : State) (f : Nat → Nat → SIns → W → W) :
    Host.Outcome State Fault Refusal :=
  sExec h 0x18 (some fn) u s fun i w => match h with
    | .sc p n => f p n i w
    | .cp _ => w

/-- Truth as a register value. -/
def truth (b : Bool) : Word := if b then 1 else 0

/-- ADD. -/
def execAdd (h : Hart) (u : CoreUpset) (s : State) : Host.Outcome State Fault Refusal :=
  sExec h 0x00 (some 0x000) u s fun i w => w.sAlu h i fun a b => a + b

/-- SUB. -/
def execSub (h : Hart) (u : CoreUpset) (s : State) : Host.Outcome State Fault Refusal :=
  sExec h 0x00 (some 0x001) u s fun i w => w.sAlu h i fun a b => a - b

/-- AND. -/
def execAnd (h : Hart) (u : CoreUpset) (s : State) : Host.Outcome State Fault Refusal :=
  sExec h 0x00 (some 0x002) u s fun i w => w.sAlu h i fun a b => a &&& b

/-- OR. -/
def execOr (h : Hart) (u : CoreUpset) (s : State) : Host.Outcome State Fault Refusal :=
  sExec h 0x00 (some 0x003) u s fun i w => w.sAlu h i fun a b => a ||| b

/-- XOR. -/
def execXor (h : Hart) (u : CoreUpset) (s : State) : Host.Outcome State Fault Refusal :=
  sExec h 0x00 (some 0x004) u s fun i w => w.sAlu h i fun a b => a ^^^ b

/-- SHL. -/
def execShl (h : Hart) (u : CoreUpset) (s : State) : Host.Outcome State Fault Refusal :=
  sExec h 0x00 (some 0x005) u s fun i w => w.sAlu h i fun a b => a <<< (bits b 5 0)

/-- SHR. -/
def execShr (h : Hart) (u : CoreUpset) (s : State) : Host.Outcome State Fault Refusal :=
  sExec h 0x00 (some 0x006) u s fun i w => w.sAlu h i fun a b => a >>> (bits b 5 0)

/-- SRA. -/
def execSra (h : Hart) (u : CoreUpset) (s : State) : Host.Outcome State Fault Refusal :=
  sExec h 0x00 (some 0x007) u s fun i w => w.sAlu h i fun a b => a.sshiftRight (bits b 5 0)

/-- SLT. -/
def execSlt (h : Hart) (u : CoreUpset) (s : State) : Host.Outcome State Fault Refusal :=
  sExec h 0x00 (some 0x008) u s fun i w => w.sAlu h i fun a b => truth (a.slt b)

/-- SLTU. -/
def execSltu (h : Hart) (u : CoreUpset) (s : State) : Host.Outcome State Fault Refusal :=
  sExec h 0x00 (some 0x009) u s fun i w => w.sAlu h i fun a b => truth (a.ult b)

/-- MUL. -/
def execMul (h : Hart) (u : CoreUpset) (s : State) : Host.Outcome State Fault Refusal :=
  sExec h 0x00 (some 0x00A) u s fun i w => w.sAlu h i fun a b => a * b

/-- MULHU. -/
def execMulhu (h : Hart) (u : CoreUpset) (s : State) : Host.Outcome State Fault Refusal :=
  sExec h 0x00 (some 0x00B) u s fun i w => w.sAlu h i fun a b => w64 (a.toNat * b.toNat / 2 ^ 64)

/-- MIN. -/
def execMin (h : Hart) (u : CoreUpset) (s : State) : Host.Outcome State Fault Refusal :=
  sExec h 0x00 (some 0x00C) u s fun i w => w.sAlu h i fun a b => if a.slt b then a else b

/-- MAX. -/
def execMax (h : Hart) (u : CoreUpset) (s : State) : Host.Outcome State Fault Refusal :=
  sExec h 0x00 (some 0x00D) u s fun i w => w.sAlu h i fun a b => if a.slt b then b else a

/-- MINU. -/
def execMinu (h : Hart) (u : CoreUpset) (s : State) : Host.Outcome State Fault Refusal :=
  sExec h 0x00 (some 0x00E) u s fun i w => w.sAlu h i fun a b => if a.ult b then a else b

/-- MAXU. -/
def execMaxu (h : Hart) (u : CoreUpset) (s : State) : Host.Outcome State Fault Refusal :=
  sExec h 0x00 (some 0x00F) u s fun i w => w.sAlu h i fun a b => if a.ult b then b else a

/-- ADDI. -/
def execAddi (h : Hart) (u : CoreUpset) (s : State) : Host.Outcome State Fault Refusal :=
  sExec h 0x01 none u s fun i w => w.sImm h i fun a b => a + b

/-- ANDI. -/
def execAndi (h : Hart) (u : CoreUpset) (s : State) : Host.Outcome State Fault Refusal :=
  sExec h 0x02 none u s fun i w => w.sImm h i fun a b => a &&& b

/-- ORI. -/
def execOri (h : Hart) (u : CoreUpset) (s : State) : Host.Outcome State Fault Refusal :=
  sExec h 0x03 none u s fun i w => w.sImm h i fun a b => a ||| b

/-- XORI. -/
def execXori (h : Hart) (u : CoreUpset) (s : State) : Host.Outcome State Fault Refusal :=
  sExec h 0x04 none u s fun i w => w.sImm h i fun a b => a ^^^ b

/-- SLTI. -/
def execSlti (h : Hart) (u : CoreUpset) (s : State) : Host.Outcome State Fault Refusal :=
  sExec h 0x05 none u s fun i w => w.sImm h i fun a b => truth (a.slt b)

/-- LUI. -/
def execLui (h : Hart) (u : CoreUpset) (s : State) : Host.Outcome State Fault Refusal :=
  sExec h 0x06 none u s fun i w => w.hWrite h i.sd (w64 (unsigned 64 (i.imm * 65536)))

/-- LD8. -/
def execLd8 (h : Hart) (u : CoreUpset) (s : State) : Host.Outcome State Fault Refusal :=
  sExec h 0x08 none u s fun i w => w.sLoad h i 1

/-- LD16. -/
def execLd16 (h : Hart) (u : CoreUpset) (s : State) : Host.Outcome State Fault Refusal :=
  sExec h 0x09 none u s fun i w => w.sLoad h i 2

/-- LD32. -/
def execLd32 (h : Hart) (u : CoreUpset) (s : State) : Host.Outcome State Fault Refusal :=
  sExec h 0x0A none u s fun i w => w.sLoad h i 4

/-- LD64. -/
def execLd64 (h : Hart) (u : CoreUpset) (s : State) : Host.Outcome State Fault Refusal :=
  sExec h 0x0B none u s fun i w => w.sLoad h i 8

/-- BEQ. -/
def execBeq (h : Hart) (u : CoreUpset) (s : State) : Host.Outcome State Fault Refusal :=
  sExec h 0x10 none u s fun i w => w.sBranch h i fun a b => a == b

/-- BNE. -/
def execBne (h : Hart) (u : CoreUpset) (s : State) : Host.Outcome State Fault Refusal :=
  sExec h 0x11 none u s fun i w => w.sBranch h i fun a b => a != b

/-- BLT. -/
def execBlt (h : Hart) (u : CoreUpset) (s : State) : Host.Outcome State Fault Refusal :=
  sExec h 0x12 none u s fun i w => w.sBranch h i fun a b => a.slt b

/-- BGE. -/
def execBge (h : Hart) (u : CoreUpset) (s : State) : Host.Outcome State Fault Refusal :=
  sExec h 0x13 none u s fun i w => w.sBranch h i fun a b => !a.slt b

/-- BLTU. -/
def execBltu (h : Hart) (u : CoreUpset) (s : State) : Host.Outcome State Fault Refusal :=
  sExec h 0x14 none u s fun i w => w.sBranch h i fun a b => a.ult b

/-- BGEU. -/
def execBgeu (h : Hart) (u : CoreUpset) (s : State) : Host.Outcome State Fault Refusal :=
  sExec h 0x15 none u s fun i w => w.sBranch h i fun a b => !a.ult b

/-- JAL. -/
def execJal (h : Hart) (u : CoreUpset) (s : State) : Host.Outcome State Fault Refusal :=
  sExec h 0x16 none u s fun i w => w.doJal h i

/-- JALR. -/
def execJalr (h : Hart) (u : CoreUpset) (s : State) : Host.Outcome State Fault Refusal :=
  sExec h 0x17 none u s fun i w => w.doJalr h i

/-- CONNECT. -/
def execConnect (h : Hart) (u : CoreUpset) (s : State) : Host.Outcome State Fault Refusal :=
  chExec h 0x100 u s fun p n i w => w.doConnect p n i

/-- SEND. -/
def execSend (h : Hart) (u : CoreUpset) (s : State) : Host.Outcome State Fault Refusal :=
  chExec h 0x101 u s fun p n i w => w.doSend p n i

/-- RECV. -/
def execRecv (h : Hart) (u : CoreUpset) (s : State) : Host.Outcome State Fault Refusal :=
  chExec h 0x102 u s fun p n i w => w.doRecv p n i u

/-- CLOSE. -/
def execClose (h : Hart) (u : CoreUpset) (s : State) : Host.Outcome State Fault Refusal :=
  chExec h 0x103 u s fun p n i w => w.doClose p n i

/-- STEPWAIT. -/
def execStepwait (h : Hart) (u : CoreUpset) (s : State) : Host.Outcome State Fault Refusal :=
  chExec h 0x104 u s fun p n _ w => w.doStepwait p n

/-- STEP. -/
def execStep (h : Hart) (u : CoreUpset) (s : State) : Host.Outcome State Fault Refusal :=
  chExec h 0x105 u s fun _ _ i w => w.doStep h i

/-- YCG. -/
def execYcg (h : Hart) (u : CoreUpset) (s : State) : Host.Outcome State Fault Refusal :=
  sExec h 0x18 (some 0x106) u s fun i w =>
    w.hWrite h i.sd (ycg (w.sreg h i.sa) (bits (w.sreg h i.sb) 63 32) (bits (w.sreg h i.sb) 31 0))

/-- FENCE. -/
def execFence (h : Hart) (u : CoreUpset) (s : State) : Host.Outcome State Fault Refusal :=
  sExec h 0x18 (some 0x107) u s fun _ w => w.doFence h

/-- HALT. -/
def execHalt (h : Hart) (u : CoreUpset) (s : State) : Host.Outcome State Fault Refusal :=
  sExec h 0x18 (some 0x108) u s fun _ w => w.doHalt h

/-- TIME. -/
def execTime (h : Hart) (u : CoreUpset) (s : State) : Host.Outcome State Fault Refusal :=
  sExec h 0x18 (some 0x109) u s fun i w => w.hWrite h i.sd (w64 w.c.time)

/-- SEND_PLACE. -/
def execSendPlace (h : Hart) (u : CoreUpset) (s : State) : Host.Outcome State Fault Refusal :=
  chExec h 0x101 u s fun p n i w => w.doSendPlace p n i

/-- SEND_POST. -/
def execSendPost (h : Hart) (u : CoreUpset) (s : State) : Host.Outcome State Fault Refusal :=
  chExec h 0x101 u s fun p n i w => w.doSendPost p n i

/-- SEND_NULL. -/
def execSendNull (h : Hart) (u : CoreUpset) (s : State) : Host.Outcome State Fault Refusal :=
  chExec h 0x101 u s fun p n i w => w.doSendNull p n i

/-- SEND_RETRY. -/
def execSendRetry (h : Hart) (u : CoreUpset) (s : State) : Host.Outcome State Fault Refusal :=
  chExec h 0x101 u s fun p n i w => w.doSendRetry p n i

/-- CONNECT_MULTICAST. -/
def execConnectMulticast (h : Hart) (u : CoreUpset) (s : State) : Host.Outcome State Fault Refusal :=
  chExec h 0x100 u s fun p n i w => w.doConnectMc p n i

/-- RECV_RELEASE_ONLY. -/
def execRecvReleaseOnly (h : Hart) (u : CoreUpset) (s : State) : Host.Outcome State Fault Refusal :=
  chExec h 0x102 u s fun p n i w => w.doRecvRelease p n i

/-- SC_LOAD_RETURN. -/
def execScLoadReturn (h : Hart) (k : Nat) (v : Word) (u : CoreUpset) (s : State) : Host.Outcome State Fault Refusal :=
  runOn (hartOk h) s fun w => w.doLoadReturn h k v u

/-- SC_LOAD_TIMEOUT. -/
def execScLoadTimeout (h : Hart) (k : Nat) (s : State) : Host.Outcome State Fault Refusal :=
  runOn (hartOk h) s fun w => w.doLoadTimeout h k

/-- SC_ENABLE. -/
def execScEnable (p n : Nat) (s : State) : Host.Outcome State Fault Refusal :=
  runOn (hartOk (.sc p n)) s fun w => w.doScEnable p n

/-- SC_DISABLE. -/
def execScDisable (p n : Nat) (s : State) : Host.Outcome State Fault Refusal :=
  runOn (hartOk (.sc p n)) s fun w => w.doScDisable p n

/-- SC_CNT_CLR (R92): bit n clears the counter at 0x040 + 8 n, n from 0 to 7. -/
def execScCntClr (p n : Nat) (v : Word) (s : State) : Host.Outcome State Fault Refusal :=
  runOn (hartOk (.sc p n)) s fun w => w.clearCounters (Reg.SC_EVT_NANGEN p n) 8 v

end Sys2Proof.Machine
end

