-- ==== Sys2Proof/Machine/Steering.lean ====
section
/-! DEFINITION. The steering unit (05_galleries_and_halls.md R111 to R115), agent 14 of its gallery: one command is one
firing of one entry, a data slot. -/

namespace Sys2Proof.Machine

/-- A steering-table entry (R111). -/
structure SuEntry where
  op : Nat
  inq : Nat
  ctrl : Nat
  csrc : Nat
  nfan : Nat
  clist : Nat
  nin : Nat
  cap : Nat
  out : Nat
  ovf : Nat
deriving DecidableEq, Repr

/-- The fields of an entry's two words, the low one first. -/
def SuEntry.of (lo hi : Word) : SuEntry :=
  { op := bits hi 63 56, inq := bits hi 55 52, ctrl := bits hi 51 48, csrc := bits hi 47 47, nfan := bits hi 46 44,
    clist := bits hi 43 32, nin := bits hi 31 16, cap := bits hi 15 0, out := bits lo 63 58, ovf := bits lo 57 54 }

/-- The entry's operation, input and output ranges and OVF are in range (R111, R10), whatever the operation. -/
def SuEntry.ok (e : SuEntry) : Bool :=
  e.op == 0 || (decide (e.op ≤ 4) && decide (1 ≤ e.nin) && (e.ovf == 0xF || decide (e.ovf ≤ e.nfan)) &&
    decide (e.out + e.nfan ≤ 63) && decide (e.inq + e.nfan ≤ 15))

/-- Input queues of an entry. -/
def SuEntry.inputs (e : SuEntry) : List Nat :=
  if e.op = 2 ∨ e.op = 4 then (List.range (e.nfan + 1)).map (e.inq + ·) else [e.inq]

/-- Every queue an entry uses, its control queue included. -/
def SuEntry.queues (e : SuEntry) : List Nat := e.inputs ++ (if e.csrc = 0 then [e.ctrl] else [])

/-- Output slots of an entry. -/
def SuEntry.outputs (e : SuEntry) : List Nat :=
  if e.op = 1 ∨ e.op = 3 then (List.range (e.nfan + 1)).map (e.out + ·) else [e.out]

/-- A table of entries is well formed (R111): every entry is, and no two share an input queue, a control queue or an
output slot. -/
def suTableOk (es : List SuEntry) : Bool :=
  let used := es.filter fun e => e.op != 0
  used.all SuEntry.ok && decide ((used.flatMap SuEntry.queues).Nodup) && decide ((used.flatMap SuEntry.outputs).Nodup)

namespace W

/-- Entry `e` of the steering table. -/
def suEntry (w : W) (p e : Nat) : SuEntry := SuEntry.of (w.reg (Reg.SU_TABLE p (2 * e))) (w.reg (Reg.SU_TABLE p (2 * e + 1)))

/-- Byte `i` of the control list. -/
def suByte (w : W) (p i : Nat) : Nat := bits (w.reg (Reg.SU_CLIST p (i / 8))) (8 * (i % 8) + 7) (8 * (i % 8))

/-- A schedule fault of the steering unit (R115) at data input queue `q`: SU_FAULT_INFO takes the first, every entry
stops. -/
def suFault (w : W) (p e q kind exp seen : Nat) : W :=
  let x := w.suEntry p e
  let k := Reg.SU_FAULT_INFO p
  let w := w.when (!w.flag k F.SU_FAULT_INFO_VALID) fun w =>
    w.setReg k (w64 (exp % 2 ^ 16 * 2 ^ 48 + seen % 2 ^ 16 * 2 ^ 32 + kind % 16 * 2 ^ 28 + 2 ^ 27 + e % 256 * 2 ^ 19
      + q % 16 * 2 ^ 15 + x.ctrl * 2 ^ 11))
  let w := w.setSu p { w.su p with stopped := true }
  let b : RecBody := { cls := 6, kind := kind, agent := some 14, slotA := x.ctrl, queueB := q % 16, info := w.reg k }
  if kind = 6 then w.raiseGallery p b else w.raiseSched p b

/-- An entry's run replaced. -/
def setRun (w : W) (p e : Nat) (r : SuRun) : W :=
  let u := w.su p
  w.setSu p { u with runs := Tbl.set (fun _ => {}) u.runs e r }

/-- The control of the next slot, when it is there: the step's own, a byte of the control list, or the head of the
control queue with its tag. A list position past the end of the list is not stated and free (log entry 1). -/
def suControl (w : W) (p : Nat) (x : SuEntry) (r : SuRun) : Option (SuCtrl × Option Nat) × W :=
  match r.ctrl with
  | some c => (some (c, none), w)
  | none =>
    if x.csrc = 1 then
      let i := x.clist + (if x.op = 1 ∨ x.op = 2 then 0 else r.slot)
      if i < 4096 then (some (.value (w.suByte p i), none), w)
      else let (v, w) := w.draw; (some (.value (bits v 7 0), none), w)
    else match w.head p 14 x.ctrl with
      | none => (none, w)
      | some t => (some (if isNull t then .null else .value (payWord t.data 0).toNat, some t.seq), w)

/-- The control is used up: its token is popped, and a per-step control stays for the step. -/
def suTakeControl (w : W) (p : Nat) (x : SuEntry) (r : SuRun) (c : SuCtrl) : SuRun × W :=
  if r.ctrl.isSome then (r, w)
  else
    let r := if x.op = 1 ∨ x.op = 2 then { r with ctrl := some c } else r
    if x.csrc = 1 then (r, w)
    else match w.pop p 14 x.ctrl with
      | some (_, w) => (r, w)
      | none => (r, w)

/-- A token forwarded on output slot `s`: its payload, or a null token. -/
def suSend (w : W) (p s : Nat) (t : Packet) : W := w.unitSend p 14 s (if isNull t then 1 else 0) (if isNull t then [] else t.data)

/-- A null token on output slot `s`. -/
def suNull (w : W) (p s : Nat) : W := w.unitSend p 14 s 1 []

/-- The slot is done: the expected tag moves on, and after slot NIN the step ends (R112, R114). -/
def suSlotDone (w : W) (p e : Nat) (x : SuEntry) (r : SuRun) : W :=
  let r := { r with tag := (r.tag + 1) % 2 ^ 16, slot := r.slot + 1 }
  let w := w.count (Reg.SU_FIRINGS p) 1
  if r.slot < x.nin then w.setRun p e r
  else
    let w := if x.op = 3 then
        (List.range (x.nfan + 1)).foldl (fun w i =>
          let miss := x.cap - Tbl.get (fun _ => 0) r.count i
          ((List.range miss).foldl (fun w _ => w.suNull p (x.out + i)) w).count (Reg.SU_NULL_FILL p) miss) w
      else w
    w.setRun p e { tag := r.tag }

/-- The control of the next slot of entry `e` is present (R114). -/
def suHasCtrl (w : W) (p e : Nat) : Bool :=
  let x := w.suEntry p e
  let r := Tbl.get (fun _ => {}) (w.su p).runs e
  r.ctrl.isSome || x.csrc == 1 || (w.head p 14 x.ctrl).isSome

/-- The data inputs entry `e` needs for its next slot: every one of a MERGE, the selected one of a COLLECT. -/
def suNeeds (w : W) (p e : Nat) : List Nat :=
  let x := w.suEntry p e
  let r := Tbl.get (fun _ => {}) (w.su p).runs e
  if x.op = 2 then x.inputs
  else if x.op = 4 then
    match w.suControl p x r with
    | (some (.value v, _), _) => [x.inq + min v x.nfan]
    | _ => [x.inq]
  else [x.inq]

/-- Entry `e` is ready: data and control are both present (R114). -/
def suWilling (w : W) (p e : Nat) : Bool :=
  (w.suEntry p e).op != 0 && w.suHasCtrl p e && (w.suNeeds p e).all fun q => (w.head p 14 q).isSome

/-- Entry `e` is next among the ready ones, going round from the entry that fired last (R115). -/
def suTurn (w : W) (p e : Nat) : Bool :=
  let t := (w.su p).turn
  (List.range ((e + 255 - t) % 256)).all fun i => !w.suWilling p ((t + 1 + i) % 256)

/-- The entry may fire: the unit runs, the entry has the operation, and it is its turn. -/
def suReady (w : W) (p e op : Nat) : Bool :=
  w.flag (Reg.SU_CFG p) ⟨0, 0⟩ && w.agentRuns p 14 && !(w.su p).stopped && (w.suEntry p e).op == op && w.suTurn p e

/-- Entry `e` fires. -/
def suFires (w : W) (p e : Nat) : W := w.setSu p { w.su p with turn := e }

/-- An island cycle in which entry `e` waits for data or control (R174). -/
def suWaits (w : W) (p e : Nat) : W :=
  let x := w.suEntry p e
  let qs := w.suNeeds p e ++ (if x.csrc = 0 ∧ !w.suHasCtrl p e then [x.ctrl] else [])
  qs.foldl (fun w q => w.estall p 14 q) w

/-- The control's own faults (R113, R114): a tag that is not the slot's, a value that names no member, a null control
with data. -/
def suCtrlFault (x : SuEntry) (r : SuRun) (c : SuCtrl) (tag : Option Nat) (nullData : Bool) : Option (Nat × Nat) :=
  match tag with
  | some s => if s ≠ r.tag then some (1, s) else
    match c with
    | .null => if nullData then none else some (4, s)
    | .value v => if nullData ∨ v ≤ x.nfan then none else some (3, s)
  | none =>
    match c with
    | .null => if nullData then none else some (4, r.tag)
    | .value v => if nullData ∨ v ≤ x.nfan then none else some (3, r.tag)

/-- The member a control names. -/
def suMember (x : SuEntry) : SuCtrl → Nat
  | .null => 0
  | .value v => min v x.nfan

/-- One firing of SWITCH or DISTRIBUTE: a token of the data input goes where the control says (R112, R113). -/
def suSpread (w : W) (p e : Nat) (bad : Bool) (f : SuEntry → SuRun → SuCtrl → Packet → W → SuRun × W) : W :=
  let x := w.suEntry p e
  let r := Tbl.get (fun _ => {}) (w.su p).runs e
  match w.head p 14 x.inq, w.suControl p x r with
  | some t, (some (c, tag), w) =>
    let w := w.suFires p e
    if bad ∨ t.poison then w.suFault p e x.inq 6 r.tag t.seq
    else if t.seq ≠ r.tag then w.suFault p e x.inq 1 r.tag t.seq
    else match suCtrlFault x r c tag (isNull t) with
      | some (kind, seen) => w.suFault p e x.inq kind r.tag seen
      | none =>
        let (r, w) := w.suTakeControl p x r c
        match w.pop p 14 x.inq with
        | none => w
        | some (t, w) => let (r, w) := f x r c t w; w.suSlotDone p e x r
  | _, _ => w.suWaits p e

/-- SU_SWITCH: the data token to the selected output, a null token to every other; a null data token leaves a null token
in its slot. -/
def doSuSwitch (w : W) (p e : Nat) (bad : Bool) : W :=
  if w.suReady p e 1 then
    w.suSpread p e bad fun x r c t w =>
      (r, (List.range (x.nfan + 1)).foldl (fun w i =>
        if i = suMember x c then w.suSend p (x.out + i) t else w.suNull p (x.out + i)) w)
  else w

/-- SU_DISTRIBUTE: the token to its output, to OVF when that is full, else dropped (R112). -/
def doSuDistribute (w : W) (p e : Nat) (bad : Bool) : W :=
  if w.suReady p e 3 then
    w.suSpread p e bad fun x r c t w =>
      let cnt := fun i => Tbl.get (fun _ => 0) r.count i
      let add := fun i => { r with count := Tbl.set (fun _ => 0) r.count i (cnt i + 1) }
      let i := suMember x c
      if isNull t then (r, w)
      else if cnt i < x.cap then (add i, w.suSend p (x.out + i) t)
      else if x.ovf ≠ 0xF ∧ cnt x.ovf < x.cap then
        (add x.ovf, (w.count (Reg.SU_OVF p) 1).suSend p (x.out + x.ovf) t)
      else (r, w.count (Reg.SU_DROP p) 1)
  else w

/-- SU_MERGE: one token of every input, the selected one sent, the others discarded (R112). -/
def doSuMerge (w : W) (p e : Nat) (bad : Bool) : W :=
  if !w.suReady p e 2 then w
  else
    let x := w.suEntry p e
    let r := Tbl.get (fun _ => {}) (w.su p).runs e
    let heads := x.inputs.filterMap fun q => (w.head p 14 q).map fun t => (q, t)
    if heads.length ≠ x.nfan + 1 then w.suWaits p e
    else match w.suControl p x r with
      | (none, _) => w.suWaits p e
      | (some (c, tag), w) =>
        let w := w.suFires p e
        let nullData := match heads[suMember x c]? with | some (_, t) => isNull t | none => true
        if bad then w.suFault p e x.inq 6 r.tag r.tag
        else match heads.find? fun (_, t) => t.poison || t.seq != r.tag with
          | some (q, t) => w.suFault p e q (if t.poison then 6 else 1) r.tag t.seq
          | none =>
            match suCtrlFault x r c tag nullData with
            | some (kind, seen) => w.suFault p e (x.inq + suMember x c) kind r.tag seen
            | none =>
              let (r, w) := w.suTakeControl p x r c
              let w := x.inputs.zipIdx.foldl (fun w (q, i) =>
                match w.pop p 14 q with
                | none => w
                | some (t, w) => if i = suMember x c then w.suSend p x.out t else w) w
              w.suSlotDone p e x r

/-- SU_COLLECT: the head of the selected input is popped and sent, null or not (R112, R113). A control that names no
input faults: there is no data token it could go with. -/
def doSuCollect (w : W) (p e : Nat) (bad : Bool) : W :=
  if !w.suReady p e 4 then w
  else
    let x := w.suEntry p e
    let r := Tbl.get (fun _ => {}) (w.su p).runs e
    match w.suControl p x r with
    | (none, _) => w.suWaits p e
    | (some (c, tag), w) =>
      match suCtrlFault x r c tag false with
      | some (kind, seen) => (w.suFires p e).suFault p e (x.inq + suMember x c) kind r.tag seen
      | none =>
        let i := suMember x c
        let q := x.inq + i
        match w.head p 14 q with
        | none => w.suWaits p e
        | some t =>
          let w := w.suFires p e
          if bad ∨ t.poison then w.suFault p e q 6 r.tag t.seq
          else if t.seq ≠ r.tag then w.suFault p e q 1 r.tag t.seq
          else if x.cap ≤ Tbl.get (fun _ => 0) r.count i then w.suFault p e q 5 r.tag t.seq
          else
            let (r, w) := w.suTakeControl p x r c
            match w.pop p 14 (x.inq + i) with
            | none => w
            | some (t, w) =>
              let n := Tbl.get (fun _ => 0) r.count i
              (w.suSend p x.out t).suSlotDone p e x { r with count := Tbl.set (fun _ => 0) r.count i (n + 1) }

/-- SU_WATCHDOG (R114): data or control waits alone for longer than the step watchdog; the data queue named is the one
that waits for its partner, or the empty one. -/
def doSuWatchdog (w : W) (p e : Nat) : W :=
  let x := w.suEntry p e
  let r := Tbl.get (fun _ => {}) (w.su p).runs e
  let data := x.inputs.any fun q => (w.head p 14 q).isSome
  let all := x.inputs.all fun q => (w.head p 14 q).isSome
  let ctrl := (w.suControl p x r).1.isSome
  if x.op = 0 ∨ (w.su p).stopped ∨ ¬ w.flag (Reg.SU_CFG p) ⟨0, 0⟩ ∨ ¬ w.agentRuns p 14 then w
  else if (data && !ctrl) || (ctrl && x.csrc == 0 && !(if x.op = 4 then data else all)) || (data && !all && x.op == 2) then
    let q := ((w.suNeeds p e).find? fun q => (w.head p 14 q).isNone).getD x.inq
    w.suFault p e q 2 r.tag r.tag
  else w

end W

/-- The gallery and the table entry exist. -/
def suOk (p e : Nat) : Bool := galOk p && decide (e < 256)

/-! ### The meanings -/

/-- SU_SWITCH. -/
def execSuSwitch (p e : Nat) (bad : Bool) (s : State) : Host.Outcome State Fault Refusal :=
  runOn (suOk p e) s fun w => w.doSuSwitch p e bad

/-- SU_MERGE. -/
def execSuMerge (p e : Nat) (bad : Bool) (s : State) : Host.Outcome State Fault Refusal :=
  runOn (suOk p e) s fun w => w.doSuMerge p e bad

/-- SU_DISTRIBUTE. -/
def execSuDistribute (p e : Nat) (bad : Bool) (s : State) : Host.Outcome State Fault Refusal :=
  runOn (suOk p e) s fun w => w.doSuDistribute p e bad

/-- SU_COLLECT. -/
def execSuCollect (p e : Nat) (bad : Bool) (s : State) : Host.Outcome State Fault Refusal :=
  runOn (suOk p e) s fun w => w.doSuCollect p e bad

/-- SU_WATCHDOG. -/
def execSuWatchdog (p e : Nat) (s : State) : Host.Outcome State Fault Refusal :=
  runOn (suOk p e) s fun w => w.doSuWatchdog p e

end Sys2Proof.Machine
end

