-- ==== Sys2Proof/Machine/Tokens.lean ====
section
/-! DEFINITION. Tokens and credits as they reach the queue engine of an agent, and its time-outs
(07_channels_and_queues.md R148 to R175). The agent is named by CORE of a TOKEN packet and by RTAG of a CREDIT packet. -/

namespace Sys2Proof.Machine

/-- The agent a TOKEN packet is for (R151). -/
def tokAgent (t : Packet) : Nat := bits t.arg 55 52

/-- CKIND of a CREDIT packet (R154). -/
def ckind (t : Packet) : Nat := bits t.arg 63 60

/-- The agent and send slot a CREDIT packet is for (R151). -/
def credAgent (t : Packet) : Nat := natBits t.rtag 9 6
def credSlot (t : Packet) : Nat := natBits t.rtag 5 0

namespace W

/-- TOKEN_DATA, TOKEN_NULL, TOKEN_CLOSE: the arrival of R152. -/
def tokenArrives (w : W) (p kind : Nat) (t : Packet) : W :=
  if tkind t = kind then w.arrive p (tokAgent t) t else w

/-- TOKEN_CONNECT (R153, R168): answered in the current epoch, held one epoch ahead (16 at most, then refused), drained
otherwise. -/
def doTokenConnect (w : W) (p : Nat) (t : Packet) : W :=
  let a := tokAgent t
  let cur := w.epoch p a
  let g := w.agent p a
  if tkind t ≠ 2 then w
  else if t.epoch = cur then w.answerConnect p a t
  else if t.epoch = (cur + 1) % 16 then
    if g.early.length < 16 then w.setAgent p a { g with early := g.early ++ [t] }
    else w.refuse p a t
  else w.drainFault p a t

/-- Does a ring notice agree with the record it names (R163): offset, TYPE, LEN and SEQ? -/
def ringAgrees (w : W) (p a q : Nat) (t : Packet) (type : Nat) : Bool :=
  let off := bits (payWord t.data 0) 31 0
  let base := w.fld (Reg.Q_RING p a q) F.Q_RING_BASE_4K * 4096
  let hdr := w64 (w.rdNat (galKey p (base + off)) 8)
  off == Tbl.get (fun _ => 0) (w.agent p a).ringCons q && bits hdr 31 24 == type &&
    bits hdr 63 32 == bits (payWord t.data 0) 63 32 && bits hdr 15 0 == t.seq

/-- TOKEN_RING_MSG and TOKEN_RING_PAD (R152, R163): the arrival checks first, then the record; the engine's offset moves
past it. A notice that does not agree is a schedule fault and is not queued (log entry 13). -/
def doRingNotice (w : W) (p kind type : Nat) (t : Packet) : W :=
  let a := tokAgent t
  let g := w.agent p a
  if tkind t ≠ kind then w
  else match (if t.epoch = w.epoch p a then g.lookup t.conn else none) with
    | none => w.arrive p a t
    | some i =>
      let q := (g.conn i).queue
      if t.seq ≠ (g.conn i).expSeq then w.arrive p a t
      else if !w.ringAgrees p a q t type then w.engineFault p a 3
      else
        let size := 2 ^ w.fld (Reg.Q_RING p a q) F.Q_RING_LOG2
        let off := bits (payWord t.data 0) 31 0
        let len := bits (payWord t.data 0) 63 32
        let next := if type = 2 then 0 else (off + 128 * ceilDiv (16 + len) 128) % size
        (w.setAgent p a { g with ringCons := Tbl.set (fun _ => 0) g.ringCons q next }).arrive p a t

/-- TOKEN_RESERVE (R165): a reservation waits at a multicast queue, and takes its slots when they are free. -/
def doTokenReserve (w : W) (p : Nat) (t : Packet) : W :=
  let a := tokAgent t
  let q := bits t.arg 59 56
  if tkind t ≠ 6 then w
  else if t.epoch ≠ w.epoch p a ∨ ¬ w.mcTakes p a q t then w.drainFault p a t
  else
    let g := w.agent p a
    let r : Reserve := { queue := q, slots := bits t.arg 8 0, flight := bits t.arg 30 25, gen := bits t.arg 24 9,
                         held := false, pkt := t }
    let g := { g with reserves := g.reserves ++ [r], mcSrc := Tbl.set (fun _ => none) g.mcSrc q (some (W.mcSource t)) }
    (w.setAgent p a g).grantReserves p a q

/-- RESERVE_TIMEOUT (R165): waiting reservation `k` of the agent answers that it did not reserve. -/
def doReserveTimeout (w : W) (p a k : Nat) : W :=
  let g := w.agent p a
  match g.reserves[k]? with
  | none => w
  | some r =>
    if r.held then w
    else
      let ack : Packet := { typ := 4, srcLand := p, dst := r.pkt.srcLand, exit := r.pkt.srcExit, rtag := r.pkt.rtag,
                            mask := maskOf p, arg := 0 }
      ((w.setAgent p a { g with reserves := g.reserves.eraseIdx k }).emit (.mesh p ack)).emit
        (.contribute p r.flight r.gen 0)

/-! ### Credits -/

/-- A CREDIT packet that the slot does not expect: discarded and counted (R154, R168). -/
def stale (w : W) (p a : Nat) : W := w.count (Reg.Q_STALE p a) 1

/-- CREDIT_RETURN (R155): slots and lines come back; what waited for them goes out. -/
def doCreditReturn (w : W) (p : Nat) (t : Packet) : W :=
  let a := credAgent t
  let s := credSlot t
  let g := w.agent p a
  let x := g.slot s
  if ckind t ≠ 0 then w
  else if t.epoch ≠ w.epoch p a ∨ x.state = 0 ∨ bits t.arg 47 32 ≠ x.conn then w.stale p a
  else
    let x := { x with slots := x.slots + bits t.arg 15 0, lines := x.lines + bits t.arg 31 16 }
    (w.setAgent p a (g.setSlot s x)).flushSlot p a s (x.waitq.length + 1)

/-- GRANT (R153, R157): the slot opens with its credits, CONNECT returns its number, and tokens that waited for the grant go
out; one larger than the whole grant is malformed (R155). -/
def doGrant (w : W) (p : Nat) (t : Packet) : W :=
  let a := credAgent t
  let s := credSlot t
  let g := w.agent p a
  let x := g.slot s
  if ckind t ≠ 1 then w
  else if t.epoch ≠ w.epoch p a ∨ x.state ≠ 1 then w.stale p a
  else
    let (sl, ln) := (bits t.arg 15 0, bits t.arg 31 16)
    let x := { x with state := 2, conn := bits t.arg 47 32, slots := sl, lines := ln, grantSlots := sl, grantLines := ln,
                      seq := 0, ring := decide (ln ≠ 0), prod := 0 }
    let big := x.waitq.any fun o => decide (sl < OutTok.need o)
    let x := { x with waitq := x.waitq.filter fun o => decide (OutTok.need o ≤ sl) }
    let w := (w.setAgent p a (g.setSlot s x)).slotReturn p a (.connect s) s
    (w.when big fun w => w.engineFault p a 4).flushSlot p a s (x.waitq.length + 1)

/-- A CONNECT fails: the slot is free again; a channel-table CONNECT raises a schedule fault (R149, R153, R157). -/
def connectFails (w : W) (p a s : Nat) (v : Int) : W :=
  let g := w.agent p a
  let x := g.slot s
  let w := w.setAgent p a (g.setSlot s {})
  if x.table then w.engineFault p a 6 else w.slotReturn p a (.connect s) v

/-- REFUSE (R153). -/
def doRefuse (w : W) (p : Nat) (t : Packet) : W :=
  let a := credAgent t
  let s := credSlot t
  if ckind t ≠ 2 then w
  else if t.epoch ≠ w.epoch p a ∨ ((w.agent p a).slot s).state ≠ 1 then w.stale p a
  else w.connectFails p a s (-1)

/-- CONNECT_TIMEOUT (R157): no answer within CONN_TMO. -/
def doConnectTimeout (w : W) (p a s : Nat) : W :=
  if ((w.agent p a).slot s).state = 1 then w.connectFails p a s (-3) else w

/-- CLOSE_ACK (R156). -/
def doCloseAck (w : W) (p : Nat) (t : Packet) : W :=
  let a := credAgent t
  let s := credSlot t
  let g := w.agent p a
  let x := g.slot s
  if ckind t ≠ 3 then w
  else if t.epoch ≠ w.epoch p a ∨ x.state ≠ 3 ∨ bits t.arg 47 32 ≠ x.conn then w.stale p a
  else (w.setAgent p a (g.setSlot s {})).slotReturn p a (.close s) 0

/-- CREDIT_BATCH_TIMEOUT (R155): what receive connection `i` has freed goes back. -/
def doCreditBatch (w : W) (p a i : Nat) : W := w.flushCredit p a i

/-! ### Multicast sends (R165 to R167) -/

/-- The send slot that owns multicast slot `m`. -/
def mcOwner (w : W) (p a m : Nat) : Option Nat :=
  (List.range 16).find? fun s => ((w.agent p a).slot s).mc && ((w.agent p a).slot s).mcs == m &&
    ((w.agent p a).slot s).state == 2

/-- The multicast send ends: SEND returns the late and pruned counts; the SEQ moves on when nobody is late. -/
def mcDone (w : W) (p a m : Nat) : W :=
  let g := w.agent p a
  let c := g.mcSlot m
  match w.mcOwner p a m with
  | none => w
  | some s =>
    let x := g.slot s
    let x := if c.late = 0 then { x with seq := (x.seq + 1) % 2 ^ 16 } else x
    let w := w.setAgent p a ((g.setMcSlot m { c with phase := 3 }).setSlot s x)
    w.slotReturn p a (.mcast s) ((popCount 320 c.late.toNat % 2 ^ 16 * 2 ^ 16 + popCount 320 c.pruned.toNat % 2 ^ 16 : Nat))

/-- The data phase is over when every reserved target has answered (R134, R166). -/
def mcCheck (w : W) (p a m : Nat) : W :=
  let c := (w.agent p a).mcSlot m
  if c.phase = 2 ∧ c.reserved &&& ~~~(c.acked ||| c.pruned) = 0 then w.mcDone p a m else w

/-- MC_DATA_SEND (R165, R166): with the release and every answer in, the data goes to the reserved targets. -/
def doMcDataSend (w : W) (p a m : Nat) : W :=
  let g := w.agent p a
  let c := g.mcSlot m
  match w.mcOwner p a m with
  | none => w
  | some s =>
    if c.phase = 1 ∧ c.released ∧ (c.acked ||| c.pruned) &&& c.target = c.target then
      let x := g.slot s
      let late := c.target &&& ~~~(c.reserved ||| c.pruned)
      let c := { c with late := late, phase := 2, acked := 0, gen := (c.gen + 1) % 2 ^ 16 }
      let w := w.setAgent p a (g.setMcSlot m c)
      if c.reserved = 0 then w.mcDone p a m
      else
        let t := { w.tokenPacket p a s c.kind x.name 0xFFFE x.seq x.raw 0 c.data with
          mc := true, mask := c.reserved, nbody := if c.data.length ≤ 56 then 0 else ceilDiv c.data.length 128 }
        ((w.emit (.mesh p t)).count (Reg.CH_MSGS p a s) 1).count (Reg.CH_BYTES p a s) c.data.length
    else w

/-- An answer to a multicast token of agent `a`, slot `s`: targets that acknowledged, reserved or not, or were pruned. -/
def mcAnswer (w : W) (p a s : Nat) (m : Mask) (pruned reserved : Bool) : W :=
  let g := w.agent p a
  let x := g.slot s
  if x.mc ∧ x.state = 2 then
    let c := g.mcSlot x.mcs
    if c.phase = 1 ∨ c.phase = 2 then
      let c := if pruned then { c with pruned := c.pruned ||| m }
        else { c with acked := c.acked ||| m,
                      reserved := if c.phase = 1 ∧ reserved then c.reserved ||| m else c.reserved }
      (w.setAgent p a (g.setMcSlot x.mcs c)).mcCheck p a x.mcs
    else w
  else w

/-! ### The watchdog, clears -/

/-- The fullest own queue, the lowest of equals, and the connection of its head token (R172, R175): the token presented
next, or while the rotation waits for another connection the oldest. -/
def fullest (w : W) (p a : Nat) : Nat × Nat :=
  let g := w.agent p a
  let q := (List.range 16).foldl (fun b q => if g.used b < g.used q then q else b) 0
  (q, match (w.head p a q).or (g.queue q).head? with | some t => t.conn | none => 0xFFFF)

/-- The program counter of an agent (R353): 0 for one without. -/
def agentPc (w : W) (p a : Nat) : Nat :=
  if 8 ≤ a ∧ a < 12 then (w.reg (Reg.VC_PC p (a - 8))).toNat
  else if a = 12 ∨ a = 13 then (w.reg (Reg.SC_PC p (a - 12))).toNat else 0

/-- SEND_STALL_WATCHDOG (R172): a slot that waits on credit is hung, and the first trip is recorded. -/
def doStallWatchdog (w : W) (p a s : Nat) : W :=
  let g := w.agent p a
  let x := g.slot s
  if x.state ≠ 2 ∨ ¬ (x.waiting ∨ x.waitq ≠ []) then w
  else
    let w := w.setAgent p a (g.setSlot s { x with state := 4 })
    let (q, c) := w.fullest p a
    let k := Reg.Q_HANG_INFO p a
    let w := w.when (!w.flag k F.Q_HANG_INFO_VALID) fun w =>
      (w.setReg k (w64 (x.conn % 2 ^ 16 * 2 ^ 48 + s % 64 * 2 ^ 42 + q * 2 ^ 38 + c % 2 ^ 16 * 2 ^ 22 + 2 ^ 21))).setReg
        (Reg.Q_HANG_TGT p a) x.name
    w.raiseHang p { cls := 7, kind := 1, agent := some a, pc := w.agentPc p a, connA := x.conn, slotA := s, queueB := q,
                    connB := c, info := w.reg k, aux := w.reg (Reg.Q_HANG_TGT p a) }

/-- Q_DRAIN_CLEAR (R169). -/
def doDrainClear (w : W) (p a : Nat) : W := w.setAgent p a { w.agent p a with drain := [] }

/-- Q_CNT_CLR (R175): the counters of a queue, of a send slot, or one agent counter. -/
def doQCntClr (w : W) (p a : Nat) (v : Word) : W :=
  let n := bits v 5 0
  let ks := match bits v 17 16 with
    | 0 => if n < 16 then [Reg.Q_MSGS p a n, Reg.Q_BYTES p a n, Reg.Q_ESTALL p a n] else []
    | 1 => [Reg.CH_MSGS p a n, Reg.CH_BYTES p a n, Reg.CH_CSTALL p a n]
    | 2 => if n < 5 then [Reg.Q_ND_ORDER p a + 8 * n] else []
    | _ => []
  ks.foldl (fun w k => w.setReg k 0) w

end W

/-! ### The meanings -/

/-- TOKEN_DATA. -/
def execTokenData (p : Nat) (t : Packet) (s : State) : Host.Outcome State Fault Refusal :=
  runOn (galOk p) s fun w => w.tokenArrives p 0 t

/-- TOKEN_NULL. -/
def execTokenNull (p : Nat) (t : Packet) (s : State) : Host.Outcome State Fault Refusal :=
  runOn (galOk p) s fun w => w.tokenArrives p 1 t

/-- TOKEN_CONNECT. -/
def execTokenConnect (p : Nat) (t : Packet) (s : State) : Host.Outcome State Fault Refusal :=
  runOn (galOk p) s fun w => w.doTokenConnect p t

/-- TOKEN_CLOSE. -/
def execTokenClose (p : Nat) (t : Packet) (s : State) : Host.Outcome State Fault Refusal :=
  runOn (galOk p) s fun w => w.tokenArrives p 3 t

/-- TOKEN_RING_MSG. -/
def execTokenRingMsg (p : Nat) (t : Packet) (s : State) : Host.Outcome State Fault Refusal :=
  runOn (galOk p) s fun w => w.doRingNotice p 4 1 t

/-- TOKEN_RING_PAD. -/
def execTokenRingPad (p : Nat) (t : Packet) (s : State) : Host.Outcome State Fault Refusal :=
  runOn (galOk p) s fun w => w.doRingNotice p 5 2 t

/-- TOKEN_RESERVE. -/
def execTokenReserve (p : Nat) (t : Packet) (s : State) : Host.Outcome State Fault Refusal :=
  runOn (galOk p) s fun w => w.doTokenReserve p t

/-- CREDIT_RETURN. -/
def execCreditReturn (p : Nat) (t : Packet) (s : State) : Host.Outcome State Fault Refusal :=
  runOn (galOk p) s fun w => w.doCreditReturn p t

/-- GRANT. -/
def execGrant (p : Nat) (t : Packet) (s : State) : Host.Outcome State Fault Refusal :=
  runOn (galOk p) s fun w => w.doGrant p t

/-- REFUSE. -/
def execRefuse (p : Nat) (t : Packet) (s : State) : Host.Outcome State Fault Refusal :=
  runOn (galOk p) s fun w => w.doRefuse p t

/-- CLOSE_ACK. -/
def execCloseAck (p : Nat) (t : Packet) (s : State) : Host.Outcome State Fault Refusal :=
  runOn (galOk p) s fun w => w.doCloseAck p t

/-- CREDIT_BATCH_TIMEOUT. -/
def execCreditBatchTimeout (p a i : Nat) (s : State) : Host.Outcome State Fault Refusal :=
  runOn (agentOk p a) s fun w => w.doCreditBatch p a i

/-- CONNECT_TIMEOUT. -/
def execConnectTimeout (p a slot : Nat) (s : State) : Host.Outcome State Fault Refusal :=
  runOn (agentOk p a) s fun w => w.doConnectTimeout p a slot

/-- MC_DATA_SEND. -/
def execMcDataSend (p a m : Nat) (s : State) : Host.Outcome State Fault Refusal :=
  runOn (agentOk p a) s fun w => w.doMcDataSend p a m

/-- RESERVE_TIMEOUT. -/
def execReserveTimeout (p a k : Nat) (s : State) : Host.Outcome State Fault Refusal :=
  runOn (agentOk p a) s fun w => w.doReserveTimeout p a k

/-- SEND_STALL_WATCHDOG. -/
def execSendStallWatchdog (p a slot : Nat) (s : State) : Host.Outcome State Fault Refusal :=
  runOn (agentOk p a) s fun w => w.doStallWatchdog p a slot

/-- Q_DRAIN_CLEAR. -/
def execQDrainClear (p a : Nat) (s : State) : Host.Outcome State Fault Refusal :=
  runOn (agentOk p a) s fun w => w.doDrainClear p a

/-- Q_CNT_CLR. -/
def execQCntClr (p a : Nat) (v : Word) (s : State) : Host.Outcome State Fault Refusal :=
  runOn (agentOk p a) s fun w => w.doQCntClr p a v

end Sys2Proof.Machine
end

