-- ==== Sys2Proof/Machine/Vector.lean ====
section
/-! DEFINITION. The vector core (04_vector_and_scalar_cores.md R74 to R85, R90, R92): kernels, instructions, the
residue-3 and parity failures. A vector instruction command carries out the instruction at VC_PC when it is that
instruction (log entry 10). -/

namespace Sys2Proof.Machine

/-- Vector core `n` of gallery `p` exists. -/
def vcOk (p n : Nat) : Bool := galOk p && decide (n < 4)

/-! ### Registers and elements -/

namespace VCore

/-- Vector register. -/
def vreg (c : VCore) (i : Nat) : VReg := Tbl.get (fun _ => 0) c.v i
def setV (c : VCore) (i : Nat) (x : VReg) : VCore := { c with v := Tbl.set (fun _ => 0) c.v i x }
/-- Mask register; m0 reads as all-ones (R74). -/
def mreg (c : VCore) (i : Nat) : MReg := if i = 0 then BitVec.allOnes 128 else Tbl.get (fun _ => 0) c.m i
/-- Mask register written; a write to m0 is ignored. -/
def setM (c : VCore) (i : Nat) (x : MReg) : VCore :=
  if i = 0 then c else { c with m := Tbl.set (fun _ => 0) c.m i x }
/-- Index register; x0 reads as zero (R74). -/
def xreg (c : VCore) (i : Nat) : Word := if i = 0 then 0 else Tbl.get (fun _ => 0) c.x i
/-- Index register written; a write to x0 is ignored. -/
def setX (c : VCore) (i : Nat) (x : Word) : VCore :=
  if i = 0 then c else { c with x := Tbl.set (fun _ => 0) c.x i x }

end VCore

/-- Element `i` of width `wd` of a register (R74). -/
def elem (wd : Nat) (r : VReg) (i : Nat) : Nat := (r.toNat >>> (wd * i)) % 2 ^ wd

/-- The elements of a register. -/
def elems (wd : Nat) (r : VReg) : List Nat := (List.range (4096 / wd)).map (elem wd r)

/-- The register that holds these elements from element 0 on, the rest zero. -/
def packElems (wd : Nat) (es : List Nat) : VReg :=
  BitVec.ofNat 4096 (es.foldr (fun e acc => e % 2 ^ wd + acc * 2 ^ wd) 0)

/-- The lanes that hold element `i` (R74). -/
def lanesOf (wd i : Nat) : List Nat := if wd = 64 then [2 * i, 2 * i + 1] else [wd * i / 32]

/-- Is an element in an active lane? -/
def active (m : MReg) (wd i : Nat) : Bool := (lanesOf wd i).any fun k => m.toNat.testBit k

/-- A mask of lanes widened to the bits of a register. -/
def laneMask (m : MReg) : Nat :=
  (setBitsBelow 128 m.toNat).foldl (fun a k => a + (2 ^ 32 - 1) * 2 ^ (32 * k)) 0

/-- The destination after a masked write: a lane whose bit is 0 keeps its old value (R77). -/
def mergeLanes (m : MReg) (old new : VReg) : VReg :=
  if m = BitVec.allOnes 128 then new
  else
    let k : VReg := BitVec.ofNat 4096 (laneMask m)
    (new &&& k) ||| (old &&& ~~~k)

/-- The bytes of a register, lane 0 first. -/
def vregBytes (r : VReg) : List Byte := leBytes 512 r.toNat

/-- The register that holds these bytes. -/
def vregOf (bs : List Byte) : VReg := BitVec.ofNat 4096 (leNat (bs.take 512))

/-! ### Instruction fields (R77) -/

/-- A vector instruction word. -/
structure VIns where
  op : Nat
  vd : Nat
  va : Nat
  vb : Nat
  vc : Nat
  mask : Nat
  fmt : Nat
  round : Nat
  ext : Nat

/-- The fields of R77. -/
def VIns.of (x : Word) : VIns :=
  { op := bits x 63 56, vd := bits x 55 51, va := bits x 50 46, vb := bits x 45 41, vc := bits x 40 36,
    mask := bits x 35 33, fmt := bits x 32 25, round := bits x 24 23, ext := bits x 22 0 }

/-- A field of EXT. -/
def VIns.ex (i : VIns) (hi lo : Nat) : Nat := natBits i.ext hi lo

/-- The opcodes of R78. -/
def vOpKnown (op : Nat) : Bool :=
  op ∈ ([0x01, 0x02, 0x03, 0x04, 0x05, 0x06, 0x07, 0x08, 0x09, 0x0A, 0x0B, 0x0C, 0x0D, 0x0E, 0x10, 0x11, 0x12, 0x13,
    0x14, 0x18, 0x19, 0x1A, 0x1B, 0x1C, 0x20, 0x21, 0x22, 0x28, 0x29, 0x3F] : List Nat)

/-- The conversions of the table of R42: is the pair in it? -/
def cvtPair (src dst : Fmt) : Bool :=
  match src, dst with
  | .bf16, .fp32 | .bf16, .fp64 | .fp16, .fp32 | .fp16, .fp64 | .fp32, .fp64 | .fp64, .fp32 => true
  | .fp32, .bf16 | .fp32, .fp16 | .fp64, .bf16 | .fp64, .fp16 | .bf16, .fp16 | .fp16, .bf16 => true
  | .int8, .int32 | .int8, .fp32 | .int8, .fp64 | .int32, .fp32 | .int32, .fp64 | .int32, .int8 => true
  | _, _ =>
    (src.isFp && dst.isMx) || (src.isMx && dst.isMx && src != dst)
      || (src.isMx && (dst == .fp32 || dst == .bf16 || dst == .fp16))
      || ((src.isFp || src.isMx) && dst.isInt)

/-- A destination that stochastic rounding may write (R38). -/
def srDest (f : Fmt) : Bool := f == .bf16 || f == .fp16 || f.isMx

/-- Is an instruction well formed as far as its opcode, formats and ROUND say (R76, R78)? FMT is not looked at where the
Formats column of R78 is a dash (DESIGN CHOICE, log entry 23). -/
def vInsOk (i : VIns) : Bool :=
  let f := Fmt.ofCode i.fmt
  let fp := f.any Fmt.isFp
  let int := f.any Fmt.isInt
  let int32 := f == some .int32
  let fp32' := f == some .fp32
  let fmtOk :=
    match i.op with
    | 0x01 => fp || int32
    | 0x02 | 0x04 | 0x05 | 0x06 | 0x07 => fp || int
    | 0x03 => fp || int32
    | 0x08 | 0x18 | 0x19 | 0x1A | 0x1B => f.isSome
    | 0x09 => match Fmt.ofCode (i.ex 7 0), f with
      | some s, some d => cvtPair s d
      | _, _ => false
    | 0x0A | 0x0B => fp32' || int32
    | 0x0C | 0x0D | 0x0E => fp
    | 0x10 | 0x11 | 0x12 | 0x13 | 0x14 => int
    | _ => true
  let rndOk := i.round == 0 || (i.round == 1 && i.op == 0x09 && f.any srDest)
  vOpKnown i.op && fmtOk && rndOk

/-! ### Arithmetic on elements -/

/-- A result code with its events. -/
abbrev Res := Nat × Ev

/-- A rounded floating-point result made from operands: NANGEN and OVF (R48, R49). -/
def fpRes (f : Fmt) (ins : List FV) (v : FV) : Res :=
  let r := f.encodeIeee .rne v
  (r.1, { nangen := (nanMade ins v).toNat, ovf := r.2.toNat })

/-- a × b + c rounded once (R48); NaN from infinity × 0 or opposite infinities counts NANGEN. -/
def fmaRes (f : Fmt) (a b c : Nat) : Res :=
  let x := f.decode a
  let y := f.decode b
  let z := f.decode c
  fpRes f [x, y, z] ((x.mul y).add z)

/-- Sum (R78). -/
def addRes (f : Fmt) (a b : Nat) : Res :=
  if f.isInt then ((a + b) % 2 ^ f.width, {})
  else fpRes f [f.decode a, f.decode b] ((f.decode a).add (f.decode b))

/-- Difference (R78). -/
def subRes (f : Fmt) (a b : Nat) : Res :=
  if f.isInt then ((a + 2 ^ f.width - b % 2 ^ f.width) % 2 ^ f.width, {})
  else fpRes f [f.decode a, f.decode b] ((f.decode a).add (f.decode b).negate)

/-- Product (R78). -/
def mulRes (f : Fmt) (a b : Nat) : Res :=
  if f.isInt then (a * b % 2 ^ f.width, {})
  else fpRes f [f.decode a, f.decode b] ((f.decode a).mul (f.decode b))

/-- Fused multiply-add (R78). -/
def vfmaRes (f : Fmt) (a b c : Nat) : Res :=
  if f.isInt then ((a * b + c) % 2 ^ f.width, {}) else fmaRes f a b c

/-- The order of non-NaN values with −0 below +0 (R78 VMIN, VMAX), as a sign-magnitude code. -/
def fpKey (f : Fmt) (c : Nat) : Int :=
  let mag : Int := (c % 2 ^ (f.width - 1) : Nat)
  if c.testBit (f.width - 1) then -mag - 1 else mag

/-- a < b in the order of VMIN and VMAX. -/
def below (f : Fmt) (a b : Nat) : Bool :=
  if f.isInt then decide (signed f.width a < signed f.width b) else decide (fpKey f a < fpKey f b)

/-- Minimum: the canonical NaN when either operand is NaN. -/
def minRes (f : Fmt) (a b : Nat) : Nat :=
  if f.isFp ∧ (f.decode a = .nan ∨ f.decode b = .nan) then f.canonNan else if below f b a then b else a

/-- Maximum. -/
def maxRes (f : Fmt) (a b : Nat) : Nat :=
  if f.isFp ∧ (f.decode a = .nan ∨ f.decode b = .nan) then f.canonNan else if below f a b then b else a

/-- Comparison (R78): 0 EQ, 1 NE, 2 LT, 3 LE; +0 equals −0; NaN compares false except under NE. -/
def cmpRes (f : Fmt) (op a b : Nat) : Bool :=
  let nan := f.isFp && (f.decode a == .nan || f.decode b == .nan)
  let zeros := f.isFp && (f.decode a).isZero && (f.decode b).isZero
  let eq := !nan && (zeros || a == b)
  let lt := !nan && !zeros && below f a b
  match op with
  | 0 => eq
  | 1 => nan || !eq
  | 2 => lt
  | _ => lt || eq

/-- x × 2^n rounded to nearest (R78 VSCALE). -/
def scaleRes (f : Fmt) (a n : Nat) : Res := fpRes f [f.decode a] ((f.decode a).scale (signed 32 n))

/-- The unbiased exponent (R78 VGETEXP). -/
def getExp (f : Fmt) (a : Nat) : Nat :=
  let v := f.decode a
  if v.nonfinite then 2 ^ (f.width - 1) - 1
  else match v.exponent with
    | none => 2 ^ (f.width - 1)
    | some e => unsigned f.width e

/-- The magnitude scaled to [1, 2), with the sign (R78 VGETMANT). -/
def getMant (f : Fmt) (a : Nat) : Nat :=
  match f.decode a with
  | .fin s m _ =>
    if m = 0 then a else (f.encodeIeee .rne (.fin s m (-(Nat.log2 m : Int)))).1
  | _ => f.canonNan

/-- VGETMANT of an element: the canonical NaN made from an infinity is a NaN created from a non-NaN operand (R49). -/
def getMantRes (f : Fmt) (a : Nat) : Res :=
  (getMant f a, { nangen := match f.decode a with | .inf _ => 1 | _ => 0 })

/-- The shift count of an element: modulo the width (R78). -/
def shlRes (wd a b : Nat) : Nat := (a <<< (b % wd)) % 2 ^ wd
def shrRes (wd a b : Nat) : Nat := a >>> (b % wd)

/-- One level of the lane tree: adjacent pairs combined (R79). -/
def treeLevel (op : Nat → Nat → Res) (x : List Nat × Ev) : List Nat × Ev :=
  let rs := (List.range (x.1.length / 2)).map fun i => op (x.1.getD (2 * i) 0) (x.1.getD (2 * i + 1) 0)
  (rs.map (·.1), rs.foldl (fun e r => e.add r.2) x.2)

/-- The fixed tree of R79 over 128 lanes. -/
def laneTree (op : Nat → Nat → Res) (xs : List Nat) : Res :=
  let r := (List.range 7).foldl (fun x _ => treeLevel op x) (xs, {})
  (r.1.getD 0 0, r.2)

/-! ### Conversion (R34 to R42, R78 VCVT) -/

/-- The rounding of output element `i` (R40). -/
def cvtDraw (sr : Bool) (key : Word) (stream c0 i : Nat) : Rnd :=
  if sr then
    let y := ycg key stream ((c0 + i / 2) % 2 ^ 32)
    .sr (if i % 2 = 0 then bits y 23 0 else bits y 55 32)
  else .rne

/-- The source elements of a conversion as exact values: an MX source has 128, its scales in lane 127 (R78). -/
def cvtSource (f : Fmt) (r : VReg) : List FV :=
  if f.isMx then
    (List.range 128).map fun i => f.decodeScaled ((r.toNat >>> (4064 + 8 * (i / 32))) % 256) (f.elemAt r.toNat i)
  else (elems f.width r).map f.decode

/-- A value converted to a plain format (R42). -/
def cvtPlain (dst : Fmt) (rnd : Rnd) (v : FV) : Res :=
  if dst.isInt then encodeInt dst.width v
  else
    let r := dst.encodeIeee rnd v
    (r.1, { ovf := r.2.toNat })

/-- The value an MX destination is made from: FP64 and MX sources go through FP32 with IEEE overflow (R34, R42). -/
def cvtViaFp32 (src : Fmt) (v : FV) : FV × Ev :=
  if src = .fp64 ∨ src.isMx then
    let r := rneFp32 v
    (fp32 r.1, { ovf := r.2.toNat })
  else (v, {})

/-- A conversion into an MX format: 128 source elements in four blocks, or 64 in two for FP64; the packed elements from
lane 0, the scales in lane 127, all else zero (R78). The events of an element count where its lane is active, those of a
block where lane 127 is; for a 6-bit element that straddles two lanes the lane of its lowest bit decides (DESIGN CHOICE,
log entry 49). -/
def cvtToMx (src dst : Fmt) (draw : Nat → Rnd) (m : MReg) (r : VReg) : VReg × Ev :=
  let n := if src = .fp64 then 64 else 128
  let vs := ((cvtSource src r).take n).map (cvtViaFp32 src)
  let blocks := (List.range (n / 32)).map fun b =>
    dst.encodeBlock (fun i => draw (32 * b + i)) (((vs.drop (32 * b)).take 32).map (·.1))
  let packed := blocks.zipIdx.foldl (fun a (x, b) => a + dst.pack x.1 * 2 ^ (32 * dst.width * b)) 0
  let scales := blocks.zipIdx.foldl (fun a (x, b) => a + x.2.1 * 2 ^ (8 * b)) 0
  let ev := (vs.zipIdx.filter fun (_, i) => m.toNat.testBit (dst.width * i / 32)).foldl (fun (e : Ev) x => e.add x.1.2) {}
  let ev := if m.toNat.testBit 127 then
      ev.add { nonfinite := (blocks.map fun x => x.2.2.nonfinite).sum }
    else ev
  let sat := (List.range n).foldl (fun a i =>
    if m.toNat.testBit (dst.width * i / 32) then
      let b := blocks.getD (i / 32) ([], 0, {})
      let v := (vs.getD i (.nan, {})).1
      match v with
      | .fin s mm e =>
        if b.2.1 = 0xFF then a else a + (dst.encodeElem (draw i) s mm (e - ((b.2.1 : Int) - 127))).2.sat
      | _ => a
    else a) 0
  (BitVec.ofNat 4096 (packed + scales * 2 ^ 4064), ev.add { sat := sat })

/-- A conversion into a plain format: element i to element i up to the smaller count, zero above (R78). -/
def cvtToPlain (src dst : Fmt) (draw : Nat → Rnd) (m : MReg) (r : VReg) : VReg × Ev :=
  let n := min (if src.isMx then 128 else 4096 / src.width) (4096 / dst.width)
  let rs := ((cvtSource src r).take n).zipIdx.map fun (v, i) => cvtPlain dst (draw i) v
  (packElems dst.width (rs.map (·.1)),
    (rs.zipIdx.filter fun (_, i) => active m dst.width i).foldl (fun (e : Ev) x => e.add x.1.2) {})

namespace W

/-! ### Faults of the core -/

/-- A malformed command or instruction (R76). -/
def vcMalformed (w : W) (p n : Nat) : W :=
  let (info, w) := w.vcInfo p n 0x7F 5
  let b : RecBody := { cls := 0x02, kind := 5, agent := some (8 + n), tag := (w.vc p n).tag, pc := w.vpc p n, info := info }
  (w.vcHalt p n (some F.VC_STATUS_CMD_FAULT)).raiseSched p b

/-- The event counters of the core (R49). -/
def vcEvents (w : W) (p n : Nat) (e : Ev) : W :=
  (((w.count (Reg.VC_EVT_NANGEN p n) e.nangen).count (Reg.VC_EVT_OVF p n) e.ovf).count (Reg.VC_EVT_SAT p n)
    e.sat).count (Reg.VC_EVT_NONFINITE_BLOCK p n) e.nonfinite

/-- An armed injection of target `t` makes its flip and is disarmed (R92). -/
def vcArmed (w : W) (p n t : Nat) : Bool :=
  w.flag (Reg.VC_INJECT p n) F.VC_INJECT_ARM && w.fld (Reg.VC_INJECT p n) F.VC_INJECT_TARGET == t

/-- The flip of the armed injection is made. -/
def vcDisarm (w : W) (p n : Nat) : W := w.setFlag (Reg.VC_INJECT p n) F.VC_INJECT_ARM false

/-- A read of local memory by the core meets a parity error: one stored in these `len` bytes at `a`, the upset of this
instruction, or the flip of an armed injection, which is then disarmed (R84, R92). -/
def vcMemBad (w : W) (p n a len : Nat) (u : CoreUpset) : Bool × W :=
  if w.vcArmed p n 2 then (true, w.vcDisarm p n)
  else (decide (u = .memParity) || (w.badRun (galKey p (vcBuf n + a)) len).isSome, w)

/-- The instruction reads a register at all, and a vector register (R78). The mask register of a QRECV is read. -/
def vcReads (i : VIns) : Bool := i.op != 0x22 && i.op != 0x3F
def vcReadsLanes (i : VIns) : Bool := vcReads i && !([0x18, 0x1A, 0x1C, 0x20, 0x21, 0x28] : List Nat).contains i.op

/-- What goes wrong in a well-formed instruction as it is carried out (R83, R84, R92): a product of an active lane, or a
register read; the upset of this instruction, or the flip of an armed injection, which is then disarmed. The lane, 0x7F
where no vector register is read, and the KIND. -/
def vcTrouble (w : W) (p n : Nat) (i : VIns) (m : MReg) (u : CoreUpset) : Option (Nat × Nat) × W :=
  let multiplies := i.op == 0x01 || i.op == 0x03
  let lane := w.fld (Reg.VC_INJECT p n) F.VC_INJECT_LANE
  let regLane := fun (l : Nat) => if vcReadsLanes i then l % 128 else 0x7F
  if w.vcArmed p n 0 ∧ multiplies ∧ m.toNat.testBit lane then (some (lane, 1), w.vcDisarm p n)
  else if w.vcArmed p n 1 ∧ vcReads i then (some (regLane lane, 2), w.vcDisarm p n)
  else match u with
    | .product l _ => if multiplies ∧ l < 128 ∧ m.toNat.testBit l then (some (l, 1), w) else (none, w)
    | .regParity l => if vcReads i then (some (regLane l, 2), w) else (none, w)
    | _ => (none, w)

/-- The next instruction: VC_PC moves on by 8. -/
def vcNext (w : W) (p n : Nat) : W :=
  (w.setReg (Reg.VC_PC p n) (w64 (w.vpc p n + 8))).setFlag (Reg.VC_STATUS p n) F.VC_STATUS_QWAIT false

/-- One vector instruction (R75 to R77, R80, R84): the instruction at VC_PC, when the core runs and it is the one named
`op`, is checked and carried out by `f`: the parity of the fetched word first, then its form, then what it reads and
multiplies. An instruction that is malformed, whatever it is, faults. -/
def vcInstr (w : W) (p n op : Nat) (u : CoreUpset) (f : VIns → MReg → W → W) : W :=
  let c := w.vc p n
  if !c.running || c.wait != .run || w.vcHalted p n || !w.agentRuns p (8 + n) then w
  else
    let pc := w.vpc p n
    if 2 ^ 17 < pc + 8 then w.vcMalformed p n
    else
      let i := VIns.of (w64 (w.rdNat (galKey p (vcBuf n + pc)) 8))
      if i.op ≠ op ∧ vOpKnown i.op then w
      else
        let m := c.mreg i.mask
        match w.vcMemBad p n pc 8 u with
        | (true, w) => w.vcFail p n 0x7F 3
        | (false, w) =>
          if vInsOk i then
            match w.vcTrouble p n i m u with
            | (some (lane, kind), w) => w.vcFail p n lane kind
            | (none, w) =>
              f i m (w.count (Reg.VC_BUSY_CYCLES p n)
                (if m ≠ 0 ∧ (i.fmt = 0x01 ∨ (i.op = 0x09 ∧ i.ex 7 0 = 0x01)) then 2 else 1))
          else w.vcMalformed p n

/-- VD takes a result under the mask, and the next instruction follows. -/
def vcWrite (w : W) (p n vd : Nat) (m : MReg) (new : VReg) : W :=
  let c := w.vc p n
  (w.setVc p n (c.setV vd (mergeLanes m (c.vreg vd) new))).vcNext p n

/-- An elementwise instruction in the format FMT: the results of the elements in active lanes, their events counted. -/
def vcMap (w : W) (p n : Nat) (i : VIns) (m : MReg) (f : Fmt → Nat → Res) : W :=
  match Fmt.ofCode i.fmt with
  | none => w
  | some fm =>
    let rs := (List.range (4096 / fm.width)).map fun k => if active m fm.width k then f fm k else (0, {})
    (w.vcEvents p n (rs.foldl (fun e r => e.add r.2) {})).vcWrite p n i.vd m (packElems fm.width (rs.map (·.1)))

/-- A two-operand elementwise instruction. -/
def vcMap2 (w : W) (p n : Nat) (i : VIns) (m : MReg) (f : Fmt → Nat → Nat → Res) : W :=
  let c := w.vc p n
  w.vcMap p n i m fun fm k => f fm (elem fm.width (c.vreg i.va) k) (elem fm.width (c.vreg i.vb) k)

/-- VFMA. -/
def doVfma (w : W) (p n : Nat) (i : VIns) (m : MReg) : W :=
  let c := w.vc p n
  w.vcMap p n i m fun fm k =>
    vfmaRes fm (elem fm.width (c.vreg i.va) k) (elem fm.width (c.vreg i.vb) k) (elem fm.width (c.vreg i.vc) k)

/-- VCMP: the bit of a lane is set when every element it holds compares true; the bits of inactive lanes stay. -/
def doVcmp (w : W) (p n : Nat) (i : VIns) (m : MReg) : W :=
  match Fmt.ofCode i.fmt with
  | none => w
  | some fm =>
    let c := w.vc p n
    let per := 32 / fm.width
    let t := fun k => cmpRes fm (i.ex 1 0) (elem fm.width (c.vreg i.va) k) (elem fm.width (c.vreg i.vb) k)
    let lane := fun l => if fm.width = 64 then t (l / 2) else (List.range per).all fun b => t (per * l + b)
    let new := (List.range 128).foldl (fun a l => if lane l then a + 2 ^ l else a) 0
    let d := i.vd % 8
    let old := c.mreg d
    (w.setVc p n (c.setM d ((BitVec.ofNat 128 new &&& m) ||| (old &&& ~~~m)))).vcNext p n

/-- VSEL: lane by lane under mask EXT[2:0]. -/
def doVsel (w : W) (p n : Nat) (i : VIns) (m : MReg) : W :=
  let c := w.vc p n
  w.vcWrite p n i.vd m (mergeLanes (c.mreg (i.ex 2 0)) (c.vreg i.vb) (c.vreg i.va))

/-- VCVT (R42, R78). -/
def doVcvt (w : W) (p n : Nat) (i : VIns) (m : MReg) : W :=
  match Fmt.ofCode (i.ex 7 0), Fmt.ofCode i.fmt with
  | some src, some dst =>
    let c := w.vc p n
    let st := c.xreg (i.ex 18 15)
    let draw := cvtDraw (i.round == 1) (c.xreg (i.ex 22 19)) (bits st 63 32) (bits st 31 0)
    let (r, ev) := if dst.isMx then cvtToMx src dst draw m (c.vreg i.va) else cvtToPlain src dst draw m (c.vreg i.va)
    (w.vcEvents p n ev).vcWrite p n i.vd m r
  | _, _ => w

/-- VREDSUM and VREDMAX (R79): masked-off lanes enter as the identity; lane 0 takes the result and lanes 1 to 127 become
zero. An all-zero mask drives no lane (R80). -/
def doVred (w : W) (p n : Nat) (i : VIns) (m : MReg) (op : Fmt → Nat → Nat → Res) (idFp idInt : Nat) : W :=
  match Fmt.ofCode i.fmt with
  | none => w
  | some fm =>
    if m = 0 then w.vcNext p n
    else
      let c := w.vc p n
      let ident := if fm = .fp32 then idFp else idInt
      let xs := (List.range 128).map fun l => if m.toNat.testBit l then elem 32 (c.vreg i.va) l else ident
      let r := laneTree (op fm) xs
      ((w.vcEvents p n r.2).setVc p n (c.setV i.vd (packElems 32 [r.1]))).vcNext p n

/-- The VB lane that scales element `k` (R78 VSCALE). -/
def scaleLane (wd k : Nat) : Nat := (lanesOf wd k).headD 0

/-- VSCALE. -/
def doVscale (w : W) (p n : Nat) (i : VIns) (m : MReg) : W :=
  let c := w.vc p n
  w.vcMap p n i m fun fm k => scaleRes fm (elem fm.width (c.vreg i.va) k) (elem 32 (c.vreg i.vb) (scaleLane fm.width k))

/-- The address of a vector load or store: index register plus EXT[22:4] units (R78). -/
def vcAddr (w : W) (p n : Nat) (i : VIns) (unit : Nat) : Nat :=
  (((w.vc p n).xreg (i.ex 3 0)).toNat + i.ex 22 4 * unit) % 2 ^ 64

/-- The bytes of the active lanes of a register stored at memory key `key` (R77). -/
def vcStore (w : W) (key : Nat) (m : MReg) (r : VReg) : W :=
  (setBitsBelow 128 m.toNat).foldl (fun w l => w.wrNat (key + 4 * l) 4 (elem 32 r l)) w

/-- VLD and VST at a local address (R78). VST stores VD: the table names no source (DESIGN CHOICE, log entry 23). -/
def doVlocal (w : W) (p n : Nat) (i : VIns) (m : MReg) (store : Bool) : W :=
  let a := w.vcAddr p n i 32
  if 2 ^ 17 < a + 512 then w.vcMalformed p n
  else
    let key := galKey p (vcBuf n + a)
    if store then (w.vcStore key m ((w.vc p n).vreg i.vd)).vcNext p n
    else if (w.badRun key 512).isSome then w.vcFail p n 0x7F 3
    else w.vcWrite p n i.vd m (vregOf (w.rdBytes key 512))

/-- The lines of the hall that a masked VSTH writes to are granted, and their latches end (R77, R99). -/
def vcGrants (w : W) (p n a : Nat) (m : MReg) : W :=
  (linePieces a 512).foldl (fun w (lo, k) =>
    let touched := (List.range 128).any fun l => m.toNat.testBit l && decide (lo < 4 * l + 4) && decide (4 * l < lo + k)
    w.when (touched && decide (a + lo < 0x400000)) fun w =>
      (w.takeGrant p (hallBank (a + lo)) (8 + n) []).endLatch p (a + lo)) w

/-- VLDH and VSTH at a hall-window offset (R76, R78, R103, R105): outside the window is malformed; any line at a reserved
offset is answered with an address error as a whole, which VC_ERR_RSP takes; a poisoned answer stalls the core. VSTH
stores VD, as VST does (log entry 23). -/
def doVhall (w : W) (p n : Nat) (i : VIns) (m : MReg) (u : CoreUpset) (store : Bool) : W :=
  let a := w.vcAddr p n i 128
  let c := w.vc p n
  if 2 ^ 23 < a + 512 then w.vcMalformed p n
  else if windowTop < a + 512 then w.setVc p n { c with wait := .answer }
  else if u = .poisoned then w.setVc p n { c with wait := .stalled }
  else if store then ((w.vcGrants p n a m).vcStore (galKey p a) m (c.vreg i.vd)).vcNext p n
  else match w.getLines p (8 + n) a 512 0x1FF with
    | ((bs, false), w) => w.vcWrite p n i.vd m (vregOf bs)
    | ((_, true), w) => w.setVc p n { w.vc p n with wait := .stalled }

/-- VRNG (R90). -/
def doVrng (w : W) (p n : Nat) (i : VIns) (m : MReg) : W :=
  let c := w.vc p n
  let st := c.xreg (i.ex 18 15)
  let ws := (List.range 64).map fun k => (ycg (c.xreg (i.ex 22 19)) (bits st 63 32) ((bits st 31 0 + k) % 2 ^ 32)).toNat
  w.vcWrite p n i.vd m (packElems 64 ws)

/-- XADDI. -/
def doXaddi (w : W) (p n : Nat) (i : VIns) : W :=
  let c := w.vc p n
  let v := c.xreg (i.ex 3 0) + w64 (unsigned 64 (signed 15 (i.ex 22 8)))
  (w.setVc p n (c.setX (i.ex 7 4) v)).vcNext p n

/-- XLOOP: the target counts from the XLOOP itself. -/
def doXloop (w : W) (p n : Nat) (i : VIns) : W :=
  let c := w.vc p n
  let v := c.xreg (i.ex 3 0) - 1
  let w := w.setVc p n (c.setX (i.ex 3 0) v)
  if v = 0 then w.vcNext p n
  else w.setReg (Reg.VC_PC p n) (w64 (unsigned 32 ((w.vpc p n : Int) + 8 * signed 19 (i.ex 22 4))))

/-- XLI. -/
def doXli (w : W) (p n : Nat) (i : VIns) : W :=
  let c := w.vc p n
  (w.setVc p n (c.setX (i.ex 3 0) (w64 (i.ex 22 4)))).vcNext p n

/-- QRECV (R78, R80, R82): the head token into VD; bytes above its LEN are not stated and are free (log entry 1). A null
token gives zeros and clears mask EXT[6:4]. An empty queue makes the core wait. -/
def doQrecv (w : W) (p n : Nat) (i : VIns) (m : MReg) (u : CoreUpset) : W :=
  let q := i.ex 3 0
  match w.pop p (8 + n) q with
  | none => (w.estall p (8 + n) q).setFlag (Reg.VC_STATUS p n) F.VC_STATUS_QWAIT true
  | some (t, w) =>
    if u = .tokenParity ∨ t.poison then w.vcFail p n 0x7F 4
    else if isNull t then
      let c := w.vc p n
      (w.setVc p n ((c.setV i.vd 0).setM (i.ex 6 4) 0)).vcNext p n
    else
      let (rest, w) := w.drawBytes (512 - t.data.length)
      w.vcWrite p n i.vd m (vregOf (t.data ++ rest))

/-- QSEND (R78, R155, R173): the whole of VD, whatever the mask (DESIGN CHOICE, log entry 23), as one token of 512 bytes
on the send slot that x names; without credit, and on a slot that is hung or still connecting, the core waits; a slot that
is free or closing, or too small a grant, is malformed. -/
def doQsend (w : W) (p n : Nat) (i : VIns) : W :=
  let c := w.vc p n
  let s := (c.xreg (i.ex 3 0)).toNat
  let x := (w.agent p (8 + n)).slot s
  if 16 ≤ s ∨ x.state = 0 ∨ x.state = 3 ∨ (x.state ≠ 1 ∧ x.grantSlots < 8) then w.vcMalformed p n
  else if w.canSend p (8 + n) s 0 512 && x.waitq.isEmpty then
    (w.sendNow p (8 + n) s 0 (vregBytes (c.vreg i.vd))).vcNext p n
  else (w.creditStall p (8 + n) s).setFlag (Reg.VC_STATUS p n) F.VC_STATUS_QWAIT true

/-- VEND (R75): the kernel waits for its writes to be acknowledged. -/
def doVend (w : W) (p n : Nat) : W :=
  (w.setVc p n { w.vc p n with wait := .ended }).vcNext p n

/-- VC_COMPLETION_TOKEN (R75): the completion token goes out and the core may take the next command. -/
def doVcCompletion (w : W) (p n : Nat) : W :=
  let c := w.vc p n
  if c.running ∧ c.wait = .ended then
    let w := w.setVc p n { c with running := false, wait := .run }
    let w := w.setFlag (Reg.VC_STATUS p n) F.VC_STATUS_BUSY false
    (w.count (Reg.VC_KERNELS p n) 1).unitSend p (8 + n) 0 0 (completionData c.tag 0)
  else w

/-- Can the core take a command (R75, R92)? Not while the completion token of the last one waits for credit. -/
def vcIdle (w : W) (p n : Nat) : Bool :=
  w.flag (Reg.VC_CFG p n) F.VC_CFG_EN && w.agentRuns p (8 + n) && !w.vcHalted p n && !(w.vc p n).running &&
    ((w.agent p (8 + n)).slot 0).waitq.isEmpty

/-- VC_KERNEL (R75, R76, R84). -/
def doVcKernel (w : W) (p n : Nat) (u : CoreUpset) : W :=
  match w.vcIdle p n, w.head p (8 + n) 0 with
  | true, some t =>
    if isNull t then w
    else
      match w.pop p (8 + n) 0 with
      | none => w
      | some (t, w) =>
        let w0 := payWord t.data 0
        let c := { w.vc p n with tag := bits w0 63 48 }
        if u = .tokenParity ∨ t.poison then w.vcFail p n 0x7F 4
        else if t.len = 32 ∧ bits w0 7 0 = 2 ∧ bits w0 39 32 = 1 ∧ bits w0 24 8 % 8 = 0 then
          let c := ((c.setX 1 (payWord t.data 1)).setX 2 (payWord t.data 2)).setX 3 (payWord t.data 3)
          let w := w.setVc p n { c with running := true, wait := .run }
          (w.setReg (Reg.VC_PC p n) (w64 (bits w0 24 8))).setFlag (Reg.VC_STATUS p n) F.VC_STATUS_BUSY true
        else (w.setVc p n c).vcMalformed p n
  | true, none => w.estall p (8 + n) 0
  | _, _ => w

/-- VC_NULL_COMMAND (R82, R84). -/
def doVcNull (w : W) (p n : Nat) (u : CoreUpset) : W :=
  match w.vcIdle p n, w.head p (8 + n) 0 with
  | true, some t =>
    if isNull t then
      match w.pop p (8 + n) 0 with
      | none => w
      | some (t, w) =>
        if u = .tokenParity ∨ t.poison then w.vcFail p n 0x7F 4
        else (w.count (Reg.VC_NULL_SKIP p n) 1).unitSend p (8 + n) 0 1 []
    else w
  | true, none => w.estall p (8 + n) 0
  | _, _ => w

/-- VC_ERR_RSP (R76): an address error halts the core with KIND 0x7. After a poisoned answer or one of cause 0x1 or 0x2
the core is stalled already, and stays so (R103). -/
def doVcErrRsp (w : W) (p n : Nat) : W :=
  let c := w.vc p n
  if c.running ∧ c.wait = .answer then
    let (info, w) := w.vcInfo p n 0x7F 7
    let b : RecBody := { cls := 0x02, kind := 7, agent := some (8 + n), tag := c.tag, pc := w.vpc p n, info := info }
    (w.vcHalt p n none).raiseSched p b
  else w

end W

/-! ### The meanings -/

/-- The shape of a vector instruction's meaning. -/
def vInstr (p n op : Nat) (u : CoreUpset) (s : State) (f : VIns → MReg → W → W) : Host.Outcome State Fault Refusal :=
  runOn (vcOk p n) s fun w => w.vcInstr p n op u f

/-- VC_KERNEL. -/
def execVcKernel (p : Nat) (x : VcTake) (s : State) : Host.Outcome State Fault Refusal :=
  runOn (vcOk p x.n) s fun w => w.doVcKernel p x.n x.u

/-- VC_NULL_COMMAND. -/
def execVcNullCommand (p : Nat) (x : VcTake) (s : State) : Host.Outcome State Fault Refusal :=
  runOn (vcOk p x.n) s fun w => w.doVcNull p x.n x.u

/-- VFMA. -/
def execVfma (p n : Nat) (u : CoreUpset) (s : State) : Host.Outcome State Fault Refusal :=
  vInstr p n 0x01 u s fun i m w => w.doVfma p n i m

/-- VADD. -/
def execVadd (p n : Nat) (u : CoreUpset) (s : State) : Host.Outcome State Fault Refusal :=
  vInstr p n 0x02 u s fun i m w => w.vcMap2 p n i m addRes

/-- VMUL. -/
def execVmul (p n : Nat) (u : CoreUpset) (s : State) : Host.Outcome State Fault Refusal :=
  vInstr p n 0x03 u s fun i m w => w.vcMap2 p n i m mulRes

/-- VSUB. -/
def execVsub (p n : Nat) (u : CoreUpset) (s : State) : Host.Outcome State Fault Refusal :=
  vInstr p n 0x04 u s fun i m w => w.vcMap2 p n i m subRes

/-- VMIN. -/
def execVmin (p n : Nat) (u : CoreUpset) (s : State) : Host.Outcome State Fault Refusal :=
  vInstr p n 0x05 u s fun i m w => w.vcMap2 p n i m fun f a b => (minRes f a b, {})

/-- VMAX. -/
def execVmax (p n : Nat) (u : CoreUpset) (s : State) : Host.Outcome State Fault Refusal :=
  vInstr p n 0x06 u s fun i m w => w.vcMap2 p n i m fun f a b => (maxRes f a b, {})

/-- VCMP. -/
def execVcmp (p n : Nat) (u : CoreUpset) (s : State) : Host.Outcome State Fault Refusal :=
  vInstr p n 0x07 u s fun i m w => w.doVcmp p n i m

/-- VSEL. -/
def execVsel (p n : Nat) (u : CoreUpset) (s : State) : Host.Outcome State Fault Refusal :=
  vInstr p n 0x08 u s fun i m w => w.doVsel p n i m

/-- VCVT. -/
def execVcvt (p n : Nat) (u : CoreUpset) (s : State) : Host.Outcome State Fault Refusal :=
  vInstr p n 0x09 u s fun i m w => w.doVcvt p n i m

/-- VREDSUM: −0 and 0 are the identities of the masked-off lanes. -/
def execVredsum (p n : Nat) (u : CoreUpset) (s : State) : Host.Outcome State Fault Refusal :=
  vInstr p n 0x0A u s fun i m w => w.doVred p n i m addRes 0x80000000 0

/-- VREDMAX: −infinity and −2^31 are the identities. -/
def execVredmax (p n : Nat) (u : CoreUpset) (s : State) : Host.Outcome State Fault Refusal :=
  vInstr p n 0x0B u s fun i m w => w.doVred p n i m (fun f a b => (maxRes f a b, {})) 0xFF800000 0x80000000

/-- VSCALE. -/
def execVscale (p n : Nat) (u : CoreUpset) (s : State) : Host.Outcome State Fault Refusal :=
  vInstr p n 0x0C u s fun i m w => w.doVscale p n i m

/-- VGETEXP. -/
def execVgetexp (p n : Nat) (u : CoreUpset) (s : State) : Host.Outcome State Fault Refusal :=
  vInstr p n 0x0D u s fun i m w => w.vcMap2 p n i m fun f a _ => (getExp f a, {})

/-- VGETMANT. -/
def execVgetmant (p n : Nat) (u : CoreUpset) (s : State) : Host.Outcome State Fault Refusal :=
  vInstr p n 0x0E u s fun i m w => w.vcMap2 p n i m fun f a _ => getMantRes f a

/-- VAND. -/
def execVand (p n : Nat) (u : CoreUpset) (s : State) : Host.Outcome State Fault Refusal :=
  vInstr p n 0x10 u s fun i m w => w.vcMap2 p n i m fun _ a b => (a &&& b, {})

/-- VOR. -/
def execVor (p n : Nat) (u : CoreUpset) (s : State) : Host.Outcome State Fault Refusal :=
  vInstr p n 0x11 u s fun i m w => w.vcMap2 p n i m fun _ a b => (a ||| b, {})

/-- VXOR. -/
def execVxor (p n : Nat) (u : CoreUpset) (s : State) : Host.Outcome State Fault Refusal :=
  vInstr p n 0x12 u s fun i m w => w.vcMap2 p n i m fun _ a b => (a ^^^ b, {})

/-- VSHL. -/
def execVshl (p n : Nat) (u : CoreUpset) (s : State) : Host.Outcome State Fault Refusal :=
  vInstr p n 0x13 u s fun i m w => w.vcMap2 p n i m fun f a b => (shlRes f.width a b, {})

/-- VSHR. -/
def execVshr (p n : Nat) (u : CoreUpset) (s : State) : Host.Outcome State Fault Refusal :=
  vInstr p n 0x14 u s fun i m w => w.vcMap2 p n i m fun f a b => (shrRes f.width a b, {})

/-- VLD. -/
def execVld (p n : Nat) (u : CoreUpset) (s : State) : Host.Outcome State Fault Refusal :=
  vInstr p n 0x18 u s fun i m w => w.doVlocal p n i m false

/-- VST. -/
def execVst (p n : Nat) (u : CoreUpset) (s : State) : Host.Outcome State Fault Refusal :=
  vInstr p n 0x19 u s fun i m w => w.doVlocal p n i m true

/-- VLDH. -/
def execVldh (p n : Nat) (u : CoreUpset) (s : State) : Host.Outcome State Fault Refusal :=
  vInstr p n 0x1A u s fun i m w => w.doVhall p n i m u false

/-- VSTH. -/
def execVsth (p n : Nat) (u : CoreUpset) (s : State) : Host.Outcome State Fault Refusal :=
  vInstr p n 0x1B u s fun i m w => w.doVhall p n i m u true

/-- VRNG. -/
def execVrng (p n : Nat) (u : CoreUpset) (s : State) : Host.Outcome State Fault Refusal :=
  vInstr p n 0x1C u s fun i m w => w.doVrng p n i m

/-- XADDI. -/
def execXaddi (p n : Nat) (u : CoreUpset) (s : State) : Host.Outcome State Fault Refusal :=
  vInstr p n 0x20 u s fun i _ w => w.doXaddi p n i

/-- XLOOP. -/
def execXloop (p n : Nat) (u : CoreUpset) (s : State) : Host.Outcome State Fault Refusal :=
  vInstr p n 0x21 u s fun i _ w => w.doXloop p n i

/-- XLI. -/
def execXli (p n : Nat) (u : CoreUpset) (s : State) : Host.Outcome State Fault Refusal :=
  vInstr p n 0x22 u s fun i _ w => w.doXli p n i

/-- QRECV. -/
def execQrecv (p n : Nat) (u : CoreUpset) (s : State) : Host.Outcome State Fault Refusal :=
  vInstr p n 0x28 u s fun i m w => w.doQrecv p n i m u

/-- QSEND. -/
def execQsend (p n : Nat) (u : CoreUpset) (s : State) : Host.Outcome State Fault Refusal :=
  vInstr p n 0x29 u s fun i _ w => w.doQsend p n i

/-- VEND. -/
def execVend (p n : Nat) (u : CoreUpset) (s : State) : Host.Outcome State Fault Refusal :=
  vInstr p n 0x3F u s fun _ _ w => w.doVend p n

/-- VC_COMPLETION_TOKEN. -/
def execVcCompletionToken (p n : Nat) (s : State) : Host.Outcome State Fault Refusal :=
  runOn (vcOk p n) s fun w => w.doVcCompletion p n

/-- VC_ERR_RSP. -/
def execVcErrRsp (p n : Nat) (s : State) : Host.Outcome State Fault Refusal := runOn (vcOk p n) s fun w => w.doVcErrRsp p n

/-- VC_CNT_CLR (R92): bit n clears the counter at 0x040 + 8 n, n from 0 to 7. -/
def execVcCntClr (p n : Nat) (v : Word) (s : State) : Host.Outcome State Fault Refusal :=
  runOn (vcOk p n) s fun w => w.clearCounters (Reg.VC_EVT_NANGEN p n) 8 v

end Sys2Proof.Machine
end

