-- ==== Sys2Proof/Machine/Responses.lean ====
section
/-! DEFINITION. Responses as they reach their requester (06_mesh_stair_and_flights.md R124, R131, R132, R134) and the
poisoned line at a master (05_galleries_and_halls.md R103). EXIT 0 names an agent of gallery `p` by RTAG; EXIT 2 the
vestibule, where the answers to a table flip are gathered. A response that finds no outstanding request is discarded
(R191). -/

namespace Sys2Proof.Machine

/-- A data word of a response. -/
def rspWord (t : Packet) : Word := payWord t.data 0

namespace W

/-- An agent stalls without a fault of its own, until the rollback (R103, R132). -/
def stallAgent (w : W) (p a : Nat) : W :=
  if a < 8 then w.setMc p a { w.mc p a with stalled := true }
  else if a < 12 then
    let c := w.vc p (a - 8)
    if c.running ∧ c.wait = .run then w.setVc p (a - 8) { c with wait := .stalled } else w
  else if a < 14 then
    let h := Hart.sc p (a - 12)
    if w.hHalted h then w else w.setHart h { w.hart h with wait := .stalled, outs := [] }
  else if a = 14 then w.setSu p { w.su p with stopped := true }
  else w.setDm p { w.dm p with stalled := true }

/-- The outstanding access of a scalar core that a response answers: by kind and address. -/
def outIndex (w : W) (h : Hart) (isLoad : Bool) (addr : Word) : Option Nat :=
  (w.hart h).outs.findIdx? fun o => o.isLoad == isLoad && o.addr == addr && o.data.isNone

/-- The flip in progress has gathered more answers; with both masks covered it is complete (R131). -/
def flipAnswer (w : W) (acked pruned : Mask) : W :=
  match w.c.flip with
  | none => w
  | some f =>
    let f := { f with acked := f.acked ||| acked, pruned := f.pruned ||| pruned }
    let whole := f.targets &&& ~~~(f.acked ||| f.pruned) == 0
    { w with c := { w.c with flip := if whole then none else some f } }

/-- RD_RSP. -/
def doRdRsp (w : W) (p : Nat) (t : Packet) : W :=
  let a := credAgent t
  if t.exit ≠ 0 then w
  else if a = 12 ∨ a = 13 then
    match w.outIndex (.sc p (a - 12)) true t.addr with
    | some k => w.doLoadReturn (.sc p (a - 12)) k (rspWord t) (if t.poison then .poisoned else .none)
    | none => w
  else if a = 15 then w.dmAnswer p 1 t
  else w

/-- WR_ACK: of a write, of a multicast token (ARG[0] says whether the target reserved), of a flip. -/
def doWrAck (w : W) (p : Nat) (t : Packet) : W :=
  let a := credAgent t
  if t.exit = 2 then w.flipAnswer t.mask 0
  else if t.exit ≠ 0 then w
  else if a = 12 ∨ a = 13 then
    let h := Hart.sc p (a - 12)
    match w.outIndex h false t.addr with
    | some k =>
      let w := w.setHart h { w.hart h with outs := (w.hart h).outs.eraseIdx k }
      if t.poison then w.stallAgent p a else w.releaseOuts h 8
    | none => w.mcAnswer p a (credSlot t) t.mask false (bit t.arg 0)
  else if a = 15 then w.dmAnswer p 3 t
  else w.mcAnswer p a (credSlot t) t.mask false (bit t.arg 0)

/-- AT_RSP. -/
def doAtRsp (w : W) (p : Nat) (t : Packet) : W := if t.exit = 0 ∧ credAgent t = 15 then w.dmAnswer p 5 t else w

/-- MC_PRUNE. -/
def doMcPrune (w : W) (p : Nat) (t : Packet) : W :=
  if t.exit = 2 then w.flipAnswer 0 t.mask
  else if t.exit = 0 then w.mcAnswer p (credAgent t) (credSlot t) t.mask true false
  else w

/-- ERR_RSP (R132): cause 0x3 is the address error of R105, the others act as a poisoned response; the sender of a lost
token stalls. -/
def doErrRsp (w : W) (p : Nat) (t : Packet) : W :=
  let a := credAgent t
  let cause := bits t.arg 3 0
  let lost := fun (w : W) =>
    let x := (w.agent p a).slot (credSlot t)
    if cause ≠ 3 ∧ (x.state = 2 ∨ x.state = 3) then w.stallAgent p a else w
  if t.exit ≠ 0 then w
  else if a = 12 ∨ a = 13 then
    let h := Hart.sc p (a - 12)
    match (w.hart h).outs.findIdx? fun o => o.addr == t.addr with
    | some k =>
      match (w.hart h).outs[k]? with
      | some o => if cause = 3 then w.hFault h 7 o.pc o.addr else w.stallAgent p a
      | none => w
    | none => lost w
  else if a = 15 then
    if (w.dm p).jobs.any fun j => j.outs.any fun o => o.addr == t.addr then w.dmError p t else lost w
  else lost w

/-- POISONED_RESPONSE (R103): agent `a` of gallery `p` discards a poisoned line and stalls. -/
def doPoisoned (w : W) (p a : Nat) : W :=
  if a = 15 then
    match (w.dm p).jobs.find? fun j => !j.outs.isEmpty with
    | some j => w.dmFail p 4 (DmCmd.ofWords j.words).tag ((j.outs.map (·.addr)).headD 0)
    | none => w
  else w.stallAgent p a

end W

/-! ### The meanings -/

/-- MC_PRUNE. -/
def execMcPrune (p : Nat) (t : Packet) (s : State) : Host.Outcome State Fault Refusal :=
  runOn (galOk p) s fun w => w.doMcPrune p t

/-- POISONED_RESPONSE. -/
def execPoisonedResponse (p a : Nat) (s : State) : Host.Outcome State Fault Refusal :=
  runOn (agentOk p a) s fun w => w.doPoisoned p a

end Sys2Proof.Machine
end

