-- ==== Sys2Proof/Machine/Tables.lean ====
section
/-! DEFINITION. The tables that firmware computes from the grid and from what is fenced (06_mesh_stair_and_flights.md R129,
R130, R136; R213, R229, R260): base routes, vias, the lists of memory ports, bridges and edge landings, the distance
table. -/

namespace Sys2Proof.Machine

/-- Columns of the bridge landings of a half, row 11 (R117). -/
def bridgeCols (h : Nat) : List Nat := if h = 0 then [10, 11, 12] else [0, 1, 2]

/-- The base route of landing `l` for landing `d` (R129): along the row, over the stair in the source row on the channel of
the destination's parity, then along the column. `other` says that row uses the other stair channel. -/
def baseRoute (other : Nat → Nat → Bool) (l d : Nat) : Nat :=
  if l = d then 0
  else if halfOf l ≠ halfOf d then
    let out := if halfOf l = 0 then 3 else 4
    if colOf l = (if halfOf l = 0 then 12 else 0) then
      let odd := decide (d % 2 = 1)
      if odd != other (rowOf l) (d % 2) then 5 else out
    else out
  else if colOf l < colOf d then 3
  else if colOf d < colOf l then 4
  else if rowOf d < rowOf l then 1
  else 2

/-- The landings and ports a base route passes, at most `fuel` hops. -/
def routeHops (other : Nat → Nat → Bool) (d : Nat) : Nat → Nat → List (Nat × Nat)
  | 0, _ => []
  | fuel + 1, l =>
    let p := baseRoute other l d
    if p = 0 then []
    else match neighbour l p with
      | some n => (l, p) :: routeHops other d fuel n
      | none => [(l, p)]

/-- The port at the other end of a mesh or stair link. -/
def portBack (port : Nat) : Nat :=
  match port with
  | 1 => 2
  | 2 => 1
  | 3 => 4
  | 4 => 3
  | p => p

/-- The landing behind a port of landing `l`. -/
def farEnd (l port : Nat) : Option Nat := neighbour l port

/-- The landing and port of a mesh link of the defect map (R368): [8:0] landing, [9] 0 east, 1 south. -/
def linkEnd (unit : Nat) : Nat × Nat := (unit % 512, if unit / 512 = 0 then 3 else 2)

/-- The defect-map number of the link at a port of a landing (R368): a stair link pair is 2 × row + pair. -/
def linkUnit (l port : Nat) : Nat × Nat :=
  match neighbour l port with
  | none => (3, l)
  | some n =>
    if halfOf n ≠ halfOf l then (4, 2 * rowOf l + (if port = 5 then 1 else 0))
    else match port with
      | 3 => (3, l)
      | 4 => (3, n)
      | 2 => (3, l + 512)
      | _ => (3, n + 512)

/-- The two ends of stair link pair `pair` of a row. -/
def stairEnds (row pair : Nat) : (Nat × Nat) × (Nat × Nat) :=
  if pair = 0 then ((landAt 0 row 12, 3), (landAt 1 row 0, 4)) else ((landAt 0 row 12, 5), (landAt 1 row 0, 5))

/-- A mask word of a run of 4-bit entries from bit `lo`. -/
def packNibbles (lo : Nat) (xs : List Nat) : Nat := (xs.zipIdx.map fun (x, i) => x % 16 * 2 ^ (lo + 4 * i)).sum

namespace W

/-! ### What is fenced -/

/-- A landing that is fenced: its state is LANDING_DEFECT, or it is under test. -/
def landFenced (w : W) (l : Nat) : Bool :=
  w.pstate l == 5 || w.c.test.tests.any fun t => t.scope == 3 && t.unit == l && t.phase == .running

/-- An exit of landing `l` that carries no traffic: the landing is fenced, or the exit failed its qualification (R398). -/
def exitFenced (w : W) (kind l : Nat) : Bool := w.landFenced l || w.c.exitsBad.contains (kind, l)

/-- PORT_EN of a port of a landing (R132). -/
def portEnabled (w : W) (l port : Nat) : Bool := bit (w.reg (Reg.LND_CFG l)) (7 + port)

def setPortEnabled (w : W) (l port : Nat) (on : Bool) : W :=
  w.setReg (Reg.LND_CFG l) (putBit (w.reg (Reg.LND_CFG l)) (7 + port) on)

/-- The link at a port carries no traffic: one end is disabled, or the landing behind it is fenced. -/
def linkFenced (w : W) (l port : Nat) : Bool :=
  match neighbour l port with
  | none => true
  | some n => !w.portEnabled l port || !w.portEnabled n (portBack port) || w.landFenced n

/-- A row whose stair channel for a parity is fenced, with the other one up, uses the other (R129). -/
def stairOther (w : W) (row parity : Nat) : Bool :=
  let mine := stairEnds row parity
  let two := stairEnds row (1 - parity)
  w.linkFenced mine.1.1 mine.1.2 && !w.linkFenced two.1.1 two.1.2

/-- The hops of the base route. -/
def route (w : W) (l d : Nat) : List (Nat × Nat) := routeHops w.stairOther d 64 l

/-- A base route avoids every fenced element. -/
def routeClear (w : W) (l d : Nat) : Bool := (w.route l d).all fun x => !w.linkFenced x.1 x.2

/-- The via of R130: both legs clear, the fewest hops, the lowest index of equals. -/
def viaFor (w : W) (l d : Nat) : Option Nat :=
  ((List.range 312).foldl (fun (b : Option (Nat × Nat)) v =>
    if v = l ∨ v = d ∨ w.landFenced v ∨ ¬ w.routeClear l v ∨ ¬ w.routeClear v d then b
    else
      let n := (w.route l v).length + (w.route v d).length
      match b with
      | some (n', _) => if n < n' then some (n, v) else b
      | none => some (n, v)) none).map (·.2)

/-- RT and VT entries of landing `l` for landing `d`: the base route, a via, or unreachable. -/
def detour (w : W) (l d : Nat) : Nat × Nat :=
  if 312 ≤ d then (0xF, 0)
  else
    let base := baseRoute w.stairOther l d
    if w.routeClear l d ∧ ¬ (l ≠ d ∧ w.landFenced d) then (base, 0)
    else match (if w.landFenced d then none else w.viaFor l d) with
      | some v => (base, 2 ^ 15 + v)
      | none => (0xF, 0)

/-! ### Lists of a bank (R213, R229, R260) -/

/-- MPL of edge `e`: the columns of its live port landings. -/
def mplWord (w : W) (e : Nat) : Word :=
  let cols := (List.range 13).filter fun c => !w.exitFenced 1 (landAt (e / 2) (if e % 2 = 0 then 0 else 11) c)
  w64 (cols.length + packNibbles 4 cols)

/-- BRL of half `h`: its live bridge landings, else those of the other half with OTHER. -/
def brlWord (w : W) (h : Nat) : Word :=
  let liveOf := fun (x : Nat) => (bridgeCols x).filter fun c => !w.exitFenced 3 (landAt x 11 c)
  let cols := if (liveOf h).isEmpty then liveOf (1 - h) else liveOf h
  w64 (cols.length + packNibbles 2 cols + ((liveOf h).isEmpty && !cols.isEmpty).toNat * 2 ^ 14)

/-- ERL of half `h`: the rows of its live edge landings. -/
def erlWord (w : W) (h : Nat) : Word :=
  let rows := (List.range 12).filter fun r => !w.exitFenced 4 (landAt h r (if h = 0 then 0 else 12))
  w64 (rows.length + packNibbles 4 rows)

/-- FLAG_DST of landing `l` (R142): the attach landing of its row, the other one of its drop, or one of the other drop of
its half. -/
def flagLanding (w : W) (l : Nat) : Nat :=
  let h := halfOf l
  let r := rowOf l
  let mine := if r ≤ 4 then 4 else if r ≤ 6 then r else 7
  let c := if h = 0 then 12 else 0
  let rows := if mine ≤ 5 then [mine, 9 - mine, 6, 7] else [mine, 13 - mine, 5, 4]
  landAt h ((rows.find? fun x => !w.exitFenced 2 (landAt h x c)).getD mine) c

/-- Bank `b` of landing `l` takes the routes, vias and lists of what is fenced now. -/
def writeRoutes (w : W) (l b : Nat) : W :=
  let e := (List.range 320).map fun d => w.detour l d
  let w := (List.range 20).foldl (fun w i => w.setReg (Reg.RT l b i)
    (w64 (packNibbles 0 (((e.drop (16 * i)).take 16).map (·.1))))) w
  let w := (List.range 80).foldl (fun w i => w.setReg (Reg.VT l b i)
    (w64 ((((e.drop (4 * i)).take 4).zipIdx.map fun (x, j) => x.2 * 2 ^ (16 * j)).sum))) w
  let w := (List.range 4).foldl (fun w k => w.setReg (Reg.MPL l b k) (w.mplWord k)) w
  let w := (w.setReg (Reg.BRL l b) (w.brlWord (halfOf l))).setReg (Reg.ERL l b) (w.erlWord (halfOf l))
  w.setFld (Reg.FLAG_DST l b) ⟨8, 0⟩ (w.flagLanding l)

/-- The inactive banks of every landing with maps, masks, trees and detours as they are now (R130, R131, R213). -/
def writeDetours (w : W) : W :=
  (List.range 312).foldl (fun w l => (w.writeBank l).writeRoutes l (1 - w.bank l)) w

/-- The detour tables are flipped in: all at once when it is one part of a longer action of firmware. -/
def flipDetours (w : W) : W := w.writeDetours.flipChecked fun w => w.flipAll (1 - w.meshBank) w.seqIdle

/-! ### The distance table (R136) -/

/-- Hops of the base route from landing `l` to the port of stack `k` in column `c`. -/
def portHops (k l c : Nat) : Nat :=
  let p := landAt (k / 4) (if k / 2 % 2 = 0 then 0 else 11) c
  (routeHops (fun _ _ => false) p 64 l).length

/-- Entry of logical gallery `g` for stack `k`. -/
def distEntry (w : W) (g k : Nat) : Nat :=
  let x := w.mplWord (k / 2)
  let cols := (List.range (bits x 3 0)).map fun i => bits x (4 * i + 7) (4 * i + 4)
  match w.physOf g with
  | some p =>
    if !(w.fld Reg.MEM_STACKS F.MEM_STACKS_ENABLED).testBit k || (w.fld Reg.MEM_STACKS F.MEM_STACKS_FAILED).testBit k ||
        decide (w.logicals ≤ g) || cols.isEmpty then 0xFFFF
    else
      let hs := cols.map fun c => portHops k p c
      let n := hs.length
      (decide (halfOf p ≠ k / 4)).toNat * 2 ^ 15 + hs.foldl min 31 % 32 * 2 ^ 10 + (32 * hs.sum + n) / (2 * n) % 1024
  | none => 0xFFFF

/-- The distance table is computed anew. -/
def writeDistances (w : W) : W :=
  let w := (List.range 4096).foldl (fun w g => (List.range 2).foldl (fun w j =>
    w.setReg (Reg.MESH_DIST (2 * g + j))
      (w64 (((List.range 4).map fun i => w.distEntry g (4 * j + i) * 2 ^ (16 * i)).sum))) w) w
  w.setReg Reg.MESH_DIST_GEN (w64 ((w.reg Reg.MESH_DIST_GEN).toNat + 1))

end W

end Sys2Proof.Machine
end

