-- ==== Sys2Proof/Machine/TestState.lean ====
section
/-! DEFINITION. What moves and tests share (14_self_test.md R340 to R350): the test of a half, entering and leaving it,
result entries, and how a test ends. -/

namespace Sys2Proof.Machine

/-- Budget of an element in µs (R337). -/
def elemBudget (e : Nat) : Nat :=
  if e ≤ 0xB then 40000
  else match e with
    | 0x10 => 120000
    | 0x11 => 20000
    | 0x12 => 240000
    | 0x13 => 60000
    | 0x20 => 100000
    | 0x21 => 100000
    | 0x22 => 100000
    | 0x24 => 20000
    | 0x30 => 700000
    | _ => 54000000

/-- The elements judged by mismatching reads (R337, R339). -/
def isMarch (e : Nat) : Bool := [6, 7, 8, 9, 0x24, 0x30, 0x31].contains e

/-- COVERAGE of an element (R337, R340). -/
def elemCoverage (e : Nat) : Nat :=
  if [0, 1, 3, 0x12, 0x20, 0x21].contains e then 9850
  else if [5, 0x10, 0x11, 0x13, 0x22].contains e then 9900
  else if [6, 7, 8, 9, 0x24].contains e then 10000
  else (Config.coverage e).toNat

namespace W

def setTest (w : W) (t : SelfTest) : W := { w with c := { w.c with test := t } }

/-- The gallery or landing test that occupies half `h`: it moves or runs (scopes 0x01 to 0x03). -/
def halfTest (w : W) (h : Nat) : Option Test :=
  w.c.test.tests.find? fun t => decide (1 ≤ t.scope) && decide (t.scope ≤ 3) && halfOf t.unit == h && t.phase != .queued

/-- The target of half `h` waits for its move or is being moved. -/
def testMoving (w : W) (p : Nat) : Bool :=
  match w.halfTest (halfOf p) with | some t => t.unit == p && t.phase == .moving | none => false

/-- A test's entry replaced, by scope, unit and ORIGIN. -/
def sameTest (a b : Test) : Bool := a.scope == b.scope && a.unit == b.unit && a.origin == b.origin && a.jsn == b.jsn
def putTest (w : W) (t : Test) : W :=
  let f := fun (x : Test) => if sameTest x t then t else x
  w.setTest { w.c.test with tests := w.c.test.tests.map f }
def dropTest (w : W) (t : Test) : W :=
  w.setTest { w.c.test with tests := w.c.test.tests.filter fun x => !sameTest x t }

/-- STATE, TARGET, ELEMENT and RECV of ST_HALFh. -/
def showHalf (w : W) (h state target element recv : Nat) : W :=
  let k := Reg.ST_HALF h
  (((w.setFld k F.ST_HALF_STATE state).setFld k F.ST_HALF_TARGET target).setFld k F.ST_HALF_ELEMENT element).setFld k
    F.ST_HALF_RECV recv

/-- The half's rotation is enabled. -/
def rotating (w : W) (h : Nat) : Bool := w.flag Reg.ST_CFG (if h = 0 then F.ST_CFG_ROT_W else F.ST_CFG_ROT_E)

/-- The half has no target: it waits for a tick, or is off. -/
def idleHalf (w : W) (h : Nat) : W := w.showHalf h (if w.rotating h then 1 else 0) 0x1FF 0xF 0x1FF

/-- ELEMENT of ST_HALFh for element `e`. -/
def showElem (e : Nat) : Nat := if e ≤ 0xB then e else 0xF

/-- Landing `l` is out of service for its test (R350): its neighbours disable the ports that face it, and the routes and
lists of a fenced landing are written into the inactive banks. -/
def closeLanding (w : W) (l : Nat) : W :=
  let w := [1, 2, 3, 4, 5].foldl (fun w p => match farEnd l p with
    | some n => w.setPortEnabled n (portBack p) false
    | none => w) w
  (List.range 312).foldl (fun w l => w.writeRoutes l (1 - w.bank l)) w

/-- Gallery `p` enters its test (R347): its island is fenced and powered, no map entry names it. -/
def enterTesting (w : W) (p : Nat) : W :=
  let w := ((w.setPstate p 2).fenceIsland p).islandOn p 8
  match w.halfTest (halfOf p) with
  | none => w
  | some t =>
    let w := (w.putTest { t with phase := .running }).showHalf (halfOf p) 4 p (showElem ((t.elems.head?.map (·.1)).getD 0xF))
      0x1FF
    if t.scope = 3 then w.closeLanding p else w

/-- Gallery `p` is tested at the next tick of its half (R346, R348, R366). -/
def testAgain (w : W) (p : Nat) : W :=
  if w.c.test.again.contains p then w else w.setTest { w.c.test with again := w.c.test.again ++ [p] }

/-- The key of an element (R339): of 0x02 and 0x04 the YCG key of the sweep, or the seed of a descriptor; of the others the
fixed one. -/
def elemKey (w : W) (e unit sweep : Nat) (seed fixed : Word) : Word :=
  if e = 2 ∨ e = 4 then
    if seed ≠ 0 then seed
    else ycg (w.reg Reg.ST_SEED) (if w.flag Reg.ST_CFG F.ST_CFG_PAT_VARY then sweep % 2 ^ 32 else 0) unit
  else fixed

/-- The fields of the entry of an element that did not run to its end: the spec gives them no values (log entry 1). -/
def noResult (w : W) : ElemResult × W :=
  let (a, w) := w.draw
  let (b, w) := w.draw
  ({ sig := a, expected := b }, w)

/-- One result entry of 64 bytes (R340) joins the log and the entries of its test. -/
def resultEntry (w : W) (t : Test) (elem unit result origin coverage : Nat) (r : ElemResult) (key : Word)
    (budget sweep : Nat) : W :=
  let ws : List Word :=
    [ w64 (0x01 * 2 ^ 56 + elem % 256 * 2 ^ 48 + result % 16 * 2 ^ 44 + origin % 8 * 2 ^ 41 + unit % 512 * 2 ^ 32
        + coverage % 2 ^ 16 * 2 ^ 16),
      r.sig, r.expected, key, w64 (r.duration % 2 ^ 32 * 2 ^ 32 + budget % 2 ^ 32),
      (if w.fld Reg.FAB_TIME_STATUS F.FAB_TIME_STATUS_STATE = 2 then w64 (w.c.time - r.duration % 2 ^ 32 * 1000) else 0),
      r.detail, w64 (sweep % 2 ^ 32) ]
  let bs := sealWords ws
  let n := w.fld Reg.ST_LOG_HEAD ⟨31, 0⟩
  let w := w.setRegWords (Reg.ST_LOG (8 * (n % 8192))) ((List.range 8).map (payWord bs))
  let w := w.setReg Reg.ST_LOG_HEAD (w64 ((n + 1) % 2 ^ 32))
  match w.c.test.tests.find? (sameTest t) with
  | none => w
  | some t => w.putTest { t with entries := t.entries ++ [bs], bad := t.bad + (result != 0).toNat }

/-- A test is over: its descriptor's entries go to the host, and it completes (R349). -/
def endTest (w : W) (t : Test) : W :=
  let w := w.dropTest t
  match t.jsn with
  | none => w
  | some j =>
    match w.desc j with
    | none => w
    | some d =>
      let out := (d.words.getD 2 0).toNat
      let n := if out = 0 then 0 else min t.entries.length (bits (d.words.getD 3 0) 15 0)
      let detail := w64 (n % 2 ^ 16 + t.bad % 2 ^ 16 * 2 ^ 16)
      let st := if t.bad = 0 then 0 else 7
      if n = 0 then w.complete j st detail 0
      else (w.setDesc { d with status := st, detail := detail }).outBytes j ((t.entries.take n).flatMap id)

/-- A rotation target is given up (R346): with a fault of its own it is logged ABANDONED and tested at the next tick; an
on-demand test goes back to its queue. -/
def abandonTarget (w : W) (p : Nat) (fault : Bool) : W :=
  match w.halfTest (halfOf p) with
  | none => w
  | some t =>
    let w := if fault then
        let (r, w) := w.noResult
        (w.resultEntry t ((t.elems.head?.map (·.1)).getD 0) p 3 t.origin 0 r 0 0
          ((Tbl.get (fun _ => 0) w.c.test.sweeps (halfOf p)))).testAgain p
      else w
    let w := if t.origin = 2 ∧ ¬ fault then w.putTest { t with phase := .queued }
      else match w.c.test.tests.find? (sameTest t) with
        | some t => w.endTest t
        | none => w
    w.idleHalf (halfOf p)

end W

end Sys2Proof.Machine
end

