-- ==== Sys2Proof/Machine/Steps.lean ====
section
/-! DEFINITION. The step sequencer (08_schedules_and_steps.md R182 to R202) with the nondeterminism counter of
13_determinism_and_audit.md R325 to R329 and the start barrier of R335: entries, commit, rollback, scans and moves. -/

namespace Sys2Proof.Machine

/-- Codes of SEQ_STATUS.STATE (R202). -/
def stIdle : Nat := 0
def stLoading : Nat := 1
def stRun : Nat := 2
def stCommitting : Nat := 3
def stRollback : Nat := 4
def stMigrate : Nat := 5
def stStopped : Nat := 6
def stHalted : Nat := 7

/-- Bytes of a STATE scan, and the bytes reserved per physical index in the drain area (R199, R200). -/
def scanBytes : Nat := 393216

namespace W

/-- The sequencer's own state replaced. -/
def setSeq (w : W) (s : Seq) : W := { w with c := { w.c with seq := s } }

def seqState (w : W) : Nat := w.fld Reg.SEQ_STATUS F.SEQ_STATUS_STATE

/-- STOP descriptors that wait for the next commit complete: no step follows (R301). In HALTED nothing completes
(R192). -/
def stopDone (w : W) : W :=
  (w.c.host.descs.filter fun d => d.opcode == 7 && d.phase == .acting).foldl (fun w (d : Desc) => w.complete d.jsn 0 0 0) w

/-- SEQ_STATUS.STATE changes: the error ring carries an event (R306), CP2's source is set (R437), the state sensor changes
(R452), and a drain that ATTN_L asked for ends (R455). -/
def setSeqState (w : W) (v : Nat) : W :=
  if w.seqState = v then w
  else
    let w := (((w.setFld Reg.SEQ_STATUS F.SEQ_STATUS_STATE v).pend 282).errEvent 4).sensorEvent 22 v
    let w := w.when (v == stStopped && w.fld Reg.SVC_STATUS F.SVC_STATUS_ATTN_STATE == 1) fun w => w.setAttn 2
    if v = stIdle ∨ v = stStopped then w.stopDone else w

/-- The step in progress, or the one to start next. -/
def stepNo (w : W) : Nat := (w.reg Reg.SEQ_STEP).toNat

/-- SEQ_WD.STEP_WD and its copy in every GSTEP_CFG.WD (R190). -/
def setStepWd (w : W) (v : Nat) : W :=
  (List.range 312).foldl (fun w p => w.setFld (Reg.GSTEP_CFG p) F.GSTEP_CFG_WD v) (w.setFld Reg.SEQ_WD F.SEQ_WD_STEP_WD v)

/-- DEVICES of the running image (device count minus 1). -/
def devices (w : W) : Nat := match w.c.seq.img with | some i => i.devices | none => 0

/-! ### Entries (R182, R326) -/

/-- GSTEP_STATE at a START: RUN, COLD, the step. -/
def entryState (w : W) (p : Nat) (cold : Bool) : W :=
  let k := Reg.GSTEP_STATE p
  (((w.setFld k F.GSTEP_STATE_STATE 1).setFlag k F.GSTEP_STATE_COLD cold).setFlag k F.GSTEP_STATE_BFAULT false).setFld k
    F.GSTEP_STATE_STEP_LO (w.stepNo % 2 ^ 16)

/-- The atomic tracker of the hall begins the step empty (R101). -/
def newTracker (w : W) (p : Nat) : W := w.setHall p { w.hall p with tracker := [], evicted := [] }

/-- WARM_ENTRY: STEPWAIT returns in SC0 and SC1; the snapped events leave the pending count. -/
def doWarmEntry (w : W) (p : Nat) : W :=
  if w.flag (Reg.GAL_FENCE p) F.GAL_FENCE_FENCED then w
  else
    let w := (w.entryState p false).newTracker p
    let sent := w.fld (Reg.GND_SENT p) ⟨31, 0⟩
    let w := w.setFld (Reg.GND_PEND p) ⟨31, 0⟩ (w.fld (Reg.GND_PEND p) ⟨31, 0⟩ - sent)
    let w := w.setFld (Reg.GND_SENT p) ⟨31, 0⟩ 0
    [0, 1].foldl (fun w n => if (w.sc p n).wait = .step then w.hNext (.sc p n) else w) w

/-- The queue engine of an agent at cold entry: queues emptied, connections cleared with no CLOSE; the drain queue, the
channel table and a configuration that waits are kept. -/
def coldAgent (w : W) (p a : Nat) : W :=
  let g := w.agent p a
  let conns := (List.range 64).foldl (fun (t : Tbl RConn) i =>
    let c := g.conn i
    Tbl.set (fun _ => {}) t i (if c.isOpen then { inc := (c.inc + 1) % 0x3FF } else { inc := c.inc })) []
  w.setAgent p a { conns := conns, drain := g.drain, nextCfg := g.nextCfg, table := g.table }

/-- A matrix core at cold entry: open tiles are abandoned. -/
def coldMc (w : W) (p n : Nat) : W :=
  ((w.setMc p n {}).setFlag (Reg.MC_STATUS p n) F.MC_STATUS_BUSY false).setFlag (Reg.MC_STATUS p n) F.MC_STATUS_DRAIN false

/-- A vector core at cold entry: a running kernel is abandoned. -/
def coldVc (w : W) (p n : Nat) : W :=
  ((w.setVc p n { w.vc p n with running := false, tag := 0, wait := .run }).setFlag (Reg.VC_STATUS p n)
    F.VC_STATUS_BUSY false).setFlag (Reg.VC_STATUS p n) F.VC_STATUS_QWAIT false

/-- A scalar core at cold entry: local address 0 (R86), unless it is halted or not enabled. -/
def coldSc (w : W) (p n : Nat) : W :=
  let st := Reg.SC_STATUS p n
  if w.flag st F.SC_STATUS_HALTED ∨ ¬ w.flag (Reg.SC_CFG p n) F.SC_CFG_EN then w
  else (((w.setSc p n { w.sc p n with wait := .run, outs := [] }).setReg (Reg.SC_PC p n) 0).setFlag st
    F.SC_STATUS_BUSY true).setFlag st F.SC_STATUS_QWAIT false

/-- COLD_ENTRY (R182, R149, R326). -/
def doColdEntry (w : W) (p : Nat) : W :=
  if w.flag (Reg.GAL_FENCE p) F.GAL_FENCE_FENCED then w
  else
    let w := (w.entryState p true).newTracker p
    let w := (List.range 16).foldl (fun w a => w.coldAgent p a) w
    let w := (List.range 8).foldl (fun w n => w.coldMc p n) w
    let w := (List.range 4).foldl (fun w n => w.coldVc p n) w
    let w := [0, 1].foldl (fun w n => w.coldSc p n) w
    let w := (w.setDm p {}).setSu p {}
    let w := w.setFld (Reg.GND_SENT p) ⟨31, 0⟩ 0
    ((List.range 16).filter fun a => a != 12 && a != 13).foldl (fun w a => w.openTable p a) w

/-- GSTEP_ABORT: ABORT reaches a gallery (R191). -/
def doGstepAbort (w : W) (p : Nat) : W :=
  if w.flag (Reg.GAL_FENCE p) F.GAL_FENCE_FENCED then w else w.setFld (Reg.GSTEP_STATE p) F.GSTEP_STATE_STATE 4

/-! ### Arriving (R139, R184) -/

/-- LND_FLT_ARRIVE: an agent of gallery `p` contributes; the contribution of the commit flight makes the gallery arrive,
and a non-flight queue that holds a token then is a BOUNDARY fault. -/
def doLndFltArrive (w : W) (p : Nat) (x : Word) : W :=
  let f := bits x 63 58
  let mine := bit (w.ft p f) 63 && bit (w.ft p f) 47 && bits x 57 42 == w.fltGen p f &&
    !(Tbl.get (fun _ => {}) (w.landing p).parts f).srcs.testBit 0
  let isCommit := match w.placement with | some pl => pl.commit == f | none => false
  let w := w.contribute p 0 x
  let k := Reg.GSTEP_STATE p
  if mine && isCommit && w.fld k F.GSTEP_STATE_STATE == 1 then
    (w.setFld k F.GSTEP_STATE_STATE 2).boundaryCheck p
  else w

/-! ### START (R185, R302, R310, R333, R335) -/

/-- A descriptor that holds the START of step `s`: an unacknowledged ACCEPT that names it, or a digest with HOLD. -/
def holdsStart (d : Desc) (s : Nat) : Bool :=
  d.bound && d.start == s && (d.phase == .accepting ||
    (d.opcode == 0x19 && d.status == 0 && (d.phase == .accepted || d.phase == .acting)))

/-- Nothing holds the START of the step that is due: the run limit, accepts, remaps, moves, half resets, drains and a
flip in progress. -/
def mayStart (w : W) : Bool :=
  let s := w.c.seq
  let n := w.stepNo
  decide (n ≤ s.runLimit) && !(w.c.host.descs.any fun d => holdsStart d n) && s.remaps.isEmpty && s.moves.isEmpty &&
    s.draining.isEmpty && w.c.flip.isNone &&
    !(w.c.resets.any fun r => match r.dom with | .half _ => true | _ => false)

/-- ABORT is multicast and the rollback begins (R191). -/
def beginRollback (w : W) : W :=
  let w := (w.setSeqState stRollback).setFlag Reg.SEQ_STATUS F.SEQ_STATUS_PREPARED false
  (w.setSeq { w.c.seq with phase := .quiet, release := none, flipped := false }).emit (.gstep false false true)

/-- A scan of gallery `p` begins with the GSTEP_SCAN value `v`. -/
def startScan (w : W) (p : Nat) (v : Word) : W :=
  let k := Reg.GSTEP_STATE p
  let w := { w with c := { w.c with scans := Tbl.set (fun _ => 0) w.c.scans p (w.fld k F.GSTEP_STATE_STATE) } }
  (w.setReg (Reg.GSTEP_SCAN p) (w64 (2 ^ 13 + bits v 12 1 * 2))).setFld k F.GSTEP_STATE_STATE 5

/-- A context drain begins (R200): the step is aborted and every live gallery's STATE is scanned to the drain area; the
rollback goes on when the scans are over. Without a drain area it is the rollback alone. -/
def beginDrain (w : W) : W :=
  let w := w.beginRollback
  match w.c.seq.img with
  | none => w
  | some i =>
    if i.drainBase = 0 then w
    else
      let w := w.liveGals.foldl (fun w p =>
        ((w.setFld (Reg.GSTEP_STATE p) F.GSTEP_STATE_STATE 4).setReg (Reg.GSTEP_SCAN_ADDR p)
          (i.drainBase + w64 (scanBytes * p))).startScan p (w64 (2 ^ 3))) w
      w.setSeq { w.c.seq with draining := w.liveGals, noAnswer := [] }

/-- START is multicast (R185): the step runs. A LOAD or REPLACE completes at its START, and an abort or a drain that came
after the last commit point now applies (R186). -/
def doStart (w : W) (cold : Bool) : W :=
  let s := w.c.seq
  let w := w.setSeqState stRun
  let w := w.setSeq { s with phase := .run, flipped := false, startBar := false, release := none, onStart := [],
                             abortNext := false, drainNext := false, placed := [] }
  let w := w.emit (.gstep true cold false)
  let w := s.onStart.foldl (fun w j => w.complete j 0 0 0) w
  if s.drainNext then w.beginDrain else if s.abortNext then w.beginRollback else w

/-- The START that is due is made, as far as nothing holds it: before a cold START the flip of R182, on several devices
the start barrier of R335. -/
def tryStart (w : W) : W :=
  match w.c.seq.phase with
  | .ready cold =>
    if (w.seqState ≠ stRun ∧ w.seqState ≠ stLoading) ∨ ¬ w.mayStart then w
    else if cold ∧ ¬ w.c.seq.flipped then
      (w.setSeq { w.c.seq with flipped := true }).sendFlip w.meshBank true
    else if w.c.seq.startBar ∧ 0 < w.devices then
      let w := w.setSeq { w.c.seq with phase := .startBarrier }
      match w.c.seq.img with
      | some i => w.barContribute i.view.startBar (w.stepNo % 2 ^ 16)
      | none => w
    else w.doStart cold
  | _ => w

/-! ### Commit (R185 to R189, R194, R311, R327, R328) -/

/-- The copies of step `s` are done and their FAIL records acknowledged (R311). -/
def copiesDone (w : W) (s : Nat) : Bool :=
  w.c.host.descs.all fun d =>
    !(d.bound && d.isCopy && d.start == s) ||
      ((d.failRec == 0 || d.failRec == 3) && d.left == 0 && (d.status != 0 || (d.phase == .acting && decide (d.bytes ≤ d.pos))))

/-- A commit record of the step in progress is written to its slot (R189), ahead of every guard. -/
def commitWrite (w : W) (state : Nat) : W :=
  match w.c.seq.img with
  | none => w
  | some i =>
    let s := w.stepNo
    let epoch := match w.usedGals.head? with | some p => w.epoch p 12 | none => 0
    let ws : List Word :=
      [ w64 (1 * 2 ^ 56 + state * 2 ^ 48 + w.fld Reg.SEQ_STATUS F.SEQ_STATUS_PLACE % 256 * 2 ^ 40 + epoch * 2 ^ 36
          + w.c.seq.cfg % 16 * 2 ^ 32 + i.devices % 2 ^ 16 * 2 ^ 16),
        w64 s, w64 w.c.time, w64 (leNat (i.digest.take 8)), w64 w.lowJsn, 0, 0, 0 ]
    let a := i.commitBase + w64 (64 * (s % 2))
    match w.place none (w.loc a) with
    | .mem m _ _ key => ((w.rcbClose m (key / 128)).wrBytes key (sealWords ws)).count (Reg.MEMC_WR_LINES m) 1
    | _ => w

/-- The commit point (R186): the COMMITTED record is issued, and the ND result is added (R327). -/
def issueCommitted (w : W) : W :=
  let nd := w.c.seq.release.getD 0
  let w := w.commitWrite 1
  let w := w.setSeqState stCommitting
  let w := w.addNd nd w.stepNo
  let w := w.when (nd == 0xFFFFFFFF) fun w => w.setFlag Reg.ND_STATUS F.ND_STATUS_SAT true
  let w := w.setFlag Reg.SEQ_STATUS F.SEQ_STATUS_PREPARED false
  w.setSeq { w.c.seq with phase := .record true, release := none, commitTime := w.c.time }

/-- With both releases in and the copies done, the commit begins: COMMITTED on one device, PREPARED on several (R194). -/
def tryCommit (w : W) : W :=
  if w.seqState = stRun ∧ w.c.seq.phase = .run ∧ w.c.seq.release.isSome ∧ w.copiesDone w.stepNo then
    if w.devices = 0 then w.issueCommitted
    else
      let w := (w.commitWrite 2).setSeqState stCommitting
      w.setSeq { w.c.seq with phase := .record false }
  else w

/-- COMMIT_RELEASE: the commit and ND releases are in; `nd` is the ND flight's result. -/
def doCommitRelease (w : W) (nd : Nat) : W :=
  if w.seqState = stRun ∧ w.c.seq.phase = .run then
    (w.setSeq { w.c.seq with release := some (nd % 2 ^ 32) }).tryCommit
  else w

/-- LIMIT of REGIONS entry `r` once step `s` is committed (R188). -/
def appendLimit (base first app s : Nat) : Nat := if first < s + 1 then base + app * (s - first + 1) else base

/-- The committed parity and the APPEND limits go into every guard copy (R185, R231), which clears the controller's
tracker (R217). -/
def writeGuards (w : W) (s : Nat) : W :=
  (List.range 16).foldl (fun w m =>
    let w := w.setMemc m { w.memc m with tracker := [], evicted := [] }
    let w := w.setReg (Reg.MEMC_GUARD m 64) (w64 (s % 2))
    (List.range 16).foldl (fun w r =>
      let e := fun i => w.reg (Reg.MEMC_GUARD m (4 * r + i))
      w.setReg (Reg.MEMC_GUARD m (65 + r))
        (if bits (e 3) 63 56 = 3 then w64 (appendLimit (e 0).toNat (e 2).toNat (bits (e 3) 31 0) s) else 0)) w) w

/-- COMMIT_RECORD_ACK (R185, R194): the guard copies are written, or PREPARED stands and the fabric barrier is entered. -/
def doCommitRecordAck (w : W) : W :=
  match w.c.seq.phase with
  | .record true => (w.writeGuards w.stepNo).setSeq { w.c.seq with phase := .guards }
  | .record false =>
    let w := w.setFlag Reg.SEQ_STATUS F.SEQ_STATUS_PREPARED true
    let w := w.setSeq { w.c.seq with phase := .fabric }
    match w.c.seq.img with
    | some i => w.barContribute i.view.commitBar (w.stepNo % 2 ^ 16)
    | none => w
  | _ => w

/-- The result record of a RESULT descriptor at the commit of step `s` (R331); the digest block came with its accept. -/
def resultRecord (w : W) (d : Desc) (s : Nat) : List Byte :=
  match w.c.seq.img with
  | none => []
  | some i =>
    let nd := w.reg Reg.ND_TOTAL
    let rank := (w.c.peers.filter fun q => decide (q < w.selfDev)).length
    let body := leBytes 8 (0x5252 + 1 * 2 ^ 16 + bits (w.reg Reg.ND_STATUS) 4 0 * 2 ^ 32) ++ leBytes 8 s ++
      leBytes 8 ((bit nd 63).toNat * 2 ^ 63 + bits nd 47 0) ++
      leBytes 8 (i.devices % 2 ^ 16 + rank % 2 ^ 16 * 2 ^ 16 + i.nseeds % 256 * 2 ^ 32) ++
      leBytes 8 w.c.seq.commitTime ++ List.replicate 24 0 ++ (i.digest ++ List.replicate 64 0).take 64 ++
      (d.buf ++ List.replicate 128 0).take 128 ++
      (wordBytes (i.seeds.take i.nseeds) ++ List.replicate 128 0).take 128 ++ List.replicate 64 0
    body ++ (Config.shake256 body 64 ++ List.replicate 64 0).take 64

/-- The descriptors that the commit of step `s` completes (R312, R331). -/
def commitDone (w : W) (s : Nat) : W :=
  w.c.host.descs.foldl (fun w (d0 : Desc) =>
    match w.desc d0.jsn with
    | none => w
    | some d =>
      if !d.bound || d.phase == .complete || d.phase == .writing || d.phase == .finWait || d.phase == .finishing then w
      else if d.isCopy && d.start == s then
        w.complete d.jsn 0 (w64 (if d.status = 0 then d.bytes else 0)) s
      else if d.opcode == 4 && decide (d.target ≤ s) then w.complete d.jsn 0 (w64 d.target) s
      else if d.opcode == 0x18 && d.start == s then w.setDesc { d with buf := w.resultRecord d s, step := s }
      else w) w

/-- A new configuration set is written (R193): the queue blocks take theirs at the epoch switch (R170), STEER, HALLREG
and MASKS at once, and the channel tables. -/
def writeCfg (w : W) (c : ImgCfg) (now : Bool) : W :=
  let w := c.regs.foldl (fun w (g, k, v) =>
    match w.physOf g with
    | none => w
    | some p =>
      if 0x20000 ≤ k ∧ ¬ now then
        let a := (k - 0x20000) / 0x2000
        let x := w.agent p a
        w.setAgent p a { x with nextCfg := x.nextCfg ++ [((k - 0x20000) % 0x2000, v)] }
      else w.setReg (galBase p + k) v) w
  let w := (c.channels.map fun x => (x.1, x.2.1)).eraseDups.foldl (fun w (g, a) =>
    match w.physOf g with
    | none => w
    | some p =>
      let es := (c.channels.filter fun x => x.1 == g && x.2.1 == a).map fun x => (x.2.2.1, x.2.2.2.1, x.2.2.2.2)
      w.setAgent p a { w.agent p a with table := es }) w
  w.writeMasks

/-! ### Moves (R201, R345) -/

/-- The scan of a move begins: START is held. -/
def beginMove (w : W) (m : Move) : W :=
  let f := fun (x : Move) => if x.g = m.g then { x with scanning := true } else x
  let k := Reg.GSTEP_SCAN m.src
  let w := (w.setSeq { w.c.seq with moves := w.c.seq.moves.map f }).setSeqState stMigrate
  let w := { w with c := { w.c with scans := Tbl.set (fun _ => 0) w.c.scans m.src
                                      (w.fld (Reg.GSTEP_STATE m.src) F.GSTEP_STATE_STATE) } }
  let w := (w.setReg k (w64 (2 ^ 13 + m.dst % 512 * 2 ^ 4 + 1 * 2))).setFld (Reg.GSTEP_STATE m.src) F.GSTEP_STATE_STATE 5
  ((w.setPstate m.dst 7).islandOn m.dst (w.fld (Reg.GPWR m.src) F.GPWR_PT)).when m.rotation fun w =>
    w.setFld (Reg.ST_HALF (halfOf m.src)) F.ST_HALF_STATE 3

/-- The boundary is reached: moves that wait begin. -/
def beginMoves (w : W) : W :=
  (w.c.seq.moves.filter fun m => !m.scanning).foldl (fun w m => w.beginMove m) w

/-- Everything after the last guard copy's acknowledgement (R185, R192, R193, R328): the atomic events are added, CP2 is
notified, descriptors complete, the logs of the step are freed, SEQ_STEP moves on, and the next START is made, held or
given up for STOPPED. `cfg` is a new configuration set, when the schedule changes it here. -/
def doGuardCopyAck (w : W) (cfg : Option Nat) : W :=
  if w.c.seq.phase ≠ .guards then w
  else
    let s := w.stepNo
    let nd := ((List.range 16).map fun m => (w.memc m).ndSince).sum
    let w := (List.range 16).foldl (fun w m => w.setMemc m { w.memc m with ndSince := 0 }) w
    let w := w.addNd nd s
    let w := (w.setReg Reg.SEQ_COMMITTED (w64 s)).pend 281
    let w := (w.setFld Reg.SEQ_STATUS F.SEQ_STATUS_REEXEC 0).setFlag Reg.SEQ_STATUS F.SEQ_STATUS_PREPARED false
    let w := (w.commitDone s).dropReserves fun _ => true
    let w := { w with c := { w.c with fabLog := {} } }
    let w := w.setReg Reg.SEQ_STEP (w64 (s + 1))
    let q := w.c.seq
    let w := match cfg with
      | none => w.setSeq { q with phase := .ready false }
      | some c =>
        if c = q.cfg then w.setSeq { q with phase := .ready false }
        else
          let w := w.setSeq { q with phase := .ready true, cfg := c }
          (match w.curCfg with
           | some x => w.writeCfg x false
           | none => w)
    if w.c.seq.stopReq then
      (w.setSeq { w.c.seq with phase := .idle, stopReq := false }).setSeqState stStopped
    else
      let w := w.setSeqState stRun
      if w.c.seq.moves.isEmpty then w.tryStart else w.beginMoves

/-! ### Rollback (R186, R191, R192, R194) -/

/-- The commit point of the step in progress has passed, or the fabric release has come (R186, R194). -/
def pastCommit (w : W) : Bool :=
  match w.c.seq.phase with
  | .record true => true
  | .guards => true
  | .ready _ => true
  | .startBarrier => true
  | .fabric =>
    (match w.c.seq.img with
     | some i => (w.bar i.view.commitBar).due.isSome
     | none => false)
  | _ => false

/-- An abort reaches the sequencer (R186): the step in progress rolls back, or the next one is started and aborted. -/
def orderAbort (w : W) : W :=
  let st := w.seqState
  if st = stRun ∨ st = stCommitting ∨ st = stMigrate then
    if w.pastCommit then w.setSeq { w.c.seq with abortNext := true } else w.beginRollback
  else w

/-- No further step starts (R181, R196, R359): a rollback in progress ends in STOPPED, a START that is due is not made,
and a commit in progress is the last. -/
def stopNow (w : W) : W :=
  let st := w.seqState
  match w.c.seq.phase with
  | .quiet => w.setSeq { w.c.seq with stopRoll := true }
  | .restart => w.setSeq { w.c.seq with stopRoll := true }
  | .ready _ => (w.setSeq { w.c.seq with phase := .idle, stopReq := false, abortNext := false,
                                         drainNext := false }).setSeqState stStopped
  | .startBarrier => (w.setSeq { w.c.seq with phase := .idle, stopReq := false, abortNext := false,
                                              drainNext := false }).setSeqState stStopped
  | _ =>
    if st = stRun ∨ st = stCommitting ∨ st = stMigrate then
      if w.pastCommit then w.setSeq { w.c.seq with stopReq := true }
      else (w.setSeq { w.c.seq with stopRoll := true }).beginRollback
    else w

/-- QUIET_END: the quiet time has passed and no scan of a drain is in progress. -/
def doQuietEnd (w : W) : W :=
  if w.seqState = stRollback ∧ w.c.seq.phase = .quiet ∧ w.c.seq.draining = [] then
    if w.c.seq.stopRoll then
      (w.setSeq { w.c.seq with phase := .idle, stopRoll := false }).setSeqState stStopped
    else w.setSeq { w.c.seq with phase := .restart }
  else w

/-- The schedule is abandoned (R192). -/
def abandon (w : W) : W :=
  let w := (w.setSeqState stHalted).setSeq { w.c.seq with phase := .idle }
  w.record { cls := 9, kind := 3, sev := 4, urgent := true, info := w64 (stHalted * 2 ^ 16), aux := w.reg Reg.SEQ_COMMITTED }

/-- ROLLBACK_RESTART: the flip of R182 and START with cold entry for the same step; or the schedule is abandoned. -/
def doRollbackRestart (w : W) : W :=
  let halves : Bool := w.c.resets.any fun r => match r.dom with | .half _ => true | _ => false
  if w.seqState ≠ stRollback ∨ w.c.seq.phase ≠ .restart ∨ w.c.seq.remaps ≠ [] ∨ w.c.flip.isSome ∨ halves then w
  else if w.c.seq.stopRoll then (w.setSeq { w.c.seq with phase := .idle, stopRoll := false }).setSeqState stStopped
  else
    let n := w.fld Reg.SEQ_STATUS F.SEQ_STATUS_REEXEC + 1
    if w.fld Reg.SEQ_CFG F.SEQ_CFG_MAX_REEXEC < n then w.abandon
    else
      let w := (w.setFld Reg.SEQ_STATUS F.SEQ_STATUS_REEXEC n).count Reg.SEQ_REEXECS 1
      let w := w.setFlag Reg.ND_STATUS F.ND_STATUS_REEXEC true
      let w := if w.c.seq.flipped then w else w.flipAll w.meshBank true
      let back := fun (d : Desc) =>
        if d.bound && d.isCopy && d.start == w.stepNo && d.status == 0 && d.phase == .acting then
          { d with phase := .accepted, pos := 0, left := 0 } else d
      let again := (w.c.host.descs.filter fun d => back d != d).map (·.jsn)
      let lost := fun (o : Nat × SclOp) => match o.2 with
        | .dmaIn j _ => if again.contains j then (o.1, SclOp.lost) else o
        | .dmaOut j _ => if again.contains j then (o.1, SclOp.lost) else o
        | _ => o
      let w := w.setHost { w.c.host with descs := w.c.host.descs.map back, ops := w.c.host.ops.map lost }
      w.doStart true |>.replayLogs

/-! ### SEQ_CTL (R202, R313) -/

/-- STACKS of an image names no unavailable stack (R180). -/
def stacksOk (w : W) (i : Img) : Bool :=
  i.stks &&& (255 - w.fld Reg.MEM_STACKS F.MEM_STACKS_ENABLED ||| w.fld Reg.MEM_STACKS F.MEM_STACKS_FAILED) == 0

/-- A placement of an image fits (R180): every logical gallery it uses has a physical one, and the stacks are there. -/
def placementFits (w : W) (i : Img) (p : ImgPlacement) : Bool :=
  p.uses.all (fun g => (w.physOf g).isSome) && w.stacksOk i

/-- SEQ_CTL.STOP. -/
def doSeqStop (w : W) : W :=
  let st := w.seqState
  if st = stIdle ∨ st = stStopped ∨ st = stHalted then w else w.setSeq { w.c.seq with stopReq := true }

/-- RESUME is allowed: STOPPED, with a fitting placement. -/
def mayResume (w : W) : Bool :=
  w.seqState == stStopped && (match w.c.seq.img, w.placement with
    | some i, some p => w.placementFits i p
    | _, _ => false)

/-- SEQ_CTL.RESUME: committed + 1 starts cold. -/
def doSeqResume (w : W) : W :=
  if w.mayResume then
    let w := w.setReg Reg.SEQ_STEP (w64 ((w.reg Reg.SEQ_COMMITTED).toNat + 1))
    ((w.setSeqState stRun).setSeq { w.c.seq with phase := .ready true, startBar := true, flipped := false, stopReq := false
                                                 abortNext := false }).tryStart
  else w

/-- SEQ_CTL.UNLOAD: back to IDLE; bound descriptors complete as not run, and so does a LOAD or REPLACE whose START never
came. -/
def doSeqUnload (w : W) : W :=
  let st := w.seqState
  if st = stStopped ∨ st = stHalted then
    let due := w.c.seq.onStart
    let w := ((w.setSeqState stIdle).setSeq {}).setFld Reg.SEQ_STATUS F.SEQ_STATUS_PLACE 0xFF
    let w := due.foldl (fun w j => w.complete j 5 0 0) w
    w.c.host.descs.foldl (fun w (d : Desc) =>
      if d.bound && (d.phase == .accepting || d.phase == .accepted || d.phase == .acting) then
        match w.desc d.jsn with
        | some d => if d.phase = .accepting then w.setDesc { d with status := 5 } else w.complete d.jsn 5 0 0
        | none => w
      else w) w
  else w

/-- The peers the sequencer's barrier waits for, as its entry knows them (R194, R282): the children that have not arrived,
or, with every source in, the parent. -/
def missingPeers (w : W) : List Nat :=
  match w.c.seq.img with
  | none => []
  | some i =>
    let k := if w.c.seq.phase = .fabric then i.view.commitBar else i.view.startBar
    let b := w.bar k
    if b.sent then [bits (w.barWord k 0) 47 32]
    else ((w.barChildren k).zipIdx.filter fun c => !b.got.testBit (1 + c.2)).map (·.1)

/-! ### Scans and drains (R199 to R201) -/

/-- SCAN_GO: GSTEP_SCAN is written with GO; ignored unless the gallery is ARRIVED, WAIT or ABORTED, or with a reserved
SCOPE. -/
def doScanGo (w : W) (p : Nat) (v : Word) : W :=
  let st := w.fld (Reg.GSTEP_STATE p) F.GSTEP_STATE_STATE
  if bit v 0 ∧ (st = 2 ∨ st = 3 ∨ st = 4) ∧ bits v 2 1 < 2 then w.startScan p v else w

/-- The registers in `lo ≤ off < hi` of gallery slot `a` are copied to slot `b`. -/
def copyRegs (w : W) (a b lo hi : Nat) : W :=
  let es := w.c.regs.filter fun e => decide (galBase a + lo ≤ e.1) && decide (e.1 < galBase a + hi)
  let w := w.resetRegs (galBase b + lo) (galBase b + hi)
  es.foldl (fun w e => w.setReg (e.1 - galBase a + galBase b) e.2) w

/-- A range of window offsets of gallery `a` is copied to gallery `b`. -/
def copyWindow (w : W) (a b lo hi : Nat) : W := w.copyMem (galKey a lo) (galKey a hi) (galKey b lo)

/-- The carry mask of gallery `g`'s placement unit (R176 HALLREG). -/
def carryOf (w : W) (g : Nat) : Nat :=
  match w.curCfg with
  | some c => ((c.carry.find? fun e => e.1 == g).map (·.2)).getD 0
  | none => 0

/-- The window ranges of the hall regions that gallery `p` carries, in order (R176 HALLREG, R199): HALL_REGIONi gives base
and size minus 1 in 4 KiB units, clipped at the end of the hall (R116). -/
def carryRanges (w : W) (p : Nat) : List (Nat × Nat) :=
  let carry := match w.logicalOf p with | some g => w.carryOf g | none => 0
  ((List.range 8).filter carry.testBit).map fun i =>
    let x := w.reg (Reg.HALL_REGION p i)
    let base := bits x 9 0 * 4096
    (base, min 0x400000 (base + (bits x 19 10 + 1) * 4096))

/-- The context of gallery `a` comes to the spare `b` (R199): with `full` the local memories and the carried hall regions
too. -/
def copyContext (w : W) (a b : Nat) (full : Bool) : W :=
  let w := w.copyRegs a b 0x4 0x100
  let w := w.copyRegs a b 0x100 0x3000
  let w := w.copyRegs a b 0x3020 0x3028
  let w := w.copyRegs a b 0x4000 0x4E00
  let w := w.copyRegs a b 0x20000 0x40000
  let w := (List.range 16).foldl (fun w i => w.setAgent b i (w.agent a i)) w
  let w := (List.range 8).foldl (fun w i => w.setMc b i (w.mc a i)) w
  let w := (List.range 4).foldl (fun w i => w.setVc b i (w.vc a i)) w
  let w := [0, 1].foldl (fun w i => w.setSc b i (w.sc a i)) w
  let w := (w.setSu b (w.su a)).setDm b (w.dm a)
  if !full then w
  else
    (w.carryRanges a).foldl (fun w r => w.copyWindow a b r.1 r.2) (w.copyWindow a b 0x400000 windowTop)

/-- The registers of gallery slot `p`, by offset. -/
def slotRegs (w : W) (p : Nat) : List (Nat × Word) :=
  (w.c.regs.filter fun e => decide (galBase p ≤ e.1) && decide (e.1 < galBase p + 0x40000)).map fun e =>
    (e.1 - galBase p, e.2)

/-- The queue stores of gallery `p`, drain queues last, by agent (R199). -/
def storesOf (w : W) (p : Nat) : List (List (List Packet)) :=
  (List.range 16).map fun a => (List.range 16).map (w.agent p a).queue ++ [(w.agent p a).drain]

/-- The connections of gallery `p`, both directions, by agent. -/
def chansOf (w : W) (p : Nat) : List (List Nat) :=
  (List.range 16).map fun a =>
    let g := w.agent p a
    (List.range 64).flatMap fun i =>
      let c := g.conn i
      let x := g.slot i
      [c.isOpen.toNat, c.inc, c.queue, c.expSeq, c.slots, c.lines, x.state, x.conn, x.slots, x.lines, x.seq]

/-- The bytes of a scan of gallery `p`. How STATE is laid out is not stated: its 384 KiB are a free function of what it
holds (log entry 1). FULL goes on with the local memories, which fill it up to 3 MiB, and the carry set (R199), in window
order (DESIGN CHOICE, log entry 1). -/
def scanImage (w : W) (p : Nat) (full : Bool) : List Byte :=
  let st := (Config.scanLayout (w.slotRegs p) (w.storesOf p) (w.chansOf p) ++ List.replicate scanBytes 0).take scanBytes
  let mem := fun (lo hi : Nat) => w.rdBytes (galKey p lo) (hi - lo)
  if full then st ++ mem 0x400000 0x6A0000 ++ (w.carryRanges p).flatMap fun r => mem r.1 r.2 else st

/-- A scan of gallery `p` to memory. -/
def scanToMem (w : W) (p : Nat) (full : Bool) : W :=
  (w.farWrite none (w64 p) (w.loc (w.reg (Reg.GSTEP_SCAN_ADDR p))) (w.scanImage p full)).2

/-- The identity of logical gallery `m.g` goes to the spare, and the map to flash (R365); the gallery it leaves is tested
after a rotation move and is a spare after a migration (R201, R347). -/
def moveIdentity (w : W) (m : Move) : W :=
  let w := ((((w.setMapEntry m.g (2 ^ 15 + m.dst)).moveChans m.src m.dst).setPstate m.dst 0).liftFence m.dst).saveMap
  let w := w.setSeq { w.c.seq with moves := w.c.seq.moves.filter fun x => x.g != m.g }
  let w := if m.rotation then
      (w.count (if halfOf m.src = 0 then Reg.ST_MOVES0 else Reg.ST_MOVES1) 1).enterTesting m.src
    else (((w.setPstate m.src 1).fenceIsland m.src).islandOff m.src)
  w.writeDistances.writeMasks.writeBanks

/-- A move is given up (R346): the banks are not flipped; the spare loses its passed status and is the next target of its
half; the target of a rotation is logged ABANDONED when it faulted itself (`fault`) and is tested at the next tick. -/
def dropMove (w : W) (m : Move) (fault : Bool) : W :=
  let w := (w.setPstate m.dst (if w.pstate m.dst = 7 then 1 else w.pstate m.dst)).islandOff m.dst
  let w := if fault then w
    else ({ w with c := { w.c with passAt := Tbl.set (fun _ => 0) w.c.passAt m.dst 0 } }).testAgain m.dst
  let w := w.setSeq { w.c.seq with moves := w.c.seq.moves.filter fun x => x.g != m.g }
  let w := w.when m.rotation fun w => w.abandonTarget m.src fault
  if w.c.seq.moves.isEmpty ∧ w.seqState = stMigrate then (w.setSeqState stRun).tryStart else w

/-- The scanned gallery's move completes (R201): identity and tables go to the spare, the banks flip with the
generations, the spare starts warm. -/
def finishMove (w : W) (m : Move) : W :=
  if !(w.setMapEntry m.g (2 ^ 15 + m.dst)).treesOk then w.dropMove m false
  else
    let w := w.setFld (Reg.GSTEP_STATE m.dst) F.GSTEP_STATE_STATE (Tbl.get (fun _ => 0) w.c.scans m.src)
    let w := (w.moveIdentity m).sendFlip (1 - w.meshBank) false
    if w.c.seq.moves.isEmpty then (w.setSeqState stRun).tryStart else w

/-- The context of gallery `p` is drained: its hang records are free again (R175) and its reservations without data are
released (R166). -/
def contextDrained (w : W) (p : Nat) : W :=
  ((List.range 16).foldl (fun w a => w.resetRegs (Reg.Q_HANG_INFO p a) (Reg.Q_HANG_TGT p a + 8)) w).dropReserves
    fun k => k / 16 == p

/-- SCAN_DONE: the scan of gallery `p` has completed, or stopped on a parity error or time-out (`bad`). -/
def doScanDone (w : W) (p : Nat) (bad : Bool) : W :=
  let k := Reg.GSTEP_SCAN p
  if !w.flag k F.GSTEP_SCAN_BUSY then w
  else
    let toMem := w.flag k F.GSTEP_SCAN_TO_MEM
    let full := w.fld k F.GSTEP_SCAN_SCOPE == 1
    let dst := w.fld k F.GSTEP_SCAN_DST_PHYS
    let w := if bad then w
      else if toMem then w.scanToMem p full
      else if galOk dst then w.copyContext p dst full else w
    let w := ((w.setFlag k F.GSTEP_SCAN_BUSY false).setFlag k F.GSTEP_SCAN_DONE (!bad)).setFlag k F.GSTEP_SCAN_ERROR bad
    let w := w.setFld (Reg.GSTEP_STATE p) F.GSTEP_STATE_STATE (Tbl.get (fun _ => 0) w.c.scans p)
    let w := w.when (w.c.seq.draining.contains p && !bad) fun w => w.contextDrained p
    let w := w.setSeq { w.c.seq with draining := w.c.seq.draining.filter (· ≠ p) }
    match w.c.seq.moves.find? fun m => m.src == p && m.scanning with
    | none => w
    | some m => if bad then w.dropMove m false else w.finishMove m

/-- A context drain is ordered (R200): past the commit point it applies to the next step (R186). -/
def orderDrain (w : W) : W :=
  let st := w.seqState
  if st = stRun ∨ st = stCommitting ∨ st = stMigrate then
    if w.pastCommit then w.setSeq { w.c.seq with abortNext := true, drainNext := true } else w.beginDrain
  else w

/-- MIGRATION_START (R201): logical gallery `g` moves to the spare `dst` of the same half; a step in progress ends
first. A rotation move in IDLE, STOPPED or HALTED has no context to carry and is made without a scan (R345). -/
def requestMove (w : W) (g dst : Nat) (rotation : Bool) : W :=
  match w.physOf g with
  | none => w
  | some src =>
    let busy := w.c.seq.moves.any fun m => m.g == g || m.dst == dst || halfOf m.src == halfOf src
    let st := w.seqState
    let mine := !rotation || w.testMoving src
    let m : Move := { g := g, src := src, dst := dst, rotation := rotation, scanning := false }
    if halfOf src ≠ halfOf dst ∨ w.pstate dst ≠ 1 ∨ busy ∨ ¬ mine ∨
        (w.c.seq.remaps.any fun r => halfOf r.old == halfOf src) then w
    else if st = stRun ∨ st = stCommitting ∨ st = stMigrate then
      let w := w.setSeq { w.c.seq with moves := w.c.seq.moves ++ [m] }
      match w.c.seq.phase with
      | .ready _ => w.beginMoves
      | _ => w
    else if rotation ∧ (st = stIdle ∨ st = stStopped ∨ st = stHalted) then
      ((w.islandOn dst (w.fld (Reg.GPWR src) F.GPWR_PT)).moveIdentity m).sendFlip (1 - w.meshBank) true
    else w

end W

/-! ### The meanings -/

/-- LND_FLT_ARRIVE. -/
def execLndFltArrive (p : Nat) (x : Word) (s : State) : Host.Outcome State Fault Refusal :=
  runOn (galOk p) s fun w => w.doLndFltArrive p x

/-- SEQ_STEP_START. -/
def execSeqStepStart (s : State) : Host.Outcome State Fault Refusal := run s fun w => w.tryStart

/-- WARM_ENTRY. -/
def execWarmEntry (p : Nat) (s : State) : Host.Outcome State Fault Refusal := runOn (galOk p) s fun w => w.doWarmEntry p

/-- COLD_ENTRY. -/
def execColdEntry (p : Nat) (s : State) : Host.Outcome State Fault Refusal := runOn (galOk p) s fun w => w.doColdEntry p

/-- GSTEP_ABORT. -/
def execGstepAbort (p : Nat) (s : State) : Host.Outcome State Fault Refusal := runOn (galOk p) s fun w => w.doGstepAbort p

/-- COMMIT_RELEASE. -/
def execCommitRelease (nd : Nat) (s : State) : Host.Outcome State Fault Refusal := run s fun w => w.doCommitRelease nd

/-- COMMIT_RECORD_ACK. -/
def execCommitRecordAck (s : State) : Host.Outcome State Fault Refusal := run s fun w => w.doCommitRecordAck

/-- GUARD_COPY_ACK. -/
def execGuardCopyAck (cfg : Option Nat) (s : State) : Host.Outcome State Fault Refusal :=
  run s fun w => w.doGuardCopyAck cfg

/-- QUIET_END. -/
def execQuietEnd (s : State) : Host.Outcome State Fault Refusal := run s fun w => w.doQuietEnd

/-- ROLLBACK_RESTART. -/
def execRollbackRestart (s : State) : Host.Outcome State Fault Refusal := run s fun w => w.doRollbackRestart

/-- SEQ_CTL_STOP. -/
def execSeqCtlStop (s : State) : Host.Outcome State Fault Refusal := run s fun w => w.doSeqStop

/-- SEQ_CTL_RESUME. -/
def execSeqCtlResume (s : State) : Host.Outcome State Fault Refusal := run s fun w => w.doSeqResume

/-- SEQ_CTL_UNLOAD. -/
def execSeqCtlUnload (s : State) : Host.Outcome State Fault Refusal := run s fun w => w.doSeqUnload

/-- SEQ_CTL_ABORT. -/
def execSeqCtlAbort (s : State) : Host.Outcome State Fault Refusal := run s fun w => w.orderAbort

/-- SCAN_GO. -/
def execScanGo (p : Nat) (v : Word) (s : State) : Host.Outcome State Fault Refusal :=
  runOn (galOk p) s fun w => w.doScanGo p v

/-- MIGRATION_START. -/
def execMigrationStart (g dst : Nat) (s : State) : Host.Outcome State Fault Refusal :=
  runOn (galOk dst) s fun w => w.requestMove g dst false

/-- ROTATION_MOVE (R345): the target carrying `g` hands it to the receiving spare `dst`. -/
def execRotationMove (g dst : Nat) (s : State) : Host.Outcome State Fault Refusal :=
  runOn (galOk dst) s fun w => w.requestMove g dst true

/-- FABRIC_BARRIER_TIMEOUT (R194): FAB_WD has passed without the fabric release; the missing peers are reported, one
record each with the device in CONN_A (DESIGN CHOICE: R354 names no field for it, log entry 50), and the wait goes on. -/
def execFabricBarrierTimeout (s : State) : Host.Outcome State Fault Refusal :=
  run s fun w =>
    if w.c.seq.phase = .fabric ∨ w.c.seq.phase = .startBarrier then
      w.missingPeers.foldl (fun w d =>
        w.record { cls := 9, kind := 4, sev := 3, connA := d, info := w64 (w.seqState * 2 ^ 16),
                   aux := w.reg Reg.SEQ_COMMITTED }) w
    else w

/-- SEQ_CNT_CLR (R202). -/
def execSeqCntClr (v : Word) (s : State) : Host.Outcome State Fault Refusal :=
  run s fun w => w.clearCounters Reg.SEQ_REEXECS 2 v

/-- GND_SNAP (R326). -/
def execGndSnap (p : Nat) (s : State) : Host.Outcome State Fault Refusal :=
  runOn (galOk p) s fun w => w.setFld (Reg.GND_SENT p) ⟨31, 0⟩ (w.fld (Reg.GND_PEND p) ⟨31, 0⟩)

end Sys2Proof.Machine
end

