-- ==== Sys2Proof/Machine/SclLink.lean ====
section
/-! DEFINITION. The coherent link itself (12_host_link_and_rings.md R291 to R294): training, failure, and the frames that
arrive. The rows of chapter 10 that name a port act on this link when they name port 64. -/

namespace Sys2Proof.Machine

namespace W

def sclState (w : W) : Nat := w.fld Reg.SCL_STATUS F.SCL_STATUS_STATE

/-- SCL_STATUS.STATE changes, with the interrupt source of R437. -/
def setSclState (w : W) (v : Nat) : W :=
  if w.sclState = v then w else (w.setFld Reg.SCL_STATUS F.SCL_STATUS_STATE v).pend 280

/-- An error record of the link (R354 class 0x0D), with SCL_FAULT_INFO, which keeps the first fault. -/
def sclNote (w : W) (kind lanes lseq sev : Nat) : W :=
  let w := w.when (!w.flag Reg.SCL_FAULT_INFO F.SCL_FAULT_INFO_VALID) fun w =>
    w.setReg Reg.SCL_FAULT_INFO (w64 (lseq % 2 ^ 16 * 2 ^ 48 + 2 ^ 47 + kind % 16 * 2 ^ 43 + lanes % 2 ^ 16 * 2 ^ 27))
  w.record { cls := 0x0D, kind := kind, sev := sev, info := w.reg Reg.SCL_FAULT_INFO }

/-- What was held goes out when the link is UP (R294). -/
def sclRelease (w : W) : W :=
  let ms := w.c.host.held
  let w := w.setHost { w.c.host with held := [] }
  (ms.foldl (fun w m => w.sclSendOn m.1 m.2) w).sclPump

/-- The sequence and the credits begin anew. What the far end has not acknowledged goes out again before what follows it:
the byte streams of the lanes go on where its last ACK left them (DESIGN CHOICE, log entry 16). -/
def sclRestart (p : Port) : Port :=
  let again := fun (f : LinkFrame) =>
    [(f.vl, f.data.take f.fpkt, true), (f.vl, f.data.drop f.fpkt, false)].filter fun x => !x.2.1.isEmpty
  { out := p.replay.flatMap again ++ p.out, part := p.part, shares := p.shares, cwc := p.cwc }

/-- The link fails in service (R294): FAILED, and it retrains at once; no host line is held from then on. A marginal link,
KIND 0x5, is only recorded. -/
def sclFail (w : W) (kind lanes lseq : Nat) : W :=
  if w.sclState ≠ 3 then w
  else if kind = 5 then w.sclNote 5 lanes lseq 0
  else
    let w := (w.setSclState 4).sclNote kind lanes lseq 3
    w.setHost { w.c.host with train := .lock, missed := false, lines := [], link := sclRestart w.c.host.link }

/-- The identity goes out: ROLE 0 is the device, then the version, the lane split and the replay depth (R293). -/
def sclIdentity (w : W) : W :=
  let x := w.reg Reg.SCL_VLCRED
  w.sclSendFrame { ftype := 2, subtype := 1,
                   args := .train 0 0 0 0 1 ((List.range 8).map fun v => bits x (8 * v + 7) (8 * v)) 1024 }

/-- A phase of the training misses: it is tried once more, then the link is FAILED. -/
def sclMiss (w : W) (kind : Nat) : W :=
  if w.c.host.missed then ((w.setSclState 4).sclNote kind 0 0 3).setHost { w.c.host with train := .none, missed := false }
  else
    let w := w.setHost { w.c.host with missed := true }
    if w.c.host.train = .identity then w.sclIdentity else w

/-- The training has come to phase `t`. -/
def sclPhase (w : W) (t : Train) : W := w.setHost { w.c.host with train := t, missed := false }

/-- All 16 lanes are locked: the identity goes out. -/
def sclLock (w : W) (seen : List (BitVec 20 × Nat)) : W :=
  if w.c.host.train ≠ .lock ∨ lanesAgree 16 seen = false then w
  else ((w.setSclState 1).sclPhase .identity).sclIdentity

/-- A frame of the link that the FEC and the CRC let through, with its ACK and counts taken; a bad one is counted and asked
for again (R239, R242, R244, R291). -/
def sclFrameIn (w : W) (f : LinkFrame) (u : FrameUpset) : Option LinkFrame × W :=
  if w.sclState = 0 ∨ 3 < w.sclState then (none, w)
  else match receivedFrame f u with
    | none => (none, (w.countErr Reg.SCL_CRC_ERR).sclAsk)
    | some g => (some g, if g.ftype = 3 then w.sclAck g else (w.sclAck g).sclPump)

/-- The far end's TRAIN frame: ROLE 1 and a common version of at least 1, or the phase is missed. -/
def sclTrain (w : W) (f : LinkFrame) (u : FrameUpset) : W :=
  match w.sclFrameIn f u with
  | (none, w) => w
  | (some f, w) =>
    match f.args with
    | .train role _ _ _ version shares _ =>
      if w.c.host.train ≠ .identity then w
      else if role = 1 ∧ 1 ≤ version then
        let w := (w.sclPhase .soak).setFld Reg.SCL_STATUS F.SCL_STATUS_VERSION 1
        (w.setHost { w.c.host with link := { w.c.host.link with shares := shares } }).setSclState 2
      else w.sclMiss 8
    | _ => w

/-- The soak ends, by the criteria of R249 on every lane: a link that passes is UP. -/
def sclSoak (w : W) (syms : List Nat) (errors : Nat) : W :=
  if w.c.host.train ≠ .soak then w
  else if !(syms.all fun n => decide (n ≤ 2125000)) || errors != 0 then w.sclMiss 9
  else
    let w := (w.sclPhase .none).setReg Reg.SCL_FAULT_INFO 0
    (w.setSclState 3).sclRelease

/-- A training phase reaches its limit. -/
def sclPhaseTimeout (w : W) : W :=
  match w.c.host.train with
  | .none => w
  | .soak => w.sclMiss 9
  | _ => w.sclMiss 8

/-- The bytes of an accepted frame join their lane's stream: the messages they complete. A poisoned frame drops every
message with a byte in it (R248). A frame is freed with the last message that has a byte in it. -/
def sclTake (w : W) (f : LinkFrame) : List SclMsg × W :=
  let p := w.c.host.link
  let v := f.vl
  let held := Tbl.get (fun _ => 0) p.frames v + 1
  let put := fun (p : Port) (n : Nat) =>
    w.setHost { w.c.host with link :=
      { p with freed := Tbl.set (fun _ => 0) p.freed v ((Tbl.get (fun _ => 0) p.freed v + n) % 2 ^ 16) } }
  let skip := Tbl.get (fun _ => false) p.resync v
  if f.poison ∨ (skip ∧ f.fpkt = 0x1FF) then
    ([], put { p with part := Tbl.set (fun _ => []) p.part v [], frames := Tbl.set (fun _ => 0) p.frames v 0,
                      resync := Tbl.set (fun _ => false) p.resync v true } held)
  else
    let bs := if skip then f.data.drop f.fpkt else Tbl.get (fun _ => []) p.part v ++ f.data
    let (ms, left) := takeMsgs (bs.length / 16 + 1) bs
    let kept := if left = [] then 0 else if ms = [] then held else 1
    (ms, put { p with part := Tbl.set (fun _ => []) p.part v left, frames := Tbl.set (fun _ => 0) p.frames v kept,
                      resync := Tbl.set (fun _ => false) p.resync v false } (held - kept))

/-- A DATA frame of the link (R245): in LSEQ order, or discarded and asked for again. -/
def sclFrame (w : W) (f : LinkFrame) (u : FrameUpset) : List SclMsg × W :=
  if w.sclState ≠ 3 then ([], w)
  else match w.sclFrameIn f u with
    | (none, w) => ([], w)
    | (some f, w) =>
      let p := w.c.host.link
      if f.ftype ≠ 1 then ([], w)
      else if f.lseq = p.expect then
        (w.setHost { w.c.host with link := { p with expect := (p.expect + 1) % 2 ^ 16, missing := false } }).sclTake f
      else if serialLater 16 f.lseq p.expect then ([], w.sclAsk)
      else ([], w)

/-- Replays from one LSEQ before the link fails: the value that FAB_PORT_CFG.RETRY_MAX of a port has at reset, since the
link has no such field (DESIGN CHOICE, log entry 16). -/
def sclRetryMax : Nat := 4

/-- The frames not acknowledged are sent again (R246); `bad` is the LSEQ of one whose parity fails in the replay buffer
(R248). -/
def sclReplay (w : W) (bad : Option Nat) : W :=
  let p := w.c.host.link
  if w.sclState ≠ 3 then w
  else match p.replay with
    | [] => w
    | f0 :: _ =>
      if sclRetryMax ≤ p.tries then w.sclFail 1 0 f0.lseq
      else
        let w := w.setHost { w.c.host with link := { p with tries := p.tries + 1 } }
        p.replay.foldl (fun w f =>
          let hit := bad == some f.lseq
          let w := (w.sclSendFrame { f with poison := f.poison || hit }).count Reg.SCL_REPLAYS 1
          w.when hit fun w => w.sclNote 6 0 0 1) w

/-- A NAK on the link (R246). -/
def sclNak (w : W) (f : LinkFrame) (u : FrameUpset) (bad : Option Nat) : W :=
  match w.sclFrameIn f u with
  | (none, w) => w
  | (some f, w) =>
    if f.ftype ≠ 3 then w
    else if w.c.host.link.replay.any fun r => r.lseq == f.ack then (w.sclReplay bad).sclPump
    else w.sclFail 1 0 f.ack

/-- A 1 s window ends (R250): corrected symbols and uncorrectable codewords per lane. -/
def sclQual (w : W) (lanes : List (Nat × Nat)) : W :=
  let m := w.fld Reg.FAB_QUAL F.FAB_QUAL_MARGIN_K * 1024
  let k := w.fld Reg.FAB_QUAL F.FAB_QUAL_FAIL_K * 1024
  let lanesOf := fun (f : Nat × Nat → Bool) =>
    lanes.zipIdx.foldl (fun (a : Nat) x => if f x.1 then a + 2 ^ x.2 else a) 0
  let bad := lanesOf fun x => decide (k < x.1) || decide (100 < x.2)
  let mar := lanesOf fun x => decide (m < x.1) || x.2 != 0
  if bad ≠ 0 then w.sclFail 4 bad 0 else if mar ≠ 0 then w.sclFail 5 mar 0 else w

/-- SCL_CFG.EN is set: the link trains; or cleared: DISABLED (R293). -/
def doSclEnable (w : W) (on : Bool) : W :=
  if w.flag Reg.SCL_CFG F.SCL_CFG_EN = on then w
  else
    let w := w.setFlag Reg.SCL_CFG F.SCL_CFG_EN on
    if on then (w.setHost { w.c.host with train := .lock, missed := false }).setSclState 1
    else
      let h := w.c.host
      ((w.setHost { h with train := .none, missed := false, lines := [], link := sclRestart h.link }).setFld Reg.SCL_STATUS
        F.SCL_STATUS_VERSION 0).setSclState 0

end W

/-! ### The meanings -/

/-- SCL_LINK_ENABLE. -/
def execSclLinkEnable (on : Bool) (s : State) : Host.Outcome State Fault Refusal := run s fun w => w.doSclEnable on

/-- SCL_LINK_FAIL. -/
def execSclLinkFail (kind lanes lseq : Nat) (s : State) : Host.Outcome State Fault Refusal :=
  run s fun w => w.sclFail kind lanes lseq

end Sys2Proof.Machine
end

