-- ==== Sys2Proof/Machine/Links.lean ====
section
/-! DEFINITION. Fabric ports and links (10_fabric_links.md R232 to R256): roles, frames, sequence and replay, credits,
training, failure and hot spares, latches. -/

namespace Sys2Proof.Machine

/-- The port exists on the package (R232). -/
def portOk (q : Nat) : Bool := decide (q < 64)

/-! ### Fabric packets as bytes (R262) -/

/-- The header of a packet. -/
def fabHeader (t : FabPkt) : List Byte :=
  wordBytes
    [ w64 (t.version % 16 * 2 ^ 60 + t.ptype % 16 * 2 ^ 56 + t.dst % 2 ^ 16 * 2 ^ 40 + t.src % 2 ^ 16 * 2 ^ 24
        + t.splane % 2 * 2 ^ 23 + t.mc.toNat * 2 ^ 22 + t.last.toNat * 2 ^ 21 + t.rsv % 8 * 2 ^ 18 + t.epoch % 16 * 2 ^ 14
        + t.len % 2 ^ 14),
      w64 (t.psn % 2 ^ 32 * 2 ^ 32 + t.msn % 2 ^ 32), w64 (t.off % 2 ^ 32 * 2 ^ 32 + t.mlen % 2 ^ 32), t.addr ]

/-- The packet on the wire; a packet whose ECRC fails carries a wrong one. -/
def fabBytes (t : FabPkt) : List Byte :=
  let b := fabHeader t ++ t.data
  let crc := crc32c b ^^^ t.ecrcBad.toNat
  b ++ leBytes 8 (crc * 2 ^ 32 + t.hops % 256 * 2 ^ 24 + t.dl % 8 * 2 ^ 21 + t.trsv % 2 ^ 21)

/-- LEN of the packet that begins a byte stream. -/
def streamLen (bs : List Byte) : Nat := bits (payWord bs 0) 13 0

/-- The packet that begins a byte stream, when all of it is there, and the rest. -/
def fabOfBytes (bs : List Byte) : Option (FabPkt × List Byte) :=
  let n := streamLen bs
  if bs.length < 40 + n then none
  else
    let w := payWord bs
    let tr := payWord (bs.drop (32 + n)) 0
    some ({ version := bits (w 0) 63 60, ptype := bits (w 0) 59 56, dst := bits (w 0) 55 40, src := bits (w 0) 39 24,
            splane := bits (w 0) 23 23, mc := bit (w 0) 22, last := bit (w 0) 21, rsv := bits (w 0) 20 18,
            epoch := bits (w 0) 17 14, len := n, psn := bits (w 1) 63 32, msn := bits (w 1) 31 0, off := bits (w 2) 63 32,
            mlen := bits (w 2) 31 0, addr := w 3, data := (bs.drop 32).take n,
            hops := bits tr 31 24, dl := bits tr 23 21, trsv := bits tr 20 0,
            ecrcBad := bits tr 63 32 != crc32c (bs.take (32 + n)) }, bs.drop (40 + n))

/-- Every packet complete in a byte stream, and what is left; at most `fuel` packets. -/
def takePkts : Nat → List Byte → List FabPkt × List Byte
  | 0, bs => ([], bs)
  | fuel + 1, bs =>
    match fabOfBytes bs with
    | none => ([], bs)
    | some (t, rest) =>
      let (ts, left) := takePkts fuel rest
      (t :: ts, left)

/-- The opposite direction (R234). -/
def oppDir (d : Nat) : Nat := if d % 2 = 0 then d + 1 else d - 1

namespace W

def port (w : W) (q : Nat) : Port := Tbl.get (fun _ => {}) w.c.ports q
def setPort (w : W) (q : Nat) (v : Port) : W := { w with c := { w.c with ports := Tbl.set (fun _ => {}) w.c.ports q v } }

/-! ### Roles and the torus (R234, R257) -/

/-- The engine of port `q` is not fused off. -/
def engineOn (w : W) (q : Nat) : Bool := !w.c.fuses.engOff.toNat.testBit (q / 8)

/-- The enabled ports of half `h`, by index, and those of them that are no hot spares. -/
def halfPorts (w : W) (h : Nat) : List Nat := (List.range 32).filter fun i => w.engineOn (32 * h + i)
def ranked (w : W) (h : Nat) : List Nat :=
  let ps := w.halfPorts h
  if ps.length = 32 then ps.filter fun i => i != 15 && i != 31 else ps

/-- Ports per direction and half. -/
def perDir (w : W) (h : Nat) : Nat := (w.ranked h).length / 6

/-- DIR and device ordinal of port `q`: (7, 0xF) for a hot spare (R234). -/
def roleOf (w : W) (q : Nat) : Nat × Nat :=
  let h := q / 32
  match (w.ranked h).findIdx? fun i => i == q % 32 with
  | some k => (k % 6, w.perDir h * h + k / 6)
  | none => (7, 0xF)

/-- The plane an ordinal belongs to (R258). -/
def planeOf (w : W) (ord : Nat) : Nat := if ord < w.perDir 0 then 0 else 1

/-- The sizes of the torus. -/
def torus (w : W) : List Nat :=
  [w.fld Reg.FAB_TOPO F.FAB_TOPO_SX_M1 + 1, w.fld Reg.FAB_TOPO F.FAB_TOPO_SY_M1 + 1, w.fld Reg.FAB_TOPO F.FAB_TOPO_SZ_M1 + 1]

/-- Coordinates of a device. -/
def coords (w : W) (dev : Nat) : List Nat :=
  let s := w.torus
  let sx := s.getD 0 1
  let sy := s.getD 1 1
  [dev % sx, dev / sx % sy, dev / sx / sy]

/-- The device lies in the torus. -/
def inTorus (w : W) (dev : Nat) : Bool := decide (dev < w.torus.foldl (· * ·) 1)

/-- The neighbour of this device in a direction. -/
def neighbour (w : W) (dir : Nat) : Nat :=
  let s := w.torus
  let c := w.coords w.selfDev
  let d := dir / 2
  let n := s.getD d 1
  let c := c.set d ((c.getD d 0 + (if dir % 2 = 0 then 1 else n - 1)) % n)
  c.getD 0 0 + s.getD 0 1 * (c.getD 1 0 + s.getD 1 1 * c.getD 2 0)

/-- FAB_ORDER.EXPELLED (R287). -/
def expelled (w : W) : Bool := w.flag Reg.FAB_ORDER F.FAB_ORDER_EXPELLED

/-! ### States -/

def portState (w : W) (q : Nat) : Nat := w.fld (Reg.FAB_PORT_STATUS q) F.FAB_PORT_STATUS_STATE

/-- STATE changes, with the event of R437 source 80 + q. -/
def setPortState (w : W) (q s : Nat) : W :=
  if w.portState q = s then w else (w.setFld (Reg.FAB_PORT_STATUS q) F.FAB_PORT_STATUS_STATE s).pend (80 + q)

/-- The latch of the unit of port `q` is lifted. -/
def lifted (w : W) (q : Nat) : Bool := (w.fld Reg.FAB_LATCH F.FAB_LATCH_LIFTED).testBit (q / 8)

/-- The latched failure and the record of a port (R256, R354 class 0x0B). -/
def portNote (w : W) (q kind lanes lseq sev : Nat) : W :=
  let k := Reg.FAB_PORT_FAULT_INFO q
  let w := w.when (!w.flag k F.FAB_PORT_FAULT_INFO_VALID) fun w =>
    w.setReg k (w64 (lseq % 2 ^ 16 * 2 ^ 48 + 2 ^ 47 + kind % 16 * 2 ^ 43 + lanes % 16 * 2 ^ 39))
  w.record { cls := 0x0B, kind := kind, sev := sev, unit := some q, info := w.reg k, aux := w.reg (Reg.FAB_PORT_PEER q) }

/-- A parity error in a buffer of port `q` (R248, R358). -/
def bufferParity (w : W) (q : Nat) : W :=
  let info := w64 (q / 32 * 2 ^ 16 + w.fld (Reg.FAB_PORT_PEER q) F.FAB_PORT_PEER_DEVICE)
  let w := (w.portNote q 6 0 0 1).record { cls := 0x0C, kind := 6, sev := 1, info := info }
  (w.strike 8 (q / 32) 0x0C 6 4).2

/-! ### Sending frames (R241, R243, R244) -/

/-- A frame takes its slot: with the fifth of a codeword, the codewords of the four lanes go out (R237, R238). -/
def intoSlot (w : W) (q : Nat) (f : LinkFrame) : W :=
  let p := w.port q
  let fs := p.group ++ [f]
  if fs.length < codewordFrames 4 then w.setPort q { p with group := fs }
  else
    (List.range 4).foldl (fun w l => w.emit (.codeword q l (codeword 4 l p.cwc fs)))
      (w.setPort q { p with group := [], cwc := (p.cwc + 1) % 256 })

/-- A frame leaves: it carries the current ACK and the freed count of one lane; a CTRL or NAK frame all of them. -/
def sendFrame (w : W) (q : Nat) (f : LinkFrame) : W :=
  let p := w.port q
  let freed := fun (v : Nat) => Tbl.get (fun _ => 0) p.freed v
  let f := { f with ack := p.expect, cvl := p.cvl, ccum := freed p.cvl,
                    counts := if f.ftype = 1 then [] else (List.range 8).map freed }
  (((w.setPort q { p with cvl := (p.cvl + 1) % 8 }).emit (.frame q f)).count (Reg.LNK_TX_FRAMES q) 1).intoSlot q f

/-- A CTRL frame of a subtype. -/
def sendCtrl (w : W) (q sub : Nat) (args : LinkArgs) : W := w.sendFrame q { ftype := 2, subtype := sub, args := args }

/-- The lane has a credit for one more DATA frame (R243). -/
def laneCredit (w : W) (q v : Nat) : Nat :=
  let p := w.port q
  let used := (Tbl.get (fun _ => 0) p.sent v + 2 ^ 16 - Tbl.get (fun _ => 0) p.ccum v % 2 ^ 16) % 2 ^ 16
  4 * p.shares.getD v 0 - used

/-- The lane whose packet goes on next: control lanes first (R266), a lane with credit; a draining port only finishes
packets in progress (R254). -/
def nextLane (w : W) (q : Nat) : Option Nat :=
  let p := w.port q
  let drain := w.portState q == 5
  let may := fun (v : Nat) => decide (0 < w.laneCredit q v) &&
    (match p.out.find? fun o => o.1 == v with | some o => !drain || o.2.2 | none => false)
  match [6, 7].find? may with
  | some v => some v
  | none => (p.out.map (·.1)).find? may

/-- One DATA frame goes out, when there is one to send and the replay buffer has room. -/
def sendData (w : W) (q : Nat) : W :=
  let p := w.port q
  if w.expelled ∨ (w.portState q ≠ 3 ∧ w.portState q ≠ 5) ∨ 256 ≤ p.replay.length then w
  else match w.nextLane q with
    | none => w
    | some v =>
      let (d, off, rest) := fillFrame v (w.portState q == 5) p.out 496 0
      let f : LinkFrame := { ftype := 1, vl := v, fpkt := off.getD 0x1FF, lseq := p.lseq, data := d }
      let w := w.setPort q { p with out := rest, lseq := (p.lseq + 1) % 2 ^ 16, replay := p.replay ++ [f],
                                    sent := Tbl.set (fun _ => 0) p.sent v ((Tbl.get (fun _ => 0) p.sent v + 1) % 2 ^ 16) }
      w.sendFrame q f

/-- Everything the credits and the replay buffer allow goes out. -/
def pumpPort (w : W) (q : Nat) : W :=
  let n := ((w.port q).out.map fun o => o.2.1.length / 496 + 1).sum
  (List.range (min 256 n)).foldl (fun w _ => w.sendData q) w

/-- A draining port sends DOWN once all its frames are acknowledged (R254). -/
def drainCheck (w : W) (q : Nat) : W :=
  let p := w.port q
  if w.portState q = 5 ∧ ¬ p.downSent ∧ p.replay = [] ∧ ¬ (p.out.any fun o => o.2.2) then
    (w.setPort q { p with downSent := true, out := [] }).sendCtrl q 5 .none
  else w

/-- ACK and freed counts of a received frame (R241, R243, R244). -/
def noteAck (w : W) (q : Nat) (f : LinkFrame) : W :=
  let p := w.port q
  let left := p.replay.dropWhile fun r => serialLater 16 f.ack r.lseq
  let cc := Tbl.set (fun _ => 0) p.ccum f.cvl f.ccum
  let cc := if f.ftype = 1 then cc else f.counts.zipIdx.foldl (fun t (n, v) => Tbl.set (fun _ => 0) t v n) cc
  w.setPort q { p with replay := left, tries := if left.length < p.replay.length then 0 else p.tries, ccum := cc }

/-- ACK and counts are taken, and what they release goes out. -/
def takeAck (w : W) (q : Nat) (f : LinkFrame) : W := ((w.noteAck q f).pumpPort q).drainCheck q

/-! ### Failure and hot spares (R251, R252) -/

/-- The spares that may take the role of port `q`, in order: same half first, then lowest number. A port that has
identified no peer has none. -/
def spareFor (w : W) (q : Nat) : Option Nat :=
  let dev := w.fld (Reg.FAB_PORT_PEER q) F.FAB_PORT_PEER_DEVICE
  let ok := fun (s : Nat) => w.portState s == 4 && w.flag (Reg.FAB_PORT_PEER s) F.FAB_PORT_PEER_VALID &&
    w.fld (Reg.FAB_PORT_PEER s) F.FAB_PORT_PEER_DEVICE == dev && !w.lifted s && (w.port s).asked.isNone &&
    !(w.port q).refused.contains s
  let half := (List.range 32).map (· + 32 * (q / 32))
  if !w.flag (Reg.FAB_PORT_PEER q) F.FAB_PORT_PEER_VALID then none
  else match half.find? ok with
  | some s => some s
  | none => (List.range 64).find? ok

/-- PROMOTE goes out on a spare link, or the direction runs one port short. -/
def tryPromote (w : W) (q : Nat) : W :=
  let p := w.port q
  if p.dir = 7 ∨ p.replaced then w
  else match w.spareFor q with
    | some s =>
      (w.setPort s { w.port s with asked := some q }).sendCtrl s 2
        (.promote q (w.fld (Reg.FAB_PORT_PEER q) F.FAB_PORT_PEER_PORT) p.dir p.ord)
    | none =>
      w.record { cls := 0x0C, kind := 5, sev := 3,
                 info := w64 (w.planeOf p.ord * 2 ^ 16 + w.fld (Reg.FAB_PORT_PEER q) F.FAB_PORT_PEER_DEVICE) }

/-- The buffers and the sequence of a port cleared; its role stays. -/
def clearPort (w : W) (q : Nat) : W :=
  let p := w.port q
  w.setPort q { named := p.named, dir := p.dir, ord := p.ord, replaced := p.replaced, refused := p.refused }

/-- The port fails (R251), which resets it (R373), and a hot spare is asked for (R252); one that fails its retraining
enters the defect map (R358). -/
def portFail (w : W) (q kind lanes lseq : Nat) : W :=
  if w.portState q = 7 then w
  else
    let again := (kind == 8 || kind == 9) && (w.port q).again
    let w := (((w.setPortState q 7).clearPort q).portNote q kind lanes lseq 2).startReset (.port q)
    let w := w.when again fun w => w.enterDefect 7 q 0x0B kind 4 lanes
    w.when (w.flag (Reg.FAB_PORT_CFG q) F.FAB_PORT_CFG_SPARE_AUTO) fun w => w.tryPromote q

/-- A port takes a role and carries packets. -/
def activate (w : W) (q dir ord : Nat) : W :=
  let w := w.setPort q { w.port q with dir := dir, ord := ord, asked := none }
  (w.setFld (Reg.FAB_PORT_STATUS q) F.FAB_PORT_STATUS_DIR dir).setPortState q 3

/-! ### Receiving frames (R242, R245, R248) -/

/-- NAK of the expected LSEQ, once. -/
def nak (w : W) (q : Nat) : W :=
  let p := w.port q
  if p.missing then w else (w.setPort q { p with missing := true }).sendFrame q { ftype := 3 }

/-- The port exchanges frames: it trains, qualifies, or is in service. -/
def portLive (w : W) (q : Nat) : Bool := decide (1 ≤ w.portState q) && decide (w.portState q ≤ 5)

/-- A frame arrives: as received when it is good. Up to 15 symbols of a codeword are corrected and counted; a discarded
frame is counted and asked for again (R239, R242, R245). -/
def frameIn (w : W) (q : Nat) (f : LinkFrame) (u : FrameUpset) : Option LinkFrame × W :=
  let w := w.count (Reg.LNK_RX_FRAMES q) 1
  let w := match u with
    | .corrected lane n =>
      if n ≤ 15 then w.count (Reg.LNK_FEC_SYM0 q + 8 * (lane % 4)) n else w.countErr (Reg.LNK_FEC_UNCORR q)
    | .codeword true => w.countErr (Reg.LNK_FEC_UNCORR q)
    | _ => w
  match receivedFrame f u with
  | some g => (some g, w)
  | none => (none, (w.countErr (Reg.LNK_CRC_ERR q)).nak q)

/-- Frames of a lane leave the input buffer. -/
def freeFrames (w : W) (q v n : Nat) : W :=
  let p := w.port q
  w.setPort q { p with freed := Tbl.set (fun _ => 0) p.freed v ((Tbl.get (fun _ => 0) p.freed v + n) % 2 ^ 16) }

/-- The bytes of an accepted frame join their lane's stream; complete packets enter the edge router of the port's
plane. A poisoned frame drops every packet with a byte in it. A frame is freed with the last packet that has a byte in it
(R243): the frames before this one with the first packet it completes, this one with the last, or with a later one when
bytes are left over. -/
def takeData (w : W) (q : Nat) (f : LinkFrame) : W :=
  let p := w.port q
  let v := f.vl
  let held := Tbl.get (fun _ => 0) p.frames v + 1
  let clear := { p with part := Tbl.set (fun _ => []) p.part v [], frames := Tbl.set (fun _ => 0) p.frames v 0,
                        resync := Tbl.set (fun _ => false) p.resync v true }
  if f.poison then ((w.countErr (Reg.LNK_POISON q)).setPort q clear).freeFrames q v held
  else
    let skip := Tbl.get (fun _ => false) p.resync v
    if skip ∧ f.fpkt = 0x1FF then (w.setPort q clear).freeFrames q v held
    else
      let bs := if skip then f.data.drop f.fpkt else Tbl.get (fun _ => []) p.part v ++ f.data
      let (ts, left) := takePkts (bs.length / 40 + 1) bs
      let own := if left = [] then 1 else 0
      let w := w.setPort q { p with part := Tbl.set (fun _ => []) p.part v left,
                                    frames := Tbl.set (fun _ => 0) p.frames v (if ts = [] then held else 1 - own),
                                    resync := Tbl.set (fun _ => false) p.resync v false }
      let h := w.planeOf p.ord
      let frees := fun (i : Nat) => (if i = 0 then held - 1 else 0) + (if i + 1 = ts.length then own else 0)
      ts.zipIdx.foldl (fun w (t, i) =>
        w.setRouter h { w.router h with queue := (w.router h).queue ++ [{ pkt := t, src := some (q, v, frees i) }] }) w

/-- LINK_DATA_FRAME (R245): in LSEQ order, or discarded and asked for again. -/
def doDataFrame (w : W) (q : Nat) (f : LinkFrame) (u : FrameUpset) : W :=
  if !w.portLive q then w
  else match w.frameIn q f u with
    | (none, w) => w
    | (some f, w) =>
      if f.ftype ≠ 1 then w
      else
        let w := w.takeAck q f
        let p := w.port q
        if f.lseq = p.expect then
          (w.setPort q { p with expect := (p.expect + 1) % 2 ^ 16, missing := false }).takeData q f
        else if serialLater 16 f.lseq p.expect then w.nak q
        else w

/-- The sender goes back to the oldest frame it holds (R246): every frame from it is sent again; after RETRY_MAX replays
from one LSEQ the port fails. `bad` is the LSEQ of a frame whose parity fails in the replay buffer (R248). -/
def replayFrom (w : W) (q : Nat) (bad : Option Nat) : W :=
  let p := w.port q
  let mx := max 1 (w.fld (Reg.FAB_PORT_CFG q) F.FAB_PORT_CFG_RETRY_MAX)
  match p.replay with
  | [] => w
  | f0 :: _ =>
    if mx ≤ p.tries then w.portFail q 1 0 f0.lseq
    else
      let w := w.setPort q { p with tries := p.tries + 1 }
      p.replay.foldl (fun w f =>
        let hit := bad == some f.lseq
        let w := (w.sendFrame q { f with poison := f.poison || hit }).count (Reg.LNK_REPLAYS q) 1
        w.when hit fun w => w.bufferParity q) w

/-- LINK_NAK (R246): the replay comes at the next slot, new frames after it. -/
def doNak (w : W) (q : Nat) (f : LinkFrame) (u : FrameUpset) (bad : Option Nat) : W :=
  if !w.portLive q then w
  else match w.frameIn q f u with
    | (none, w) => w
    | (some f, w) =>
      if f.ftype ≠ 3 then w
      else if (w.port q).replay.any fun r => r.lseq == f.ack then
        (((w.noteAck q f).replayFrom q bad).pumpPort q).drainCheck q
      else w.portFail q 1 0 f.ack

/-- A CTRL frame of subtype `sub` arrives: its ACK and counts are taken, then `act` with the frame as received. -/
def ctrlIn (w : W) (q sub : Nat) (f : LinkFrame) (u : FrameUpset) (act : W → LinkFrame → W) : W :=
  if !w.portLive q then w
  else match w.frameIn q f u with
    | (none, w) => w
    | (some f, w) => if f.ftype ≠ 2 ∨ f.subtype ≠ sub then w else act (w.takeAck q f) f

/-! ### Training (R249, R253) -/

/-- A training begins: the first fault and MARGINAL are forgotten (R256). -/
def trainStart (w : W) (q : Nat) : W :=
  let w := (w.clearPort q).setReg (Reg.FAB_PORT_FAULT_INFO q) 0
  let w := (w.setFld (Reg.FAB_PORT_STATUS q) F.FAB_PORT_STATUS_LOCK 0).setFlag (Reg.FAB_PORT_STATUS q)
    F.FAB_PORT_STATUS_MARGINAL false
  (w.setPort q { w.port q with train := .lock }).setPortState q 1

/-- A phase misses: the training is tried once more, then the port fails. -/
def trainMiss (w : W) (q kind : Nat) : W :=
  let p := w.port q
  if p.missed then w.portFail q kind 0 0
  else (w.setPort q { p with train := .lock, missed := true }).setPortState q 1

/-- LANE_LOCK: codeword lock on the lanes, each lane's word and when it came; when they agree, the identity goes out in a
TRAIN frame (R238, R249). -/
def doLaneLock (w : W) (q : Nat) (seen : List (BitVec 20 × Nat)) : W :=
  let p := w.port q
  if w.portState q ≠ 1 ∨ p.train ≠ .lock ∨ lanesAgree 4 seen = false then w
  else
    let w := (w.setPort q { p with train := .identity }).setFld (Reg.FAB_PORT_STATUS q) F.FAB_PORT_STATUS_LOCK 0xF
    let x := w.reg (Reg.FAB_PORT_VLCRED q)
    w.sendCtrl q 1 (.train w.selfDev q p.dir (if p.dir = 7 then 0xFF else p.ord) 1
      ((List.range 8).map fun v => bits x (8 * v + 7) (8 * v)) 256)

/-- The identity of the peer fits this port (R235, R249, R257). -/
def identityOk (w : W) (q dev dir ord version : Nat) : Bool :=
  let p := w.port q
  dev != w.selfDev && w.inTorus dev && decide (1 ≤ version) &&
    (if p.dir = 7 then ord == 0xFF && (List.range 6).any fun d => w.neighbour d == dev
     else dir == oppDir p.dir && ord == p.ord && dev == w.neighbour p.dir)

/-- CTRL_TRAIN. -/
def doTrain (w : W) (q : Nat) (f : LinkFrame) : W :=
  let p := w.port q
  match f.args with
  | .train dev peer dir ord version shares _ =>
    if p.train ≠ .identity then w
    else
      let o := if ord = 0xFF then 0xF else ord % 16
      let w' := w.setReg (Reg.FAB_PORT_PEER q)
        (w64 (dev % 2 ^ 16 * 2 ^ 40 + peer % 64 * 2 ^ 34 + min 1 version * 2 ^ 30 + o * 2 ^ 26 + 2 ^ 25))
      if w.identityOk q dev dir ord version then
        (w'.setPort q { p with train := .soak, shares := shares }).setPortState q 2
      else w'.portFail q 8 0 0
  | _ => w

/-- SOAK_END: corrected symbols per second of each lane, and codewords or CRCs that failed. -/
def doSoakEnd (w : W) (q : Nat) (syms : List Nat) (errors : Nat) : W :=
  let p := w.port q
  if w.portState q ≠ 2 ∨ p.train ≠ .soak then w
  else if !(syms.all fun n => decide (n ≤ 2125000)) || errors != 0 then w.trainMiss q 9
  else
    let w := w.setPort q { p with train := .none, missed := false }
    if p.dir = 7 then w.setPortState q 4
    else if p.replaced then
      ((w.setPort q { w.port q with dir := 7, ord := 0xF, replaced := false, refused := [] }).setFld
        (Reg.FAB_PORT_STATUS q) F.FAB_PORT_STATUS_DIR 7).setPortState q 4
    else w.setPortState q 3

/-- TRAINING_PHASE_TIMEOUT. -/
def doPhaseTimeout (w : W) (q : Nat) : W :=
  match (w.port q).train with
  | .none => w
  | .soak => w.trainMiss q 9
  | _ => w.trainMiss q 8

/-! ### Software and light -/

/-- The lasers that port `q` sends by are off: its engine is above temperature, or its unit's latch is lifted (R254,
R429); an expelled device has none on (R287). -/
def laserOff (w : W) (q : Nat) : Bool :=
  w.expelled || w.c.power.engines.contains (q / 8) || (w.fld Reg.FAB_LATCH ⟨23, 16⟩).testBit (q / 8)

/-- The port, or its half's edge router, is DEFECT, or its lasers are off: it does not train (R342, R376). -/
def portDead (w : W) (q : Nat) : Bool :=
  let bad : Nat → Nat → Bool := fun t u => match w.defEntry t u with | some e => e.state == 2 | none => false
  bad 8 (q / 32) || bad 7 q || w.laserOff q

/-- The roles of R234, assigned at cold reset: those of the ports whose engine is on. -/
def assignRoles (w : W) : W :=
  (List.range 64).foldl (fun w q =>
    if !w.engineOn q then w
    else
      let (d, o) := w.roleOf q
      (w.setPort q { w.port q with named := true, dir := d, ord := o }).setFld (Reg.FAB_PORT_STATUS q)
        F.FAB_PORT_STATUS_DIR d) w

/-- An enabled port trains: its engine is on and its edge router not failed, the torus is known and larger than 1 in its
dimension, and the device is not expelled (R235, R249, R287, R342, R396). -/
def portTrain (w : W) (q : Nat) : W :=
  let p := w.port q
  let (d, o) := if p.named then (p.dir, p.ord) else w.roleOf q
  let alone : Bool := decide (d < 7) && w.torus.getD (d / 2) 1 == 1
  let dead := w.portDead q
  let resetting : Bool := w.c.resets.any fun r => r.dom == .port q
  let no := alone || dead || resetting
  if no ∨ w.portState q ≠ 0 ∨ ¬ w.flag (Reg.FAB_PORT_CFG q) F.FAB_PORT_CFG_EN ∨ ¬ w.engineOn q ∨
      ¬ w.flag Reg.FAB_TOPO F.FAB_TOPO_VALID then w
  else
    let w := (w.setPort q { p with named := true, dir := d, ord := o }).setFld (Reg.FAB_PORT_STATUS q) F.FAB_PORT_STATUS_DIR d
    w.trainStart q

/-- PORT_ENABLE (R249). -/
def doPortEnable (w : W) (q : Nat) : W := (w.setFlag (Reg.FAB_PORT_CFG q) F.FAB_PORT_CFG_EN true).portTrain q

/-- FAB_TOPO_WRITE (R257, R290, R396): only while every port is DISABLED and with SELF inside the torus; enabled ports
then train. -/
def doTopoWrite (w : W) (v requester : Word) : W :=
  let s := (bits v 5 0 + 1) * ((min 31 (bits v 12 8) + 1) * (min 31 (bits v 20 16) + 1))
  if ((List.range 64).any fun q => w.portState q != 0) || decide (s ≤ bits v 47 32) then
    w.recordAccess 2 Reg.FAB_TOPO requester
  else
    let keep := bits v 48 48 * 2 ^ 48 + bits v 47 32 * 2 ^ 32 + bits v 20 16 * 2 ^ 16 + bits v 12 8 * 2 ^ 8 + bits v 5 0
    (List.range 64).foldl (fun w q => w.portTrain q) (w.setReg Reg.FAB_TOPO (w64 keep))

/-- PORT_DISABLE (R373): the port is reset, and DISABLED; its role stays. -/
def doPortDisable (w : W) (q : Nat) : W :=
  let w := (w.setFlag (Reg.FAB_PORT_CFG q) F.FAB_PORT_CFG_EN false).clearPort q
  let w := (w.setFld (Reg.FAB_PORT_STATUS q) F.FAB_PORT_STATUS_LOCK 0).setFlag (Reg.FAB_PORT_STATUS q)
    F.FAB_PORT_STATUS_MARGINAL false
  (w.setPortState q 0).startReset (.port q)

/-- A FAILED or DRAINED port trains again. -/
def retrain (w : W) (q : Nat) : W :=
  if w.flag (Reg.FAB_PORT_CFG q) F.FAB_PORT_CFG_EN ∧ ¬ w.portDead q then
    let failed := w.portState q == 7
    let w := w.trainStart q
    w.when failed fun w => w.setPort q { w.port q with again := true }
  else w

/-- PORT_UP (R253, R287). -/
def doPortUp (w : W) (q : Nat) : W := if w.portState q = 7 ∨ w.portState q = 6 then w.retrain q else w

/-- A port drains (R254): an ACTIVE one asks for a spare first. -/
def drainPort (w : W) (q : Nat) : W :=
  if w.portState q = 3 then
    let w := w.when (w.flag (Reg.FAB_PORT_CFG q) F.FAB_PORT_CFG_SPARE_AUTO) fun w => w.tryPromote q
    (w.setPortState q 5).drainCheck q
  else if w.portState q = 4 then (w.setPortState q 5).drainCheck q
  else w

/-- The lasers of a lifted unit go off once no port of it is in use. -/
def laserCheck (w : W) (n : Nat) : W :=
  let idle := (List.range 8).all fun i => [0, 6, 7].contains (w.portState (8 * n + i))
  if (w.fld Reg.FAB_LATCH F.FAB_LATCH_LIFTED).testBit n ∧ idle then
    w.setFlag Reg.FAB_LATCH ⟨16 + n, 16 + n⟩ true
  else w

/-- The port is DRAINED. -/
def drained (w : W) (q : Nat) : W := (w.setPortState q 6).laserCheck (q / 8)

/-- LOSS_OF_LIGHT on the lanes of a mask (R251, R255). -/
def doLossOfLight (w : W) (q lanes : Nat) : W :=
  let s := w.portState q
  let w := (w.countErr (Reg.LNK_LOS q)).setFld (Reg.FAB_PORT_STATUS q) F.FAB_PORT_STATUS_LOS
    (w.fld (Reg.FAB_PORT_STATUS q) F.FAB_PORT_STATUS_LOS ||| lanes)
  if s = 0 ∨ s = 6 ∨ s = 7 then w
  else if w.lifted q then w.portFail q 7 lanes 0
  else if s = 5 then w
  else w.portFail q 2 lanes 0

/-- LOSS_OF_LOCK (R251). -/
def doLossOfLock (w : W) (q lanes : Nat) : W :=
  let s := w.portState q
  let w := w.setFld (Reg.FAB_PORT_STATUS q) F.FAB_PORT_STATUS_LOCK
    (w.fld (Reg.FAB_PORT_STATUS q) F.FAB_PORT_STATUS_LOCK &&& (15 - lanes % 16))
  if 1 ≤ s ∧ s ≤ 5 then w.portFail q 3 lanes 0 else w

/-- LIGHT_RETURN on the lanes of a mask (R253). -/
def doLightReturn (w : W) (q lanes : Nat) : W :=
  let left := w.fld (Reg.FAB_PORT_STATUS q) F.FAB_PORT_STATUS_LOS &&& (15 - lanes % 16)
  let w := w.setFld (Reg.FAB_PORT_STATUS q) F.FAB_PORT_STATUS_LOS left
  if w.portState q = 7 ∧ left = 0 then w.retrain q else w

/-- QUAL_WINDOW_END (R250): corrected symbols and uncorrectable codewords of each lane in the window. -/
def doQualWindow (w : W) (q : Nat) (ws : List (Nat × Nat)) : W :=
  let s := w.portState q
  let fail := w.fld Reg.FAB_QUAL F.FAB_QUAL_FAIL_K * 1024
  let marg := w.fld Reg.FAB_QUAL F.FAB_QUAL_MARGIN_K * 1024
  let lanesOf := fun (f : Nat × Nat → Bool) =>
    ws.zipIdx.foldl (fun a (x, i) => if f x then a + 2 ^ i else a) 0
  let bad := lanesOf fun x => decide (fail < x.1) || decide (100 < x.2)
  let mar := lanesOf fun x => decide (marg < x.1) || decide (1 ≤ x.2)
  if s < 3 ∨ 5 < s then w
  else if bad ≠ 0 then w.portFail q 4 bad 0
  else if mar ≠ 0 then
    let w := (w.setFlag (Reg.FAB_PORT_STATUS q) F.FAB_PORT_STATUS_MARGINAL true).portNote q 5 mar 0 1
    w.when (s == 3 && w.flag (Reg.FAB_PORT_CFG q) F.FAB_PORT_CFG_MARGIN_SWAP) fun w => w.tryPromote q
  else w.setFlag (Reg.FAB_PORT_STATUS q) F.FAB_PORT_STATUS_MARGINAL false

/-! ### The promotion exchange (R252) -/

/-- CTRL_PROMOTE on spare `q`. -/
def doPromote (w : W) (q : Nat) (f : LinkFrame) : W :=
  match f.args with
  | .promote near far _ _ =>
    let dev := w.fld (Reg.FAB_PORT_PEER q) F.FAB_PORT_PEER_DEVICE
    let k := Reg.FAB_PORT_PEER far
    let joins := decide (far < 64) && w.flag k F.FAB_PORT_PEER_VALID && w.fld k F.FAB_PORT_PEER_DEVICE == dev &&
      w.fld k F.FAB_PORT_PEER_PORT == near && (w.port far).dir != 7
    let asked := (w.port q).asked
    let own := (asked.isSome || (List.range 64).any fun x => (w.port x).asked == some far) && decide (w.selfDev < dev)
    if w.portState q ≠ 4 ∨ ¬ joins ∨ own then w.sendCtrl q 4 .none
    else
      let w := w.sendCtrl q 3 .none
      let (d, o) := ((w.port far).dir, (w.port far).ord)
      let w := ((w.setPort far { w.port far with replaced := true }).portFail far 0xA 0 0).activate q d o
      -- its own attempt on this spare is lost, and the next candidate is tried
      match asked with
      | some g => if g = far then w else w.tryPromote g
      | none => w
  | _ => w

/-- CTRL_PROMOTE_ACK on spare `q`: it takes the role; a marginal port that was replaced fails. -/
def doPromoteAck (w : W) (q : Nat) : W :=
  match (w.port q).asked with
  | none => w
  | some f =>
    let p := w.port f
    let w := (w.setPort f { p with replaced := true, refused := [] }).activate q p.dir p.ord
    if w.portState f = 3 then w.portFail f 5 0 0 else w

/-- CTRL_PROMOTE_NAK on spare `q`: the next candidate is tried. -/
def doPromoteNak (w : W) (q : Nat) : W :=
  match (w.port q).asked with
  | none => w
  | some f =>
    let w := w.setPort q { w.port q with asked := none }
    (w.setPort f { w.port f with refused := q :: (w.port f).refused }).tryPromote f

/-! ### Latches (R254, R255) -/

/-- The latches of `units` read lifted when the lines are first sampled after a reset: the units' lasers stay off (R485). -/
def latchesSeen (w : W) (units : List Nat) : W :=
  (units.filter fun n => decide (n < 8) && w.engineOn (8 * n)).foldl (fun (w : W) n =>
    (w.setFlag Reg.FAB_LATCH ⟨n, n⟩ true).setFlag Reg.FAB_LATCH ⟨16 + n, 16 + n⟩ true) w

/-- LATCH_LIFT of unit `n`, debounced; the latch of a unit whose engine is fused off is ignored (R485). -/
def doLatchLift (w : W) (n : Nat) : W :=
  if !w.engineOn (8 * n) then w
  else
    let w := (w.setFlag Reg.FAB_LATCH ⟨n, n⟩ true).setFlag Reg.FAB_LATCH ⟨8 + n, 8 + n⟩ true
    let w := (w.pend 288).record { cls := 0x0B, kind := 0, sev := 0, info := w.reg Reg.FAB_LATCH }
    ((List.range 8).foldl (fun w i => w.drainPort (8 * n + i)) w).laserCheck n

/-- LINK_DRAIN_TIMEOUT: DOWN goes out, frames not acknowledged are dropped. -/
def doDrainTimeout (w : W) (q : Nat) : W :=
  if w.portState q ≠ 5 then w
  else (w.setPort q { w.port q with replay := [], out := [] }).drainCheck q

/-- LASER_OFF_TIMEOUT of unit `n`. -/
def doLaserOff (w : W) (n : Nat) : W :=
  if (w.fld Reg.FAB_LATCH F.FAB_LATCH_LIFTED).testBit n then w.setFlag Reg.FAB_LATCH ⟨16 + n, 16 + n⟩ true else w

/-- LATCH_CLOSE of unit `n`: the lasers come on and its ports train again. -/
def doLatchClose (w : W) (n : Nat) : W :=
  if !(w.fld Reg.FAB_LATCH F.FAB_LATCH_LIFTED).testBit n then w
  else
    let w := ((w.setFlag Reg.FAB_LATCH ⟨n, n⟩ false).setFlag Reg.FAB_LATCH ⟨8 + n, 8 + n⟩ true).setFlag Reg.FAB_LATCH
      ⟨16 + n, 16 + n⟩ false
    let w := w.pend 288
    (List.range 8).foldl (fun w i =>
      if [5, 6, 7].contains (w.portState (8 * n + i)) then w.retrain (8 * n + i) else w) w

/-- DOWN (R254): answered with DOWN_ACK, and the port is DRAINED; so is a port that FAILED only because its peer named it in
a PROMOTE, which goes on sending IDLE (R251, R252). -/
def downIn (w : W) (q : Nat) (f : LinkFrame) (u : FrameUpset) : W :=
  let act := fun (w : W) => (w.sendCtrl q 6 .none).drained q
  let named := w.portState q == 7 && w.flag (Reg.FAB_PORT_FAULT_INFO q) F.FAB_PORT_FAULT_INFO_VALID &&
    w.fld (Reg.FAB_PORT_FAULT_INFO q) F.FAB_PORT_FAULT_INFO_KIND == 0xA
  if !named then w.ctrlIn q 5 f u fun w _ => act w
  else match w.frameIn q f u with
    | (none, w) => w
    | (some f, w) => if f.ftype ≠ 2 ∨ f.subtype ≠ 5 then w else act w

end W

/-- A fabric port, or the coherent link. -/
def linkOk (q : Nat) : Bool := decide (q ≤ sclPort)

/-! ### The meanings -/

/-- LINK_NAK. -/
def execLinkNak (q : Nat) (f : LinkFrame) (u : FrameUpset) (bad : Option Nat) (s : State) :
    Host.Outcome State Fault Refusal :=
  runOn (linkOk q) s fun w => if q = sclPort then w.sclNak f u bad else w.doNak q f u bad

/-- CTRL_IDLE. -/
def execCtrlIdle (q : Nat) (f : LinkFrame) (u : FrameUpset) (s : State) : Host.Outcome State Fault Refusal :=
  runOn (linkOk q) s fun w => if q = sclPort then (w.sclFrameIn f u).2 else w.ctrlIn q 0 f u fun w _ => w

/-- CTRL_TRAIN. -/
def execCtrlTrain (q : Nat) (f : LinkFrame) (u : FrameUpset) (s : State) : Host.Outcome State Fault Refusal :=
  runOn (linkOk q) s fun w => if q = sclPort then w.sclTrain f u else w.ctrlIn q 1 f u fun w f => w.doTrain q f

/-- CTRL_PROMOTE. -/
def execCtrlPromote (q : Nat) (f : LinkFrame) (u : FrameUpset) (s : State) : Host.Outcome State Fault Refusal :=
  runOn (portOk q) s fun w => w.ctrlIn q 2 f u fun w f => w.doPromote q f

/-- CTRL_PROMOTE_ACK. -/
def execCtrlPromoteAck (q : Nat) (f : LinkFrame) (u : FrameUpset) (s : State) : Host.Outcome State Fault Refusal :=
  runOn (portOk q) s fun w => w.ctrlIn q 3 f u fun w _ => w.doPromoteAck q

/-- CTRL_PROMOTE_NAK. -/
def execCtrlPromoteNak (q : Nat) (f : LinkFrame) (u : FrameUpset) (s : State) : Host.Outcome State Fault Refusal :=
  runOn (portOk q) s fun w => w.ctrlIn q 4 f u fun w _ => w.doPromoteNak q

/-- CTRL_DOWN: answered with DOWN_ACK, and the port is DRAINED. -/
def execCtrlDown (q : Nat) (f : LinkFrame) (u : FrameUpset) (s : State) : Host.Outcome State Fault Refusal :=
  runOn (portOk q) s fun w => w.downIn q f u

/-- CTRL_DOWN_ACK. -/
def execCtrlDownAck (q : Nat) (f : LinkFrame) (u : FrameUpset) (s : State) : Host.Outcome State Fault Refusal :=
  runOn (portOk q) s fun w => w.ctrlIn q 6 f u fun w _ => if (w.port q).downSent then w.drained q else w

/-- LINK_REPLAY_TIMEOUT. -/
def execLinkReplayTimeout (q : Nat) (bad : Option Nat) (s : State) : Host.Outcome State Fault Refusal :=
  runOn (linkOk q) s fun w => if q = sclPort then w.sclReplay bad else w.replayFrom q bad

/-- NAK_REPEAT_TIMEOUT. -/
def execNakRepeatTimeout (q : Nat) (s : State) : Host.Outcome State Fault Refusal :=
  runOn (linkOk q) s fun w =>
    if q = sclPort then (if w.c.host.link.missing then w.sclSendFrame { ftype := 3 } else w)
    else if (w.port q).missing then w.sendFrame q { ftype := 3 } else w

/-- LOSS_OF_LIGHT. -/
def execLossOfLight (q lanes : Nat) (s : State) : Host.Outcome State Fault Refusal :=
  runOn (linkOk q) s fun w => if q = sclPort then w.sclFail 2 lanes 0 else w.doLossOfLight q lanes

/-- LOSS_OF_LOCK. -/
def execLossOfLock (q lanes : Nat) (s : State) : Host.Outcome State Fault Refusal :=
  runOn (linkOk q) s fun w => if q = sclPort then w.sclFail 3 lanes 0 else w.doLossOfLock q lanes

/-- QUAL_WINDOW_END. -/
def execQualWindowEnd (q : Nat) (lanes : List (Nat × Nat)) (s : State) : Host.Outcome State Fault Refusal :=
  runOn (linkOk q) s fun w => if q = sclPort then w.sclQual lanes else w.doQualWindow q lanes

/-- LANE_LOCK. -/
def execLaneLock (x : LanesSeen) (s : State) : Host.Outcome State Fault Refusal :=
  runOn (linkOk x.port) s fun w => if x.port = sclPort then w.sclLock x.words else w.doLaneLock x.port x.words

/-- TRAINING_PHASE_TIMEOUT. -/
def execTrainingPhaseTimeout (q : Nat) (s : State) : Host.Outcome State Fault Refusal :=
  runOn (linkOk q) s fun w => if q = sclPort then w.sclPhaseTimeout else w.doPhaseTimeout q

/-- SOAK_END. -/
def execSoakEnd (q : Nat) (syms : List Nat) (errors : Nat) (s : State) : Host.Outcome State Fault Refusal :=
  runOn (linkOk q) s fun w => if q = sclPort then w.sclSoak syms errors else w.doSoakEnd q syms errors

/-- PORT_UP. -/
def execPortUp (q : Nat) (s : State) : Host.Outcome State Fault Refusal :=
  runOn (portOk q) s fun w => w.doPortUp q

/-- PORT_DOWN. -/
def execPortDown (q : Nat) (s : State) : Host.Outcome State Fault Refusal :=
  runOn (portOk q) s fun w => w.drainPort q

/-- PORT_ENABLE. -/
def execPortEnable (q : Nat) (s : State) : Host.Outcome State Fault Refusal :=
  runOn (portOk q) s fun w => w.doPortEnable q

/-- FAB_TOPO_WRITE. -/
def execFabTopoWrite (v requester : Word) (s : State) : Host.Outcome State Fault Refusal :=
  run s fun w => w.doTopoWrite v requester

/-- PORT_DISABLE. -/
def execPortDisable (q : Nat) (s : State) : Host.Outcome State Fault Refusal :=
  runOn (portOk q) s fun w => w.doPortDisable q

/-- LIGHT_RETURN. -/
def execLightReturn (q lanes : Nat) (s : State) : Host.Outcome State Fault Refusal :=
  runOn (portOk q) s fun w => w.doLightReturn q lanes

/-- LATCH_LIFT. -/
def execLatchLift (n : Nat) (s : State) : Host.Outcome State Fault Refusal :=
  runOn (decide (n < 8)) s fun w => w.doLatchLift n

/-- LINK_DRAIN_TIMEOUT. -/
def execLinkDrainTimeout (q : Nat) (s : State) : Host.Outcome State Fault Refusal :=
  runOn (portOk q) s fun w => w.doDrainTimeout q

/-- LASER_OFF_TIMEOUT. -/
def execLaserOffTimeout (n : Nat) (s : State) : Host.Outcome State Fault Refusal :=
  runOn (decide (n < 8)) s fun w => w.doLaserOff n

/-- LATCH_CLOSE. -/
def execLatchClose (n : Nat) (s : State) : Host.Outcome State Fault Refusal :=
  runOn (decide (n < 8)) s fun w => w.doLatchClose n

/-- FAB_PORT_CNT_CLR. -/
def execFabPortCntClr (q : Nat) (v : Word) (s : State) : Host.Outcome State Fault Refusal :=
  runOn (portOk q) s fun w => w.clearCounters (Reg.LNK_TX_FRAMES q) 11 v

end Sys2Proof.Machine
end

