-- ==== Sys2Proof/Machine/Transport.lean ====
section
/-! DEFINITION. Routing and transport of the fabric (11_fabric_network_and_transport.md R258 to R277): routers,
connections, messages, multicast groups. Payload layouts the manual does not give are those of log entry 18. -/

namespace Sys2Proof.Machine

/-- The edge router exists. -/
def routerOk (h : Nat) : Bool := decide (h < 2)

/-- Class of a packet type: 0 request, 1 response, 2 control, none reserved (R263). -/
def fabClass (t : FabPkt) : Option Nat :=
  if [1, 2, 3, 4, 9].contains t.ptype then some 0
  else if [5, 6, 7, 8, 0xA].contains t.ptype then some 1
  else if [0xB, 0xC, 0xD].contains t.ptype then some 2
  else none

/-- A sequenced packet type (R263). -/
def fabSequenced (t : FabPkt) : Bool := [1, 2, 3, 4, 5, 6, 9, 0xA].contains t.ptype

/-- Members LO to HI as a mask. -/
def memberRange (lo hi : Nat) : Nat := 2 ^ (hi + 1) - 2 ^ lo

/-- A packet placed among the packets of its message by OFFSET. -/
def placePkt (t : FabPkt) : List FabPkt → List FabPkt
  | [] => [t]
  | x :: xs => if t.off < x.off then t :: x :: xs else x :: placePkt t xs

/-- The packets of a message before they are numbered: pieces of at most 8,192 bytes (R262). -/
def fabPieces (base : FabPkt) (data : List Byte) : List FabPkt :=
  let n := max 1 (ceilDiv data.length 8192)
  (List.range n).map fun i =>
    let d := (data.drop (8192 * i)).take 8192
    { base with len := d.length, off := 8192 * i, mlen := data.length, data := d, last := i + 1 == n }

namespace W

/-! ### Routing (R264 to R269) -/

/-- A reserved field of the packet is not zero (R262, R264, R282, R385): in the header, the trailer, or ADDR of a MC or
BARRIER packet. -/
def fabReserved (t : FabPkt) : Bool :=
  t.rsv != 0 || t.trsv != 0 || (t.mc && t.ptype != 0xB && bits t.addr 63 26 != 0) ||
    (t.ptype == 0xB && (bits t.addr 55 48 != 0 || bits t.addr 31 0 != 0 ||
      (bits t.addr 63 60 == 3 && (bits t.addr 59 56 != 0 || bits t.addr 47 32 != 0))))

/-- The packet breaks a rule of R264. -/
def fabBad (w : W) (t : FabPkt) : Bool :=
  let s := w.torus
  t.version != 1 || (fabClass t).isNone || fabReserved t || decide (8192 < t.len) || decide (t.mlen < t.off + t.len) ||
    !w.inTorus t.dst || decide ((s.map (· / 2)).sum + 2 < t.hops)

/-- Productive directions of dimension `d` toward a device, + first (R265). -/
def productive (w : W) (dst d : Nat) : List Nat :=
  let s := w.torus.getD d 1
  let off := ((w.coords dst).getD d 0 + s - (w.coords w.selfDev).getD d 0 % s) % s
  (if 0 < off ∧ off ≤ s / 2 then [2 * d] else []) ++ (if 0 < off ∧ s ≤ 2 * off then [2 * d + 1] else [])

/-- The live ACTIVE ports of a direction in plane `h`, in rising ordinal. -/
def livePorts (w : W) (h dir : Nat) : List Nat :=
  let ps := (List.range 64).filter fun q =>
    w.portState q == 3 && (w.port q).dir == dir && w.planeOf (w.port q).ord == h
  (List.range 10).flatMap fun o => ps.filter fun q => (w.port q).ord == o

/-- The hop in a direction crosses the wrap link of its dimension (R267). -/
def crossesWrap (w : W) (dir : Nat) : Bool :=
  let x := (w.coords w.selfDev).getD (dir / 2) 0
  if dir % 2 = 0 then x + 1 == w.torus.getD (dir / 2) 1 else x == 0

/-- DL after a hop: [23] X, [22] Y, [21] Z (R262). -/
def dlAfter (w : W) (t : FabPkt) (dir : Nat) : Nat := if w.crossesWrap dir then t.dl ||| 2 ^ (2 - dir / 2) else t.dl

/-- The adaptive choice: among productive live ports with credit, the one with most; ties to the lower direction and
ordinal. -/
def adaptivePort (w : W) (h v dst : Nat) : Option (Nat × Nat) :=
  let cands := (List.range 3).flatMap fun d =>
    (w.productive dst d).flatMap fun dir => (w.livePorts h dir).map fun q => (q, dir)
  cands.foldl (fun (b : Option (Nat × Nat)) (q, dir) =>
    let c := w.laneCredit q v
    if c = 0 then b
    else match b with
      | none => some (q, dir)
      | some (x, _) => if w.laneCredit x v < c then some (q, dir) else b) none

/-- The escape choice: the lowest dimension with an offset, + on a tie, the port of R268. -/
def escapePort (w : W) (h : Nat) (t : FabPkt) : Option (Nat × Nat) :=
  match (List.range 3).flatMap fun d => (w.productive t.dst d).take 1 with
  | [] => none
  | dir :: _ =>
    let ps := w.livePorts h dir
    if ps = [] then none else (ps[(t.src ^^^ t.dst) % ps.length]?).map fun q => (q, dir)

/-- A packet leaves by a port on a lane: HOPS and DL move on (R262, R267). -/
def fabOut (w : W) (t : FabPkt) (q dir v : Nat) : W :=
  let t := { t with hops := (t.hops + 1) % 256, dl := w.dlAfter t dir }
  (w.setPort q { w.port q with out := (w.port q).out ++ [(v, fabBytes t, false)] }).pumpPort q

/-- Packet `k` leaves the router's queue, and its frames the input buffer. -/
def takeRouter (w : W) (h k : Nat) (i : RouterPkt) : W :=
  let w := w.setRouter h { w.router h with queue := (w.router h).queue.eraseIdx k }
  match i.src with
  | some (q, v, n) => w.freeFrames q v n
  | none => w

/-- FABRIC_PACKET_FORWARD: packet `k` of router `h` is discarded, delivered to this device, or sent on; without a port or
a credit it waits. -/
def doForward (w : W) (h k : Nat) (bad : Bool) : W :=
  match (w.router h).queue[k]? with
  | none => w
  | some i =>
    let t := i.pkt
    let out := w.takeRouter h k i
    match i.src, bad with
    | some (q, _, _), true => out.bufferParity q
    | _, _ =>
      if w.fabBad t then out.countErr (Reg.ER_PKT_BAD h)
      else if t.dst = w.selfDev then
        if t.ecrcBad then out.countErr (Reg.ER_ECRC_ERR h)
        else out.emit (.fab (if fabClass t = some 2 then h else t.splane) t)
      else
        let cls := (fabClass t).getD 2
        let escape := fun (w : W) =>
          match w.escapePort h t with
          | none => w
          | some (q, dir) =>
            let hi := (w.dlAfter t dir).testBit (2 - dir / 2)
            let v := if cls = 2 then 6 + hi.toNat else 3 * cls + 1 + hi.toNat
            if w.laneCredit q v = 0 then w else out.fabOut t q dir v
        if cls = 2 ∨ w.flag Reg.FAB_RT_CFG F.FAB_RT_CFG_DOR then escape w
        else match w.adaptivePort h (3 * cls) t.dst with
          | some (q, dir) => out.fabOut t q dir (3 * cls)
          | none => escape w

/-- FABRIC_DWELL_TIMEOUT (R264). -/
def doDwell (w : W) (h k : Nat) : W :=
  match (w.router h).queue[k]? with
  | none => w
  | some i => (w.takeRouter h k i).count (Reg.ER_DWELL_DROP h) 1

/-! ### Sending ends (R270, R271, R273) -/

def txConn (w : W) (h dev : Nat) : TxConn := ((w.router h).tx.find? fun c => c.dev == dev).getD { dev := dev }
def setTx (w : W) (h : Nat) (c : TxConn) : W :=
  let r := w.router h
  w.setRouter h { r with tx := (r.tx.filter fun x => x.dev != c.dev) ++ [c] }

/-- An unsequenced packet of this router to a device: CTX or TACK. -/
def fabPlain (w : W) (h ptype dev : Nat) (data : List Byte) : W :=
  w.fabSend h { ptype := ptype, dst := dev, src := w.selfDev, splane := h, last := true, len := data.length,
                mlen := data.length, data := data }

/-- CTX with a code (R263). -/
def sendCtx (w : W) (h dev code : Nat) : W := w.fabPlain h 7 dev [byte code]

/-- The send window (R271, R290). -/
def window (w : W) : Nat := min 1024 (max 1 (w.fld Reg.FAB_TP_CFG F.FAB_TP_CFG_WIN))

/-- Packets within the window that were never sent go out, on the connection's path (R271, R273). -/
def transmit (w : W) (h dev : Nat) : W :=
  let c := w.txConn h dev
  if c.state ≠ .opened then w
  else
    let now := c.pkts.take w.window
    let path := if c.otherPlane then 1 - h else h
    let w := w.setTx h { c with pkts := (now.map fun p => { p with sent := max 1 p.sent }) ++ c.pkts.drop w.window }
    now.foldl (fun w p => if p.sent = 0 then w.fabSend path p.pkt else w) w

/-- A connection opens, or waits for a context, which is counted once (R270). -/
def openConn (w : W) (h dev : Nat) : W :=
  let c := w.txConn h dev
  let used := ((w.router h).tx.filter fun x => x.state != .closed && x.state != .waiting).length
  if c.state = .closed ∨ c.state = .waiting then
    if used < 4096 then (w.setTx h { c with state := .opening }).sendCtx h dev 1
    else if c.state = .waiting then w
    else (w.setTx h { c with state := .waiting }).count (Reg.ER_CTX_WAIT h) 1
  else w

/-- A message to a device: numbered, queued, and sent as the connection allows (R271). -/
def sendMsg (w : W) (h dev : Nat) (base : FabPkt) (data : List Byte) (reqs : List Packet) : W :=
  let c := w.txConn h dev
  let ps := (fabPieces { base with dst := dev, src := w.selfDev, splane := h } data).zipIdx.map fun (p, i) =>
    { p with psn := (c.psn + i) % 2 ^ 32, msn := c.msn }
  let w := w.setTx h { c with psn := (c.psn + ps.length) % 2 ^ 32, msn := (c.msn + 1) % 2 ^ 32,
                              pkts := c.pkts ++ ps.map fun p => { pkt := p },
                              msgs := c.msgs ++ [{ msn := c.msn, pkts := ps, reqs := reqs }] }
  (w.openConn h dev).transmit h dev

/-- A CREDIT packet of the endpoint to a local agent (R151, R154). -/
def endpointCredit (w : W) (h : Nat) (t : Packet) (kind conn lines slots : Nat) : W :=
  let land := w.nearLanding h t.srcLand
  w.emit (.mesh land { typ := 8, epoch := t.epoch, dst := t.srcLand, srcLand := land, rtag := t.rtag, conn := conn,
                       arg := w64 (kind * 2 ^ 60 + conn * 2 ^ 32 + lines % 2 ^ 16 * 2 ^ 16 + slots % 2 ^ 16) })

/-- A message is covered by DONE_MSN: writes are answered with WR_ACK, tokens with the credit they took (R261; log entry
17). -/
def messageDone (w : W) (h : Nat) (m : TxMsg) : W :=
  match m.pkts.head? with
  | none => w
  | some p =>
    m.reqs.foldl (fun w r =>
      if p.ptype = 1 then w.wrAck (w.nearLanding h r.srcLand) r false
      else if p.ptype = 4 ∧ ¬ p.mc ∧ (tkind r = 0 ∨ tkind r = 1) then w.endpointCredit h r 0 r.conn 0 (tokSlots r)
      else w) w

/-- TACK (R271, R273): EPSN, DONE_MSN and SACK of the receiver. -/
def doTack (w : W) (h : Nat) (t : FabPkt) : W :=
  let c := w.txConn h t.src
  if c.state ≠ .opened ∨ t.ptype ≠ 8 then w
  else
    let epsn := bits (payWord t.data 0) 31 0
    let done := bits (payWord t.data 0) 63 32
    let sack := leNat (t.data.drop 16)
    let marked := fun (n : Nat) => n < 1024 ∧ 1 ≤ n ∧ sack.testBit (n - 1)
    let left := c.pkts.filterMap fun p =>
      if serialLater 32 epsn p.pkt.psn then none
      else if marked ((p.pkt.psn + 2 ^ 32 - epsn) % 2 ^ 32) then some { p with sacked := true } else some p
    let fin := c.msgs.filter fun m => serialLater 32 done m.msn
    let w := w.setTx h { c with pkts := left, msgs := c.msgs.filter fun m => !serialLater 32 done m.msn,
                                stalled := c.stalled && left.length == c.pkts.length }
    (fin.foldl (fun w m => w.messageDone h m) w).transmit h t.src

/-- RETRANSMIT_TIMEOUT of packet `k` (R273): the path plane moves to the plane that is not the home plane, once. -/
def doRetransmit (w : W) (h dev k : Nat) : W :=
  let c := w.txConn h dev
  match c.pkts[k]? with
  | none => w
  | some p =>
    if c.state ≠ .opened ∨ p.sent = 0 ∨ p.sacked then w
    else
      let plane := w.fld Reg.FAB_TP_CFG F.FAB_TP_CFG_RTX_PLANE
      let other := c.otherPlane || (plane != 0 && decide (plane ≤ p.sent))
      let stall := decide (max 1 (w.fld Reg.FAB_TP_CFG F.FAB_TP_CFG_RTX_MAX) ≤ p.sent)
      let w := w.when (stall && !c.stalled) fun w =>
        ((w.countErr (Reg.ER_UNREACH h)).pend (144 + 4 * h)).record
          { cls := 0x0C, kind := 1, sev := 3, info := w64 (h * 2 ^ 16 + dev), aux := w.reg Reg.FAB_ORDER_NO }
      let w := w.setTx h { c with otherPlane := other, stalled := c.stalled || stall,
                                  pkts := c.pkts.set k { p with sent := p.sent + 1 } }
      (w.count (Reg.ER_TP_RETX h) 1).fabSend (if other then 1 - h else h) p.pkt

/-- CTX_OPEN_ACK: the sender starts. -/
def doOpenAck (w : W) (h dev : Nat) : W :=
  let c := w.txConn h dev
  if c.state = .opening then (w.setTx h { c with state := .opened }).transmit h dev else w

/-- A context is free: a connection that waits opens. -/
def openWaiting (w : W) (h : Nat) : W :=
  match (w.router h).tx.find? fun c => c.state == .waiting with
  | some c => w.openConn h c.dev
  | none => w

/-- A connection begun anew (R270, R274): every message it holds, in order and from offset 0, numbered from 0. Path plane
and STALLED stay (R273). -/
def restarted (c : TxConn) : TxConn :=
  c.msgs.foldl (fun x m =>
    let ps := m.pkts.zipIdx.map fun (p, i) => { p with psn := (x.psn + i) % 2 ^ 32, msn := x.msn }
    { x with psn := (x.psn + ps.length) % 2 ^ 32, msn := (x.msn + 1) % 2 ^ 32, pkts := x.pkts ++ ps.map fun p => { pkt := p },
             msgs := x.msgs ++ [{ msn := x.msn, pkts := ps, reqs := m.reqs }] })
    { dev := c.dev, otherPlane := c.otherPlane, stalled := c.stalled }

/-- CTX_CLOSE_ACK: the connection is closed; what was queued meanwhile opens it again. -/
def doCloseAckCtx (w : W) (h dev : Nat) : W :=
  let c := w.txConn h dev
  if c.state ≠ .closing then w
  else
    let w := w.setTx h (restarted c)
    if c.msgs = [] then w.openWaiting h else w.openConn h dev

/-- NOCTX (R274): the connection opens again and every message not done is sent again with new numbers; an ATOMIC among
them sets ND_STATUS.UNBOUND (R329). -/
def doNoctx (w : W) (h dev : Nat) : W :=
  let c := w.txConn h dev
  if c.state ≠ .opened then w
  else
    let w := w.setTx h (restarted c)
    let again := c.msgs.any fun m => m.pkts.any fun p => p.ptype == 3
    (w.when again fun w => w.setFlag Reg.ND_STATUS F.ND_STATUS_UNBOUND true).openConn h dev

/-- CONNECTION_IDLE_TIMEOUT (R270). -/
def doIdle (w : W) (h dev : Nat) : W :=
  let c := w.txConn h dev
  if c.state = .opened ∧ c.pkts = [] ∧ c.msgs = [] ∧ w.fld Reg.FAB_TP_CFG F.FAB_TP_CFG_IDLE ≠ 0 then
    (w.setTx h { c with state := .closing }).sendCtx h dev 3
  else w

/-! ### Receiving ends (R270 to R272) -/

def rxConn (w : W) (h dev : Nat) : Option RxConn := (w.router h).rx.find? fun c => c.dev == dev
def setRx (w : W) (h : Nat) (c : RxConn) : W :=
  let r := w.router h
  w.setRouter h { r with rx := (r.rx.filter fun x => x.dev != c.dev) ++ [c] }

/-- CTX_OPEN: a receive context, unless none is free or the peer's last one was closed too recently. -/
def doCtxOpen (w : W) (h dev : Nat) : W :=
  let used := ((w.router h).rx.filter fun c => c.isOpen).length
  let quiet := 2 * 65 * max 1 (w.fld Reg.FAB_RT_CFG F.FAB_RT_CFG_DWELL) * 1000
  match w.rxConn h dev with
  | some c =>
    if c.isOpen then (if c.epsn = 0 ∧ c.marks = [] then w else w.setRx h { dev := dev }).sendCtx h dev 2
    else if w.c.time < c.closedAt + quiet ∨ 4096 ≤ used then w
    else (w.setRx h { dev := dev }).sendCtx h dev 2
  | none => if 4096 ≤ used then w else (w.setRx h { dev := dev }).sendCtx h dev 2

/-- CTX_CLOSE. -/
def doCtxClose (w : W) (h dev : Nat) : W :=
  (w.setRx h { dev := dev, isOpen := false, closedAt := w.c.time }).sendCtx h dev 4

/-- A TACK goes out (R271). -/
def sendTack (w : W) (h dev : Nat) : W :=
  match w.rxConn h dev with
  | none => w
  | some c =>
    let sack := c.marks.foldl (fun a n =>
      let i := (n + 2 ^ 32 - c.epsn) % 2 ^ 32
      if 1 ≤ i ∧ i ≤ 1023 then a ||| 2 ^ (i - 1) else a) 0
    (w.setRx h { c with since := 0 }).fabPlain h 8 dev
      (leBytes 8 (c.done * 2 ^ 32 + c.epsn) ++ leBytes 8 0 ++ leBytes 128 sack)

/-- EPSN moves past the packets received. -/
def advance (c : RxConn) : Nat → RxConn
  | 0 => c
  | fuel + 1 =>
    if c.marks.contains c.epsn then
      advance { c with marks := c.marks.filter (· != c.epsn), epsn := (c.epsn + 1) % 2 ^ 32 } fuel
    else c

/-- What an access of a fabric peer carries as its requester (R354 class 0x0F). -/
def peerReq (w : W) (h dev : Nat) : Word := w64 (dev * 2 ^ 48 + w.nearLanding h 0)

/-- READ (R261): served, and answered with READ_RSP; an access that fails is answered with no bytes. -/
def serveRead (w : W) (h dev : Nat) (t : FabPkt) (data : List Byte) : W :=
  let (r, w) := w.farRead none (w.peerReq h dev) t.addr (bits (payWord data 0) 15 0)
  w.sendMsg h dev { ptype := 5, addr := t.addr } (if r.2.isSome then [] else r.1) []

/-- ATOMIC (R261): performed, and answered with ATOMIC_RSP. -/
def serveAtomic (w : W) (h dev : Nat) (t : FabPkt) (data : List Byte) (op : AtomOp) (cmp : Word) : W :=
  let (r, w) := w.wordAtomic none (deviceSource dev) t.addr op (payWord data 1) cmp
  w.sendMsg h dev { ptype := 6, addr := t.addr } (match r with | .ok bs false => bs | _ => []) []

/-- READ_RSP and ATOMIC_RSP reach the oldest request of their kind to that device (R261). -/
def serveAnswer (w : W) (h dev typ : Nat) (data : List Byte) : W :=
  let r := w.router h
  match r.reqs.findIdx? fun q => q.dev == dev && q.req.typ == typ with
  | none => w
  | some i =>
    match r.reqs[i]? with
    | none => w
    | some q =>
      let w := w.setRouter h { r with reqs := r.reqs.eraseIdx i }
      let land := w.nearLanding h q.req.srcLand
      if data = [] then w.errRsp land q.req 3
      else if typ = 1 then w.rdRsp land q.req data false
      else w.atRsp land q.req (payWord data 0) false

/-! ### Multicast groups (R275 to R277) -/

def groupWord (w : W) (h g i : Nat) : Word := w.reg (Reg.ER_GROUP h (8 * g + i))

/-- Children of a group's node: device and member range. -/
def groupChildren (w : W) (h g : Nat) : List (Nat × Nat) :=
  (List.range (min 6 (bits (w.groupWord h g 0) 60 58))).map fun c =>
    let x := w.groupWord h g (2 + c)
    (bits x 63 48, memberRange (bits x 47 38) (bits x 37 28))

/-- Every member below a node, its own included. -/
def groupMembers (w : W) (h g : Nat) : Nat :=
  let x := w.groupWord h g 0
  (w.groupChildren h g).foldl (fun a c => a ||| c.2) (if bit x 61 then 2 ^ bits x 57 48 else 0)

/-- ADDR of a packet of a group. -/
def groupAddr (g gen : Nat) : Word := w64 (gen % 2 ^ 16 * 2 ^ 10 + g)

/-- The queues a node's local name stands for: one queue, or the galleries of a local mask. -/
def localTargets (w : W) (h : Nat) (name : Word) : List Nat :=
  if bit name 38 then setBitsBelow 312 (w.regMask (Reg.DM_MASK (w.nearLanding h 0) (bits name 27 24) 0)).toNat
  else match w.nameTarget name with
    | some (p, _, _) => [p]
    | none => []

/-- The local name of a node is a local multicast (R150, R276). -/
def localMulti (name : Word) : Bool := bit name 38

/-- The targets of a node's local multicast as a mask. -/
def localMask (w : W) (h : Nat) (name : Word) : Mask := (w.localTargets h name).foldl (fun m p => m ||| maskOf p) 0

/-- A token of a node to targets of its local multicast (R165, R166): RTAG names the group, SEQ and payload are those
of `t`. -/
def nodeToken (w : W) (h g : Nat) (name : Word) (mask : Mask) (t : Packet) (kind low : Nat) : W :=
  let land := w.nearLanding h 0
  let arg := w64 (kind * 2 ^ 60 + bits name 3 0 * 2 ^ 56 + bits name 7 4 * 2 ^ 52 + low)
  w.emit (.mesh land { t with typ := 7, mc := true, mask := mask, dst := 0x1FF, exit := 0, srcLand := land, srcExit := 2,
                              srcDev := 0, conn := 0xFFFE, rtag := g, addr := 0, arg := arg,
                              nbody := if t.data.length ≤ 56 then 0 else ceilDiv t.data.length 128 })

/-- The node reserves as the source of R165: RESERVE goes to the targets of its local multicast. -/
def nodeReserve (w : W) (h g gen slots : Nat) (name : Word) : W :=
  let epoch := match w.localTargets h name with | p :: _ => w.epoch p (bits name 7 4) | [] => 0
  w.nodeToken h g name (w.localMask h name) { epoch := epoch } 6
    (Config.nodeFlight g % 64 * 2 ^ 25 + gen % 2 ^ 16 * 2 ^ 9 + slots % 512)

/-- What the answers of a node's own targets come to once all are in: its member is pruned when every target was, reserved
or delivered when every other one took, else late. -/
def settleLocal (me : Nat) (x : GroupRun) : GroupRun :=
  if x.want = 0 ∨ x.owed ≠ 0 then x
  else if x.shed = x.want then { x with want := 0, pruned := x.pruned ||| 2 ^ me }
  else if x.want &&& ~~~(x.took ||| x.shed) = 0 then { x with want := 0, got := x.got ||| 2 ^ me }
  else { x with want := 0, all := false }

/-- The node reserves at its local queue under the free-space rule of R164. -/
def reserveLocal (w : W) (h : Nat) (name : Word) (gen slots : Nat) : Bool × W :=
  let a := bits name 7 4
  let q := bits name 3 0
  let ps := w.localTargets h name
  let free := fun (p : Nat) => w.qcfg p a q F.Q_CFG_SIZE - (w.agent p a).used q - (w.agent p a).reserved q
  let ok := !ps.isEmpty && ps.all fun p =>
    w.qcfg p a q F.Q_CFG_EN == 1 && w.qcfg p a q F.Q_CFG_MCQ == 1 && decide (slots ≤ free p)
  if !ok then (false, w)
  else (true, ps.foldl (fun w p =>
    let r : Reserve := { queue := q, slots := slots, flight := 0, gen := gen, held := true, pkt := { typ := 7 } }
    w.setAgent p a { w.agent p a with reserves := (w.agent p a).reserves ++ [r] }) w)

/-- The data of a group reaches the node's local queues: false when no gallery takes it. -/
def deliverLocal (w : W) (h : Nat) (name : Word) (t : Packet) : Bool × W :=
  let ps := (w.localTargets h name).filter fun p => !w.flag (Reg.GAL_FENCE p) F.GAL_FENCE_FENCED
  let arg := putBits (putBits t.arg 59 56 (bits name 3 0)) 55 52 (bits name 7 4)
  (!ps.isEmpty, ps.foldl (fun w p =>
    let land := w.nearLanding h p
    w.emit (.mesh land { t with srcLand := land, srcExit := 2, dst := p, exit := 0, conn := 0xFFFE, arg := arg, mc := false })) w)

def findGroup (w : W) (h g : Nat) (data : Bool) : Option GroupRun :=
  (w.router h).groups.find? fun r => r.group == g && r.data == data
def setGroup (w : W) (h : Nat) (x : GroupRun) : W :=
  let r := w.router h
  w.setRouter h { r with groups := (r.groups.filter fun y => !(y.group == x.group && y.data == x.data)) ++ [x] }
def dropGroup (w : W) (h : Nat) (x : GroupRun) : W :=
  let r := w.router h
  w.setRouter h { r with groups := r.groups.filter fun y => !(y.group == x.group && y.data == x.data) }

/-- The ER_MCS block of a group: the one that names it, else the lowest that names none in progress. -/
def mcsOf (w : W) (h g : Nat) : Nat :=
  let name := fun (m : Nat) => bits (w.reg (Reg.ER_MCS h m 0)) 9 0
  match (List.range 4).find? fun m => name m == g with
  | some m => m
  | none => ((List.range 4).find? fun m => !((w.router h).groups.any fun r => r.group == name m)).getD 0

/-- A mask of 1,024 members as 16 words. -/
def memberWords (n : Nat) : List Word := (List.range 16).map fun i => w64 (n >>> (64 * i))

/-- A group's masks in ER_MCS: RESERVED, PRUNED, LATE. -/
def readMcs (w : W) (h m k : Nat) : Nat := leNat (wordBytes (w.regWords (Reg.ER_MCS h m (1 + 16 * k)) 16))
def writeMcs (w : W) (h m g got pruned late : Nat) : W :=
  w.setRegWords (Reg.ER_MCS h m 0) (w64 g :: memberWords got ++ memberWords pruned ++ memberWords late)

/-- SEND on a group returns its late and pruned counts (R157, R277). -/
def groupReturn (w : W) (h p a m i : Nat) : W :=
  let late := w.readMcs h i 2
  let pruned := w.readMcs h i 1
  match w.mcOwner p a m with
  | none => w
  | some s =>
    let g := w.agent p a
    let x := g.slot s
    let x := if late = 0 then { x with seq := (x.seq + 1) % 2 ^ 16 } else x
    let w := w.setAgent p a ((g.setMcSlot m { g.mcSlot m with phase := 3 }).setSlot s x)
    w.slotReturn p a (.mcast s) (popCount 1024 late % 2 ^ 16 * 2 ^ 16 + popCount 1024 pruned % 2 ^ 16 : Nat)

/-- The reserve of a group is over at its root (R276): the masks are set, and the data goes to the members reserved. -/
def rootReserved (w : W) (h p a m : Nat) (x : GroupRun) : W :=
  let i := w.mcsOf h x.group
  let late := x.asked &&& (x.asked ^^^ (x.asked &&& (x.got ||| x.pruned)))
  let w := (w.writeMcs h i x.group x.got x.pruned late).pend (147 + 4 * h)
  let g := w.agent p a
  let c := { g.mcSlot m with reserved := BitVec.ofNat 320 x.got, pruned := BitVec.ofNat 320 x.pruned,
                             late := BitVec.ofNat 320 late, all := x.all, phase := 2, gen := ((g.mcSlot m).gen + 1) % 2 ^ 16 }
  let w := w.setAgent p a (g.setMcSlot m c)
  match w.mcOwner p a m with
  | none => w
  | some s =>
    if x.got = 0 then w.groupReturn h p a m i
    else
      let sl := (w.agent p a).slot s
      let t := { w.tokenPacket p a s 0 sl.name 0xFFFE sl.seq sl.raw 0 c.data with mc := true, mask := c.reserved }
      ((w.emit (.mesh p t)).count (Reg.CH_MSGS p a s) 1).count (Reg.CH_BYTES p a s) c.data.length

/-- The data of a group is delivered, at its root (R277). -/
def rootDelivered (w : W) (h p a m : Nat) (x : GroupRun) : W :=
  let i := w.mcsOf h x.group
  let got := w.readMcs h i 0
  let w := w.writeMcs h i x.group got (w.readMcs h i 1 ||| x.pruned) (w.readMcs h i 2)
  let g := w.agent p a
  let c := g.mcSlot m
  (w.setAgent p a (g.setMcSlot m { c with pruned := c.pruned ||| BitVec.ofNat 320 x.pruned })).groupReturn h p a m i

/-- A node whose answers are all in answers its parent, or the sender at the root. -/
def groupCheck (w : W) (h : Nat) (x : GroupRun) : W :=
  if x.waits ≠ [] ∨ x.owed ≠ 0 then w.setGroup h x
  else
    let x := settleLocal (bits (w.groupWord h x.group 0) 57 48) x
    let r := w.router h
    let w := w.when (!x.data) fun w => w.setRouter h { r with held := Tbl.set (fun _ => 0) r.held x.group x.took }
    let w := w.dropGroup h x
    match x.root with
    | some (p, a, m) => if x.data then w.rootDelivered h p a m x else w.rootReserved h p a m x
    | none =>
      w.sendMsg h (bits (w.groupWord h x.group 0) 47 32) { ptype := 0xA, mc := true, addr := groupAddr x.group x.gen }
        (byte (x.all.toNat + 2 * x.data.toNat) :: leBytes 128 x.got ++ leBytes 128 x.pruned) []

/-- RESERVE at a node (R276): to the children that have members asked for, and to the local queue. -/
def groupReserve (w : W) (h g gen slots asked : Nat) (root : Option (Nat × Nat × Nat)) : W :=
  let x0 := w.groupWord h g 0
  if !bit x0 63 then w
  else
    let kids := (w.groupChildren h g).filter fun c => c.2 &&& asked != 0
    let lost := kids.filter fun c => !w.c.peers.contains c.1
    let kids := kids.filter fun c => w.c.peers.contains c.1
    let me := bits x0 57 48
    let mine := bit x0 61 && asked.testBit me
    let name := w.groupWord h g 1
    let many := mine && localMulti name
    let (ok, w) := if many then (true, w.nodeReserve h g gen slots name)
      else if mine then w.reserveLocal h name gen slots else (true, w)
    let want : Mask := if many then w.localMask h name else 0
    let x : GroupRun :=
      { group := g, gen := gen, data := false, asked := asked, waits := kids.map (·.1), all := ok && lost.isEmpty,
        want := want, owed := want, got := if mine && !many && ok then 2 ^ me else 0,
        pruned := lost.foldl (fun a c => a ||| c.2 &&& asked) 0, root := root }
    let w := kids.foldl (fun w c =>
      w.sendMsg h c.1 { ptype := 9, mc := true, addr := groupAddr g gen }
        (leBytes 8 slots ++ leBytes 128 (c.2 &&& asked)) []) w
    w.groupCheck h x

/-- The data token at a node (R277). -/
def groupData (w : W) (h g gen asked : Nat) (t : Packet) (root : Option (Nat × Nat × Nat)) : W :=
  let x0 := w.groupWord h g 0
  if !bit x0 63 then w
  else
    let kids := (w.groupChildren h g).filter fun c => c.2 &&& asked != 0
    let lost := kids.filter fun c => !w.c.peers.contains c.1
    let kids := kids.filter fun c => w.c.peers.contains c.1
    let me := bits x0 57 48
    let mine := bit x0 61 && asked.testBit me
    let name := w.groupWord h g 1
    let many := mine && localMulti name
    let want : Mask := if many then Tbl.get (fun _ => 0) (w.router h).held g else 0
    let (ok, w) := if many then (true, w.nodeToken h g name want t (bits t.arg 63 60) 0)
      else if mine then w.deliverLocal h name t else (true, w)
    let x : GroupRun :=
      { group := g, gen := gen, data := true, asked := asked, waits := kids.map (·.1), all := ok,
        want := want, owed := want, got := if mine && !many && ok then 2 ^ me else 0,
        pruned := lost.foldl (fun a c => a ||| c.2 &&& asked) (if mine && !ok then 2 ^ me else 0), root := root }
    let body := wordBytes [w64 (t.seq * 2 ^ 48 + t.conn * 2 ^ 32 + t.rtag * 2 ^ 16 + t.len), t.arg] ++ t.data
    let w := kids.foldl (fun w c =>
      w.sendMsg h c.1 { ptype := 4, mc := true, epoch := t.epoch, addr := groupAddr g gen } (leBytes 128 asked ++ body) []) w
    w.groupCheck h x

/-- RSV_ANS of a child (R276, R277). -/
def groupAnswer (w : W) (h dev : Nat) (t : FabPkt) (data : List Byte) : W :=
  let b := (data.headD 0).toNat
  match w.findGroup h (bits t.addr 9 0) (b.testBit 1) with
  | none => w
  | some x =>
    if x.gen ≠ bits t.addr 25 10 ∨ ¬ x.waits.contains dev then w
    else
      w.groupCheck h { x with waits := x.waits.filter (· != dev), all := x.all && b.testBit 0,
                              got := x.got ||| leNat ((data.drop 1).take 128),
                              pruned := x.pruned ||| leNat ((data.drop 129).take 128) }

/-- WR_ACK or MC_PRUNE of a target of a node's local multicast (R165, R166, R276): RTAG names the group. -/
def nodeAnswer (w : W) (h : Nat) (t : Packet) : W :=
  match (w.router h).groups.find? fun x => x.group == t.rtag && x.owed != 0 with
  | none => w
  | some x =>
    let m := t.mask &&& x.owed
    let ok := t.typ = 4 ∧ (x.data ∨ bit t.arg 0)
    w.groupCheck h { x with owed := x.owed &&& ~~~m, took := if ok then x.took ||| m else x.took,
                            shed := if t.typ = 0xD then x.shed ||| m else x.shed }

/-- FAB_RESERVE_TIMEOUT (R276): children and local targets that have not answered contribute nothing. -/
def doGroupTimeout (w : W) (h g : Nat) : W :=
  match w.findGroup h g false with
  | none => w
  | some x => w.groupCheck h { x with waits := [], owed := 0, all := x.all && x.waits.isEmpty && x.owed == 0 }

/-! ### Messages delivered (R272) -/

/-- The mesh token a TOKEN message carries (R261): header words 2 and 3 lead the payload. -/
def tokenOf (t : FabPkt) (data : List Byte) : Packet :=
  let a := payWord data 0
  { typ := 7, epoch := t.epoch, seq := bits a 63 48, conn := bits a 47 32, rtag := bits a 31 16, len := bits a 15 0,
    arg := payWord data 1, data := data.drop 16, addr := t.addr, srcDev := t.src }

/-- A complete message is delivered. -/
def deliverMsg (w : W) (h dev : Nat) (m : RxMsg) : W :=
  match m.pkts.head? with
  | none => w
  | some t =>
    let data := m.pkts.flatMap (·.data)
    match t.ptype, m.atom with
    | 2, _ => w.serveRead h dev t data
    | 3, some (op, cmp) => w.serveAtomic h dev t data op cmp
    | 4, _ =>
      if t.mc then w.groupData h (bits t.addr 9 0) (bits t.addr 25 10) (leNat (data.take 128)) (tokenOf t (data.drop 128)) none
      else w.endpointToken h (tokenOf t data)
    | 5, _ => w.serveAnswer h dev 1 data
    | 6, _ => w.serveAnswer h dev 5 data
    | 9, _ =>
      w.groupReserve h (bits t.addr 9 0) (bits t.addr 25 10) (leNat (data.take 8)) (leNat ((data.drop 8).take 128)) none
    | 0xA, _ => w.groupAnswer h dev t data
    | _, _ => w

/-- Complete messages are delivered in MSN order. -/
def deliverMsgs (w : W) (h dev : Nat) : Nat → W
  | 0 => w
  | fuel + 1 =>
    match w.rxConn h dev with
    | none => w
    | some c =>
      match c.msgs.find? fun m => m.msn == c.done && (match m.pkts.head? with | some t => m.got == t.mlen | none => false) with
      | none => w
      | some m =>
        let w := w.setRx h { c with done := (c.done + 1) % 2 ^ 32, msgs := c.msgs.filter fun x => x.msn != m.msn }
        W.deliverMsgs (w.deliverMsg h dev m) h dev fuel

/-- A sequenced packet arrives at its home edge router (R270 to R272, R288). -/
def seqIn (w : W) (h : Nat) (t : FabPkt) (atom : Option (AtomOp × Word)) : W :=
  if !w.c.peers.contains t.src then w.count (Reg.ER_LOST_DROP h) 1
  else match w.rxConn h t.src with
    | none => w.sendCtx h t.src 5
    | some c =>
      let ahead := (t.psn + 2 ^ 32 - c.epsn) % 2 ^ 32
      if !c.isOpen then w.sendCtx h t.src 5
      else if serialLater 32 c.epsn t.psn ∨ c.marks.contains t.psn then
        (w.count (Reg.ER_TP_DUP h) 1).sendTack h t.src
      else if 1024 ≤ ahead then w.count (Reg.ER_TP_OUTWIN h) 1
      else
        let m := (c.msgs.find? fun m => m.msn == t.msn).getD { msn := t.msn, got := 0, pkts := [] }
        let m := { m with got := m.got + t.len, pkts := placePkt t m.pkts, atom := if atom.isSome then atom else m.atom }
        let c := advance { c with marks := t.psn :: c.marks, since := c.since + 1,
                                  msgs := (c.msgs.filter fun x => x.msn != t.msn) ++ [m] } 1024
        let w := w.setRx h c
        let w := if t.ptype = 1 then (w.farWrite none (w.peerReq h t.src) (t.addr + w64 t.off) t.data).2 else w
        let w := w.deliverMsgs h t.src (c.msgs.length + 1)
        let batch := max 1 (w.fld Reg.FAB_TP_CFG F.FAB_TP_CFG_ACK_BATCH)
        if batch ≤ c.since then w.sendTack h t.src else w

/-! ### From the mesh (R261, R276, R288) -/

/-- Header words 2 and 3 of a mesh packet, and its payload. -/
def meshBody (t : Packet) : List Byte :=
  wordBytes [w64 (t.seq % 2 ^ 16 * 2 ^ 48 + t.conn % 2 ^ 16 * 2 ^ 32 + t.rtag % 2 ^ 16 * 2 ^ 16 + t.len % 2 ^ 16), t.arg] ++ t.data

/-- The queue name of a token for another device: device and gallery from ADDR, agent and queue from ARG. -/
def nameOf (t : Packet) : Word :=
  w64 (bits t.addr 63 48 * 2 ^ 40 + (bits t.addr 47 0 - windowBase) / 2 ^ 23 % 4096 * 2 ^ 24 + bits t.arg 55 52 * 16
    + bits t.arg 59 56)

/-- What the endpoint notes of an outgoing token of the step (R197): false when the token was sent before a rollback. -/
def logOutbound (w : W) (t : Packet) : Bool × W :=
  let key := ((w.logicalOf t.srcLand).getD 0xFFF, t.rtag, bits t.addr 63 48)
  -- the same token sent again has another SEQ when its connection was open before the step: the CRC leaves SEQ out
  let crc := crc32c (meshBody { t with conn := 0, seq := 0 })
  let l := w.c.fabLog
  let o := (l.outbound.find? fun o => o.key == key).getD { key := key, crcs := [], skip := 0 }
  let put := fun (w : W) (o : OutLog) =>
    { w with c := { w.c with fabLog := { l with outbound := (l.outbound.filter fun x => x.key != key) ++ [o] } } }
  if 0 < o.skip then
    let want := o.crcs.getD (o.crcs.length - o.skip) 0
    let w := put w { o with skip := o.skip - 1 }
    (false, w.when (want != crc) fun w => w.addWork .schedule { cls := 7, kind := 2, phys := some t.srcLand })
  else (true, put w { o with crcs := o.crcs ++ [crc] })

/-- A token of a local agent for another device: the endpoint is the receiver of its channel (R197). -/
def tokenOut (w : W) (h : Nat) (t : Packet) : W :=
  let dev := bits t.addr 63 48
  let r := w.router h
  let send := fun (w : W) (conn : Nat) =>
    w.sendMsg h dev { ptype := 4, epoch := t.epoch, addr := nameOf t } (meshBody { t with conn := conn }) [{ t with conn := conn }]
  if tkind t = 2 then
    let ask := bits t.arg 15 0
    match r.chans.find? fun c => c.toFabric && c.dev == dev && c.land == t.srcLand && c.rtag == t.rtag with
    | some c => w.endpointCredit h t 1 c.conn 0 ask
    | none =>
      match (List.range 0xFFC0).find? fun n => !(r.chans.any fun c => c.toFabric && c.conn == n) with
      | none => w.endpointCredit h t 2 0 0 0
      | some n =>
        let c : FabChan := { toFabric := true, dev := dev, conn := n, land := t.srcLand, rtag := t.rtag, name := nameOf t,
                             arg := t.arg }
        send ((w.setRouter h { r with chans := r.chans ++ [c] }).endpointCredit h t 1 n 0 ask) n
  else
    match w.logOutbound t with
    | (false, w) => if tkind t = 0 ∨ tkind t = 1 then w.endpointCredit h t 0 t.conn 0 (tokSlots t) else w
    | (true, w) =>
      if tkind t = 3 then
        let w := w.setRouter h { w.router h with chans := (w.router h).chans.map fun c =>
          if c.toFabric ∧ c.conn = t.conn then { c with land := 0x1FF } else c }
        (send w t.conn).endpointCredit h t 3 t.conn 0 0
      else send w t.conn

/-- A multicast token of a local agent that names a fabric group (R275 to R277). -/
def groupOut (w : W) (h : Nat) (t : Packet) : W :=
  let g := bits t.addr 57 48
  let a := credAgent t
  let m := ((w.agent t.srcLand a).slot (credSlot t)).mcs
  let i := w.mcsOf h g
  if tkind t = 6 then
    let asked := if t.mask = 0 then w.groupMembers h g else w.readMcs h i 2
    w.groupReserve h g (bits t.arg 24 9) (bits t.arg 8 0) asked (some (t.srcLand, a, m))
  else w.groupData h g ((w.agent t.srcLand a).mcSlot m).gen (w.readMcs h i 0) t (some (t.srcLand, a, m))

/-- An open WRITE message closes: it is sent with the bytes it has (R261). -/
def closeWrite (w : W) (h : Nat) (o : OpenWrite) : W :=
  let r := w.router h
  (w.setRouter h { r with writes := r.writes.filter fun x => x != o }).sendMsg h o.dev { ptype := 1, addr := o.addr }
    (o.reqs.flatMap (·.data)) o.reqs

/-- The open WRITE messages of a landing toward a device close, so that what it sends next comes after them. -/
def closeWrites (w : W) (h land dev : Nat) : W :=
  ((w.router h).writes.filter fun o => o.land == land && o.dev == dev).foldl (fun w o => w.closeWrite h o) w

/-- WR_REQ (R261): it continues the open message of its source and RTAG, or opens one. -/
def writeOut (w : W) (h : Nat) (t : Packet) : W :=
  let mine := fun (o : OpenWrite) => o.land == t.srcLand && o.rtag == t.rtag
  let fits := fun (o : OpenWrite) => mine o && t.addr == o.addr + w64 o.bytes && decide (o.bytes + t.data.length ≤ 2 ^ 20)
  let r := w.router h
  let put := fun (o : OpenWrite) =>
    if fits o then { o with bytes := o.bytes + t.data.length, reqs := o.reqs ++ [t] } else o
  if r.writes.any fits then
    w.setRouter h { r with writes := r.writes.map put }
  else
    let w := (r.writes.filter mine).foldl (fun w o => w.closeWrite h o) w
    let o : OpenWrite := { dev := bits t.addr 63 48, land := t.srcLand, rtag := t.rtag, addr := t.addr,
                           bytes := t.data.length, reqs := [t] }
    w.setRouter h { w.router h with writes := (w.router h).writes ++ [o] }

/-- WRITE_MESSAGE_CLOSE (R261): 64 landing cycles without a further WR_REQ of this source and RTAG. -/
def doWriteClose (w : W) (h land rtag : Nat) : W :=
  ((w.router h).writes.filter fun o => o.land == land && o.rtag == rtag).foldl (fun w o => w.closeWrite h o) w

/-- ER_MESH_INGRESS: a mesh packet for another device; or the answer of a local queue to a channel of the endpoint or to a
multicast of a tree node. -/
def doMeshIngress (w : W) (h : Nat) (t : Packet) : W :=
  let dev := bits t.addr 63 48
  if t.typ = 8 then w.chanCredit h t
  else if t.typ = 4 ∨ t.typ = 0xD then w.nodeAnswer h t
  else if t.typ = 7 ∧ t.mc then w.groupOut h t
  else if !w.c.peers.contains dev then
    if [1, 3, 5, 7].contains t.typ then w.errRsp (w.nearLanding h t.srcLand) t 3 else w
  else if t.typ = 3 then w.writeOut h t
  else
    let w := w.closeWrites h t.srcLand dev
    if t.typ = 7 then w.tokenOut h t
    else if t.typ = 1 ∨ t.typ = 5 then
      let r := w.router h
      (w.setRouter h { r with reqs := r.reqs ++ [{ dev := dev, req := t }] }).sendMsg h dev
        { ptype := if t.typ = 1 then 2 else 3, addr := t.addr } (meshBody t) []
    else w

/-! ### Connections that a peer map ends (R288, R289) -/

/-- The connections to a device close: what was not acknowledged is discarded and reported; a connection that waits for the
context opens. -/
def dropPeer (w : W) (dev : Nat) : W :=
  [0, 1].foldl (fun w h =>
    let r := w.router h
    match r.tx.find? fun c => c.dev == dev with
    | none => w.setRouter h { r with rx := r.rx.filter fun c => c.dev != dev }
    | some c =>
      (w.setRouter h { r with tx := r.tx.filter (fun x => x.dev != dev), rx := r.rx.filter (fun x => x.dev != dev),
                              reqs := r.reqs.filter (fun q => q.dev != dev),
                              writes := r.writes.filter fun o => o.dev != dev }).record
        { cls := 0x0C, kind := 4, sev := 3, info := w64 (h * 2 ^ 16 + dev), aux := w64 c.msgs.length } |>.openWaiting h) w

/-- A new peer map ends STALLED of the connections it keeps (R273). -/
def unstallPeers (w : W) : W :=
  [0, 1].foldl (fun w h =>
    let r := w.router h
    w.setRouter h { r with tx := r.tx.map fun c => { c with stalled := false } }) w

end W

/-! ### The meanings -/

/-- A packet of one type at edge router `h`. -/
def fabRun (h ptype : Nat) (t : FabPkt) (atom : Option (AtomOp × Word)) (s : State) : Host.Outcome State Fault Refusal :=
  runOn (routerOk h) s fun w => if t.ptype = ptype then w.seqIn h t atom else w

/-- A CTX packet with a code. -/
def ctxRun (h code : Nat) (t : FabPkt) (s : State) (f : W → W) : Host.Outcome State Fault Refusal :=
  runOn (routerOk h) s fun w => if t.ptype = 7 ∧ leNat (t.data.take 1) % 16 = code then f w else w

/-- ER_MESH_INGRESS. -/
def execErMeshIngress (h : Nat) (t : Packet) (s : State) : Host.Outcome State Fault Refusal :=
  runOn (routerOk h) s fun w => w.doMeshIngress h t

/-- WRITE_MESSAGE_CLOSE. -/
def execWriteMessageClose (h land rtag : Nat) (s : State) : Host.Outcome State Fault Refusal :=
  runOn (routerOk h) s fun w => w.doWriteClose h land rtag

/-- FABRIC_PACKET_FORWARD. -/
def execFabricPacketForward (h k : Nat) (bad : Bool) (s : State) : Host.Outcome State Fault Refusal :=
  runOn (routerOk h) s fun w => w.doForward h k bad

/-- FABRIC_DWELL_TIMEOUT. -/
def execFabricDwellTimeout (h k : Nat) (s : State) : Host.Outcome State Fault Refusal :=
  runOn (routerOk h) s fun w => w.doDwell h k

/-- FAB_READ. -/
def execFabRead (h : Nat) (t : FabPkt) (s : State) : Host.Outcome State Fault Refusal := fabRun h 2 t none s

/-- FAB_ATOMIC. -/
def execFabAtomic (h : Nat) (t : FabPkt) (op : AtomOp) (cmp : Word) (s : State) : Host.Outcome State Fault Refusal :=
  fabRun h 3 t (some (op, cmp)) s

/-- FAB_TOKEN. -/
def execFabToken (h : Nat) (t : FabPkt) (s : State) : Host.Outcome State Fault Refusal := fabRun h 4 t none s

/-- FAB_RESERVE. -/
def execFabReserve (h : Nat) (t : FabPkt) (s : State) : Host.Outcome State Fault Refusal := fabRun h 9 t none s

/-- FAB_READ_RSP. -/
def execFabReadRsp (h : Nat) (t : FabPkt) (s : State) : Host.Outcome State Fault Refusal := fabRun h 5 t none s

/-- FAB_ATOMIC_RSP. -/
def execFabAtomicRsp (h : Nat) (t : FabPkt) (s : State) : Host.Outcome State Fault Refusal := fabRun h 6 t none s

/-- RSV_ANS. -/
def execRsvAns (h : Nat) (t : FabPkt) (s : State) : Host.Outcome State Fault Refusal := fabRun h 0xA t none s

/-- CTX_OPEN. -/
def execCtxOpen (h : Nat) (t : FabPkt) (s : State) : Host.Outcome State Fault Refusal :=
  ctxRun h 1 t s fun w => w.doCtxOpen h t.src

/-- CTX_OPEN_ACK. -/
def execCtxOpenAck (h : Nat) (t : FabPkt) (s : State) : Host.Outcome State Fault Refusal :=
  ctxRun h 2 t s fun w => w.doOpenAck h t.src

/-- CTX_CLOSE. -/
def execCtxClose (h : Nat) (t : FabPkt) (s : State) : Host.Outcome State Fault Refusal :=
  ctxRun h 3 t s fun w => w.doCtxClose h t.src

/-- CTX_CLOSE_ACK. -/
def execCtxCloseAck (h : Nat) (t : FabPkt) (s : State) : Host.Outcome State Fault Refusal :=
  ctxRun h 4 t s fun w => w.doCloseAckCtx h t.src

/-- CTX_NOCTX. -/
def execCtxNoctx (h : Nat) (t : FabPkt) (s : State) : Host.Outcome State Fault Refusal :=
  ctxRun h 5 t s fun w => w.doNoctx h t.src

/-- TACK. -/
def execTack (h : Nat) (t : FabPkt) (s : State) : Host.Outcome State Fault Refusal :=
  runOn (routerOk h) s fun w => w.doTack h t

/-- TACK_DELAY_TIMEOUT. -/
def execTackDelayTimeout (h dev : Nat) (s : State) : Host.Outcome State Fault Refusal :=
  runOn (routerOk h) s fun w =>
    match w.rxConn h dev with
    | some c => if 0 < c.since then w.sendTack h dev else w
    | none => w

/-- RETRANSMIT_TIMEOUT. -/
def execRetransmitTimeout (h dev k : Nat) (s : State) : Host.Outcome State Fault Refusal :=
  runOn (routerOk h) s fun w => w.doRetransmit h dev k

/-- CONNECTION_IDLE_TIMEOUT. -/
def execConnectionIdleTimeout (h dev : Nat) (s : State) : Host.Outcome State Fault Refusal :=
  runOn (routerOk h) s fun w => w.doIdle h dev

/-- FAB_RESERVE_TIMEOUT of group `g`. -/
def execFabReserveTimeout (h g : Nat) (s : State) : Host.Outcome State Fault Refusal :=
  runOn (routerOk h) s fun w => w.doGroupTimeout h g

/-- ER_CNT_CLR. -/
def execErCntClr (h : Nat) (v : Word) (s : State) : Host.Outcome State Fault Refusal :=
  runOn (routerOk h) s fun w => w.clearCounters (Reg.ER_PKT_BAD h) 12 v

end Sys2Proof.Machine
end

