-- ==== Sys2Proof/Machine/FabEvents.lean ====
section
/-! DEFINITION. Barriers, triggers, global time and the assembly of orders (11_fabric_network_and_transport.md R278 to
R285; 16_reset_and_recovery.md R385). -/

namespace Sys2Proof.Machine

/-- BOP, barrier number and GEN of a BARRIER packet (R282). -/
def barBop (t : FabPkt) : Nat := bits t.addr 63 60
def barNum (t : FabPkt) : Nat := bits t.addr 59 56
def barPktGen (t : FabPkt) : Nat := bits t.addr 47 32

namespace W

/-! ### Barriers -/

/-- FAB_TIME_STATUS.STATE. -/
def timeState (w : W) : Nat := w.fld Reg.FAB_TIME_STATUS F.FAB_TIME_STATUS_STATE
def timeLocked (w : W) : Bool := w.timeState == 2

/-- BARRIER_ARRIVE (R282): it combines, or is answered with the release again, or counts in ER_BAR_FAULT. -/
def doBarArrive (w : W) (h : Nat) (t : FabPkt) : W :=
  let k := 16 * h + barNum t
  if t.ptype ≠ 0xB ∨ barBop t ≠ 1 then w
  else if !bit (w.barWord k 0) 63 then w.countErr (Reg.ER_BAR_FAULT h)
  else
    let b := w.bar k
    let gen := w.barGen k
    match (w.barChildren k).findIdx? fun c => c == t.src with
    | none => w.countErr (Reg.ER_BAR_FAULT h)
    | some c =>
      if barPktGen t = gen then
        let got := if b.got.testBit (1 + c) then b.got else b.got + 2 ^ (1 + c)
        (w.setBar k { b with got := got }).barCheck k
      else if (barPktGen t + 1) % 2 ^ 16 = gen ∧ b.lastT.isSome then w.barPacket k t.src 2 (barPktGen t) b.lastT
      else w.countErr (Reg.ER_BAR_FAULT h)

/-- The local member of entry `k` acts (R283): the commit of R194, or the first START of a job. -/
def barAct (w : W) (k : Nat) : W :=
  let w := w.setBar k { w.bar k with due := none }
  match w.c.seq.img with
  | none => w
  | some i =>
    if i.view.commitBar = k ∧ w.c.seq.phase = .fabric then w.issueCommitted
    else if i.view.startBar = k ∧ w.c.seq.phase = .startBarrier then w.doStart true
    else w

/-- BARRIER_RELEASE (R282, R283): GEN moves on and the children get it; a late one, or one while the time is not LOCKED,
is acted on at once. -/
def doBarRelease (w : W) (h : Nat) (t : FabPkt) : W :=
  let k := 16 * h + barNum t
  let T := (payWord t.data 0).toNat
  if t.ptype ≠ 0xB ∨ barBop t ≠ 2 ∨ ¬ bit (w.barWord k 0) 63 ∨ barPktGen t ≠ w.barGen k ∨
      t.src ≠ bits (w.barWord k 0) 47 32 then w
  else
    let late := decide (T < w.c.time) || !w.timeLocked
    let w := w.barRelease k T
    if late ∧ (w.bar k).due.isSome then (w.count (Reg.ER_BAR_LATE h) 1).barAct k else w

/-- BARRIER_ARRIVE_RESEND of entry `k` (R282). -/
def doBarResend (w : W) (k : Nat) : W :=
  if (w.bar k).sent then w.barPacket k (bits (w.barWord k 0) 47 32) 1 (w.barGen k) none else w

/-- BARRIER_ACTION_AT_T of entry `k`: a vestibule cycle starts; the member acts in the first at or after T (R283). -/
def doBarAction (w : W) (k : Nat) : W :=
  match (w.bar k).due with
  | some T => if T ≤ w.c.time then w.barAct k else w
  | none => w

/-- BARRIER_TRIGGER (R385). -/
def doTrigger (w : W) (t : FabPkt) : W :=
  let T := (payWord t.data 0).toNat
  if t.ptype ≠ 0xB ∨ barBop t ≠ 3 ∨ ¬ w.flag Reg.SNAP_CFG F.SNAP_CFG_FAB_IN then w
  else if w.c.time + 1000000000 < T then w.count Reg.SNAP_FAB_BAD 1
  else if T < w.c.time ∨ ¬ w.timeLocked then w.snapLatch 4 0 true
  else { w with c := { w.c with snapAt := some T } }

/-! ### Global time (R278, R279) -/

/-- STATE of the time changes, with its events (R437 sources 146 and 150). -/
def setTimeState (w : W) (s : Nat) : W :=
  if w.timeState = s then w else ((w.setFld Reg.FAB_TIME_STATUS F.FAB_TIME_STATUS_STATE s).pend 146).pend 150

/-- The counter in ps, as a timestamp. -/
def stampNow (w : W) : Nat := w.c.time * 1000

/-- The parent port (R278), when it is in service. -/
def parentPort (w : W) : Option Nat :=
  let dir := w.fld Reg.FAB_TIME_CFG F.FAB_TIME_CFG_PARENT_DIR
  let ord := w.fld Reg.FAB_TIME_CFG F.FAB_TIME_CFG_PARENT_ORD
  (List.range 64).find? fun q => w.portState q == 3 && (w.port q).dir == dir && (w.port q).ord == ord

/-- A TIME packet leaves by port `q` on a control lane, without waiting in the router: timestamps are taken on the line. -/
def sendTime (w : W) (q : Nat) (data : List Byte) : W :=
  let dir := (w.port q).dir
  let t : FabPkt := { ptype := 0xC, dst := w.neighbour dir, src := w.selfDev, splane := w.planeOf (w.port q).ord, last := true,
                      len := data.length, mlen := data.length, data := data }
  w.fabOut t q dir 6

/-- The exchange is complete (R278, R279): sent and received back on this device's counter at t1 and t4, received and sent
on the parent's at t2 and t3, all in ps. The first time the counter steps to the parent's time; after that it only slews. -/
def steer (w : W) (t1 t2 t3 t4 : Nat) : W :=
  let off : Int := (((t2 : Int) - t1) + ((t3 : Int) - t4)) / 2
  let delay : Int := (((t4 : Int) - t1) - ((t3 : Int) - t2)) / 2
  let k := w.c.timeKeep
  let time := if k.stepped then w.c.time else ((w.c.time : Int) + off / 1000).toNat
  let owed := if k.stepped then off else off % 1000
  let k : TimeKeep := { stepped := true, delay := delay, owed := owed }
  let w := { w with c := { w.c with time := time, timeKeep := k } }
  let w := w.setFld Reg.FAB_TIME_STATUS F.FAB_TIME_STATUS_OFFSET (unsigned 16 (max (-32768) (min 32767 off)))
  w.setTimeState (if -100 ≤ off ∧ off ≤ 100 then 2 else 1)

/-- TIME_PACKET received on port `q` at `rx` ps of this device's counter (R278; payload of log entry 18: byte 0 is 0 for a
request and 1 for an answer, then the timestamps t1, t2, t3). A request is answered with them, the answer leaving at `tx`
ps; an answer of the parent steers the counter. -/
def doTimePacket (w : W) (q : Nat) (t : FabPkt) (rx tx : Nat) : W :=
  let stamp := fun (i : Nat) => leNat ((t.data.drop (1 + 8 * i)).take 8)
  if t.ptype ≠ 0xC then w
  else if (t.data.headD 0) = 0 then
    if w.portState q = 3 then w.sendTime q (byte 1 :: leBytes 8 (stamp 0) ++ leBytes 8 rx ++ leBytes 8 tx) else w
  else if w.flag Reg.FAB_TIME_CFG F.FAB_TIME_CFG_GM ∨ w.parentPort ≠ some q ∨ ¬ w.c.timeKeep.waiting then w
  else w.steer (stamp 0) (stamp 1) (stamp 2) rx

/-- TIME_SYNC: the grandmaster is locked to its own reference; another device asks its parent, and holds over after four
exchanges missed. -/
def doTimeSync (w : W) : W :=
  let dir := w.fld Reg.FAB_TIME_CFG F.FAB_TIME_CFG_PARENT_DIR
  if w.flag Reg.FAB_TIME_CFG F.FAB_TIME_CFG_GM then
    { w with c := { w.c with timeKeep := { stepped := true } } }.setTimeState 2
  else if dir = 7 then w
  else
    let k := w.c.timeKeep
    let missed := if k.waiting then k.missed + 1 else k.missed
    let w := { w with c := { w.c with timeKeep := { k with missed := missed, waiting := true } } }
    let w := if 4 ≤ missed then w.setTimeState 3
      else if w.timeState = 0 then w.setTimeState 1 else w
    match w.parentPort with
    | some q => w.sendTime q (byte 0 :: leBytes 8 w.stampNow)
    | none => w

/-! ### Orders on their way in (R284, R285) -/

/-- An order is rejected (R286). -/
def orderReject (w : W) (via no : Nat) : W :=
  (w.countErr (Reg.ER_ORDER_REJ (via % 2))).record { cls := 0x0C, kind := 2, sev := 0, aux := w64 no }

/-- The layout of an order is valid (R284); its reserved bytes are not looked at (R8). -/
def orderLayout (bs : List Byte) : Bool :=
  let f := fun (o n : Nat) => leNat ((bs.drop o).take n)
  decide (32 ≤ bs.length) && f 0 2 == 0x4F44 && f 2 1 == 1 && decide (1 ≤ f 3 1) && decide (f 3 1 ≤ 6) &&
    decide (1 ≤ f 6 1) && decide (f 6 1 ≤ 16) &&
    bs.length == 32 + f 4 2 + f 6 1 * (4 + 29792)

/-- A complete order: one with the last accepted number is ignored, one with a bad layout rejected, any other waits to be
verified. -/
def orderArrive (w : W) (via : Nat) (bs : List Byte) : W :=
  let no := leNat ((bs.drop 8).take 8)
  if !orderLayout bs then w.orderReject via no
  else if no = (w.reg Reg.FAB_ORDER_NO).toNat then w
  else { w with c := { w.c with orders := w.c.orders ++ [(bs, via)] } }

/-- ORDER_PACKET (R285). -/
def doOrderPacket (w : W) (h : Nat) (t : FabPkt) : W :=
  if t.ptype ≠ 0xD then w
  else if t.dst ≠ w.selfDev then w.fabSend h t
  else if 524288 < t.mlen then w.countErr (Reg.ER_ORDER_REJ h)
  else
    let mine := fun (a : OrderAsm) => a.src == t.src && a.msn == t.msn
    let a := (w.c.orderAsm.find? mine).getD { via := h, src := t.src, msn := t.msn, mlen := t.mlen, pieces := [] }
    let a := if a.pieces.any fun p => p.1 == t.off then a else { a with pieces := a.pieces ++ [(t.off, t.data)] }
    let rest := w.c.orderAsm.filter fun x => !mine x
    let (rest, drop) := if 4 ≤ rest.length then (rest.drop 1, true) else (rest, false)
    let w := w.when drop fun w => w.countErr (Reg.ER_ORDER_REJ h)
    if (a.pieces.map (·.2.length)).sum = a.mlen then
      let bs := a.pieces.foldl (fun (b : List Byte) (o, d) => b.take o ++ d ++ b.drop (o + d.length)) (List.replicate a.mlen 0)
      ({ w with c := { w.c with orderAsm := rest } }.pend (145 + 4 * h)).orderArrive h bs
    else { w with c := { w.c with orderAsm := rest ++ [a] } }

/-- ORDER_ASSEMBLY_TIMEOUT of assembly `k`. -/
def doOrderTimeout (w : W) (k : Nat) : W :=
  match w.c.orderAsm[k]? with
  | none => w
  | some a => { w with c := { w.c with orderAsm := w.c.orderAsm.eraseIdx k } }.countErr (Reg.ER_ORDER_REJ a.via)

end W

/-! ### The meanings -/

/-- BARRIER_ARRIVE. -/
def execBarrierArrive (h : Nat) (t : FabPkt) (s : State) : Host.Outcome State Fault Refusal :=
  runOn (routerOk h) s fun w => w.doBarArrive h t

/-- BARRIER_RELEASE. -/
def execBarrierRelease (h : Nat) (t : FabPkt) (s : State) : Host.Outcome State Fault Refusal :=
  runOn (routerOk h) s fun w => w.doBarRelease h t

/-- BARRIER_ARRIVE_RESEND of entry `k` % 16 of router `k` / 16. -/
def execBarrierArriveResend (k : Nat) (s : State) : Host.Outcome State Fault Refusal :=
  runOn (decide (k < 32)) s fun w => w.doBarResend k

/-- BARRIER_ACTION_AT_T. -/
def execBarrierActionAtT (k : Nat) (s : State) : Host.Outcome State Fault Refusal :=
  runOn (decide (k < 32)) s fun w => w.doBarAction k

/-- BARRIER_TRIGGER. -/
def execBarrierTrigger (t : FabPkt) (s : State) : Host.Outcome State Fault Refusal := run s fun w => w.doTrigger t

/-- TIME_PACKET. -/
def execTimePacket (q : Nat) (t : FabPkt) (rx tx : Nat) (s : State) : Host.Outcome State Fault Refusal :=
  runOn (portOk q) s fun w => w.doTimePacket q t rx tx

/-- TIME_SYNC. -/
def execTimeSync (s : State) : Host.Outcome State Fault Refusal := runAux s fun w => w.doTimeSync

/-- ORDER_PACKET. -/
def execOrderPacket (h : Nat) (t : FabPkt) (s : State) : Host.Outcome State Fault Refusal :=
  runOn (routerOk h) s fun w => w.doOrderPacket h t

/-- ORDER_ASSEMBLY_TIMEOUT. -/
def execOrderAssemblyTimeout (k : Nat) (s : State) : Host.Outcome State Fault Refusal := run s fun w => w.doOrderTimeout k

end Sys2Proof.Machine
end

