-- ==== Sys2Proof/Machine/Image.lean ====
section
/-! DEFINITION. A schedule image as it stands in memory (08_schedules_and_steps.md R176, R178 step 1): its header, its
section table and what its sections hold. The manual gives the header, the section table, REGIONS and REDUCE byte by byte;
it names what the other sections hold and not where: that is a free function of the section's own bytes (log entry 5). -/

namespace Sys2Proof.Machine

/-- An entry of the section table (R176). -/
structure Section where
  typ : Nat
  version : Nat
  place : Nat
  cfg : Nat
  bytes : Nat
  off : Nat
deriving DecidableEq, Repr

/-- The section table behind a 256-byte header. -/
def sectionsOf (img : List Byte) : List Section :=
  let n := leNat ((img.drop 0x10).take 2)
  (List.range n).map fun i =>
    let e := img.drop (256 + 16 * i)
    let x := leNat (e.take 8)
    { typ := x % 256, version := x / 256 % 256, place := x / 2 ^ 16 % 256, cfg := x / 2 ^ 24 % 256, bytes := x / 2 ^ 32,
      off := leNat ((e.drop 8).take 8) }

/-- Step 1 of R178: every check of the header and the section bounds. -/
def headerOk (img : List Byte) : Bool :=
  let h := fun (o n : Nat) => leNat ((img.drop o).take n)
  let nsec := h 0x10 2
  h 0 2 == 0x5349 && h 2 1 == 1 && h 3 1 == 1 && h 4 4 == 256 &&
    decide (1 ≤ nsec) && decide (nsec ≤ 4096) && decide (1 ≤ h 0x13 1) && decide (h 0x13 1 ≤ 8) &&
    decide (1 ≤ h 0x16 1) && decide (h 0x16 1 ≤ 16) && decide (1 ≤ h 0x17 1) && decide (h 0x17 1 ≤ 8) &&
    (List.range 16).all (fun i => decide (i < h 0x16 1) || h (0x70 + 8 * i) 8 == 0) &&
    decide (1 ≤ h 0x18 4) && decide (h 0x18 4 ≤ 1048575) && decide (1 ≤ h 0x1C 4) && decide (h 0x1C 4 ≤ 900) &&
    decide (256 + 16 * nsec ≤ h 8 8) && decide (img.length = h 8 8) &&
    (sectionsOf img).all fun s => decide (256 + 16 * nsec ≤ s.off) && decide (s.off + s.bytes ≤ h 8 8)

/-- PROGRAM_DIGEST: SHAKE256 of the image with the digest field zero, 512 bits (R176). -/
def imageDigest (img : List Byte) : List Byte :=
  Config.shake256 (img.take 0x30 ++ List.replicate 64 0 ++ img.drop 0x70) 64

/-! ### The sections -/

/-- The bytes of a section. -/
def Section.body (img : List Byte) (s : Section) : List Byte := (img.drop s.off).take s.bytes

/-- The section belongs to placement `k` and configuration set `c`; 0xFF is all of them (R176). -/
def Section.of (s : Section) (k c : Nat) : Bool := (s.place == k || s.place == 0xFF) && (s.cfg == c || s.cfg == 0xFF)

/-- The bytes of the sections of TYPE `t` that belong to placement `k` and set `c`, in the table's order. -/
def sectionBodies (img : List Byte) (t k c : Nat) : List (List Byte) :=
  ((sectionsOf img).filter fun s => s.typ == t && s.of k c).map (Section.body img)

/-- The register of a gallery block at offset `o` is one that sections of TYPE `t` fill: the steering table and control
list (0x03), Q_CFG, Q_RING and Q_TMO (0x04), HALL_CFG and the hall regions (0x08). -/
def sectionReg (t o : Nat) : Bool :=
  let q := (o - 0x20000) % 0x2000
  match t with
  | 3 => decide (0x1000 ≤ o) && decide (o < 0x3000) && o % 8 == 0
  | 4 => decide (0x20000 ≤ o) && decide (o < 0x40000) && (q == 8 || (decide (0x100 ≤ q) && decide (q < 0x200) && q % 8 == 0))
  | 8 => o == 4 || (decide (0x20 ≤ o) && decide (o < 0x60) && o % 8 == 0)
  | _ => false

/-- What configuration set `c` of placement `k` holds. -/
def imageCfg (img unitMap : List Byte) (k c : Nat) : ImgCfg :=
  let all := fun (t : Nat) => sectionBodies img t k c
  { regs := [3, 4, 8].flatMap fun t =>
      ((all t).flatMap fun b => Config.registerContent t unitMap b).filter fun e => decide (e.1 < 4096) && sectionReg t e.2.1,
    masks := ((all 7).flatMap fun b => Config.maskContent unitMap b).filter fun e => decide (e.1 < 4096) && decide (e.2.1 < 16),
    channels := ((all 5).flatMap fun b => Config.channelContent unitMap b).filter fun e =>
      decide (e.1 < 4096) && decide (e.2.1 < 16) && decide (e.2.2.1 < 64),
    carry := (all 8).flatMap fun b => Config.carryContent unitMap b }

/-- What placement `k` of `ncfg` configuration sets holds. USES is the first 512 bytes of its PLACEMENT section (DEDUCED
from the order in which R176 names its content); code goes into core local memories. -/
def imagePlacement (img : List Byte) (ncfg k : Nat) : ImgPlacement :=
  let any := fun (t : Nat) => ((sectionsOf img).filter fun s => s.typ == t && (s.place == k || s.place == 0xFF)).map
    (Section.body img)
  let unitMap := (any 1).headD []
  let keys := Config.keyFlights ((any 6).headD [])
  { uses := setBitsBelow 4096 (leNat (unitMap.take 512)),
    code := ((any 2).flatMap fun b => Config.codeContent unitMap b).filter fun e =>
      decide (e.1 < 4096) && decide (0x400000 ≤ e.2.1) && decide (e.2.1 + e.2.2.length ≤ 0x6A0000),
    cfgs := (List.range ncfg).map (imageCfg img unitMap k), flights := (any 6).flatMap Config.flightContent,
    commit := keys.1 % 64, nd := keys.2.1 % 64, epoch := keys.2.2 % 64 }

/-- The index of the first section of TYPE `t`. -/
def sectionAt (img : List Byte) (t : Nat) : Nat := ((sectionsOf img).findIdx? fun s => s.typ == t).getD 0

/-- Everything the sections of an image hold. What FABRIC writes lies in the edge routers' blocks. -/
def imageView (img : List Byte) : ImgView :=
  let h := fun (o : Nat) => leNat ((img.drop o).take 1)
  let fab := sectionBodies img 0xB 0xFF 0xFF
  let bars := Config.fabricBarriers (fab.headD [])
  { placements := (List.range (h 0x13)).map (imagePlacement img (h 0x17)),
    malformed := (sectionsOf img).findIdx? fun s => Config.sectionMalformed s.typ (s.body img),
    steerSec := sectionAt img 3, queueSec := sectionAt img 4, flightSec := sectionAt img 6,
    fab := (fab.flatMap Config.fabricContent).filter fun e => decide (0xA00000 ≤ e.1) && decide (e.1 < 0xC00000),
    commitBar := bars.1 % 32, startBar := bars.2 % 32, inlog := Config.inboundLog (fab.headD []) }

end Sys2Proof.Machine
end

