-- ==== Sys2Proof/Machine/Load.lean ====
section
/-! DEFINITION. Loading a schedule image and re-placing a job (08_schedules_and_steps.md R176 to R182, R187, R189, R195;
13_determinism_and_audit.md R322, R323; 12_host_link_and_rings.md R301, R302). The header, the section table, REGIONS and
REDUCE are read from memory, and so is what the other sections hold (Image.lean). -/

namespace Sys2Proof.Machine

/-- A REGIONS section is malformed (R187). -/
def regionsBad (ws : List Word) : Bool :=
  (List.range 16).any fun r =>
    let e := fun i => ws.getD (4 * r + i) 0
    let kind := bits (e 3) 63 56
    decide (3 < kind) || (kind != 0 && ((e 0).toNat % 4096 != 0 || (e 1).toNat % 4096 != 0)) ||
      (kind == 3 && bits (e 3) 31 0 % 128 != 0)

/-- The first section, by index, that is malformed (R9, R176, R177, R187): a VERSION the part does not support, a reserved
TYPE, or REGIONS, REDUCE and FABRIC bound to a placement, or a REGIONS section that breaks R187. The supported VERSION of
every section is 0x01, DEDUCED from the header's and from R322 (log entry 48). -/
def badSection (img : List Byte) : Option Nat :=
  (sectionsOf img).findIdx? fun s =>
    s.version != 1 || s.typ == 0 || decide (0x0B < s.typ) || (decide (9 ≤ s.typ) && s.place != 0xFF) ||
      (s.typ == 9 && (s.bytes != 512 || regionsBad ((List.range 64).map (payWord (img.drop s.off)))))

/-- The nodes and leaves a reduction tree reaches from node `n` (R322), at most `fuel` nodes deep. -/
def treeReach (node : Nat → Word × Word) : Nat → Nat → List Nat × List Nat
  | 0, n => ([n], [])
  | fuel + 1, n =>
    let x := (node n).2
    let side := fun (c : Nat) => if c.testBit 31 then ([], [c % 2 ^ 31]) else treeReach node fuel c
    let l := side (bits x 63 32)
    let r := side (bits x 31 0)
    (n :: l.1 ++ r.1, l.2 ++ r.2)

/-- A REDUCE section passes its checks (R322, R323): each tree is binary with one root and uses each node and each leaf
once, and the trees together all of the NNODE nodes; RANK lies below DEVICES + 1. -/
def reduceOk (devices : Nat) (sec : List Byte) : Bool :=
  let h := payWord sec 0
  let ntree := bits h 15 0
  let nnode := bits h 63 32
  let node := fun (i : Nat) => (payWord sec (2 + ntree + 2 * i), payWord sec (3 + ntree + 2 * i))
  let reach := (List.range ntree).map fun t =>
    let d := payWord sec (2 + t)
    (bits d 63 32, treeReach node (bits d 63 32) (bits d 31 0))
  decide (1 ≤ ntree) && decide (ntree ≤ 1024) && bits h 31 16 == 1 &&
    decide (16 + 8 * ntree + 16 * nnode ≤ sec.length) &&
    reach.all (fun r => r.2.1.length == r.1 && decide r.2.2.Nodup && r.2.1.all fun i => decide (i < nnode)) &&
    decide (reach.flatMap (·.2.1)).Nodup && (reach.flatMap (·.2.1)).length == nnode &&
    (List.range nnode).all fun i =>
      decide (bits (node i).1 63 48 < devices + 1) && decide (1 ≤ bits (node i).1 35 32) && decide (bits (node i).1 35 32 ≤ 3)

/-- The first REDUCE section that fails its check. -/
def badReduce (img : List Byte) : Option Nat :=
  (sectionsOf img).findIdx? fun s =>
    s.typ == 0xA && !reduceOk (leNat ((img.drop 0x14).take 2)) ((img.drop s.off).take s.bytes)

/-- The queue layout of one agent of a configuration set (R175): sizes are not 0, fit in 256 slots and do not overlap;
EPOCHQ only with FLIGHTQ. -/
def layoutOk (qs : List Word) : Bool :=
  let on := qs.filter fun v => bit v 63
  let slots := on.flatMap fun v => (List.range (bits v 8 0)).map (bits v 23 16 + ·)
  on.all (fun v => bits v 8 0 != 0 && decide (bits v 8 0 ≤ 256) && decide (bits v 23 16 + bits v 8 0 ≤ 256) &&
    (!bit v 58 || bit v 59)) && decide slots.Nodup

/-- The value a configuration set gives the register at gallery offset `k` of logical gallery `g`. -/
def cfgValue (c : ImgCfg) (g k : Nat) : Option Word := (c.regs.find? fun e => e.1 == g && e.2.1 == k).map (·.2.2)

/-- Logical galleries a configuration set writes. -/
def cfgGals (c : ImgCfg) : List Nat := (c.regs.map (·.1)).eraseDups

/-- Every agent's queue layout of a configuration set is in order. -/
def cfgQueuesOk (c : ImgCfg) : Bool :=
  (cfgGals c).all fun g => (List.range 16).all fun a =>
    layoutOk ((List.range 16).filterMap fun q => cfgValue c g (0x20000 + 0x2000 * a + 0x100 + 8 * q))

/-- Every steering table of a configuration set is well formed (R111). -/
def cfgSteerOk (c : ImgCfg) : Bool :=
  (cfgGals c).all fun g => suTableOk ((List.range 256).map fun e =>
    SuEntry.of ((cfgValue c g (0x1000 + 16 * e)).getD 0) ((cfgValue c g (0x1008 + 16 * e)).getD 0))

/-- A configuration set has a raw queue (R336 ND_STATUS.RAW). -/
def cfgRaw (c : ImgCfg) : Bool :=
  c.regs.any fun e => decide (0x20000 ≤ e.2.1) && decide (0x100 ≤ (e.2.1 - 0x20000) % 0x2000) &&
    decide ((e.2.1 - 0x20000) % 0x2000 < 0x180) && bit e.2.2 63 && bit e.2.2 62

namespace W

/-- A control descriptor that acts now: accepted, with the opcode, and the oldest of its ring that has not finished
(R301). -/
def mayAct (w : W) (j op : Nat) : Option Desc :=
  match w.desc j with
  | none => none
  | some d =>
    if d.opcode = op ∧ d.phase = .accepted ∧ ¬ d.bound ∧
        (w.c.host.descs.all fun e => e.ring != d.ring || decide (d.jsn ≤ e.jsn)) then some d else none

/-- A LOAD or REPLACE ends with a status of R178 and a section index: the schedule is not started. -/
def loadFails (w : W) (st sec back : Nat) : W :=
  let j := w.c.seq.load.map (·.jsn)
  let w := if back = stIdle then (w.setSeq {}).setFld Reg.SEQ_STATUS F.SEQ_STATUS_PLACE 0xFF
    else w.setSeq { w.c.seq with load := none, phase := .idle }
  let w := w.setSeqState back
  match j with
  | some j => w.complete j 7 (w64 (st + sec % 2 ^ 16 * 2 ^ 8)) 0
  | none => w

/-- Bytes of the part's memory, for the sequencer; what does not come as data reads as zeros. -/
def devRead (w : W) (a : Word) (n : Nat) (u : MemUpset := .none) : List Byte × W :=
  let (r, w) := w.farRead none (w64 0x1F2) (w.loc a) n u
  ((r.1 ++ List.replicate n 0).take n, w)

/-- LOAD begins (R178): in IDLE, with SEQ_CFG.EN; step 1 is checked and PROGRAM_DIGEST computed. -/
def doLoad (w : W) (j : Nat) (u : MemUpset) : W :=
  match w.mayAct j 2 with
  | none => w
  | some d =>
    if d.status ≠ 0 then w.complete j d.status 0 0
    else
      let w := w.setDesc { d with phase := .acting }
      if w.seqState ≠ stIdle then w.complete j 7 (w64 0x09) 0
      else if !w.flag Reg.SEQ_CFG F.SEQ_CFG_EN then w.complete j 4 0 0
      else
        let a := d.words.getD 1 0
        let (hd, w) := w.devRead a 16 u
        let (img, w) := w.devRead a (max 256 (leNat ((hd.drop 8).take 8)))
        let w := w.setSeq { load := some { start := (d.words.getD 2 0).toNat, place := bits (d.words.getD 3 0) 7 0,
                                           init := bits (d.words.getD 3 0) 63 32, jsn := j, bytes := img.length } }
        if !headerOk img then w.loadFails 1 0 stIdle
        else
          let h := fun (o n : Nat) => leNat ((img.drop o).take n)
          let nseeds := h 0x16 1
          let own := (List.range nseeds).map fun i => w64 (h (0x70 + 8 * i) 8)
          let (seeds, w) :=
            if bit (d.words.getD 3 0) 8 then
              let (bs, w) := w.devRead (d.words.getD 4 0) 128
              ((List.range nseeds).map (payWord bs), w)
            else (own, w)
          let regions := match (sectionsOf img).find? fun s => s.typ == 9 with
            | some s => (List.range 64).map (payWord (img.drop s.off))
            | none => []
          let i : Img :=
            { addr := a, stks := h 0x12 1, devices := h 0x14 2, nseeds := nseeds, ncfg := h 0x17 1,
              digest := (img.drop 0x30).take 64, commitBase := w64 (h 0x20 8), drainBase := w64 (h 0x28 8), seeds := seeds,
              seedBlock := if bit (d.words.getD 3 0) 8 then d.words.getD 4 0 else 0, regions := regions,
              view := imageView img }
          let w := w.setStepWd (h 0x18 4)
          let w := w.setFld Reg.SEQ_CFG F.SEQ_CFG_QUIET (h 0x1C 4)
          (w.setSeqState stLoading).setSeq { w.c.seq with img := some i, phase := .digest }

/-- The placement of R180: the named one, or the first that fits. -/
def choosePlace (w : W) (i : Img) (want : Nat) : Option Nat :=
  let fits := fun k => match i.view.placements[k]? with | some p => w.placementFits i p | none => false
  if want = 0xFF then (List.range i.view.placements.length).find? fits
  else if fits want then some want else none

/-- A 64-byte slot of the commit block is valid for the image (R189). -/
def slotValid (i : Img) (bs : List Byte) : Bool :=
  let ws := (List.range 8).map (payWord bs)
  bits (ws.getD 7 0) 63 32 == crc32c (bs.take 60) && bits (ws.getD 0 0) 63 56 == 1 &&
    ws.getD 3 0 == w64 (leNat (i.digest.take 8))

/-- STEP of a commit-block slot, when it is valid with the STATE `st`; else 0. -/
def slotStep (i : Img) (x : List Byte) (st : Nat) : Nat :=
  if slotValid i x && bits (payWord x 0) 55 48 == st then (payWord x 1).toNat else 0

/-- A PREPARED slot is newer than every COMMITTED one (R195): its step, else 0. -/
def preparedStep (i : Img) (a b : List Byte) : Nat :=
  let p := max (slotStep i a 2) (slotStep i b 2)
  if max (slotStep i a 1) (slotStep i b 1) < p then p else 0

/-- The committed step of the commit block (R189, R195): the larger STEP of the valid COMMITTED slots; with no valid slot
it is 0 for a zeroed block and none, an invalid block, otherwise (R179). A newer PREPARED slot rolls forward when a peer
has committed its step (`forward`). -/
def settle2 (i : Img) (a b : List Byte) (forward : Bool) : Option (Nat × Option (List Byte)) :=
  let p := preparedStep i a b
  if slotValid i a || slotValid i b then
    if p ≠ 0 ∧ forward then some (p, some (if slotStep i a 2 = p then a else b))
    else some (max (slotStep i a 1) (slotStep i b 1), none)
  else if (a ++ b).all fun y => y == 0 then some (0, none) else none

/-- Live peers of the job: the devices of the peer map but this one (R195). -/
def livePeers (w : W) : List Nat := w.c.peers.filter (· ≠ w.selfDev)

/-- The sequencer reads the commit block of every live peer at its global address (R195). -/
def readPeers (w : W) (i : Img) : W :=
  w.livePeers.foldl (fun w d =>
    w.request none { typ := 1, addr := i.commitBase + w64 (d * 2 ^ 48), len := 128 }) w

/-- The commit block is read and settled (R189, R195, step 7 of R178): the committed step. With a newest PREPARED slot the
peers' blocks are read; `forward` is what they say, and says nothing without a peer. -/
def settleCommit (w : W) (forward : Bool) : Option Nat × W :=
  match w.c.seq.img with
  | none => (none, w)
  | some i =>
    let (a, w) := w.devRead i.commitBase 64
    let (b, w) := w.devRead (i.commitBase + 64) 64
    let w := w.when (preparedStep i a b != 0) fun w => w.readPeers i
    match settle2 i a b (forward && !w.livePeers.isEmpty) with
    | none => (none, w)
    | some (c, none) => (some c, w)
    | some (c, some rec) =>
      -- roll forward: COMMITTED is written for the step
      let ws := (List.range 8).map (payWord rec)
      let w0 := putBits (ws.getD 0 0) 55 48 1
      let at_ := i.commitBase + w64 (64 * (c % 2))
      match w.place none (w.loc at_) with
      | .mem m _ _ key => (some c, ((w.rcbClose m (key / 128)).wrBytes key (sealWords (w0 :: ws.drop 1))).count
          (Reg.MEMC_WR_LINES m) 1)
      | _ => (some c, w)

/-- Steps 5 and 6 of R178: masks, maps and trees into the banks, the flip with GLOAD and GZERO, then registers, code and
tables. -/
def installImage (w : W) (i : Img) (pl : ImgPlacement) : W :=
  let w := match pl.cfgs[w.c.seq.cfg]? with
    | some c => w.writeCfg c true
    | none => w
  let w := w.writeBanks.flipAll (1 - w.meshBank) true
  let w := pl.code.foldl (fun w (g, off, bs) =>
    match w.physOf g with
    | some p => w.wrBytes (galKey p off) bs
    | none => w) w
  let w := i.view.fab.foldl (fun w (k, v) => w.setReg k v) w
  (List.range 16).foldl (fun w m =>
    (List.range 64).foldl (fun w r => w.setReg (Reg.MEMC_GUARD m r) (i.regions.getD r 0)) w) w

/-- Devices of the job's peer map; without a map, one (R178). -/
def jobDevices (w : W) : Nat := if w.c.peers = [] then 1 else w.c.peers.length

/-- Steps 3 and 4 of R178, before anything is written: the placement chosen, or the status and section index of the
failure. -/
def checkLoad (w : W) (i : Img) (want : Nat) : Except (Nat × Nat) (Nat × ImgPlacement) :=
  if !w.stacksOk i then .error (7, 0)
  else match w.choosePlace i want with
    | none => .error (4, 0)
    | some k =>
      if w.jobDevices ≠ i.devices + 1 then .error (8, 0)
      else match i.view.malformed, i.view.placements[k]? with
        | some s, _ => .error (3, s)
        | none, none => .error (4, 0)
        | none, some pl =>
          if !(pl.cfgs.all cfgQueuesOk) then .error (5, i.view.queueSec)
          else if !(pl.cfgs.all cfgSteerOk) then .error (5, i.view.steerSec)
          else if !(pl.flights.all fun f => flightOk f (w.physList f.members)) then .error (5, i.view.flightSec)
          else .ok (k, pl)

/-- What a load clears, and the START that is due (step 8 of R178): a new job starts its counts; a LOAD names the first
run limit (R303). -/
def readyLoad (w : W) (pl : ImgPlacement) (start : Option Nat) (c : Nat) : W :=
  let w := w.when start.isSome fun w =>
    ((w.setReg Reg.ND_TOTAL 0).setReg Reg.ND_STATUS 0).setReg Reg.PWR_E_JOB 0
  let w := w.when (pl.cfgs.any cfgRaw) fun w => w.setFlag Reg.ND_STATUS F.ND_STATUS_RAW true
  let w := w.setFld Reg.SEQ_STATUS F.SEQ_STATUS_REEXEC 0
  let flipped := w.stepNo == c + 1
  let w := ((w.setReg Reg.SEQ_STEP (w64 (c + 1))).setReg Reg.SEQ_COMMITTED (w64 c)).writeGuards c
  let q := w.c.seq
  let limit := match start, q.load with
    | some s, some l => s - 1 + l.init
    | _, _ => q.runLimit
  let w := w.setSeq { q with load := none, phase := .ready true, runLimit := limit, flipped := flipped, startBar := true,
                             onStart := q.onStart ++ (q.load.map (·.jsn)).toList, abortNext := false }
  -- the state stays LOADING until the START of a first load; a re-placed job runs on
  (if start.isSome then w else w.setSeqState stRun).tryStart

/-- Steps 3 to 8 of R178 for a load or a re-place; `start` is the start step a LOAD names. Tables and memories are written
for the step that is to start, and the commit block is settled after them; a block settled otherwise than expected makes
the sequencer flip again before START (R182). A failure leaves the state `back`. -/
def finishLoad (w : W) (want : Nat) (start : Option Nat) (forward : Bool) (back : Nat) : W :=
  match w.c.seq.img with
  | none => w
  | some i =>
    match w.checkLoad i want with
    | .error (st, sec) => w.loadFails st sec back
    | .ok (k, pl) =>
      let old := w.reg Reg.SEQ_STEP
      let w := w.setFld Reg.SEQ_STATUS F.SEQ_STATUS_PLACE k
      let w := w.setReg Reg.SEQ_STEP (w64 (start.getD ((w.reg Reg.SEQ_COMMITTED).toNat + 1)))
      let (c, w) := (w.installImage i pl).settleCommit forward
      match c with
      | none => (w.setReg Reg.SEQ_STEP old).loadFails 6 0 back
      | some c =>
        if start.isSome ∧ start ≠ some (c + 1) then (w.setReg Reg.SEQ_STEP old).loadFails 6 0 back
        else w.readyLoad pl start c

/-- PROGRAM_DIGEST_DONE (R178): the digest is compared and the load goes on; `forward` says whether a peer has committed
the step of a newest PREPARED slot (R195). -/
def doDigestDone (w : W) (forward : Bool) : W :=
  match w.c.seq.phase, w.c.seq.img, w.c.seq.load with
  | .digest, some i, some l =>
    let (img, w) := w.devRead i.addr l.bytes
    if imageDigest img ≠ i.digest then w.loadFails 2 0 stIdle
    else match badSection img, badReduce img with
      | some s, _ => w.loadFails 3 s stIdle
      | none, some s => w.loadFails 5 s stIdle
      | none, none => w.finishLoad l.place (some l.start) forward stIdle
  | _, _, _ => w

/-- REPLACE (R181): from STOPPED, steps 3 to 8 for another placement, without the digest. -/
def doReplace (w : W) (j : Nat) (forward : Bool) : W :=
  match w.mayAct j 3 with
  | none => w
  | some d =>
    if d.status ≠ 0 then w.complete j d.status 0 0
    else
      let w := w.setDesc { d with phase := .acting }
      if w.seqState ≠ stStopped ∨ w.c.seq.img.isNone then w.complete j 4 0 0
      else
        let want := bits (d.words.getD 1 0) 7 0
        let w := w.setSeq { w.c.seq with load := some { start := 0, place := want, init := 0, jsn := j, bytes := 0 } }
        w.finishLoad want none forward stStopped

end W

/-! ### The meanings -/

/-- LOAD: the descriptor of JSN `j`. -/
def execLoad (j : Nat) (u : MemUpset) (s : State) : Host.Outcome State Fault Refusal := run s fun w => w.doLoad j u

/-- REPLACE. -/
def execReplace (j : Nat) (forward : Bool) (s : State) : Host.Outcome State Fault Refusal :=
  run s fun w => w.doReplace j forward

/-- PROGRAM_DIGEST_DONE. -/
def execProgramDigestDone (forward : Bool) (s : State) : Host.Outcome State Fault Refusal :=
  run s fun w => w.doDigestDone forward

end Sys2Proof.Machine
end

