-- ==== Sys2Proof/Machine/Scl.lean ====
section
/-! DEFINITION. Messages of the host link, doorbells, and descriptors as they are accepted, act and finish
(12_host_link_and_rings.md R295 to R318; 13_determinism_and_audit.md R330 to R334). -/

namespace Sys2Proof.Machine

/-- Message types of R296. -/
def mtHrd : Nat := 0x11
def mtHwr : Nat := 0x12
def mtFlush : Nat := 0x13
def mtSnp : Nat := 0x21
def mtData : Nat := 0x31
def mtCmp : Nat := 0x32
def mtErr : Nat := 0x33

/-- A message has the type of its row and no reserved encoding (R295, R296). -/
def msgOk (mtype : Nat) (m : SclMsg) : Bool :=
  m.mtype == mtype && m.rsv == 0 && bits m.line 5 0 == 0 && decide (m.tag < 4096) && (!m.masked || mtype == mtHwr) &&
    (!(mtype == mtHwr || mtype == mtData) || m.data.length == 64)

/-- The opcodes of descriptors (R301, R330, R349, R365). -/
def opcodes : List Nat := (List.range 12).map (· + 1) ++ [0x10, 0x18, 0x19, 0x20, 0x21]

/-- The runs of enabled bytes of a masked write: offset and length. -/
def maskRuns (m : Word) : List (Nat × Nat) :=
  (List.range 64).filterMap fun i =>
    if bit m i && (i == 0 || !bit m (i - 1)) then
      some (i, ((List.range 64).takeWhile fun j => decide (i + j < 64) && bit m (i + j)).length)
    else none

namespace W

/-! ### Requests of the host (R296 to R298) -/

/-- A reserved message is discarded and counted; a request is answered with cause 0x1 (R296). -/
def sclBad (w : W) (request : Bool) (m : SclMsg) : W :=
  let w := w.countErr Reg.SCL_MSG_BAD
  if request then w.sclSend { mtype := mtErr, tag := m.tag, arg := 1, line := m.line } else w

/-- ERR to a host request. -/
def sclRefuse (w : W) (m : SclMsg) (cause : Nat) : W :=
  w.sclSend { mtype := mtErr, tag := m.tag, arg := cause, line := m.line }

/-- HRD: a line of memory, or the `part` of a line (offset and size) that is a register. -/
def doHrd (w : W) (m : SclMsg) (part : Option (Nat × Nat)) : W :=
  if !msgOk mtHrd m then w.sclBad true m
  else if bits m.line 63 48 ≠ 0 then w.sclRefuse m 2
  else
    let (o, n) := part.getD (0, 64)
    match w.farLine none (w64 0x1FF) (w.loc (m.line + w64 o)) n with
    | (.ok bs false, w) =>
      w.sclSend { mtype := mtData, tag := m.tag, line := m.line,
                  data := (List.replicate o 0 ++ bs ++ List.replicate 64 0).take 64 }
    | (.ok _ true, w) => w.sclRefuse m 3
    | (.silent, w) => w
    | (_, w) => w.sclRefuse m 2

/-- A write of the host that failed raises an error record that names the address (R297). -/
def hwrFailed (w : W) (a : Word) : W :=
  w.record { cls := 0x0F, kind := 2, sev := 0, info := a, aux := w64 0x1FF }

/-- HWR: the enabled bytes, run by run. -/
def doHwr (w : W) (m : SclMsg) : W :=
  if !msgOk mtHwr m then w.sclBad false m
  else if bits m.line 63 48 ≠ 0 then w.hwrFailed m.line
  else
    (if m.masked then maskRuns m.bmask else [(0, 64)]).foldl (fun (w : W) x =>
      match w.farPut none (w64 0x1FF) (w.loc (m.line + w64 x.1)) ((m.data.drop x.1).take x.2) with
      | (.ok _ _, w) => w
      | (.silent, w) => w
      | (_, w) => w.hwrFailed (m.line + w64 x.1)) w

/-- FLUSH: every earlier write of the host has taken effect. -/
def doFlush (w : W) (m : SclMsg) : W :=
  if !msgOk mtFlush m then w.sclBad true m else w.sclSend { mtype := mtCmp, tag := m.tag, line := m.line }

/-- A line of host memory is kept shared (R298): 16 lines of a set, the one kept longest is dropped with EVICT. That the
set is the line number modulo 4,096, and which line is dropped, is a DESIGN CHOICE (log entry 16). -/
def keepLine (w : W) (a : Nat) : W :=
  let ls := a :: w.c.host.lines.filter (· ≠ a)
  let set := ls.filter fun b => b / 64 % 4096 == a / 64 % 4096
  if set.length ≤ 16 then w.setHost { w.c.host with lines := ls }
  else
    let old := set.getLastD 0
    (w.setHost { w.c.host with lines := ls.filter (· ≠ old) }).sclSend { mtype := 4, line := w64 old }

/-- The host line of the next descriptor of ring `r`. -/
def slotLine (w : W) (r : Nat) : Nat :=
  bits (w.reg (Reg.SCL_CR_BASE r)) 63 12 * 4096 + 64 * ((w.cmdRing r).next % 2 ^ w.crLog r)

/-- The line is the slot an enabled ring looks for its next descriptor in (R300): it is read again when it is
invalidated. -/
def slotWanted (w : W) (a : Nat) : Bool :=
  (List.range 64).any fun r =>
    let x := w.cmdRing r
    w.flag (Reg.SCL_CR_CFG r) F.SCL_CR_CFG_EN && w.slotLine r == a &&
      (w.flag (Reg.SCL_CR_CFG r) F.SCL_CR_CFG_POLL || x.next != x.prod)

/-- SNP_INV (R298): a line that is only on its way is answered as not held, and not installed. -/
def doSnpInv (w : W) (m : SclMsg) : W :=
  if !msgOk mtSnp m then w.sclBad true m
  else
    let a := m.line.toNat
    let held := w.c.host.lines.contains a
    let coming := (w.c.host.ops.filter fun o => o.2 == .shared a).map (·.1)
    let w := w.setHost { w.c.host with lines := w.c.host.lines.filter (· ≠ a), snooped := coming ++ w.c.host.snooped }
    let w := (w.count Reg.SCL_SNOOPS 1).sclSendOn 4
      { mtype := Config.snpRspType, tag := m.tag, arg := held.toNat, line := m.line }
    if held && w.slotWanted a then w.sclRequest 1 a [] (.shared a) else w

/-! ### Doorbells (R300, R304, R316) -/

/-- SCL_CMD_DB. OLDEST is the oldest descriptor of the ring whose completion has not been written. -/
def doCmdDb (w : W) (r v : Nat) : W :=
  let v := v % 2 ^ 32
  let x := w.cmdRing r
  let owed := w.c.host.descs.filter fun d => d.ring == r && !([DPhase.writing, .finWait, .finishing].contains d.phase)
  let oldest := match owed.head? with | some d => d.index | none => x.next
  if serialLater 32 x.prod v ∨ 2 ^ w.crLog r < (v + 2 ^ 32 - oldest % 2 ^ 32) % 2 ^ 32 then
    (w.countErr Reg.SCL_DB_BAD).record
      { cls := 0x0D, kind := 0xB, sev := 0, info := w.reg Reg.SCL_FAULT_INFO, aux := w64 v }
  else (w.setCmdRing r { x with prod := v, armed := true }).pend (152 + r)

/-- SCL_CPL_DB. -/
def doCplDb (w : W) (c v : Nat) : W :=
  ((w.setCplRing c { w.cplRing c with ci := v % 2 ^ 32, armed := true }).pend (216 + c)).pump

/-! ### Accepting descriptors (R303, R307, R308, R310) -/

/-- The range lies in the memory map: HBM regions one after another, DDR5, or one gallery's window. -/
def rangeOk (w : W) (a n : Nat) : Nat → Bool
  | 0 => false
  | fuel + 1 =>
    if n = 0 then true
    else match w.place none (w.loc (w64 a)) with
      | .mem m _ i _ =>
        if m < 8 then
          let r := w.irgn i
          W.rangeOk w (r.base + r.size) (n - min n (r.base + r.size - a)) fuel
        else decide (a + n ≤ 0x10000000000 + w.ddrBytes)
      | .gal _ off => decide (off + n ≤ windowTop)
      | _ => false

/-- A device-local range of a descriptor lies in the map. -/
def devRange (w : W) (a : Word) (n : Nat) : Bool := decide (a.toNat + n ≤ 2 ^ 48) && w.rangeOk a.toNat n 18

/-- The declared regions: base, size, first step, bytes appended, kind (R187). -/
def regions (w : W) : List (Nat × Nat × Nat × Nat × Nat) :=
  match w.c.seq.img with
  | none => []
  | some i => ((List.range 16).map fun r =>
      let e := fun k => i.regions.getD (4 * r + k) 0
      ((e 0).toNat, (e 1).toNat, (e 2).toNat, bits (e 3) 31 0, bits (e 3) 63 56)).filter fun e => e.2.2.2.2 != 0

/-- The address rule of a copy bound to step `s` (R303). -/
def copyAllowed (w : W) (isIn : Bool) (a n s : Nat) : Bool :=
  let within := fun (b l : Nat) => decide (b ≤ a) && decide (a + n ≤ b + l)
  let inside := fun (e : Nat × Nat × Nat × Nat × Nat) =>
    let (base, size, first, app, kind) := e
    let lim := appendLimit base first app (s - 1)
    match kind, isIn with
    | 1, false => within base size
    | 2, true => within (base + s % 2 * size) size
    | 2, false => within (base + (s + 1) % 2 * size) size
    | 3, true => within lim app && decide (lim + app ≤ base + size)
    | 3, false => decide (base ≤ a) && decide (a + n ≤ lim)
    | _, _ => false
  let meets := fun (e : Nat × Nat × Nat × Nat × Nat) =>
    let len := e.2.1 * (if e.2.2.2.2 = 2 then 2 else 1)
    decide (a < e.1 + len) && decide (e.1 < a + n)
  w.regions.any inside || (isIn && !w.regions.any meets)

/-- A range lies within READONLY regions, one after another. -/
def readonlyRange (w : W) (a n : Nat) : Nat → Bool
  | 0 => n == 0
  | fuel + 1 =>
    if n = 0 then true
    else match w.regions.find? fun e => e.2.2.2.2 == 1 && decide (e.1 ≤ a) && decide (a < e.1 + e.2.1) with
      | some e => W.readonlyRange w (e.1 + e.2.1) (n - min n (e.1 + e.2.1 - a)) fuel
      | none => false

/-- A range is stable for DIGEST (R333). -/
def stable (w : W) (a n : Nat) : Bool :=
  let st := w.seqState
  st == stIdle || st == stStopped || st == stHalted || w.readonlyRange a n 16

/-- START_STEP (R310). With no step in progress it is the committed step + 1. -/
def bindStep (w : W) : Nat :=
  let st := w.seqState
  let inStep := match w.c.seq.phase with | .ready _ => false | .startBarrier => false | _ => true
  if (st == stRun || st == stCommitting) && inStep then w.stepNo + 1 else (w.reg Reg.SEQ_COMMITTED).toNat + 1

/-- The checks of a descriptor at accept: its status, whether it is bound, its START_STEP and its TARGET (R301 to R303,
R308, R310, R330, R331, R333, R365). -/
def precheck (w : W) (ws : List Word) (blk : Option (List Byte)) : Nat × Bool × Nat × Nat :=
  let x := fun i => ws.getD i 0
  let op := bits (x 0) 7 0
  let idle := w.seqState == stIdle
  let s := w.bindStep
  let no := fun (st : Nat) => (st, false, 0, 0)
  if !opcodes.contains op || bits (x 0) 15 8 != 1 then no 1
  else if op = 4 then
    let n := bits (x 1) 31 0
    if n = 0 then no 1
    else if idle then no 4
    else
      let sum := (w.c.host.descs.filter fun d => d.opcode == 4 && d.status == 0 &&
        (d.phase == .accepting || d.phase == .accepted)).foldl (fun (a : Nat) d => a + bits (d.words.getD 1 0) 31 0) 0
      (0, true, s, w.c.seq.runLimit + sum + n)
  else if op = 5 ∨ op = 6 then
    let n := bits (x 3) 31 0
    if (x 1).toNat % 64 ≠ 0 ∨ (x 2).toNat % 64 ≠ 0 ∨ n % 64 ≠ 0 ∨ n = 0 then no 1
    else if !w.devRange (x 2) n then no 3
    else if idle then no 0
    else if !w.copyAllowed (op == 5) (x 2).toNat n s then no 3
    else (0, true, s, 0)
  else if op = 0x18 then
    if (x 1).toNat % 64 ≠ 0 then no 1
    else if idle then no 4
    else if blk.isNone then no 2
    else (0, true, s, 0)
  else if op = 0x19 then
    let n := (x 2).toNat
    if (x 1).toNat % 4096 ≠ 0 ∨ n % 4096 ≠ 0 ∨ n = 0 ∨ 2 ^ 42 < n then no 1
    else if !w.devRange (x 1) n then no 3
    else if w.stable (x 1).toNat n then no 0
    else if bit (x 4) 0 then (0, true, s, 0) else no 4
  else if op = 0x20 then no (if 1 < bits (x 1) 7 0 then 1 else 0)
  else if op = 0x21 then no (if (x 1).toNat % 64 ≠ 0 ∨ bits (x 2) 31 0 < 65536 then 1 else 0)
  else no 0

/-- DESCRIPTOR_ACCEPT: the next descriptor of ring `r`, as the read of its slot answered (none: ERR or poison), with the
digest block of a RESULT. -/
def doAccept (w : W) (r : Nat) (slot blk : Option (List Byte)) : W :=
  let cr := w.cmdRing r
  let cfg := Reg.SCL_CR_CFG r
  let c := w.fld cfg F.SCL_CR_CFG_CPR
  let ring := w.cplRing c
  let size := 2 ^ w.cprLog c
  let room := decide ((ring.next + 2 ^ 32 - ring.ci) % 2 ^ 32 < size) &&
    !(w.c.host.descs.any fun d => d.cpr == c && decide (size ≤ (ring.next + 2 ^ 32 - d.cslot) % 2 ^ 32))
  let may := w.sclUp && w.flag Reg.SCL_JRNL_CFG F.SCL_JRNL_CFG_EN && w.flag cfg F.SCL_CR_CFG_EN && cr.armed && ring.armed &&
    w.flag (Reg.SCL_CPR_CFG c) F.SCL_CPR_CFG_EN && (w.flag cfg F.SCL_CR_CFG_POLL || cr.next != cr.prod) &&
    !(w.c.host.descs.any fun d => d.ring == r && d.phase == .accepting) && w.jrnlRoom && w.sclTag.isSome && room
  if !may then w
  else
    let a := w.slotLine r
    let w := w.sclSend { mtype := 1, tag := w.sclTag.getD 0, line := w64 a }
    let ws := match slot with
      | some bs => (List.range 8).map (payWord bs)
      | none => List.replicate 8 0
    let w := if slot.isSome then w.keepLine a else w
    -- the digest block of a RESULT is read at its accept (R331)
    let w := w.when (slot.isSome && bits (ws.getD 0 0) 16 16 == phaseBit (w.crLog r) cr.next && bits (ws.getD 0 0) 7 0 == 0x18)
      fun w => [0, 64].foldl (fun w o =>
        w.sclSend { mtype := 2, tag := w.sclTag.getD 0, line := w64 ((ws.getD 2 0).toNat / 64 * 64 + o) }) w
    if slot.isSome ∧ bits (ws.getD 0 0) 16 16 ≠ phaseBit (w.crLog r) cr.next then w
    else
      let (status, bound, start, target) := if slot.isSome then w.precheck ws blk else (2, false, 0, 0)
      let d : Desc :=
        { jsn := w.c.host.jsn, ring := r, index := cr.next, cpr := c, cslot := ring.next, words := ws, bound := bound,
          start := start, target := target, dcrc := (match slot with | some bs => crc32c (bs.take 64) | none => 0),
          status := status, buf := if bits (ws.getD 0 0) 7 0 = 0x18 then blk.getD [] else [] }
      let w := w.setCmdRing r { cr with next := (cr.next + 1) % 2 ^ 32 }
      let w := w.setCplRing c { ring with next := (ring.next + 1) % 2 ^ 32 }
      let w := w.setHost { w.c.host with descs := w.c.host.descs ++ [d] }
      w.jrnlWrite d 1 status start target (.accept d.jsn)

/-! ### Answers of the host (R296, R306, R307, R311, R312) -/

/-- One more record stands on completion ring `c`: its EVENT when MOD_CNT have (R306). -/
def cplWritten (w : W) (c : Nat) : W :=
  let r := w.cplRing c
  let k := Reg.SCL_CPR_CFG c
  let n := max 1 (w.fld k F.SCL_CPR_CFG_MOD_CNT)
  if n ≤ r.since + 1 then
    (w.setCplRing c { r with since := 0 }).sclEvent (w.fld k F.SCL_CPR_CFG_VECTOR) (if w.errRing = some c then 2 else 1) c
  else w.setCplRing c { r with since := r.since + 1 }

/-- CPL_MODERATION_TIMEOUT. -/
def doModTimeout (w : W) (c : Nat) : W :=
  let r := w.cplRing c
  let k := Reg.SCL_CPR_CFG c
  if r.since = 0 ∨ w.fld k F.SCL_CPR_CFG_MOD_US = 0 then w
  else (w.setCplRing c { r with since := 0 }).sclEvent (w.fld k F.SCL_CPR_CFG_VECTOR) (if w.errRing = some c then 2 else 1) c

/-- A line of a transfer was answered: the next request goes out, and the end may be reached. -/
def lineDone (w : W) (j : Nat) : W :=
  match w.desc j with
  | none => w
  | some d =>
    let w := (w.setDesc { d with left := d.left - 1 }).copyNext j
    (w.copyEnd j).tryCommit.tryStart

/-- The accept of descriptor `j` is acknowledged: one that fails its checks completes with no effect. -/
def accepted (w : W) (j : Nat) : W :=
  match w.desc j with
  | none => w
  | some d =>
    let w := (w.setDesc { d with phase := .accepted }).count Reg.SCL_DESC_ACC 1
    let w := if d.status ≠ 0 then w.complete j d.status 0 0 else w
    w.tryStart

/-- The FINISH of descriptor `j` is acknowledged: it has finished, and after LOAD, REPLACE and UNLOAD the job line is
rewritten (R309). -/
def finished (w : W) (j : Nat) : W :=
  match w.desc j with
  | none => w
  | some d =>
    let w := w.setHost { w.c.host with descs := w.c.host.descs.filter fun x => x.jsn != j }
    let w := if d.opcode = 2 ∨ d.opcode = 3 ∨ d.opcode = 9 then w.jobLine else w
    w.pump

/-- The purpose of an answered tag, and the requests left. -/
def takeOp (w : W) (tag : Nat) : Option SclOp × W :=
  ((w.c.host.ops.find? fun o => o.1 == tag).map (·.2),
   w.freeTag tag)

/-- SCL_CMP. -/
def doSclCmp (w : W) (m : SclMsg) : W :=
  if !msgOk mtCmp m then w.sclBad false m
  else
    let (op, w) := w.takeOp m.tag
    match op with
    | some (.accept j) => w.accepted j
    | some (.completion j) =>
      match w.desc j with
      | none => w
      | some d => ((w.setDesc { d with phase := .finWait }).cplWritten d.cpr).pump
    | some (.finish j) => w.finished j
    | some (.failRec j) =>
      match w.desc j with
      | none => w
      | some d => (w.setDesc { d with failRec := 3 }).tryCommit
    | some (.errRec c) => w.cplWritten c
    | some (.dmaOut j _) => w.lineDone j
    | _ => w

/-- SCL_DATA: a line of a COPY_IN goes to device memory; a line read shared is kept, unless a snoop met it. -/
def doSclData (w : W) (m : SclMsg) : W :=
  if !msgOk mtData m then w.sclBad false m
  else
    let (op, w) := w.takeOp m.tag
    match op with
    | some (.dmaIn j o) =>
      (match w.desc j with
       | none => w
       | some d =>
         match w.farPut none (w64 0x1FF) (w.loc (d.devAddr + w64 o)) (m.data.take 64) with
         | (.ok _ false, w) => w.lineDone j
         | (.ok _ true, w) => (w.copyFail j 7).lineDone j
         | (_, w) => (w.copyFail j 3).lineDone j)
    | some (.shared a) =>
      if w.c.host.snooped.contains m.tag then
        w.setHost { w.c.host with snooped := w.c.host.snooped.filter (· ≠ m.tag) }
      else w.keepLine a
    | _ => w

/-- SCL_ERR: a transfer fails with status 0x02. What follows the refusal of a record's write is not stated: the record
stays unacknowledged (DESIGN CHOICE). -/
def doSclErr (w : W) (m : SclMsg) : W :=
  if !msgOk mtErr m then w.sclBad false m
  else
    match w.c.host.ops.find? fun o => o.1 == m.tag with
    | some (_, .dmaIn j _) => ((w.takeOp m.tag).2.copyFail j 2).lineDone j
    | some (_, .dmaOut j _) => ((w.takeOp m.tag).2.copyFail j 2).lineDone j
    | some (_, .shared _) =>
      let w := (w.takeOp m.tag).2
      w.setHost { w.c.host with snooped := w.c.host.snooped.filter (· ≠ m.tag) }
    | some (_, .lost) => (w.takeOp m.tag).2
    | _ => w

/-! ### Frames of the link that carry messages (R291, R295, R296) -/

/-- A message that came in a frame on virtual lane `vl` acts as its row does. One of a reserved type is a request when its
lane is one of requests. -/
def sclDeliver (w : W) (vl : Nat) (m : SclMsg) : W :=
  if m.mtype = mtHrd then w.doHrd m none
  else if m.mtype = mtHwr then w.doHwr m
  else if m.mtype = mtFlush then w.doFlush m
  else if m.mtype = mtSnp then w.doSnpInv m
  else if m.mtype = mtData then w.doSclData m
  else if m.mtype = mtCmp then w.doSclCmp m
  else if m.mtype = mtErr then w.doSclErr m
  else w.sclBad (vl == 1 || vl == 3) m

/-- LINK_DATA_FRAME on the coherent link: the messages that the frame completes act in order. -/
def sclDataFrame (w : W) (f : LinkFrame) (u : FrameUpset) : W :=
  let (ms, w) := w.sclFrame f u
  ms.foldl (fun w m => w.sclDeliver f.vl m) w

/-! ### Descriptors in action (R301, R302, R313) -/

/-- A control descriptor `j` of opcode `op` acts, when it may: it completes with the status that `f` gives. -/
def actNow (w : W) (j op : Nat) (f : W → Nat × W) : W :=
  match w.mayAct j op with
  | none => w
  | some d => if d.status ≠ 0 then w else let (st, w) := f w; w.complete j st 0 0

/-- STEPS: the run limit rises to TARGET, in JSN order, and the job line follows. -/
def doSteps (w : W) (j : Nat) : W :=
  match w.desc j with
  | none => w
  | some d =>
    let before := w.c.host.descs.any fun e => e.opcode == 4 && e.status == 0 && decide (e.jsn < j) &&
      (e.phase == .accepting || e.phase == .accepted)
    if d.opcode ≠ 4 ∨ d.phase ≠ .accepted ∨ d.status ≠ 0 ∨ before then w
    else
      let w := w.setDesc { d with phase := .acting }
      let w := w.setSeq { w.c.seq with runLimit := w.c.seq.runLimit + bits (d.words.getD 1 0) 31 0 }
      w.jobLine.tryStart

/-- COPY_IN and COPY_OUT: the transfer starts, in its step or as a control descriptor. -/
def doCopy (w : W) (j op : Nat) : W :=
  match w.desc j with
  | none => w
  | some d =>
    let inStep := d.bound && d.start == w.stepNo && w.c.seq.phase == .run && w.seqState == stRun
    let alone := !d.bound && w.c.host.descs.all fun e => e.ring != d.ring || decide (j ≤ e.jsn)
    if d.opcode = op ∧ d.phase = .accepted ∧ d.status = 0 ∧ (inStep ∨ alone) then w.copyStart j else w

/-- STOP: it completes once STOPPED is entered (DEDUCED: the end of its action). -/
def doStopDesc (w : W) (j : Nat) : W :=
  match w.mayAct j 7 with
  | none => w
  | some d =>
    let st := w.seqState
    if d.status ≠ 0 then w
    else if st = stStopped then w.complete j 0 0 0
    else if st = stIdle ∨ st = stHalted then w.complete j 4 0 0
    else (w.setDesc { d with phase := .acting }).doSeqStop

/-- RESULT: after the commit of its step the record goes to the host. -/
def doResult (w : W) (j : Nat) : W :=
  match w.desc j with
  | none => w
  | some d =>
    if d.opcode = 0x18 ∧ d.phase = .accepted ∧ d.status = 0 ∧ d.step ≠ 0 then w.outBytes j d.buf else w

/-- DESC_FENCE: every descriptor accepted before it has finished. -/
def doFenceDesc (w : W) (j : Nat) : W :=
  if w.c.host.descs.any fun e => decide (e.jsn < j) then w else w.actNow j 0xC fun w => (0, w)

/-! ### Digests (R332 to R334) -/

/-- A digest may start now: a control descriptor at its turn, or with HOLD before the START of its step. -/
def digestReady (w : W) (d : Desc) : Bool :=
  d.opcode == 0x19 && d.phase == .accepted && d.status == 0 &&
    (if d.bound then d.start == w.stepNo && (match w.c.seq.phase with | .ready _ => true | _ => false)
     else w.c.host.descs.all fun e => e.ring != d.ring || decide (d.jsn ≤ e.jsn))

/-- DIGEST: the engines take the oldest digest that is ready. -/
def doDigest (w : W) (j : Nat) : W :=
  let ds := w.c.host.descs
  match w.desc j with
  | none => w
  | some d =>
    if !w.digestReady d || ds.any (fun e => e.opcode == 0x19 && (e.phase == .acting || (decide (e.jsn < j) && w.digestReady e)))
    then w
    else w.setDesc { d with phase := .acting }

/-- The lines at these addresses as the digest engines read them, in order: the bytes, the index of the first that comes
poisoned or from no memory, and whether a controller gave no answer. -/
def digestRead (w : W) (as : List Nat) : (List Byte × Option Nat × Bool) × W :=
  as.zipIdx.foldl (fun (x : (List Byte × Option Nat × Bool) × W) (a, i) =>
    let ((bs, bad, silent), w) := x
    if bad.isSome || silent then x
    else match w.lineRead none (w.loc (w64 a)) 128 with
      | (.ok b false, w) => ((bs ++ b, none, false), w)
      | (.silent, w) => ((bs, none, true), w)
      | (_, w) => ((bs, some i, false), w)) (([], none, false), w)

/-- The parity or uncorrectable error that DIGEST_DONE names shows itself at device-local address `a`. -/
def digestHit (w : W) (a : Nat) : W :=
  match w.place none (w.loc (w64 a)) with
  | .mem m pc irgn key => (w.dramRead m pc 0x1FF irgn (key / 128) (w.loc (w64 a)) .lost).2
  | .gal p off => if off < 0x400000 then w.hallParity p 0 14 off (off % 128) 1 0x1FF else w.ownerParity p off
  | _ => w

/-- Where the digest of the range as committed by step `s` reads device-local address `a`: of a PINGPONG region the bank
s mod 2, at the addresses of bank 0. -/
def committedAddr (w : W) (s a : Nat) : Nat :=
  match w.regions.find? fun e => e.2.2.2.2 == 2 && decide (e.1 ≤ a) && decide (a < e.1 + e.2.1) with
  | some e => a + s % 2 * e.2.1
  | none => a

end W

/-- One level of the digest tree (R332): pairs are hashed, an odd node is carried up. -/
def digestLevel : List (List Byte) → List (List Byte)
  | a :: b :: hs => Config.shake256 (1 :: a ++ b) 64 :: digestLevel hs
  | hs => hs

/-- The top of the digest tree over `fuel` levels. -/
def digestTop : Nat → List (List Byte) → List Byte
  | 0, hs => hs.headD []
  | fuel + 1, hs => digestTop fuel (digestLevel hs)

/-- The digest of a range of `n` bytes given leaf by leaf (R332). -/
def digestOf (n : Nat) (leaf : Nat → List Byte) : List Byte :=
  let hs := (List.range (n / 4096)).map fun i => Config.shake256 (0 :: leBytes 8 i ++ leaf i) 64
  Config.shake256 (2 :: leBytes 8 n ++ digestTop 31 hs) 64

namespace W

/-- DIGEST_DONE: the range is read; the output goes to the host, or a parity or uncorrectable error at an offset fails the
descriptor and is handled under R222. With a controller that gives no answer the digest is not done. -/
def doDigestEnd (w : W) (bad : Option Nat) : W :=
  match w.c.host.descs.find? fun d => d.opcode == 0x19 && d.phase == .acting && d.buf == [] with
  | none => w
  | some d =>
    let a := (d.words.getD 1 0).toNat
    let n := (d.words.getD 2 0).toNat
    let s := d.start - 1
    let at' := fun (o : Nat) => if d.bound then w.committedAddr s (a + o) else a + o
    let hit := bad.filter fun o => decide (o < n)
    let w := match hit with | some o => w.digestHit (at' o) | none => w
    let ((bs, line, silent), w1) := w.digestRead ((List.range (n / 128)).map fun i => at' (128 * i))
    match hit.orElse fun _ => line.map (128 * ·) with
    | some o => ((w1.pend 296).complete d.jsn 7 (w64 o) (if d.bound then s else 0)).tryStart
    | none =>
      if silent then w
      else
        let out := (digestOf n (fun i => (bs.drop (4096 * i)).take 4096) ++ List.replicate 64 0).take 64
        ((w1.pend 296).setDesc { d with detail := w64 n, step := if d.bound then s else 0 }).outBytes d.jsn out

end W

/-! ### The meanings -/

/-- A command ring or completion ring exists. -/
def ringOk (r : Nat) : Bool := decide (r < 64)

/-- LINK_DATA_FRAME. -/
def execLinkDataFrame (q : Nat) (f : LinkFrame) (u : FrameUpset) (s : State) : Host.Outcome State Fault Refusal :=
  runOn (linkOk q) s fun w => if q = sclPort then w.sclDataFrame f u else w.doDataFrame q f u

/-- HRD. -/
def execHrd (m : SclMsg) (part : Option (Nat × Nat)) (s : State) : Host.Outcome State Fault Refusal :=
  run s fun w => w.doHrd m part

/-- FLUSH. -/
def execFlush (m : SclMsg) (s : State) : Host.Outcome State Fault Refusal := run s fun w => w.doFlush m

/-- SNP_INV. -/
def execSnpInv (m : SclMsg) (s : State) : Host.Outcome State Fault Refusal := run s fun w => w.doSnpInv m

/-- SCL_CMP. -/
def execSclCmp (m : SclMsg) (s : State) : Host.Outcome State Fault Refusal := run s fun w => w.doSclCmp m

/-- SCL_ERR. -/
def execSclErr (m : SclMsg) (s : State) : Host.Outcome State Fault Refusal := run s fun w => w.doSclErr m

/-- SCL_CMD_DB. -/
def execSclCmdDb (r v : Nat) (s : State) : Host.Outcome State Fault Refusal := runOn (ringOk r) s fun w => w.doCmdDb r v

/-- SCL_CPL_DB. -/
def execSclCplDb (c v : Nat) (s : State) : Host.Outcome State Fault Refusal := runOn (ringOk c) s fun w => w.doCplDb c v

/-- DESCRIPTOR_ACCEPT. -/
def execDescriptorAccept (r : Nat) (slot blk : Option (List Byte)) (s : State) : Host.Outcome State Fault Refusal :=
  runOn (ringOk r) s fun w => w.doAccept r slot blk

/-- NOP. -/
def execNop (j : Nat) (s : State) : Host.Outcome State Fault Refusal := run s fun w => w.actNow j 1 fun w => (0, w)

/-- STEPS. -/
def execSteps (j : Nat) (s : State) : Host.Outcome State Fault Refusal := run s fun w => w.doSteps j

/-- COPY_IN. -/
def execCopyIn (j : Nat) (s : State) : Host.Outcome State Fault Refusal := run s fun w => w.doCopy j 5

/-- COPY_OUT. -/
def execCopyOut (j : Nat) (s : State) : Host.Outcome State Fault Refusal := run s fun w => w.doCopy j 6

/-- STOP. -/
def execStop (j : Nat) (s : State) : Host.Outcome State Fault Refusal := run s fun w => w.doStopDesc j

/-- RESUME. -/
def execResume (j : Nat) (s : State) : Host.Outcome State Fault Refusal :=
  run s fun w => w.actNow j 8 fun w => if w.mayResume then (0, w.doSeqResume) else (4, w)

/-- UNLOAD. -/
def execUnload (j : Nat) (s : State) : Host.Outcome State Fault Refusal :=
  run s fun w => w.actNow j 9 fun w =>
    if w.seqState = stStopped ∨ w.seqState = stHalted then (0, w.doSeqUnload) else (4, w)

/-- ABORT. -/
def execAbort (j : Nat) (s : State) : Host.Outcome State Fault Refusal :=
  run s fun w => w.actNow j 0xA fun w =>
    if w.seqState = stRun ∨ w.seqState = stCommitting ∨ w.seqState = stMigrate then (0, w.orderAbort) else (4, w)

/-- DRAIN. -/
def execDrain (j : Nat) (s : State) : Host.Outcome State Fault Refusal :=
  run s fun w => w.actNow j 0xB fun w =>
    if w.seqState = stRun ∨ w.seqState = stCommitting ∨ w.seqState = stMigrate then (0, w.orderDrain) else (4, w)

/-- DESC_FENCE. -/
def execDescFence (j : Nat) (s : State) : Host.Outcome State Fault Refusal := run s fun w => w.doFenceDesc j

/-- RESULT. -/
def execResult (j : Nat) (s : State) : Host.Outcome State Fault Refusal := run s fun w => w.doResult j

/-- DIGEST. -/
def execDigest (j : Nat) (s : State) : Host.Outcome State Fault Refusal := run s fun w => w.doDigest j

/-- DIGEST_DONE. -/
def execDigestDone (bad : Option Nat) (s : State) : Host.Outcome State Fault Refusal := run s fun w => w.doDigestEnd bad

/-- CPL_MODERATION_TIMEOUT. -/
def execCplModerationTimeout (c : Nat) (s : State) : Host.Outcome State Fault Refusal :=
  runOn (ringOk c) s fun w => w.doModTimeout c

/-- SCL_CNT_CLR. -/
def execSclCntClr (v : Word) (s : State) : Host.Outcome State Fault Refusal :=
  run s fun w => w.clearCounters Reg.SCL_DESC_ACC 8 v

end Sys2Proof.Machine
end

