-- ==== Sys2Proof/Machine/Stream.lean ====
section
/-! DEFINITION. The record stream of CP3 (15_faults_and_fencing.md R356; 21_management_and_service.md R449 to R451): error
records to the host error ring and to the management paths. Path 0 is Ethernet, path 1 MCTP. -/

namespace Sys2Proof.Machine

/-- SEV, CLASS and ESN of a record (R353). -/
def recSev (r : List Word) : Nat := bits (r.getD 0 0) 43 41
def recClass (r : List Word) : Nat := bits (r.getD 0 0) 55 48
def recEsn (r : List Word) : Nat := bits (r.getD 7 0) 31 0

namespace W

def setMgmt (w : W) (m : Mgmt) : W := { w with c := { w.c with mgmt := m } }

/-- A management message leaves (R449): MGMT_TX counts it. -/
def mgmtSend (w : W) (path station mtype seq status flags : Nat) (body : List Byte) : W :=
  (w.count Reg.MGMT_TX 1).emit (.mgmt path station mtype seq status flags body)

/-- The stations of the record stream: MGMT_DEST on Ethernet, the BMC on MCTP. -/
def destOf (w : W) (path : Nat) : Nat := if path = 0 then leNat (wordBytes (w.regWords (Reg.MGMT_DEST 0) 2)) else 0

/-- A message that the device begins, with its own count. -/
def mgmtTell (w : W) (path mtype : Nat) (body : List Byte) : W :=
  let m := w.c.mgmt
  (w.setMgmt { m with seq := (m.seq + 1) % 2 ^ 32 }).mgmtSend path (w.destOf path) mtype m.seq 0 0 body

def recPath (w : W) (path : Nat) : RecPath := Tbl.get (fun _ => {}) w.c.mgmt.paths path
def setRecPath (w : W) (path : Nat) (x : RecPath) : W :=
  w.setMgmt { w.c.mgmt with paths := Tbl.set (fun _ => {}) w.c.mgmt.paths path x }

/-- MGMT_CFG.REC_PATH sends records by this path. -/
def pathOn (w : W) (path : Nat) : Bool :=
  let r := w.fld Reg.MGMT_CFG F.MGMT_CFG_REC_PATH
  (r == path || r == 2) && (path != 0 || w.flag Reg.MGMT_CFG F.MGMT_CFG_EN)

/-- Records in the queue a path has not had acknowledged. -/
def unacked (w : W) (path : Nat) : List (Bool × List Word) :=
  w.c.mgmt.recs.filter fun r => match (w.recPath path).acked with
    | some a => serialLater 32 (recEsn r.2) a
    | none => true

/-- REC_STREAM messages of up to 20 entries. -/
def streamOut (w : W) (path : Nat) : Nat → List (Bool × List Word) → W
  | 0, _ => w
  | fuel + 1, rs =>
    if rs.isEmpty then w
    else
      let now := rs.take 20
      let body := leBytes 4 now.length ++ now.flatMap fun r => leBytes 4 r.1.toNat ++ wordBytes r.2
      W.streamOut (w.mgmtTell path 0x08 body) path fuel (rs.drop 20)

/-- Records not sent yet go out, at most 256 beyond the last REC_ACK. -/
def streamPath (w : W) (path : Nat) : W :=
  if !w.pathOn path then w
  else
    let x := w.recPath path
    let rs := (w.unacked path).take 256
    let fresh := rs.filter fun r => match x.last with
      | some l => serialLater 32 (recEsn r.2) l
      | none => true
    match fresh.getLast? with
    | none => w
    | some r => (w.setRecPath path { x with last := some (recEsn r.2) }).streamOut path 13 fresh

/-- The oldest record with SEV below 3 is dropped, or the oldest of any SEV (R451). -/
def dropRecord (rs : List (Bool × List Word)) : List (Bool × List Word) :=
  match rs.findIdx? fun r => decide (recSev r.2 < 3) with
  | some i => rs.eraseIdx i
  | none => rs.drop 1

/-- MGMT_STATUS.OUTSTANDING. -/
def showOutstanding (w : W) : W := w.setFld Reg.MGMT_STATUS F.MGMT_STATUS_OUTSTANDING w.c.mgmt.recs.length

/-- CP3 sends every record created so far, in ESN order (R356). -/
def streamRecords (w : W) : W :=
  let rs := w.c.recQ
  let w := { w with c := { w.c with recQ := [] } }
  let w := rs.foldl (fun w r =>
    let w := w.errToRing r
    let fm := decide (3 ≤ recSev r) || recClass r == 0x0B || recClass r == 0x0C
    let full := decide (4096 ≤ w.c.mgmt.recs.length)
    let w := if full then (w.setMgmt { w.c.mgmt with recs := dropRecord w.c.mgmt.recs }).count Reg.MGMT_REC_DROP 1 else w
    w.setMgmt { w.c.mgmt with recs := w.c.mgmt.recs ++ [(fm, r)] }) w
  ((w.streamPath 0).streamPath 1).showOutstanding

end W

end Sys2Proof.Machine
end

