-- ==== Sys2Proof/Machine/Recovery.lean ====
section
/-! DEFINITION. What CP1 does with each fault (15_faults_and_fencing.md R357 to R364, R366; 09_memory_tiers.md R222;
08_schedules_and_steps.md R181, R190, R200; 13_determinism_and_audit.md R329; 14_self_test.md R346), and the entry of
interrupt handlers (20_control_complex_and_interrupts.md R439). -/

namespace Sys2Proof.Machine

namespace W

/-! ### Fences beyond the gallery (R357) -/

/-- A step in progress is rolled back; with no schedule in progress nothing is (R358). -/
def rollbackIf (w : W) : W :=
  let st := w.seqState
  if st = stRun ∨ st = stCommitting ∨ st = stMigrate then w.orderAbort else w

/-- The link at a port of landing `l` is fenced: PORT_EN cleared at both ends, detours flipped in (R364 KIND 0x4). -/
def fenceLink (w : W) (l port : Nat) : W :=
  let u := linkUnit l port
  let w := w.setPortEnabled l port false
  let w := match farEnd l port with | some n => w.setPortEnabled n (portBack port) false | none => w
  (w.flipDetours).capRecord 4 u.2 u.1 none

/-- A strike on the link at a port, and its fence at STRIKE_MAX (R358, R366). -/
def strikeLink (w : W) (l port : Nat) (b : RecBody) : W :=
  let u := linkUnit l port
  let (bad, w) := w.strike u.1 u.2 b.cls b.kind 4
  if bad then w.fenceLink l port else w

/-! ### Remaps (R359 to R364) -/

/-- The logical galleries that are mapped. -/
def mappedCount (w : W) : Nat := ((List.range w.logicals).filter fun g => (w.physOf g).isSome).length

/-- The running placement uses logical gallery `g`. -/
def usesLogical (w : W) (g : Nat) : Bool :=
  match w.placement with | some p => p.uses.contains g | none => false

/-- Logical gallery `g`, last at `old`, is absent (R364, R181): the step rolls back and ends in STOPPED. -/
def makeAbsent (w : W) (g old : Nat) : W :=
  let w := (w.setMapEntry g (2 ^ 14 + old)).saveMap
  let w := (w.writeMasks.writeBanks).flipChecked fun w => w.sendFlip (1 - w.meshBank) true
  let w := (w.capRecord 2 old w.mappedCount none).writeDistances
  if w.usesLogical g ∧ ¬ (w.seqState = stIdle ∨ w.seqState = stStopped ∨ w.seqState = stHalted) then w.stopNow else w

/-- A spare failed an attempt (R364): it is fenced and takes a strike. -/
def spareFails (w : W) (spare cause : Nat) : W :=
  let w := (w.capRecord 7 cause spare none).fenceGallery spare
  let (bad, w) := w.strike 1 spare 0x10 7 4
  if bad then w.setPstate spare 4 else (w.setPstate spare 3).testAgain spare

/-- Remaps go on, one at a time: a spare is chosen, the banks are written and checked and flipped; the reload then ends by
a command of its own. With no attempt or spare left the gallery is absent. -/
def remapLoop (w : W) : Nat → W
  | 0 => w
  | fuel + 1 =>
    match w.c.seq.remaps with
    | [] => w
    | r :: rest =>
      if r.spare ≠ 0x1FF then w
      else
        let tries := max 1 (w.fld Reg.FLT_CFG F.FLT_CFG_REMAP_TRIES)
        match (if r.attempt < tries then w.bestSpare (halfOf r.old) else none) with
        | none => W.remapLoop ((w.setSeq { w.c.seq with remaps := rest }).makeAbsent r.g r.old) fuel
        | some p =>
          let r := { r with spare := p, attempt := r.attempt + 1 }
          let w := ((w.setPstate p 7).islandOn p (w.fld (Reg.GPWR r.old) F.GPWR_PT)).liftFence p
          let w := w.moveChans ((w.physOf r.g).getD r.old) p
          let w := ((w.setMapEntry r.g (2 ^ 15 + p)).writeMasks).writeBanks
          if w.treesOk then
            (w.setSeq { w.c.seq with remaps := r :: rest, flipped := true }).sendFlip (1 - w.meshBank) true
          else
            let r := { r with spare := 0x1FF }
            W.remapLoop ((w.setSeq { w.c.seq with remaps := r :: rest }).spareFails p 2) fuel

/-- The remaps that wait. -/
def remap (w : W) : W := w.remapLoop (8 * (w.c.seq.remaps.length + 1))

/-- What the reload writes into the spare (R362): code, and the contents of the configuration set; Q_EPOCH.CUR is the
running epoch. -/
def reloadSpare (w : W) (g p : Nat) : W :=
  let epoch := match w.usedGals.find? (· ≠ p) with | some q => w.epoch q 12 | none => 0
  let w : W := match w.curCfg with
    | some c => (c.regs.filter fun e => e.1 == g).foldl (fun w (_, k, v) => w.setReg (galBase p + k) v) w
    | none => w
  let w : W := match w.curCfg with
    | some c => (List.range 16).foldl (fun w a =>
        let es := (c.channels.filter fun x => x.1 == g && x.2.1 == a).map fun x => (x.2.2.1, x.2.2.2.1, x.2.2.2.2)
        if es.isEmpty then w else w.setAgent p a { w.agent p a with table := es }) w
    | none => w
  let w : W := match w.placement with
    | some pl => (pl.code.filter fun e => e.1 == g).foldl (fun w (_, off, bs) => w.wrBytes (galKey p off) bs) w
    | none => w
  (List.range 16).foldl (fun w a => w.setFld (Reg.Q_EPOCH p a) F.Q_EPOCH_CUR epoch) w.writeMasks

/-- SPARE_RELOAD_DONE: the attempt in progress ends, with a cause of R364 when it failed. -/
def doReloadDone (w : W) (cause : Nat) : W :=
  match w.c.seq.remaps with
  | [] => w
  | r :: rest =>
    if r.spare = 0x1FF then w
    else if cause = 0 then
      let w := (w.reloadSpare r.g r.spare).setPstate r.spare 0
      let w := w.setSeq { w.c.seq with remaps := rest, placed := r :: w.c.seq.placed }
      let w := ((w.count Reg.FLT_REMAPS 1).capRecord 1 (r.spare + r.attempt % 8 * 512) r.old none).saveMap
      w.writeDistances.remap
    else
      let w := w.setSeq { w.c.seq with remaps := { r with spare := 0x1FF } :: rest }
      (w.spareFails r.spare cause).remap

/-! ### Galleries (R358, R359, R366, R378) -/

/-- Gallery `p` lies in a gallery, half or device reset in progress. -/
def resetting (w : W) (p : Nat) : Bool :=
  w.c.resets.any fun r => r.dom == .gallery p || r.dom == .half (halfOf p) || r.dom == .warm

/-- A strike on a gallery (R366): DEFECT at STRIKE_MAX, else SUSPECT with a test at the next tick. -/
def strikeGallery (w : W) (p cls kind : Nat) : W :=
  let (bad, w) := w.strike 1 p cls kind 4
  if bad then w.setPstate p 4 else (w.setPstate p 3).testAgain p

/-- A move that a fault touches (R346, R359): one not scanned yet is discarded, and made again later when it is a rotation
move; a scanned one is given up. -/
def faultMoves (w : W) (p : Nat) : W :=
  let hit := w.c.seq.moves.filter fun m => m.scanning && (m.src == p || m.dst == p)
  let w := hit.foldl (fun w m => w.dropMove m (m.src == p)) w
  w.setSeq { w.c.seq with moves := w.c.seq.moves.filter fun m => m.scanning }

/-- The logical gallery that fenced gallery `p` carries is re-placed, when AUTO allows it (R359). -/
def moveAway (w : W) (p : Nat) (g : Option Nat) : W :=
  match g with
  | none => w
  | some g =>
    if w.flag Reg.FLT_CFG F.FLT_CFG_AUTO then
      if w.c.seq.remaps.any fun r => r.g == g then w
      else (w.setSeq { w.c.seq with remaps := w.c.seq.remaps ++ [{ g := g, old := p, spare := 0x1FF, attempt := 0 }] }).remap
    else if [stRun, stCommitting, stMigrate, stRollback].contains w.seqState then w.stopNow
    else w

/-- Gallery `p`, the carrier of a logical gallery or not, is fenced and re-placed (R359). -/
def replaceGallery (w : W) (p cls kind : Nat) : W :=
  let g := w.logicalOf p
  let w := w.fenceGallery p
  let w := if w.seqState = stRun ∨ w.seqState = stCommitting then w.rollbackIf else w
  (w.strikeGallery p cls kind).moveAway p g

/-- A gallery fault. -/
def galleryFault (w : W) (p : Nat) (b : RecBody) : W :=
  if w.pstate p = 2 then w
  else if w.resetting p then w.record { b with sev := 0, urgent := false }
  else
    let moveDst := w.c.seq.moves.any fun m => m.scanning && m.dst == p
    let w := w.record { b with sev := 2, urgent := true }
    if moveDst then w.faultMoves p
    else
      match w.c.seq.remaps.find? fun r => r.spare == p with
      | some r =>
        let f := fun (x : Remap) => if x.g = r.g then { x with spare := 0x1FF } else x
        ((w.setSeq { w.c.seq with remaps := w.c.seq.remaps.map f }).spareFails p 3).remap
      | none =>
        match w.c.seq.placed.find? fun r => r.spare == p with
        | some r =>
          -- the spare of a remap fails before its START (R364): the attempts go on
          let w := w.setSeq { w.c.seq with placed := w.c.seq.placed.filter (· ≠ r),
                                           remaps := w.c.seq.remaps ++ [{ r with spare := 0x1FF }] }
          (w.rollbackIf.spareFails p 3).remap
        | none => (w.faultMoves p).replaceGallery p b.cls b.kind

/-! ### Landings and links (R358) -/

/-- A landing test joins the queue of its half, when there is room (R350, R358). -/
def queueTest (w : W) (t : Test) : Bool × W :=
  let n := (w.c.test.tests.filter fun x => decide (1 ≤ x.scope) && decide (x.scope ≤ 3) && halfOf x.unit == halfOf t.unit &&
    x.phase == .queued).length
  if 16 ≤ n ∨ w.c.test.tests.any fun x => sameTest x t then (false, w)
  else (true, w.setTest { w.c.test with tests := w.c.test.tests ++ [t] })

/-- A landing is fenced (R357): its gallery is fenced and re-placed, its neighbours disable the ports that face it, the
detours are flipped in. -/
def fenceLanding (w : W) (l cls kind : Nat) : W :=
  let w := (w.replaceGallery l cls kind).setPstate l 5
  let w := [1, 2, 3, 4, 5].foldl (fun w p => match farEnd l p with
    | some n => w.setPortEnabled n (portBack p) false
    | none => w) w
  (w.flipDetours).capRecord 5 l 0 none

/-- A fault that a landing raised, by the KIND of its LND_FAULT_INFO (R146, R358). A source landing's gallery that its
strike makes DEFECT is fenced and re-placed (DEDUCED from R366: it stays fenced for good). -/
def landingFault (w : W) (l : Nat) (b : RecBody) : W :=
  let port := bits b.info 42 39
  let w := w.record { b with sev := 2 }
  match b.kind with
  | 1 => w.rollbackIf.strikeLink l port b
  | 2 =>
    let u := linkUnit l port
    ((w.rollbackIf.enterDefect u.1 u.2 b.cls b.kind 4 0).fenceLink l port)
  | 6 =>
    let (bad, w) := w.rollbackIf.strike 2 l b.cls b.kind 4
    if bad then w.fenceLanding l b.cls b.kind
    else (w.queueTest { scope := 3, unit := l, origin := 2, elems := [(0x10, l)] }).2
  | 4 =>
    let src := bits b.info 36 28
    let w := w.rollbackIf
    if !galOk src then w
    else
      let g := w.logicalOf src
      let w := w.strikeGallery src b.cls b.kind
      if w.pstate src = 4 then (w.fenceGallery src).moveAway src g else w
  | _ => w.rollbackIf

/-! ### Memory (R222) -/

/-- Where a line of committed contents would be lost (R222): READONLY, the committed bank of a PINGPONG region, APPEND
below LIMIT, the 4 KiB commit block, an inbound log. -/
def committedLine (w : W) (a : Nat) : Bool :=
  let s := w.stepNo
  let within := fun (b l : Nat) => decide (b ≤ a) && decide (a < b + l)
  (match w.c.seq.img with
    | some i => within i.commitBase.toNat 4096 || within i.view.inlog.1 i.view.inlog.2
    | none => false) ||
    w.regions.any fun e =>
      let (base, size, first, app, kind) := e
      (kind == 1 && within base size) || (kind == 2 && within (base + (s + 1) % 2 * size) size) ||
        (kind == 3 && decide (base ≤ a) && decide (a < appendLimit base first app (w.reg Reg.SEQ_COMMITTED).toNat))

/-- A line of the schedule's regions, or scratch that an agent of the device read. -/
def scheduleLine (w : W) (b : RecBody) (a : Nat) : Bool :=
  bits b.info 36 28 != 0x1FF || w.regions.any fun e =>
    decide (e.1 ≤ a) && decide (a < e.1 + e.2.1 * (if e.2.2.2.2 = 2 then 2 else 1))

/-- Committed contents are lost: the step in progress is aborted and the schedule abandoned, HALTED as in R192. -/
def committedLost (w : W) : W := (w.emit (.gstep false false true)).abandon

/-- A poisoned line: the step rolls back, or the committed contents are lost and the schedule halts. -/
def memoryFault (w : W) (b : RecBody) : W :=
  let a := bits b.aux 47 0
  if !w.loaded then w.record { b with sev := 0 }
  else if w.committedLine a then
    (w.record { b with sev := 4, urgent := true }).committedLost
  else if w.scheduleLine b a then (w.record { b with sev := 2 }).rollbackIf
  else w.record { b with sev := 0 }

/-! ### The handler (R142, R353, R358) -/

/-- One fault. -/
def handleWork (w : W) (x : Work) : W :=
  match x.kind, x.body.phys with
  | .gallery, some p => w.galleryFault p x.body
  | .landing, some l => w.landingFault l x.body
  | .memory, _ => w.memoryFault x.body
  | .hang, some p =>
    if w.pstate p = 2 then w else (w.record { x.body with sev := 2 }).orderDrain
  | .schedule, some p =>
    if w.pstate p = 2 then w
    else if w.resetting p then w.record { x.body with sev := 0 }
    else (w.record { x.body with sev := 2 }).rollbackIf
  | _, _ => (w.record { x.body with sev := 2 }).rollbackIf

/-- The record body of a gallery that raised its flag, from its info registers (R353, R354): the first that is valid. -/
def infoBody (w : W) (p : Nat) : RecBody :=
  let mc := (List.range 8).find? fun n => w.flag (Reg.MC_CHECK_INFO p n) F.MC_CHECK_INFO_VALID
  let vc := (List.range 4).find? fun n => w.flag (Reg.VC_CHECK_INFO p n) F.VC_CHECK_INFO_VALID
  let sc := (List.range 2).find? fun n => w.flag (Reg.SC_FAULT_INFO p n) F.SC_FAULT_INFO_VALID
  let b : RecBody := { phys := some p }
  match mc, vc, sc with
  | some n, _, _ => { b with cls := 1, kind := w.fld (Reg.MC_CHECK_INFO p n) F.MC_CHECK_INFO_KIND, agent := some n,
                             info := w.reg (Reg.MC_CHECK_INFO p n), aux := w.reg (Reg.MC_CHECK_DELTA p n) }
  | none, some n, _ => { b with cls := 2, kind := w.fld (Reg.VC_CHECK_INFO p n) F.VC_CHECK_INFO_KIND, agent := some (8 + n),
                                info := w.reg (Reg.VC_CHECK_INFO p n) }
  | none, none, some n => { b with cls := 3, kind := w.fld (Reg.SC_FAULT_INFO p n) F.SC_FAULT_INFO_KIND,
                                   agent := some (12 + n), info := w.reg (Reg.SC_FAULT_INFO p n) }
  | none, none, none => { b with cls := 4, kind := 1, info := w.reg (Reg.HALL_PARITY_INFO p) }

/-- A fault that waits for a move to end (R346): one of another gallery than the two of a move in progress. -/
def waitsForMove (w : W) (x : Work) : Bool :=
  w.seqState == stMigrate && (match x.body.phys with
    | some p => !(w.c.seq.moves.any fun m => m.scanning && (m.src == p || m.dst == p))
    | none => false)

/-- The faults are handled in order; those that wait for a move are kept. -/
def handleAll (w : W) (xs : List Work) : W :=
  xs.foldl (fun w x =>
    if w.waitsForMove x then { w with c := { w.c with deferred := w.c.deferred ++ [x] } } else w.handleWork x) w

/-- The CP1 handler: the flags that came over the drops are read, and what they name is handled, with what reached CP1 by
other sources. -/
def cp1Handler (w : W) : W :=
  let gals := w.c.flags.foldl (fun (a : Mask) e => a ||| e.2.1) 0
  let lands := w.c.flags.foldl (fun (a : Mask) e => a ||| e.2.2) 0
  let mine := fun (x : Work) => match x.body.phys with
    | some p => inMask gals p || inMask lands p
    | none => true
  let items := w.c.work.filter mine
  let named := (List.range 312).filter fun p => inMask gals p && !(items.any fun x => x.body.phys == some p)
  let w := { w with c := { w.c with flags := [], work := w.c.work.filter fun x => !mine x } }
  let extra : List Work := named.map fun p => { kind := WorkKind.gallery, body := w.infoBody p }
  w.handleAll (items ++ extra)

/-- Faults that waited for a move that is over. -/
def handleDeferred (w : W) : W :=
  if w.seqState = stMigrate then w
  else
    let xs := w.c.deferred
    { w with c := { w.c with deferred := [] } }.handleAll xs

/-- INTERRUPT_DELIVERY (R439): the deliverable source enters its handler; with IE 0 it only ends WFI. -/
def doInterrupt (w : W) (n : Nat) : W :=
  if !w.cpTakes n || (w.cp n).wait != .run then w
  else match w.bestSource n with
    | none => w
    | some id =>
      if w.flag (Reg.IC_CP_STATUS n) F.IC_CP_STATUS_IE then
        let w := w.enterHandler n id
        if n = 1 then w.cp1Handler else if n = 3 then w.streamRecords else w
      else w.setFlag (Reg.IC_CP_STATUS n) F.IC_CP_STATUS_WFI false

/-! ### Watchdog and drains (R190, R200) -/

/-- STEP_WATCHDOG: the commit release is missing; `silent` galleries do not answer over the back stair. -/
def doStepWatchdog (w : W) (silent : List Nat) : W :=
  if w.seqState ≠ stRun ∨ w.c.seq.phase ≠ .run ∨ w.c.seq.release.isSome then w
  else
    let late := w.usedGals.filter fun p =>
      let st := w.fld (Reg.GSTEP_STATE p) F.GSTEP_STATE_STATE
      st != 2 && st != 3
    let w := w.countErr Reg.SEQ_WD_TRIPS
    let st := w.seqState
    let w := (late.take 16).foldl (fun w p =>
      w.record { cls := 9, kind := 1, sev := 2, phys := some p, info := w64 (late.length % 2 ^ 16 + st * 2 ^ 16),
                 aux := w.reg Reg.SEQ_COMMITTED }) w
    let w := w.rollbackIf
    (late.filter fun p => silent.contains p).foldl (fun w p => w.replaceGallery p 9 1) w

/-- DRAIN_SCAN_TIMEOUT (R200): gallery `p` has not completed its drain scan and is recorded as no answer; its state is
read over the back stair instead, by a snapshot and its dump (R383, R386). -/
def doDrainTimeoutAt (w : W) (p : Nat) : W :=
  if !w.c.seq.draining.contains p then w
  else
    let k := Reg.GSTEP_SCAN p
    let w := (w.setFlag k F.GSTEP_SCAN_BUSY false).setFlag k F.GSTEP_SCAN_ERROR true
    let w := w.setSeq { w.c.seq with draining := w.c.seq.draining.filter (· ≠ p),
                                     noAnswer := p :: w.c.seq.noAnswer.filter (· ≠ p) }
    (w.when (w.flag Reg.SNAP_CFG F.SNAP_CFG_CMD) fun w => w.snapLatch 2 0 false).startDump

end W

/-! ### The meanings -/

/-- INTERRUPT_DELIVERY. -/
def execInterruptDelivery (n : Nat) (s : State) : Host.Outcome State Fault Refusal :=
  if cpOk n then runAux s fun w => w.doInterrupt n else .fault .noSuchUnit

/-- SPARE_RELOAD_DONE. -/
def execSpareReloadDone (cause : Nat) (s : State) : Host.Outcome State Fault Refusal := run s fun w => w.doReloadDone cause

/-- SCAN_DONE; faults that waited for the move are handled when it is over. -/
def execScanDone (p : Nat) (bad : Bool) (s : State) : Host.Outcome State Fault Refusal :=
  runOn (galOk p) s fun w => (w.doScanDone p bad).handleDeferred

/-- GAL_FENCE_SET. -/
def execGalFenceSet (p : Nat) (s : State) : Host.Outcome State Fault Refusal := runOn (galOk p) s fun w => w.fenceIsland p

namespace W

/-- UNFENCE (R372): after a gallery reset and a passing test; otherwise no effect and a record. -/
def doUnfence (w : W) (p : Nat) (requester : Word) : W :=
  if w.c.wasReset.contains p ∧ w.passedAt p ≠ 0 then w.liftFence p else w.recordAccess 2 (Reg.GAL_FENCE p) requester

end W

/-- GAL_UNFENCE. -/
def execGalUnfence (p : Nat) (requester : Word) (s : State) : Host.Outcome State Fault Refusal :=
  runOn (galOk p) s fun w => w.doUnfence p requester

/-- STEP_WATCHDOG. -/
def execStepWatchdog (silent : List Nat) (s : State) : Host.Outcome State Fault Refusal :=
  run s fun w => w.doStepWatchdog silent

/-- DRAIN_SCAN_TIMEOUT. -/
def execDrainScanTimeout (p : Nat) (s : State) : Host.Outcome State Fault Refusal :=
  runOn (galOk p) s fun w => w.doDrainTimeoutAt p

/-- FLT_CNT_CLR (R372). -/
def execFltCntClr (v : Word) (s : State) : Host.Outcome State Fault Refusal :=
  run s fun w => w.clearCounters Reg.FLT_RECORDS 5 v

end Sys2Proof.Machine
end

