-- ==== Sys2Proof/Machine/Security.lean ====
section
/-! DEFINITION. The security block and the flash (18_security.md R404 to R417; 21_management_and_service.md R453, R454):
firmware slots and the boot ROM's choice, the debug level, attestation, the mailbox, and what a finished flash operation
has written. -/

namespace Sys2Proof.Machine

/-- A run of bytes brought to a length, with zeros behind. -/
def fit (n : Nat) (bs : List Byte) : List Byte := (bs ++ List.replicate n 0).take n

/-- A little-endian field of a run of bytes. -/
def field (bs : List Byte) (o n : Nat) : Nat := leNat ((bs.drop o).take n)

/-! ### Manifests (R406) -/

/-- A component: TYPE, BYTES, OFFSET, digest. -/
structure Component where
  typ : Nat
  size : Nat
  off : Nat
  digest : List Byte
deriving DecidableEq, Repr

/-- A manifest; `signed` is the length of what the signature covers. -/
structure Manifest where
  key : Nat
  svn : Nat
  raise : Bool
  comps : List Component
  signed : Nat
deriving DecidableEq, Repr

/-- Bytes of a signature of a manifest, an order or a token (R404). -/
def sigBytes : Nat := 29792

/-- The manifest at the start of a slot, when it is well formed. -/
def manifestOf (bs : List Byte) : Option Manifest :=
  let n := field bs 0xC 2
  let comps := (List.range n).map fun i =>
    let o := 16 + 96 * i
    ({ typ := field bs o 4, size := field bs (o + 4) 4, off := field bs (o + 8) 8,
       digest := (bs.drop (o + 32)).take 64 } : Component)
  if field bs 0 2 = 0x464D ∧ field bs 2 1 = 1 ∧ field bs 3 1 ≤ 1 ∧ 1 ≤ n ∧ n ≤ 16 ∧ 16 + 96 * n + sigBytes ≤ bs.length ∧
      comps.all (fun c => decide (1 ≤ c.typ) && decide (c.typ ≤ 5)) then
    some { key := field bs 3 1, svn := field bs 4 4, raise := (field bs 8 4).testBit 0, comps := comps,
           signed := 16 + 96 * n }
  else none

/-- The signature of a manifest verifies under its key. -/
def Manifest.verifies (m : Manifest) (bs : List Byte) : Bool :=
  Config.slhVerify (Config.romKey m.key) (bs.take m.signed) ((bs.drop m.signed).take sigBytes)

/-- The components of the types `ts` match their digests. -/
def Manifest.matches (m : Manifest) (bs : List Byte) (ts : List Nat) : Bool :=
  (m.comps.filter fun c => ts.contains c.typ).all fun c =>
    Config.shake256 ((bs.drop c.off).take c.size) 64 == c.digest

/-! ### The identity key (R405) -/

/-- The 96 bytes the identity key is made of: "YW-ID-1" and the device secret. -/
def identitySeed : List Byte :=
  Config.shake256 ([0x59, 0x57, 0x2D, 0x49, 0x44, 0x2D, 0x31] ++ Config.deviceSecret) 96

namespace W

/-- A class 0x13 record (R416): INFO holds slot or level, and SVN. The severity of each KIND follows R355. -/
def secRecord (w : W) (kind low svn : Nat) : W :=
  w.record { cls := 0x13, kind := kind, info := w64 (low % 16 + svn % 2 ^ 28 * 16),
             sev := if kind = 1 ∨ kind = 2 then 5 else if kind = 3 ∨ kind = 6 then 3 else 0 }

/-! ### Slots (R407, R409) -/

def slot (w : W) (b : Bool) : List Byte := if b then w.c.flash.slotB else w.c.flash.slotA
def slotBad (w : W) (b : Bool) : Bool := if b then w.c.flash.badB else w.c.flash.badA

/-- A slot's BAD mark in flash, written at once by CP0 (DESIGN CHOICE: not through the queue); the register shows it. -/
def setBad (w : W) (b v : Bool) : W :=
  let f := w.c.flash
  let w := { w with c := { w.c with flash := if b then { f with badB := v } else { f with badA := v } } }
  w.setFlag Reg.SEC_STATUS (if b then F.SEC_STATUS_BAD_B else F.SEC_STATUS_BAD_A) v

/-- The manifest of a slot when the slot is a candidate; `marks` says whether BAD marks count. -/
def candidate (w : W) (marks b : Bool) : Option Manifest :=
  match manifestOf (w.slot b) with
  | none => none
  | some m => if m.verifies (w.slot b) && decide (w.c.flash.floor ≤ m.svn) && !(marks && w.slotBad b) then some m else none

/-- The candidate with the higher SVN, A of equals. -/
def choice (w : W) (marks : Bool) : Option (Bool × Manifest) :=
  match w.candidate marks false, w.candidate marks true with
  | some a, some b => if a.svn < b.svn then some (true, b) else some (false, a)
  | some a, none => some (false, a)
  | none, some b => some (true, b)
  | none, none => none

/-- The boot ROM's choice: a slot whose components 0x01 and 0x02 fail their digests is marked BAD and the other candidate
is tried. -/
def bootSlot (w : W) : Nat → Option (Bool × Manifest) × W
  | 0 => (none, w)
  | fuel + 1 =>
    match w.choice true with
    | none => (none, w)
    | some (b, m) => if m.matches (w.slot b) [1, 2] then (some (b, m), w) else W.bootSlot (w.setBad b true) fuel

/-- The slot that runs, its manifest, and the one that does not run. -/
def running (w : W) : Bool := w.flag Reg.SEC_STATUS F.SEC_STATUS_SLOT
def runManifest (w : W) : Option Manifest := manifestOf (w.slot w.running)
def runSvn (w : W) : Nat := match w.runManifest with | some m => m.svn | none => 0

/-! ### Nonce, debug level, key set (R410 to R413) -/

/-- SEC_DBG_NONCE renewed. -/
def newNonce (w : W) : W :=
  let n := Config.shake256 (Config.nonceKey ++ leBytes 8 (w.reg Reg.SEC_BOOTS).toNat ++
    leBytes 8 (w.reg Reg.RST_UPTIME).toNat) 32
  w.setRegWords (Reg.SEC_DBG_NONCE 0) ((List.range 4).map (payWord (fit 32 n)))

/-- RELOCK. -/
def doRelock (w : W) : W := (w.setFld Reg.SEC_STATUS F.SEC_STATUS_DEBUG 0).newNonce

/-- FAB_ORDER.QUORUM, 0 taken as 1. -/
def quorum (w : W) : Nat := max 1 (w.fld Reg.FAB_ORDER F.FAB_ORDER_QUORUM)

/-- Distinct keys of the set `ks` with a valid signature over `msg`, among entries of key index and signature. -/
def validKeys (ks : List (List Byte)) (msg : List Byte) (es : List (Nat × List Byte)) : List Nat :=
  ((es.filter fun e => match ks[e.1]? with
    | some k => Config.slhVerify k msg e.2
    | none => false).map (·.1)).eraseDups

/-- NSIG signature entries behind offset `o` (R284, R413). -/
def sigEntries (bs : List Byte) (o n : Nat) : List (Nat × List Byte) :=
  (List.range n).map fun i =>
    let e := bs.drop (o + i * (4 + sigBytes))
    (field e 0 1, (e.drop 4).take sigBytes)

/-- The key set as stored: the body of R411 without what follows it; none while the set is empty. -/
def keysetDigest (w : W) : List Byte :=
  if w.c.keys.isEmpty then List.replicate 64 0
  else Config.shake256 (leBytes 1 w.c.keys.length ++ leBytes 1 w.c.flash.quorum ++ List.replicate 6 0 ++
    w.c.keys.flatMap id) 64

/-- The status of a debug token (R412, R413, R416), and its level. -/
def tokenStatus (w : W) (bs : List Byte) : Nat × Nat :=
  let level := field bs 3 1
  let n := field bs 4 1
  if field bs 0 2 ≠ 0x4454 ∨ field bs 2 1 ≠ 1 ∨ level = 0 ∨ 2 < level ∨ n = 0 ∨ 16 < n ∨
      bs.length ≠ 0x30 + n * (4 + sigBytes) then (1, level)
  else if field bs 8 8 ≠ w.c.fuses.serial.toNat then (2, level)
  else if (bs.drop 0x10).take 32 ≠ (wordBytes (w.regWords (Reg.SEC_DBG_NONCE 0) 4)) then (3, level)
  else
    let msg := bs.take 0x30
    let es := sigEntries bs 0x30 n
    let oasar := es.any fun e => e.1 == 0xFF && Config.slhVerify (Config.romKey 2) msg e.2
    let managers := decide (w.quorum ≤ (validKeys w.c.keys msg es).length)
    if oasar || (level == 1 && managers) then (0, level) else (2, level)

/-! ### Attestation (R414) -/

/-- Bytes 0x000 to 0x1FF of the report, sampled now, for a request. -/
def reportHead (w : W) (req : List Byte) : List Byte :=
  let st := w.fld Reg.SEC_STATUS F.SEC_STATUS_DEBUG + w.c.fuses.prodLock.toNat * 4
    + w.fld Reg.FAB_ORDER F.FAB_ORDER_EXPELLED * 8 + w.fld Reg.RST_STATUS F.RST_STATUS_OOS * 16
    + w.fld Reg.BOOT_STATUS F.BOOT_STATUS_STATE * 32 + w.fld Reg.SEC_STATUS F.SEC_STATUS_FALLBACK * 256
    + (w.quorum - 1) * 512
  let locked := w.fld Reg.FAB_TIME_STATUS F.FAB_TIME_STATUS_STATE == 2
  let digest := match w.runManifest with
    | some m => Config.shake256 ((w.slot w.running).take (m.signed + sigBytes)) 64
    | none => []
  let program := match w.c.seq.img with | some i => if w.loaded then i.digest else [] | none => []
  leBytes 2 0x4152 ++ [byte 1, byte 0] ++ leBytes 4 50368 ++ leBytes 8 w.c.fuses.serial.toNat ++
    leBytes 4 (w.reg Reg.DEV_PART).toNat ++ leBytes 4 st ++ leBytes 4 w.runSvn ++ leBytes 4 w.running.toNat ++
    leBytes 8 (if locked then w.c.time else 0) ++ leBytes 8 (w.reg Reg.SEQ_STEP).toNat ++
    leBytes 8 (w.reg Reg.FAB_ORDER_NO).toNat ++ leBytes 8 (w.reg Reg.SEC_FLOOR).toNat ++
    (fit 128 req).take 32 ++ List.replicate 32 0 ++ fit 64 (Config.slhPublic identitySeed) ++ fit 64 digest ++
    fit 64 w.keysetDigest ++ fit 64 program ++ ((fit 128 req).drop 32).take 64 ++ List.replicate 64 0

/-! ### The mailbox (R416) -/

/-- Bytes of the request buffer. -/
def requestBytes (w : W) (n : Nat) : List Byte :=
  (wordBytes (w.regWords (Reg.SEC_REQ_BUF 0) (ceilDiv (min n 524288) 8))).take n

/-- Bytes put into the response buffer. -/
def putResponse (w : W) (bs : List Byte) : W :=
  w.setRegWords (Reg.SEC_RSP_BUF 0) ((List.range (ceilDiv bs.length 8)).map (payWord bs))

/-- An ATTEST request that waits is sampled when the identity key is ready. -/
def sampleAttest (w : W) : W :=
  match w.c.mailbox with
  | some (1, 128, bs) =>
    if w.flag Reg.SEC_STATUS F.SEC_STATUS_ID_READY && bs.length == 128 then
      { w with c := { w.c with mailbox := some (1, 128, w.reportHead bs) } }
    else w
  | _ => w

/-- GO with an operation and LEN. -/
def mailboxGo (w : W) (op len : Nat) (requester : Word) : W :=
  if w.flag Reg.SEC_MB_STATUS F.SEC_MB_STATUS_BUSY then w.recordAccess 2 Reg.SEC_MB_CTL requester
  else
    let w := (w.setFld Reg.SEC_MB_CTL F.SEC_MB_CTL_OP op).setFld Reg.SEC_MB_CTL F.SEC_MB_CTL_LEN len
    let w := w.setFlag Reg.SEC_MB_STATUS F.SEC_MB_STATUS_BUSY true
    { w with c := { w.c with mailbox := some (op, len, w.requestBytes len) } }.sampleAttest.pend 283

/-- The operation ends with a status and a response. -/
def mailboxEnds (w : W) (st : Nat) (rsp : List Byte) : W :=
  let w := (w.putResponse rsp).setReg Reg.SEC_MB_STATUS (w64 (st * 2 ^ 24 + rsp.length % 2 ^ 23 * 2))
  { w with c := { w.c with mailbox := none } }

/-- MAILBOX_OP_DONE. -/
def doMailboxDone (w : W) : W :=
  match w.c.mailbox with
  | none => w
  | some (1, len, bs) =>
    if len ≠ 128 then w.mailboxEnds 1 []
    else if bs.length ≠ 512 then w
    else w.mailboxEnds 0 (bs ++ fit 49856 (Config.slhSign identitySeed bs))
  | some (2, _, _) => w.mailboxEnds 0 (w.c.flash.cert.take 32768)
  | some (3, len, bs) =>
    if 524288 < len then ((w.secRecord 4 0 0).newNonce).mailboxEnds 1 []
    else
      let (st, level) := w.tokenStatus bs
      let w := if st = 0 then (w.setFld Reg.SEC_STATUS F.SEC_STATUS_DEBUG level).secRecord 3 level 0
        else w.secRecord 4 level 0
      w.newNonce.mailboxEnds st []
  | some (_, _, _) => w.mailboxEnds 4 []

/-- ID_KEY_READY: the identity key is derived. -/
def doIdReady (w : W) : W := (w.setFlag Reg.SEC_STATUS F.SEC_STATUS_ID_READY true).sampleAttest

/-- SEC_FLOOR written: at debug level 2 only. -/
def doFloorWrite (w : W) (v requester : Word) : W :=
  if w.fld Reg.SEC_STATUS F.SEC_STATUS_DEBUG = 2 then
    (w.setReg Reg.SEC_FLOOR (w64 (bits v 31 0))).flashPut (.floor (bits v 31 0))
  else w.recordAccess 2 Reg.SEC_FLOOR requester

/-! ### Flash operations (R367, R409, R411, R453, R454) -/

def setFlash (w : W) (f : Flash) : W := { w with c := { w.c with flash := f } }

/-- The logical map as it is now, in FLT_MAP layout. -/
def logicalWords (w : W) : List Word := w.regWords (Reg.FLT_MAP 0) 1024

/-- Bytes of a slot written at an offset; a slot that is shorter is filled with erased bytes. -/
def splice (old : List Byte) (off : Nat) (bs : List Byte) : List Byte :=
  (old ++ List.replicate (off - old.length) (byte 0xFF)).take off ++ bs ++ old.drop (off + bs.length)

/-- A flash operation has succeeded. -/
def flashWritten (w : W) (op : FlashOp) : W :=
  let f := w.c.flash
  match op with
  | .defmap =>
    let g := (f.gen + 1) % 2 ^ 32
    let w := w.setFlash { f with defects := w.c.defects.take 1790, logical := w.logicalWords, gen := g, life := w.lifeS }
    let w := w.setFld Reg.FLT_DEFMAP ⟨63, 32⟩ g
    w.setFlag Reg.FLT_DEFMAP ⟨0, 0⟩ (w.c.flashQ.contains .defmap)
  | .orderNo n => w.setFlash { f with orderNo := n }
  | .floor v => w.setFlash { f with floor := v }
  | .keys q ks =>
    let w := w.setFlash { f with keys := ks, quorum := q }
    let w := { w with c := { w.c with keys := ks } }.setFld Reg.FAB_ORDER F.FAB_ORDER_QUORUM q
    (w.setFld Reg.SEC_STATUS F.SEC_STATUS_KEYS ks.length).secRecord 5 0 0
  | .firmware b off bs =>
    let old := if off = 0 then [] else w.slot (b == 1)
    let new := splice old off bs
    let w := w.setFlash (if b = 1 then { f with slotB := new } else { f with slotA := new })
    if off = 0 then w.setBad (b == 1) true else w
  | .crash bs => w.setFlash { f with crash := bs }
  | .mgmt ws => w.setFlash { f with mgmt := ws }

/-- A flash operation has failed: a defect map is kept in memory (R368), security state is reported (R416). -/
def flashFailed (w : W) (op : FlashOp) : W :=
  match op with
  | .defmap =>
    let w := (w.countErr Reg.FLT_DEFMAP_FAIL).capRecord 6 0 (w.fld Reg.FLT_DEFMAP ⟨63, 32⟩) none
    w.setFlag Reg.FLT_DEFMAP ⟨0, 0⟩ (w.c.flashQ.contains .defmap)
  | .firmware _ _ _ => { w with c := { w.c with mgmt := { w.c.mgmt with writing := false } } }
  | .crash _ => w
  | .mgmt _ => w
  | _ => w.secRecord 6 0 0

/-- FLASH_OP_DONE: the operation in progress has ended. -/
def doFlashDone (w : W) (ok : Bool) : W :=
  match w.c.flashQ with
  | [] => w
  | op :: rest =>
    let w := { w with c := { w.c with flashQ := rest } }
    (if ok then w.flashWritten op else w.flashFailed op).pend 297

end W

/-! ### The meanings -/

/-- ATTEST: SEC_MB_CTL is written with GO and OP 0x01. -/
def execAttest (len : Nat) (requester : Word) (s : State) : Host.Outcome State Fault Refusal :=
  runAux s fun w => w.mailboxGo 1 len requester

/-- GET_CERT. -/
def execGetCert (len : Nat) (requester : Word) (s : State) : Host.Outcome State Fault Refusal :=
  runAux s fun w => w.mailboxGo 2 len requester

/-- UNLOCK. -/
def execUnlock (len : Nat) (requester : Word) (s : State) : Host.Outcome State Fault Refusal :=
  runAux s fun w => w.mailboxGo 3 len requester

/-- MAILBOX_OP_DONE. -/
def execMailboxOpDone (s : State) : Host.Outcome State Fault Refusal := runAux s fun w => w.doMailboxDone

/-- RELOCK. -/
def execRelock (s : State) : Host.Outcome State Fault Refusal := runAux s fun w => w.doRelock

/-- SEC_FLOOR_WRITE. -/
def execSecFloorWrite (v requester : Word) (s : State) : Host.Outcome State Fault Refusal :=
  runAux s fun w => w.doFloorWrite v requester

/-- ID_KEY_READY. -/
def execIdKeyReady (s : State) : Host.Outcome State Fault Refusal := runAux s fun w => w.doIdReady

/-- FLASH_OP_DONE. -/
def execFlashOpDone (ok : Bool) (s : State) : Host.Outcome State Fault Refusal := runAux s fun w => w.doFlashDone ok

end Sys2Proof.Machine
end

