-- ==== Sys2Proof/Machine/Resets.lean ====
section
/-! DEFINITION. Reset domains (16_reset_and_recovery.md R373 to R378), the orders of resets, the device warm reset and the
out-of-service latch (R379 to R382), watchdogs of the control processors (R375), snapshots and dumps (R383 to R388). -/

namespace Sys2Proof.Machine

/-- A domain lies inside another (R373). -/
def Domain.inside (d outer : Domain) : Bool :=
  match outer, d with
  | .warm, .warm => false
  | .warm, _ => true
  | .half h, .core p _ => halfOf p == h
  | .half h, .gallery p => halfOf p == h
  | .half h, .landing p => halfOf p == h
  | .half h, .port q => q / 32 == h
  | .gallery p, .core p' _ => p == p'
  | _, _ => false

/-- The bits of a row's RW fields. -/
def RegRow.rwMask (r : RegRow) : Nat :=
  r.fields.foldl (fun (a : Nat) f => if f.acc == .rw then a ||| (2 ^ (f.hi + 1) - 2 ^ f.lo) else a) 0

/-- The registers a warm reset keeps whole (R374): the ND block, FAB_ORDER, the reset block but for RST_CTL, the watchdogs
and the snapshot state, the enabled, failed and fenced parts of memory. -/
def warmKeeps (k : Nat) : Bool :=
  (decide (0x600000 ≤ k) && decide (k < 0x700000)) || k == Reg.FAB_ORDER ||
    (decide (Reg.RST_STATUS ≤ k) && decide (k < Reg.CP_WD 0)) ||
    (decide (Reg.SNAP_CFG ≤ k) && decide (k ≤ Reg.DUMP_STATUS) && k != Reg.SNAP_STATUS && k != Reg.SNAP_CTL &&
      k != Reg.SNAP_TIME) ||
    k == Reg.MEM_STACKS || k == Reg.MEM_DDR || (List.range 16).any fun m => k == Reg.MEMC_FENCE m

/-- The registers whose RW fields a warm reset keeps (R374): interleave regions, MEMC_CFG, the SCL and fabric common blocks,
FAB_PORT_CFG and FAB_PORT_VLCRED, FLT_CFG, ST_CFG, ST_SEED. -/
def warmKeepsRw (k : Nat) : Bool :=
  ((List.range 16).any fun m => k == Reg.MEM_IRGN_LO m || k == Reg.MEM_IRGN_HI m || k == Reg.MEMC_CFG m) ||
    (decide (0x904000 ≤ k) && decide (k < 0x905000)) || (decide (0xC00000 ≤ k) && decide (k < 0xD00000)) ||
    ((List.range 64).any fun q => k == Reg.FAB_PORT_CFG q || k == Reg.FAB_PORT_VLCRED q) ||
    k == Reg.FLT_CFG || k == Reg.ST_CFG || k == Reg.ST_SEED

/-- What a warm reset leaves of the register at `k`. -/
def warmValue (f : Fuses) (k : Nat) (v : Word) : Option Word :=
  if warmKeeps k then some v
  else if warmKeepsRw k then
    match regAt k with
    | some (r, _, _) =>
      let m := w64 r.rwMask
      some ((regReset f k &&& ~~~m) ||| (v &&& m))
    | none => none
  else none

namespace W

/-- A class 0x12 record (R389): INFO [3:0] CAUSE, [24:16] unit. -/
def rstRecord (w : W) (kind unit sev : Nat) (aux : Word) : W :=
  w.record { cls := 0x12, kind := kind, sev := sev, aux := aux,
             info := w64 (w.fld Reg.RST_STATUS F.RST_STATUS_CAUSE + unit % 512 * 2 ^ 16) }

def uptime (w : W) : Nat := (w.reg Reg.RST_UPTIME).toNat

def setResets (w : W) (rs : List ResetRun) : W := { w with c := { w.c with resets := rs } }

/-- A reset is ordered (R378): merged into one of the same unit, ignored and counted inside a domain that resets; else it
begins, and takes in the resets inside its domain. -/
def orderReset (w : W) (d : Domain) (f : W → W) : W :=
  if w.c.resets.any fun r => r.dom == d then w
  else if w.c.resets.any fun r => d.inside r.dom then w.count Reg.RST_MERGED 1
  else f ((w.setResets (w.c.resets.filter fun r => !r.dom.inside d)).startReset d)

/-! ### What the resets of units do -/

/-- Nondeterminism events of gallery `p` that a reset loses (R329). -/
def loseNd (w : W) (p : Nat) : W :=
  if w.fld (Reg.GND_PEND p) ⟨31, 0⟩ = 0 then w else w.setFlag Reg.ND_STATUS F.ND_STATUS_LOST true

/-- The agent with code `a` of gallery `p` is reset: its pipeline, status, info and hang registers, its queues and
connections (R373). -/
def resetCore (w : W) (p a : Nat) : W :=
  let w := w.coldAgent p a
  let w := w.setAgent p a { w.agent p a with drain := [] }
  let w := w.resetRegs (Reg.Q_HANG_INFO p a) (Reg.Q_HANG_TGT p a + 8)
  if a < 8 then
    let n := a
    ((w.setMc p n {}).resetRegs (Reg.MC_STATUS p n) (Reg.MC_STATUS p n + 4)).resetRegs (Reg.MC_CHECK_INFO p n)
      (Reg.MC_CNT_CLR p n)
  else if a < 12 then
    let n := a - 8
    ((w.setVc p n {}).resetRegs (Reg.VC_STATUS p n) (Reg.VC_STATUS p n + 4)).resetRegs (Reg.VC_CHECK_INFO p n)
      (Reg.VC_CNT_CLR p n)
  else if a < 14 then
    let n := a - 12
    ((w.setSc p n {}).resetRegs (Reg.SC_STATUS p n) (Reg.SC_STATUS p n + 4)).resetRegs (Reg.SC_FAULT_INFO p n)
      (Reg.SC_CNT_CLR p n)
  else if a = 14 then (w.setSu p {}).resetRegs (Reg.SU_FAULT_INFO p) (Reg.SU_FAULT_INFO p + 8)
  else (w.setDm p {}).resetRegs (Reg.DM_FAULT_INFO p) (Reg.DM_FAULT_ADDR p + 8)

/-- The island of gallery `p` is reset (R373): every agent, the hall and local memories zero, the step and
nondeterminism registers; GAL_FENCE, GAL_RST and GPWR stay. -/
def resetIsland (w : W) (p : Nat) : W :=
  let w := w.loseNd p
  let w := (List.range 16).foldl (fun w a => w.setAgent p a {}) w
  let w := (List.range 8).foldl (fun w n => w.setMc p n {}) w
  let w := (List.range 4).foldl (fun w n => w.setVc p n {}) w
  let w := [0, 1].foldl (fun w n => w.setSc p n {}) w
  let w := ((w.setDm p {}).setSu p {}).setHall p {}
  let w := (w.resetRegs (galBase p) (galBase p + 0x3100)).resetRegs (galBase p + 0x3200) (galBase p + 0x40000)
  let w := w.zero (galKey p 0) (galKey p windowTop)
  { w with c := { w.c with wasReset := p :: w.c.wasReset.filter (· ≠ p) } }

/-- Landing `l` is reset (R373): flight state, LND_FAULT_INFO, generations; both banks and LND_CFG stay. -/
def resetLanding (w : W) (l : Nat) : W :=
  let w := (w.setLanding l {}).resetRegs (Reg.LND_FLT_GEN l 0) (Reg.LND_FLT_GEN l 16)
  let w := w.resetRegs (Reg.LND_FAULT_INFO l) (Reg.LND_FAULT_INFO l + 8)
  [F.LND_STATUS_FAULT, F.LND_STATUS_FLAG_PEND, F.LND_STATUS_STALL].foldl (fun w f => w.setFlag (Reg.LND_STATUS l) f false) w

/-- A gallery reset of a spare that receives a move or a remap (R378): the move is given up, the attempt fails. -/
def dropReceiver (w : W) (p : Nat) : W :=
  let w := (w.c.seq.moves.filter fun m => m.dst == p).foldl (fun w m => w.dropMove m false) w
  match w.c.seq.remaps.find? fun r => r.spare == p with
  | none => w
  | some r =>
    let f := fun (x : Remap) => if x.g = r.g then { x with spare := 0x1FF } else x
    ((w.setSeq { w.c.seq with remaps := w.c.seq.remaps.map f }).spareFails p 3).remap

/-- CORE_RESET: GAL_RST.CORE is written (R373). -/
def doCoreReset (w : W) (p mask : Nat) (requester : Word) : W :=
  if !w.flag (Reg.GAL_FENCE p) F.GAL_FENCE_FENCED && !w.seqIdle then w.recordAccess 2 (Reg.GAL_RST p) requester
  else (setBitsBelow 16 mask).foldl (fun w a => w.orderReset (.core p a) id) w

/-- GALLERY_RESET: GAL_RST.GAL is written. -/
def doGalleryReset (w : W) (p : Nat) : W := w.orderReset (.gallery p) fun w => w.dropReceiver p

/-- LND_RESET. -/
def doLandingReset (w : W) (l : Nat) : W := w.orderReset (.landing l) id

/-- HALF_RESET (R373, R377): the stair ports of both halves are disabled, a step in progress rolls back, galleries,
landings, edge router and ports of the half are reset. -/
def doHalfReset (w : W) (h : Nat) : W :=
  w.orderReset (.half h) fun w =>
    let w := w.rollbackIf
    let w := (List.range 24).foldl (fun w i =>
      let e := stairEnds (i / 2) (i % 2)
      (w.setPortEnabled e.1.1 e.1.2 false).setPortEnabled e.2.1 e.2.2 false) w
    let w := (List.range 156).foldl (fun w i =>
      let p := 156 * h + i
      let w := (w.setLanding p {}).resetRegs (lndBase p) (lndBase p + 0x4000)
      (w.fenceIsland p).resetIsland p) w
    let w := (w.setRouter h {}).resetRegs (0xA00000 + 0x100000 * h) (0xB00000 + 0x100000 * h)
    let w := (List.range 16).foldl (fun w b => w.setBar (16 * h + b) {}) w
    (List.range 32).foldl (fun w i => (w.clearPort (32 * h + i)).setPortState (32 * h + i) 0) w

/-! ### The device warm reset (R374, R379, R380) -/

/-- The lasers of the first `n` engines go off: OE0 to OE7 out of service (R380), all nine when every block is held in reset
(R342, R420, R430). -/
def lasersOff (w : W) (n : Nat) : W := { w with c := { w.c with power := { w.c.power with engines := List.range n } } }

/-- FLT_PSTATE as fuses, defect map and logical map give it (R369, R372). -/
def mapStates (w : W) : W :=
  (List.range 312).foldl (fun w p =>
    let bad := fun (t : Nat) => match w.defEntry t p with | some e => e.state == 2 | none => false
    w.setPstate p (if inMask w.c.fuses.galOff p then 6 else if bad 2 || w.c.lndOff.contains p then 5 else if bad 1 then 4
      else if (w.logicalOf p).isSome then 0 else 1)) w

/-- The vestibule restart reads the flash (R369, R407, R409, R410, R460): maps, key set, order number, floor, boot counter,
management settings; the debug level is 0 and the nonce new. The boot ROM writes the
boot counter at once. -/
def readFlash (w : W) : W :=
  let f := w.c.flash
  let w := { w with c := { w.c with defects := f.defects, keys := f.keys } }
  let w := w.setReg Reg.FLT_DEFMAP (w64 (f.gen * 2 ^ 32 + f.defects.length * 2 ^ 16))
  let w := if f.logical.isEmpty then w else w.setRegWords (Reg.FLT_MAP 0) f.logical
  let w := ((w.setReg Reg.FAB_ORDER_NO (w64 f.orderNo)).setReg Reg.SEC_FLOOR (w64 f.floor)).setReg Reg.SEC_BOOTS
    (w64 (f.boots + 1))
  let w := w.setReg Reg.SEC_STATUS (w64 (f.keys.length * 2 ^ 8 + f.badA.toNat * 2 ^ 4 + f.badB.toNat * 2 ^ 3))
  let w := match f.mgmt with
    | [a, b, c, d] => ((w.setReg Reg.MGMT_CFG a).setReg Reg.MGMT_IP4 b).setRegWords (Reg.MGMT_DEST 0) [c, d]
    | _ => w
  (w.setFlash { f with boots := f.boots + 1 }).newNonce

/-- Safe state (R342): every block is held in reset, CP0 and CP3 answer; FAILSTEP names the step. -/
def safeState (w : W) (step : Nat) : W :=
  let w := (w.setBootState 4).setFld Reg.BOOT_STATUS F.BOOT_STATUS_FAILSTEP step
  { w with c := { w.c with held := true } }.lasersOff 9

/-- The boot ROM chooses a slot, or there is none (R407). -/
def chooseSlot (w : W) : Bool × W :=
  match w.bootSlot 3 with
  | (none, w) => (false, (w.secRecord 1 0 0).safeState 2)
  | (some (b, _), w) =>
    let first := (w.choice false).map (·.1)
    (true, (w.setFlag Reg.SEC_STATUS F.SEC_STATUS_SLOT b).setFlag Reg.SEC_STATUS F.SEC_STATUS_FALLBACK (first != some b))

/-- A copy to the crash area, or a dump that is written to it, is cut off: no header stands there (R388). -/
def cutCrash (w : W) : W :=
  let copying := match w.c.flashQ.head? with | some (.crash _) => true | _ => false
  let direct := w.c.dump.isSome && w.reg Reg.DUMP_ADDR == 0
  w.when (copying || direct) fun w => w.setFlash { w.c.flash with crash := [] }

/-- Everything a warm reset resets is at its reset value (R374). Security state and maps that wait for the flash are
written first, firmware and dump copies are abandoned (R454; the first half is a DESIGN CHOICE). -/
def warmClear (w : W) : W :=
  let w := w.cutCrash
  let w := (w.c.flashQ.filter FlashOp.ahead).foldl (fun w op => w.flashWritten op) w
  let c := w.c
  let lifted := setBitsBelow 8 (w.fld Reg.FAB_LATCH F.FAB_LATCH_LIFTED)
  let regs : Tbl Word := c.regs.filterMap fun e => (warmValue c.fuses e.1 e.2).map fun v => (e.1, v)
  let kept : Chip :=
    { fuses := c.fuses, time := c.time, powered := c.powered, ephyRst := c.ephyRst, dimms := c.dimms,
      passAt := c.passAt, passes := c.passes,
      ports := c.ports.map fun e => (e.1, { named := e.2.named, dir := e.2.dir, ord := e.2.ord, replaced := e.2.replaced }),
      mctl := c.mctl.map fun e => (e.1, { lost := e.2.lost, weak := e.2.weak }),
      flash := c.flash, peers := c.peers, mapGen := c.mapGen, lndOff := c.lndOff, out := c.out, freeCtr := c.freeCtr,
      recQ := [], modRun := [] }
  let regs := regs.filter fun e => regReset c.fuses e.1 != e.2
  let w := { w with c := { kept with regs := regs } }.setFlag Reg.DUMP_STATUS F.DUMP_STATUS_BUSY false
  -- the roles of the fabric ports are assigned only at cold reset (R253)
  let w := kept.ports.foldl (fun w e => w.setFld (Reg.FAB_PORT_STATUS e.1) F.FAB_PORT_STATUS_DIR e.2.dir) w
  let w := (List.range 16).foldl (fun w m =>
    let v := w.reg (Reg.MEMC_FENCE m)
    w.when (if m < 8 then v.toNat == 2 ^ 64 - 1 else v.toNat != 0) fun w =>
      w.setFlag (Reg.MEMC_STATUS m) F.MEMC_STATUS_FENCED true) w
  let w := (List.range 312).foldl (fun w p => ((w.fenceIsland p).zero (galKey p 0) (galKey p windowTop)).islandOff p) w
  let w := w.zero (cpKey 0 0) (cpKey 4 0)
  (w.latchesSeen lifted).readFlash.mapStates

/-- Ports and the coherent link begin to train (R379, R395). -/
def trainAll (w : W) : W :=
  let w := (List.range 64).foldl (fun w q => w.portTrain q) w
  if w.flag Reg.SCL_CFG F.SCL_CFG_EN then
    (w.setHost { w.c.host with train := .lock, missed := false }).setSclState 1
  else w

/-- A device warm reset starts with a cause (R379, R380): its start is entered, three within 600 s end in the
out-of-service state; else the reset is in progress until its completion. -/
def startWarm (w : W) (cause : Nat) : W :=
  let now := w.uptime
  let old := (List.range 4).map fun i => (w.reg (Reg.RST_HIST i)).toNat
  let n := 1 + (old.filter fun t => t != 0 && decide (now ≤ t + 600000000000)).length
  let w := w.warmClear
  let w := w.setRegWords (Reg.RST_HIST 0) ((now :: old.take 3).map w64)
  let w := (w.setFld Reg.RST_STATUS F.RST_STATUS_CAUSE cause).setFld Reg.RST_STATUS ⟨7, 4⟩ n
  let (ok, w) := w.chooseSlot
  if !ok then w
  else if 3 ≤ n then
    let seq := (w.fld Reg.RST_STATUS F.RST_STATUS_OOS_SEQ + 1) % 2 ^ 16
    let w := (w.setFlag Reg.RST_STATUS F.RST_STATUS_OOS true).setFld Reg.RST_STATUS F.RST_STATUS_OOS_SEQ seq
    let w := (w.setBootState 5).setFld Reg.BOOT_STATUS F.BOOT_STATUS_STAGE 3
    ({ w with c := { w.c with held := true } }.lasersOff 8).rstRecord 0xA 0 5 0
  else ((w.setFld Reg.BOOT_STATUS F.BOOT_STATUS_STAGE 3).startReset .warm).trainAll

/-- A device warm reset that the reset controller starts on its own (R375, R376, R384, R387): the snapshot is latched
first, and a dump in progress is waited for. -/
def selfWarm (w : W) (cause : Nat) : W :=
  if w.c.resets.any (fun r => r.dom == .warm) || w.c.warmWait.isSome then w
  else
    let w := w.when (w.flag Reg.SNAP_CFG F.SNAP_CFG_RESET) fun w => w.snapLatch 5 0 false
    if w.c.dump.isSome then { w with c := { w.c with warmWait := some cause } } else w.startWarm cause

/-- DEVICE_WARM_RESET (R373, R378, R396): by command it is refused before READY; a warm reset in progress takes it in. -/
def doWarmReset (w : W) (cause : Nat) (requester : Word) : W :=
  let st := w.fld Reg.BOOT_STATUS F.BOOT_STATUS_STATE
  if w.c.resets.any fun r => r.dom == .warm then w
  else if cause = 1 ∧ (st = 0 ∨ 4 ≤ st) then w.recordAccess 2 Reg.RST_CTL requester
  else if cause = 3 ∨ cause = 4 then w.selfWarm cause
  else w.startWarm cause

/-! ### Watchdogs of the control processors (R375) -/

def setKick (w : W) (n : Nat) : W := { w with c := { w.c with kicks := Tbl.set (fun _ => 0) w.c.kicks n w.uptime } }

/-- CP_WD_ENABLE: EN is set with a period. -/
def doWdEnable (w : W) (n period : Nat) : W :=
  ((w.setFlag (Reg.CP_WD n) F.CP_WD_EN true).setFld (Reg.CP_WD n) F.CP_WD_PERIOD period).setKick n

/-- CP_WD_EXPIRY: a period has passed since the last KICK. -/
def doWdExpiry (w : W) (n : Nat) : W :=
  let period := max 1 (w.fld (Reg.CP_WD n) F.CP_WD_PERIOD) * 1000000
  let busy := w.c.resets.any (fun r => r.dom == .warm) || w.c.warmWait.isSome
  if !w.flag (Reg.CP_WD n) F.CP_WD_EN || busy || decide (w.uptime < Tbl.get (fun _ => 0) w.c.kicks n + period) then w
  else (w.rstRecord 0xB n 5 0).selfWarm 3

/-! ### Snapshots (R383 to R385) -/

/-- SNAP_TRIGGER: a source of R384, when SNAP_CFG enables it. -/
def doSnapTrigger (w : W) (src : Nat) : W :=
  let on := match src with
    | 1 => w.flag Reg.SNAP_CFG F.SNAP_CFG_FAULT
    | 2 => w.flag Reg.SNAP_CFG F.SNAP_CFG_CMD
    | 3 => w.flag Reg.SNAP_CFG F.SNAP_CFG_ATTN
    | 4 => w.flag Reg.SNAP_CFG F.SNAP_CFG_FAB_IN
    | 5 => w.flag Reg.SNAP_CFG F.SNAP_CFG_RESET
    | _ => false
  if on then w.snapLatch src (if src = 1 then bits (w.reg Reg.FLT_ESN) 31 0 else 0) false else w

/-- SNAP_REARM: ignored while a dump runs. -/
def doRearm (w : W) : W :=
  if w.c.dump.isSome then w else { w with c := { w.c with snap := none } }.setReg Reg.SNAP_STATUS 0

/-- SNAP_LATCH_AT_T: the first cycle at or after T (R283, R385). -/
def doLatchAtT (w : W) : W :=
  match w.c.snapAt with
  | none => w
  | some t => if t ≤ w.c.time then { w with c := { w.c with snapAt := none } }.snapLatch 4 0 false else w

/-! ### Dumps (R386 to R388) -/

/-- The bytes of a dump. The header is as R386 lays it out; which blocks follow and the data of their entries are not
stated and are free (log entry 1). -/
def dumpBytes (w : W) (d : Dump) : List Byte × W :=
  let (x, w) := w.draw
  let n := 64 * (bits x 31 0 % 131068)
  let (body, w) := w.drawBytes n
  let s := w.c.snap
  let hd := leBytes 2 0x4455 ++ [byte 1, byte ((s.map (·.source)).getD 0)] ++ leBytes 4 ((s.map (·.esn)).getD 0) ++
    leBytes 8 (w.reg Reg.SNAP_TIME).toNat ++ leBytes 8 ((s.map (·.uptime)).getD 0) ++ leBytes 8 ((s.map (·.step)).getD 0) ++
    leBytes 4 (bits x 63 32) ++ leBytes 4 d.noAnswer.length ++ leBytes 4 (256 + n) ++ leBytes 2 w.selfDev ++
    List.replicate 206 0
  (hd ++ leBytes 4 (crc32c hd) ++ body, w)

/-- DUMP_READ_TIMEOUT: block `k` has not answered within 64 µs. -/
def doDumpReadTimeout (w : W) (k : Nat) : W :=
  match w.c.dump with
  | none => w
  | some d =>
    if d.noAnswer.contains k then w
    else { w with c := { w.c with dump := some { d with noAnswer := d.noAnswer ++ [k] } } }.setFld Reg.DUMP_STATUS
      F.DUMP_STATUS_NOANSWER (min 0xFFFF (d.noAnswer.length + 1))

/-- DUMP_COMPLETE: the dump is in memory, or in the crash area when memory does not take it; with FLASH set it is copied
there. A warm reset that waits for it starts. -/
def doDumpComplete (w : W) : W :=
  match w.c.dump with
  | none => w
  | some d =>
    let (bs, w) := w.dumpBytes d
    let a := w.reg Reg.DUMP_ADDR
    let (bad, w) := if a = 0 then (true, w)
      else
        let (r, w') := w.farWrite none (w64 0x1F0) (w.loc a) bs
        if r.isSome then (true, w) else (false, w')
    let w := { w with c := { w.c with dump := none } }
    let w := (w.setFlag Reg.DUMP_STATUS F.DUMP_STATUS_BUSY false).setFlag Reg.DUMP_STATUS F.DUMP_STATUS_IN_FLASH bad
    let w := if bad then w.setFlash { w.c.flash with crash := bs }
      else w.when (w.flag Reg.DUMP_CFG F.DUMP_CFG_FLASH) fun w => w.flashPut (.crash bs)
    let w := (w.rstRecord 0xC 0 0 (w.reg Reg.DUMP_STATUS)).pend 295
    match w.c.warmWait with
    | some cause => { w with c := { w.c with warmWait := none } }.startWarm cause
    | none => w

/-- DUMP_WAIT_TIMEOUT: the warm reset proceeds without the end of the dump. -/
def doDumpWait (w : W) : W :=
  match w.c.warmWait with
  | some cause => { w with c := { w.c with warmWait := none } }.startWarm cause
  | none => w

end W

/-! ### The meanings -/

/-- CORE_RESET. -/
def execCoreReset (p mask : Nat) (requester : Word) (s : State) : Host.Outcome State Fault Refusal :=
  runOn (galOk p) s fun w => w.doCoreReset p mask requester

/-- GALLERY_RESET. -/
def execGalleryReset (p : Nat) (s : State) : Host.Outcome State Fault Refusal := runOn (galOk p) s fun w => w.doGalleryReset p

/-- LND_RESET. -/
def execLndReset (l : Nat) (s : State) : Host.Outcome State Fault Refusal := runOn (galOk l) s fun w => w.doLandingReset l

/-- HALF_RESET. -/
def execHalfReset (h : Nat) (s : State) : Host.Outcome State Fault Refusal :=
  runOn (decide (h < 2)) s fun w => w.doHalfReset h

/-- DEVICE_WARM_RESET. -/
def execDeviceWarmReset (cause : Nat) (requester : Word) (s : State) : Host.Outcome State Fault Refusal :=
  runAux s fun w => w.doWarmReset cause requester

/-- CP_WD_ENABLE. -/
def execCpWdEnable (n period : Nat) (s : State) : Host.Outcome State Fault Refusal :=
  if cpOk n then runAux s fun w => w.doWdEnable n period else .fault .noSuchUnit

/-- CP_WD_KICK. -/
def execCpWdKick (n : Nat) (s : State) : Host.Outcome State Fault Refusal :=
  if cpOk n then runAux s fun w => w.setKick n else .fault .noSuchUnit

/-- CP_WD_EXPIRY. -/
def execCpWdExpiry (n : Nat) (s : State) : Host.Outcome State Fault Refusal :=
  if cpOk n then runAux s fun w => w.doWdExpiry n else .fault .noSuchUnit

/-- SNAP_TRIGGER. -/
def execSnapTrigger (source : Nat) (s : State) : Host.Outcome State Fault Refusal := runAux s fun w => w.doSnapTrigger source

/-- SNAP_REARM. -/
def execSnapRearm (s : State) : Host.Outcome State Fault Refusal := runAux s fun w => w.doRearm

/-- SNAP_LATCH_AT_T. -/
def execSnapLatchAtT (s : State) : Host.Outcome State Fault Refusal := runAux s fun w => w.doLatchAtT

/-- DUMP_GO. -/
def execDumpGo (s : State) : Host.Outcome State Fault Refusal := runAux s fun w => w.startDump

/-- DUMP_READ_TIMEOUT. -/
def execDumpReadTimeout (k : Nat) (s : State) : Host.Outcome State Fault Refusal := runAux s fun w => w.doDumpReadTimeout k

/-- DUMP_COMPLETE. -/
def execDumpComplete (s : State) : Host.Outcome State Fault Refusal := runAux s fun w => w.doDumpComplete

/-- DUMP_WAIT_TIMEOUT. -/
def execDumpWaitTimeout (s : State) : Host.Outcome State Fault Refusal := runAux s fun w => w.doDumpWait

/-- RST_CNT_CLR (R389). -/
def execRstCntClr (v : Word) (s : State) : Host.Outcome State Fault Refusal :=
  runAux s fun w => w.clearCounters Reg.RST_MERGED 2 v

/-- SCL_DOWN_TIMEOUT (R294, R375): the link failed in service and has not come back; CP1 orders a device warm reset. -/
def execSclDownTimeout (s : State) : Host.Outcome State Fault Refusal :=
  run s fun w =>
    if w.sclUp ∨ ¬ w.flag Reg.SCL_CFG F.SCL_CFG_EN ∨ ¬ w.flag Reg.SCL_FAULT_INFO F.SCL_FAULT_INFO_VALID ∨
        8 ≤ w.fld Reg.SCL_FAULT_INFO F.SCL_FAULT_INFO_KIND ∨
        w.fld Reg.BOOT_STATUS F.BOOT_STATUS_STATE = 0 ∨ w.fld Reg.BOOT_STATUS F.BOOT_STATUS_STATE = 3 then w
    else w.doWarmReset 2 0

end Sys2Proof.Machine
end

