-- ==== Sys2Proof/Machine/Boot.lean ====
section
/-! DEFINITION. Bring-up (17_bring_up_and_variants.md R390 to R403; 14_self_test.md R341, R342; 19_power_clocks_thermal.md
R420): the cold sequence with the power-on test, what link qualification and the broadcast lead to, the boot receivers,
and the ready actions. -/

namespace Sys2Proof.Machine

/-- The row of a part in the variant table (R392, R394): LPH, stacks and engines fused off, good galleries per half and per
device. -/
def variant (part : Nat) : Option (Nat × Nat × BitVec 8 × Nat × Nat) :=
  if part = 0x2304 then some (144, 0, 0, 148, 296)
  else if part = 0x2048 then some (128, 1, 0, 132, 264)
  else if part = 0x1792 then some (112, 2, 0x88, 116, 232)
  else none

/-- Good galleries of half `h` by the fuses. -/
def goodGals (f : Fuses) (h : Nat) : Nat := ((List.range 156).filter fun i => !inMask f.galOff (156 * h + i)).length

/-- The fuse group that fails the check of R391: 1 PART, 2 LPH, 3 STK_OFF, 4 ENG_OFF, 5 GAL_OFF (the codes are a DESIGN
CHOICE). -/
def badFuses (f : Fuses) : Option Nat :=
  match variant f.part with
  | none => some 1
  | some (lph, stks, engs, half, _) =>
    if f.lph ≠ lph then some 2
    else if popCount 8 f.stkOff.toNat ≠ stks then some 3
    else if popCount 8 f.engOff.toNat ≠ popCount 8 engs.toNat then some 4
    else if goodGals f 0 < half ∨ goodGals f 1 < half then some 5
    else none

namespace W

/-! ### Result entries of the power-on test (R340, R341) -/

/-- An element's entry with ORIGIN 0: what the spec gives no value for is free (log entry 1). A failure raises its record
(R342). -/
def powerOnEntry (w : W) (elem unit result : Nat) : W :=
  let (a, w) := w.draw
  let (b, w) := w.draw
  let (key, w) := w.draw
  let (d, w) := w.draw
  let r : ElemResult := if result = 0 then (if isMarch elem then {} else { sig := a, expected := a })
    else { sig := a, expected := if isMarch elem then 0 else b, detail := key }
  let r := { r with duration := if result = 4 then 0 else bits d 31 0 % (elemBudget elem * 11 / 10 + 1) }
  let n := w.fld Reg.ST_LOG_HEAD ⟨31, 0⟩ % 8192
  let w := w.resultEntry { scope := 0xFF, unit := 0, origin := 0, elems := [] } elem unit result 0 (elemCoverage elem) r
    (w.elemKey elem unit 0 0 key) (elemBudget elem) 0
  if result = 1 ∨ result = 2 then
    w.record { cls := 0x0E, kind := result, sev := 3, info := w.reg (Reg.ST_LOG (8 * n)),
               aux := w.reg (Reg.ST_LOG (8 * n + 1)) }
  else w

/-- RESULT of an element by the failures found. -/
def foundResult (fails : List (Nat × Nat × Nat)) (elem unit : Nat) : Nat :=
  match fails.find? fun f => f.1 == elem && f.2.1 == unit with | some f => f.2.2 | none => 0

/-- A unit is DEFECT in the map. -/
def isDefect (w : W) (utype unit : Nat) : Bool :=
  match w.defEntry utype unit with | some e => e.state == 2 | none => false

/-- One element on one unit of the power-on test: skipped when `skip`, else logged by what is found; whether it failed. -/
def powerOnElem (w : W) (fails : List (Nat × Nat × Nat)) (skip : Bool) (elem unit : Nat) : Bool × W :=
  let r := if skip then 4 else foundResult fails elem unit
  (r == 1 || r == 2, w.powerOnEntry elem unit r)

/-- Elements 0x00 to 0x0B on gallery `p` (R342): a failing gallery is DEFECT, a good one has passed in its group. -/
def galleryPowerOn (w : W) (fails : List (Nat × Nat × Nat)) (p : Nat) : W :=
  if inMask w.c.fuses.galOff p then w
  else
    let skip := w.isDefect 1 p
    let (bad, w) := (List.range 12).foldl (fun (x : Bool × W) e =>
      let (b, w) := x.2.powerOnElem fails skip e p
      (x.1 || b, w)) (false, w)
    if skip then w
    else if bad then (w.enterDefect 1 p 0x0E 1 0 0).setPstate p 4
    else { w with c := { w.c with passAt := Tbl.set (fun _ => 0) w.c.passAt p (1 + p / 78), passes := 4 } }

/-- Element 0x10 on landing `l`: a failing landing is fenced with its gallery. -/
def landingPowerOn (w : W) (fails : List (Nat × Nat × Nat)) (l : Nat) : W :=
  let skip := w.isDefect 2 l
  let (bad, w) := w.powerOnElem fails skip 0x10 l
  if bad then ((w.enterDefect 2 l 0x0E 1 0 0).enterDefect 1 l 0x0E 1 0 0).setPstate l 5
  else if skip then w.setPstate l 5 else w

/-- Phase 6 (R342): stair link pairs by row, edge routers, edge switches; the rows whose element 0x11 failed. -/
def stairPowerOn (w : W) (fails : List (Nat × Nat × Nat)) : List Nat × W :=
  (List.range 12).foldl (fun (x : List Nat × W) r =>
    let skip := x.2.isDefect 4 (2 * r) && x.2.isDefect 4 (2 * r + 1)
    let (bad, w) := x.2.powerOnElem fails skip 0x11 r
    if bad then (x.1 ++ [r], (w.enterDefect 4 (2 * r) 0x0E 1 0 0).enterDefect 4 (2 * r + 1) 0x0E 1 0 0)
    else (x.1, w)) ([], w)

def edgePowerOn (w : W) (fails : List (Nat × Nat × Nat)) : W :=
  let w := [0, 1].foldl (fun w h =>
    let (bad, w) := w.powerOnElem fails (w.isDefect 8 h) 0x12 h
    if bad then w.enterDefect 8 h 0x0E 1 0 0 else w) w
  (List.range 4).foldl (fun w e =>
    let (bad, w) := w.powerOnElem fails (w.isDefect 9 e) 0x13 e
    if bad then w.enterDefect 9 e 0x0E 1 0 0 else w) w

/-! ### Mesh, memory, maps -/

/-- Landings are enabled with their ports: a port stays disabled toward a fenced landing and on a DEFECT link (R132,
R357). -/
def openLanding (w : W) (l : Nat) : W :=
  if w.landFenced l then w.setFlag (Reg.LND_CFG l) F.LND_CFG_EN false
  else
    let w := w.setFlag (Reg.LND_CFG l) F.LND_CFG_EN true
    (List.range 8).foldl (fun w i =>
      let port := i + 1
      let on := if port ≤ 5 then
          (match farEnd l port with
           | some n => !w.landFenced n && !(let u := linkUnit l port; w.isDefect u.1 u.2)
           | none => false)
        else portHere l port
      w.setPortEnabled l port on) w

/-- Every bank as maps and fences are now, and one flip (R131, R397, R402). -/
def loadTables (w : W) : W := (w.writeDetours.flipAll (1 - w.meshBank) true).writeDetours

/-- Links that fail their qualification twice are fenced and take a strike (R398). -/
def failLinks (w : W) (us : List Nat) : W :=
  us.foldl (fun w u =>
    let e := linkEnd u
    let w := (w.strike 3 u 0x08 1 0).2
    let w := w.setPortEnabled e.1 e.2 false
    let w := match farEnd e.1 e.2 with | some n => w.setPortEnabled n (portBack e.2) false | none => w
    w.capRecord 4 u 3 none) w

/-- Links and exits that fail their qualification twice (R398): the exit is removed from its list. -/
def qualify (w : W) (b : BootView) (mine : Nat → Bool) : W :=
  let w := w.failLinks (b.links.filter fun u => mine (linkEnd u).1)
  let exits := ((b.memPorts.map fun l => (1, l)) ++ (b.attach.map fun l => (2, l)) ++ (b.bridges.map fun l => (3, l)) ++
    (b.edges.map fun l => (4, l))).filter fun e => mine e.2
  { w with c := { w.c with exitsBad := (w.c.exitsBad.filter fun e => !mine e.2) ++ exits } }

/-- Every drop keeps an attach landing and every half a bridge (R398). -/
def exitsOk (w : W) : Bool :=
  (List.range 4).all (fun d => attachLandings.any fun l => dropOf l == some d && !w.exitFenced 2 l) &&
    [0, 1].all fun h => (bridgeCols h).any fun c => !w.exitFenced 3 (landAt h 11 c)

/-- A logical gallery whose physical one failed in bring-up moves to a spare, or is absent (R360, R364, R369). -/
def bootPlace (w : W) (g : Nat) : W :=
  match w.physOf g with
  | none => w
  | some p =>
    if w.pstate p = 0 ∧ w.passedAt p ≠ 0 then w
    else match w.bestSpare (halfOf p) with
      | some q => ((((w.setMapEntry g (2 ^ 15 + q)).setPstate q 0).count Reg.FLT_REMAPS 1).capRecord 1 (q + 512) p none).saveMap
      | none => (((w.setMapEntry g (2 ^ 14 + p)).capRecord 2 p w.mappedCount none)).saveMap

def bootPlaces (w : W) : W := (List.range w.logicals).foldl (fun w g => w.bootPlace g) w

/-- Memory as the defect map and training leave it (R224, R342, R398). -/
def memoryUp (w : W) (b : BootView) : W :=
  let w := (w.c.defects.filter fun e => e.state == 2 && e.utype == 5).foldl (fun w e =>
    if e.unit < 512 then w.fenceChannel (e.unit / 64) (e.unit % 64) else w) w
  let w := (List.range 4).foldl (fun w e => if w.isDefect 9 e then
    w.setFld Reg.MEM_STACKS F.MEM_STACKS_FAILED (w.fld Reg.MEM_STACKS F.MEM_STACKS_FAILED ||| 3 * 4 ^ e) else w) w
  let w := (b.channels.filter fun x => memcOk x.1 && decide (x.2 < 64)).foldl (fun w x =>
    let w := w.fenceChannel x.1 x.2
    if x.1 < 8 then w.enterDefect 5 (64 * x.1 + x.2) 0x0A 4 0 0 else w) w
  (List.range 16).foldl (fun w m =>
    let there := if m < 8 then (w.fld Reg.MEM_STACKS F.MEM_STACKS_ENABLED).testBit m
      else (w.fld Reg.MEM_DDR F.MEM_DDR_POP).testBit (m - 8)
    if !there then w
    else w.setFlag (Reg.MEMC_CFG m) F.MEMC_CFG_EN true) w

/-- A supported population (R226, R227) as POP, SIZE_GIB and TWO_DPC, of the slots whose presence line reads present and
what serial presence detect says of each: the same slots, listed modules that are all alike, one DIMM on channels 0, 2, 4
and 6, one on every channel, or two on every channel. -/
def dimmPopulation (present : Nat) (ds : List Dimm) : Option (Nat × Nat × Bool) :=
  let slots := setBitsBelow 16 present
  let on := fun (c : Nat) => (slots.filter fun k => k / 2 == c).length
  let each := (List.range 8).map on
  let read := slots.all (fun k => ds.any fun d => d.slot == k) && ds.all fun d => slots.contains d.slot
  match ds.head? with
  | none => if slots = [] then some (0, 0, false) else none
  | some d =>
    if !(read && d.listed && [16, 32, 64, 128].contains d.gib &&
        ds.all fun x => x.gib == d.gib && x.listed && x.kind == d.kind) then none
    else if each = [1, 0, 1, 0, 1, 0, 1, 0] then some (0x55, d.gib, false)
    else if each = List.replicate 8 1 then some (0xFF, d.gib, false)
    else if each = List.replicate 8 2 then some (0xFF, d.gib, true)
    else none

/-- The DDR5 population (R227): MEM_DDR, or a record when it is not supported. -/
def ddrUp (w : W) (b : BootView) : W :=
  let put := fun (w : W) (pop gib two : Nat) =>
    ((w.setFld Reg.MEM_DDR F.MEM_DDR_POP pop).setFld Reg.MEM_DDR F.MEM_DDR_SIZE_GIB gib).setFld Reg.MEM_DDR
      F.MEM_DDR_TWO_DPC two
  match dimmPopulation w.c.dimms b.dimms with
  | some (pop, gib, two) => put w pop gib two.toNat
  | none =>
    (put w 0 0 0).record { cls := 0x0A, kind := 8, sev := 3, info := w.reg (Reg.MEMC_ERR_INFO 8),
                           aux := w.reg (Reg.MEMC_ERR_ADDR 8) }

/-- MEMC_STATUS.TRAINED of every controller that serves memory: not wholly fenced, and on DDR5 populated (R227). -/
def showTrained (w : W) : W :=
  (List.range 16).foldl (fun (w : W) m =>
    let on := w.flag (Reg.MEMC_CFG m) F.MEMC_CFG_EN && !w.flag (Reg.MEMC_STATUS m) F.MEMC_STATUS_FENCED &&
      (decide (m < 8) || (w.fld Reg.MEM_DDR F.MEM_DDR_POP).testBit (m - 8))
    w.setFlag (Reg.MEMC_STATUS m) F.MEMC_STATUS_TRAINED on) w

/-- Galleries that lack a page after round 4 (R401): fenced, a strike, re-placed or absent. -/
def leaveIncomplete (w : W) (p : Nat) : W :=
  let (bad, w) := (w.capRecord 7 1 p none).strike 1 p 0x10 7 0
  let w := w.setPstate p (if bad then 4 else 3)
  { w with c := { w.c with passAt := Tbl.set (fun _ => 0) w.c.passAt p 0 } }

/-- The INFO body (R450). The manual gives its fields and its length; their places are a DESIGN CHOICE. -/
def infoBytes (w : W) : List Byte :=
  fit 32 (leBytes 4 (w.reg Reg.DEV_PART).toNat ++ leBytes 8 (w.reg Reg.DEV_SERIAL).toNat ++
    leBytes 4 (w.reg Reg.BOOT_STATUS).toNat ++ leBytes 4 (w.fld Reg.FAB_TOPO F.FAB_TOPO_SELF) ++ leBytes 4 w.runSvn ++
    leBytes 4 (w.reg Reg.FLT_ESN).toNat)

/-- START goes out on the management paths after a reset (R450, R451). -/
def startMessage (w : W) : W :=
  let w := if w.flag Reg.MGMT_CFG F.MGMT_CFG_EN then w.mgmtTell 0 0x0E w.infoBytes else w
  w.mgmtTell 1 0x0E w.infoBytes

/-- BOOT_STATUS.FABRIC (R403). -/
def showFabric (w : W) : W :=
  let qs := (List.range 64).filter fun q => w.flag (Reg.FAB_PORT_CFG q) F.FAB_PORT_CFG_EN && w.engineOn q
  let v := if qs.isEmpty then 3 else if !w.flag Reg.FAB_TOPO F.FAB_TOPO_VALID then 2
    else if qs.any fun q => w.portState q == 1 || w.portState q == 2 then 0 else 1
  w.setFld Reg.BOOT_STATUS F.BOOT_STATUS_FABRIC v

def setStage (w : W) (n : Nat) : W := w.setFld Reg.BOOT_STATUS F.BOOT_STATUS_STAGE n

/-- A component other than 0x01 and 0x02 fails its digest (R408): the slot is BAD, and CP0 orders a device warm reset. -/
def componentFails (w : W) : W :=
  let w := (w.setBad w.running true).secRecord 2 w.running.toNat w.runSvn
  w.startWarm 1

/-- The other components of the running slot match their digests, and none failed on its way (R408). -/
def componentsOk (w : W) (b : BootView) : Bool :=
  !b.badComponent && (match w.runManifest with | some m => m.matches (w.slot w.running) [3, 4, 5] | none => true)

/-! ### The cold sequence (R395, R396) -/

/-- The part at power-good: registers at reset, memory without contents (log entry 2), flash, fuses and pins as they are;
LIFE_S goes on from what the flash holds. -/
def powerGood (w : W) : W :=
  let c := w.cutCrash.c
  let fresh : Chip := { fuses := c.fuses, dimms := c.dimms, flash := { c.flash with lifeS := c.flash.life }, out := c.out,
                        freeCtr := c.freeCtr }
  let w := { w with c := fresh }.zero 0 (2 ^ 45)
  w.setFld Reg.SVC_STATUS F.SVC_STATUS_DIMM c.dimms

/-- Steps 6 to 8 and the start of the lanes, once the tests are done. -/
def coldTail (w : W) (b : BootView) : W :=
  let w := (List.range 312).foldl (fun w p => (w.fenceIsland p).islandOff p) w
  let w := (List.range 312).foldl (fun w l => w.openLanding l) w
  let w := (w.qualify b fun _ => true).loadTables.setStage 6
  if !w.exitsOk then w.safeState 6
  else if !w.componentsOk b then w.componentFails
  else
    let w := (b.incomplete.filter galOk).foldl (fun w p => w.leaveIncomplete p) w
    let w := ((w.ddrUp b).memoryUp b).showTrained.bootPlaces
    (w.setStage 9).trainAll.showFabric

/-- Step 4 lets the external Ethernet PHY out of its reset; 10 ms later firmware reaches it at MDIO address 0x01 (R479). -/
def startPhy (w : W) : W := { w with c := { w.c with ephyRst := true } }.emit (.mdio 1)

/-- COLD_RESET: the cold sequence up to step 9, by what it finds. A step before step 6 past its bound ends it (R396). -/
def doColdReset (w : W) (b : BootView) : W :=
  let w := w.powerGood.setStage 2
  let late := fun (k : Nat) => b.late == some k
  let bad := fun (e : Nat) => foundResult b.fails e 0 == 1 || foundResult b.fails e 0 == 2
  let w := (w.powerOnElem b.fails false 0x24 0).2
  if bad 0x24 then w.safeState 2
  else
    let w := (w.powerOnElem b.fails false 0x22 0).2
    if bad 0x22 then w.safeState 2
    else
      let (ok, w) := w.readFlash.chooseSlot
      if !ok then w
      else if late 1 ∨ late 2 then w.safeState (b.late.getD 2)
      else match badFuses w.c.fuses with
        | some k => ((w.setStage 3).record { cls := 0x13, kind := 0, sev := 5, info := w64 k }).safeState 3
        | none =>
          let w := (w.setStage 3).mapStates
          if late 3 then w.safeState 3 else
          let w := ((w.assignRoles.setStage 4).latchesSeen b.lifted).startPhy
          let w := ((w.powerOnElem b.fails false 0x20 0).2.powerOnElem b.fails false 0x21 0).2.startMessage
          if bad 0x20 ∨ bad 0x21 ∨ late 4 then w.safeState 4
          else
            let w := (List.range 312).foldl (fun w p => w.galleryPowerOn b.fails p) (w.setStage 5)
            let w := (List.range 312).foldl (fun w l => w.landingPowerOn b.fails l) w
            let (rows, w) := w.stairPowerOn b.fails
            let w := w.edgePowerOn b.fails
            if 4 < rows.length ∨ rows.any (fun r => [4, 5, 6, 7].contains r) ∨ late 5 then w.safeState 5
            else w.coldTail b

/-- COLD_SEQUENCE_TIMEOUT: 30 s from power-good have passed before the end (R396). -/
def doColdTimeout (w : W) : W :=
  if w.fld Reg.BOOT_STATUS F.BOOT_STATUS_STATE ≠ 0 ∨ w.fld Reg.BOOT_STATUS F.BOOT_STATUS_STAGE = 0 then w
  else
    let w := w.rstRecord 0xD 0 5 0
    w.safeState (w.fld Reg.BOOT_STATUS F.BOOT_STATUS_STAGE)

/-- POWER_LOSS (R420): every block is held in reset, the lasers are off. -/
def powerLoss (w : W) : W := { w with c := { w.c with powered := false } }.lasersOff 9

/-! ### The ready actions (R397) -/

/-- Every lane has a final state: no port trains, nor the coherent link. -/
def lanesFinal (w : W) : Bool :=
  w.c.host.train == .none && (List.range 64).all fun q => w.portState q != 1 && w.portState q != 2

/-- A unit is fenced, or a port has failed (R397). -/
def degraded (w : W) : Bool :=
  (List.range 312).any (fun p => [3, 4, 5].contains (w.pstate p)) || w.fld Reg.MEM_STACKS F.MEM_STACKS_FAILED != 0 ||
    (List.range 8).any (fun c => bits (w.reg (Reg.MEMC_FENCE (8 + c))) 1 0 != 0) || !w.c.exitsBad.isEmpty ||
    w.c.defects.any (fun e => e.state == 2 && (e.utype == 3 || e.utype == 4 || e.utype == 8 || e.utype == 9)) ||
    (List.range 64).any fun q => w.portState q == 7

/-- The galleries that carry logical numbers enter service: powered, their fences lifted, EN of their agents set (R357,
R401). -/
def enterService (w : W) (p : Nat) : W :=
  let w := (w.liftFence p).islandOn p 8
  let w := (List.range 8).foldl (fun w n => w.setFlag (Reg.MC_CFG p n) F.MC_CFG_EN true) w
  let w := (List.range 4).foldl (fun w n => w.setFlag (Reg.VC_CFG p n) F.VC_CFG_EN true) w
  let w := [0, 1].foldl (fun w n => w.setFlag (Reg.SC_CFG p n) F.SC_CFG_EN true) w
  (w.setFlag (Reg.DM_CFG p) F.DM_CFG_EN true).setFlag (Reg.SU_CFG p) ⟨0, 0⟩ true

def enterAll (w : W) : W :=
  ((List.range 312).filter fun p => w.pstate p == 0).foldl (fun w p => w.enterService p) w

/-- Interleave region 0 over the whole HBM (R211). -/
def firstRegion (w : W) : W :=
  let stks := w.fld Reg.MEM_STACKS F.MEM_STACKS_ENABLED
  let size := popCount 8 stks * 2 ^ 37 / 4096 - 1
  (w.setReg (Reg.MEM_IRGN_LO 0) (w64 (2 ^ 63 + stks * 2 ^ 49))).setReg (Reg.MEM_IRGN_HI 0) (w64 size)

/-- SEC_FLOOR rises to the running manifest's SVN when it has RAISE_FLOOR (R409). -/
def raiseFloor (w : W) : W :=
  match w.runManifest with
  | none => w
  | some m =>
    if m.raise ∧ (w.reg Reg.SEC_FLOOR).toNat < m.svn then
      ((w.setReg Reg.SEC_FLOOR (w64 m.svn)).flashPut (.floor m.svn)).secRecord 7 w.running.toNat m.svn
    else w

/-- READY_ACTIONS: step 9, once every lane has a final state. -/
def doReady (w : W) : W :=
  if w.fld Reg.BOOT_STATUS F.BOOT_STATUS_STATE ≠ 0 ∨ w.fld Reg.BOOT_STATUS F.BOOT_STATUS_STAGE ≠ 9 ∨ ¬ w.lanesFinal then w
  else
    let w := w.firstRegion.writeDistances.enterAll.loadTables
    let w := (w.setFlag Reg.ST_CFG F.ST_CFG_ROT_W true).setFlag Reg.ST_CFG F.ST_CFG_ROT_E true
    let w := (w.idleHalf 0).idleHalf 1
    let w := (w.setFlag Reg.SEQ_CFG F.SEQ_CFG_EN true).setReg Reg.BOOT_READY (w.reg Reg.RST_UPTIME)
    let st := if !w.sclUp then 3 else if w.degraded then 2 else 1
    let w := (w.setBootState st).showFabric
    let w := if st = 3 then w else w.raiseFloor
    w.record { cls := 0x12, kind := 8, sev := 0 }

/-! ### Boot receivers (R399 to R401) -/

def setGboot (w : W) (p : Nat) (x : BootRx) : W :=
  { w with c := { w.c with gboot := Tbl.set (fun _ => {}) w.c.gboot p x } }

/-- COMPLETE: every page below N is received, once N is known. -/
def showComplete (w : W) (p : Nat) : W :=
  let n := (Tbl.get (fun _ => ({} : BootRx)) w.c.gboot p).pages
  let all := (List.range n).all fun i => bit (w.reg (Reg.GBOOT_RXMAP p (i / 64))) (i % 64)
  w.setFlag (Reg.GBOOT_STATUS p) F.GBOOT_STATUS_COMPLETE (n != 0 && all)

/-- BOOT_PAGE: a WR_REQ with BOOT set in ARG reaches gallery `p`. A page that is not written is not acknowledged (DESIGN
CHOICE). -/
def doBootPage (w : W) (p : Nat) (t : Packet) : W :=
  let k := Reg.GBOOT_STATUS p
  if t.typ ≠ 3 ∨ ¬ bit t.arg 31 then w
  else if !w.flag k F.GBOOT_STATUS_ARMED then w.count (Reg.LND_DISCARD p) 1
  else if t.poison ∨ t.len ≠ 4096 ∨ bits t.arg 63 32 ≠ crc32c (t.data.take 4096) then
    w.setFld k F.GBOOT_STATUS_CRC_ERR (min 0xFFFF (w.fld k F.GBOOT_STATUS_CRC_ERR + 1))
  else
    let i := bits t.arg 10 0
    let off := bits t.addr 22 0
    let w := if off + 4096 ≤ windowTop then w.wrBytes (galKey p off) (t.data.take 4096) else w
    let m := Reg.GBOOT_RXMAP p (i / 64)
    let old := bit (w.reg m) (i % 64)
    let w := w.setReg m (putBit (w.reg m) (i % 64) true)
    let w := if old then w else w.setFld k F.GBOOT_STATUS_RECEIVED (min 0x7FF (w.fld k F.GBOOT_STATUS_RECEIVED + 1))
    (w.showComplete p).wrAck p t false

/-- GBOOT_ARM. -/
def doGbootArm (w : W) (p : Nat) : W :=
  let w := (w.resetRegs (Reg.GBOOT_RXMAP p 0) (Reg.GBOOT_RXMAP p 32)).setGboot p {}
  w.setReg (Reg.GBOOT_STATUS p) (w64 (2 ^ 31))

/-- GBOOT_DISARM: with every page complete the loader then sets EN of the agents, by writes of its own. -/
def doGbootDisarm (w : W) (p : Nat) : W := (w.setFlag (Reg.GBOOT_STATUS p) F.GBOOT_STATUS_ARMED false).setGboot p {}

/-- GBOOT_REPORT of round `r` for an image of `n` pages: the first window is contributed, each further one at the release
of the one before. -/
def doGbootReport (w : W) (p n r : Nat) : W := ((w.setGboot p { pages := n, round := r }).showComplete p).bootWindow p

end W

/-! ### The meanings -/

/-- COLD_RESET. -/
def execColdReset (found : BootView) (s : State) : Host.Outcome State Fault Refusal := runIf true s fun w => w.doColdReset found

/-- POWER_LOSS. -/
def execPowerLoss (s : State) : Host.Outcome State Fault Refusal := runIf true s fun w => w.powerLoss

/-- REFCLK_LOSS: as a fall of PWRGD, and COLD_REQ_L is driven. -/
def execRefclkLoss (s : State) : Host.Outcome State Fault Refusal :=
  runIf true s fun w => w.powerLoss.setFlag Reg.RST_STATUS F.RST_STATUS_COLD_REQ true

/-- COLD_SEQUENCE_TIMEOUT. -/
def execColdSequenceTimeout (s : State) : Host.Outcome State Fault Refusal := runAux s fun w => w.doColdTimeout

/-- READY_ACTIONS. -/
def execReadyActions (s : State) : Host.Outcome State Fault Refusal := run s fun w => w.doReady

/-- BOOT_PAGE. -/
def execBootPage (p : Nat) (t : Packet) (s : State) : Host.Outcome State Fault Refusal :=
  runOn (galOk p) s fun w => w.doBootPage p t

/-- GBOOT_ARM. -/
def execGbootArm (p : Nat) (s : State) : Host.Outcome State Fault Refusal := runOn (galOk p) s fun w => w.doGbootArm p

/-- GBOOT_DISARM. -/
def execGbootDisarm (p : Nat) (s : State) : Host.Outcome State Fault Refusal := runOn (galOk p) s fun w => w.doGbootDisarm p

/-- GBOOT_REPORT. -/
def execGbootReport (p npages round : Nat) (s : State) : Host.Outcome State Fault Refusal :=
  runOn (galOk p) s fun w => w.doGbootReport p npages round

end Sys2Proof.Machine
end

