-- ==== Sys2Proof/Machine/Hall.lean ====
section
/-! DEFINITION. The hall and the crossbar of a gallery (05_galleries_and_halls.md R95 to R105, R490): one line request of
one master, granted in a cycle against its rivals, merged reads, atomics and byte parity. -/

namespace Sys2Proof.Machine

namespace W

/-- SRC_PHYS of a request (R116): the source gallery for master 14, 0x1FF otherwise or off-device. -/
def srcPhys (m : Nat) (req : Packet) : Nat := if m = 14 ∧ req.srcExit = 0 then req.srcLand else 0x1FF

/-- The window offset a request of master `m` reaches in this gallery; `none` when it goes to the landing egress, and
the second component false for an address error (R96, R105). -/
def hallTarget (w : W) (p m : Nat) (req : Packet) : Option Nat × Bool :=
  if m = 14 then
    let off := bits req.addr 22 0
    if windowTop ≤ off ∨ w.flag (Reg.GAL_FENCE p) F.GAL_FENCE_FENCED then (none, false) else (some off, true)
  else match w.place (some p) req.addr with
    | .gal q off => if q = p then (some off, true) else (none, true)
    | .none => (none, false)
    | _ => (none, true)

/-- The answer to master `m`: a response packet through the landing for master 14, else at its port. -/
def hallReply (w : W) (p m : Nat) (req : Packet) (bs : List Byte) (poison : Bool) : W :=
  if m = 14 then w.rdRsp p req bs poison else w.emit (.reply p m bs poison false)

/-- The address error of R105. -/
def hallErr (w : W) (p m : Nat) (req : Packet) : W :=
  if m = 14 then w.errRsp p req 3 else w.emit (.reply p m [] false true)

/-- The bytes of a line request. -/
def lineBytes (w : W) (p off len : Nat) : List Byte :=
  w.rdBytes (galKey p off) (let room := 128 - off % 128; if len = 0 then room else min len room)

/-! ### Grants -/

/-- The scalar core that a request of the shared port 12 comes from: 0 or 1, by the agent code of its RTAG (R96, R151). -/
def scOf (req : Packet) : Nat := natBits req.rtag 9 6 - 12

/-- The rivals a request meets at its target: on the shared port 12 the other scalar core's request is none. -/
def atTarget (m : Nat) (rivals : List (Nat × Nat)) : List (Nat × Nat) := rivals.filter fun e => m != 12 || e.1 != 12

/-- Master `m` may present its request: SC0 and SC1 alternate on port 12 when both have one (R96). -/
def portTurn (w : W) (p m : Nat) (req : Packet) (rivals : List (Nat × Nat)) : Bool :=
  m != 12 || rivals.all (fun e => e.1 != 12) || (w.hall p).scLast != scOf req

/-- The port is used. -/
def usePort (w : W) (p m : Nat) (req : Packet) : W :=
  if m = 12 then w.setHall p { w.hall p with scLast := scOf req } else w

/-- The request of master `m` is granted target `t` in this cycle, when it is (R96, R97). -/
def grantOf (w : W) (p t m : Nat) (req : Packet) (age : Nat) (rivals : List (Nat × Nat)) : Option W :=
  if w.portTurn p m req rivals && w.granted p t m age (atTarget m rivals) then
    some ((w.usePort p m req).takeGrant p t m (atTarget m rivals))
  else none

/-- FILL_AGE of the core that owns a window offset, as it acts (R58, R91, R92). -/
def fillAge (w : W) (p off : Nat) : Nat :=
  let a := ownerOf off
  if a < 8 then w.fld (Reg.MC_CFG p a) F.MC_CFG_FILL_AGE
  else if a < 12 then w.fld (Reg.VC_CFG p (a - 8)) F.VC_CFG_FILL_AGE
  else min 15 (w.fld (Reg.SC_CFG p (a - 12)) F.SC_CFG_FILL_AGE)

/-- A request into a core's own memory is granted (R58, R91). Among the rivals 15 stands for an access of the core's own,
the drain of a matrix core, which a request passes once it has waited FILL_AGE × 16 cycles, and 16 for instruction fetch,
the staging of a matrix core, which it never displaces. Requests of other masters take turns as at a bank (DESIGN CHOICE,
log entry 50). -/
def coreGrant (w : W) (p off m : Nat) (req : Packet) (age : Nat) (rivals : List (Nat × Nat)) : Option W :=
  let has := fun (x : Nat) => rivals.any fun e => e.1 == x
  let fill := 16 * w.fillAge p off
  if has 16 || (has 15 && (fill == 0 || decide (age < fill))) then none
  else w.grantOf p (17 + ownerOf off) m req age (rivals.filter fun e => decide (e.1 < 15))

/-! ### Requests -/

/-- The parity error a read of `n` bytes at a window offset meets: that of the physical upset, or one stored (R102). -/
def readUpset (w : W) (p off n : Nat) : ParityUpset → ParityUpset
  | .none => match w.badRun (galKey p off) n with
    | none => .none
    | some (first, k) => .error ((off + first) % 128) k
  | u => u

/-- The stored parity of the failing bytes of a line stays wrong until they are written. -/
def spoilLine (w : W) (p off : Nat) : ParityUpset → W
  | .none => w
  | .error first k => w.spoil (galKey p (off / 128 * 128 + first)) (min k (128 - first))

/-- A crossbar read of a core's memory makes the flip of an armed injection of TARGET 2 (R92); the core is disarmed. -/
def flipAtRead (w : W) (p off : Nat) : Bool × W :=
  let a := ownerOf off
  if a < 8 then (false, w)
  else if a < 12 then (if w.vcArmed p (a - 8) 2 then (true, w.vcDisarm p (a - 8)) else (false, w))
  else
    let k := Reg.SC_INJECT p (a - 12)
    if w.flag k F.SC_INJECT_ARM && w.fld k F.SC_INJECT_TARGET == 2 then (true, w.setFlag k F.SC_INJECT_ARM false)
    else (false, w)

/-- HALL_READ (R91, R96 to R99, R102 to R105, R490): master `m` presents a line read in island cycle `cycle`, having
waited `age` cycles, with `rivals` for the same target. A request that is not granted leaves everything as it is. -/
def doHallRead (w : W) (p m : Nat) (req : Packet) (cycle age : Nat) (rivals : List (Nat × Nat)) (u : ParityUpset) : W :=
  match w.hallTarget p m req with
  | (none, false) => w.hallErr p m req
  | (none, true) =>
    match w.grantOf p 16 m req age rivals with
    | some w => w.inject p 0 { req with typ := 1 } 0
    | none => w
  | (some off, _) =>
    let bs := w.lineBytes p off req.len
    let u := w.readUpset p off bs.length u
    if off < 0x400000 then
      let b := hallBank off
      let la := Tbl.get (fun _ => {}) (w.hall p).latch b
      if la.live ∧ la.line = off / 128 ∧ la.master ≠ m ∧ la.cycle ≤ cycle ∧ cycle ≤ la.cycle + la.window then
        if w.portTurn p m req rivals then
          ((w.usePort p m req).count (Reg.HALL_MERGE_HITS p) 1).hallReply p m req bs la.poison
        else w
      else match w.grantOf p b m req age rivals with
        | some w =>
          let h := w.hall p
          let la : Latch := { live := true, line := off / 128, cycle := cycle, window := w.mergeW p off,
                              master := m, poison := decide (u ≠ .none) }
          let w := w.setHall p { h with latch := Tbl.set (fun _ => {}) h.latch b la }
          (match u with
           | .none => w.hallReply p m req bs false
           | .error first n =>
             ((w.spoilLine p off u).hallParity p 0 m off first n (srcPhys m req)).hallReply p m req bs true)
        | none => w
    else match w.coreGrant p off m req age rivals with
      | none => w
      | some w =>
        let (flip, w) := w.flipAtRead p off
        if u = .none ∧ ¬ flip then w.hallReply p m req bs false
        else ((w.spoilLine p off u).ownerParity p off).hallReply p m req bs true

/-- The bytes of a poisoned write that fail their parity are not stated and free (log entry 1): at least one of the
line, and none beyond it. -/
def poisonedBytes (w : W) : (Nat × Nat) × W :=
  let (x, w) := w.draw
  ((bits x 6 0, 1 + bits x 14 8 % (128 - bits x 6 0)), w)

/-- HALL_WRITE (R91, R96, R97, R99, R103, R105). A poisoned write is a parity error in the write data. -/
def doHallWrite (w : W) (p m : Nat) (req : Packet) (age : Nat) (rivals : List (Nat × Nat)) (u : ParityUpset) : W :=
  match w.hallTarget p m req with
  | (none, false) => w.hallErr p m req
  | (none, true) =>
    match w.grantOf p 16 m req age rivals with
    | some w => w.inject p 0 { req with typ := 3 } 0
    | none => w
  | (some off, _) =>
    let bs := req.data.take (128 - off % 128)
    let ack := fun (w : W) (bad : Bool) =>
      if m = 14 then w.wrAck p req bad else w.emit (.reply p m [] bad false)
    if off < 0x400000 then
      match w.grantOf p (hallBank off) m req age rivals with
      | some w =>
        let w := w.endLatch p off
        (match u with
         | .error first n => ack (w.hallParity p 1 m off first n (srcPhys m req)) true
         | .none =>
           if req.poison then
             let ((first, n), w) := w.poisonedBytes
             ack (w.hallParity p 1 m off first n (srcPhys m req)) true
           else ack (w.wrBytes (galKey p off) bs) false)
      | none => w
    else match w.coreGrant p off m req age rivals with
      | none => w
      | some w => if req.poison ∨ u ≠ .none then ack w true else ack (w.wrBytes (galKey p off) bs) false

/-- The source of an atomic, as the tracker keeps it (R101): the master, or for master 14 the requesting gallery or
device. -/
def atomSource (m : Nat) (req : Packet) : Nat := if m = 14 then requester req else m

/-- HALL_ATOMIC (R100, R101, R103): through master 14 or the data mover's port 13; anywhere but the hall is an address
error. A poisoned request is a parity error in its data. -/
def doHallAtomic (w : W) (p m : Nat) (req : Packet) (op : AtomOp) (cmp : Word) (age : Nat) (rivals : List (Nat × Nat))
    (u : ParityUpset) : W :=
  match w.hallTarget p m req with
  | (none, false) => w.hallErr p m req
  | (none, true) =>
    match w.grantOf p 16 m req age rivals with
    | some w => w.inject p 0 { req with typ := 5 } 0
    | none => w
  | (some off, _) =>
    if 0x400000 ≤ off then w.hallErr p m req
    else if off % 8 ≠ 0 then (if m = 14 then w.errRsp p req 1 else w.emit (.reply p m [] false true))
    else
      let answer := fun (w : W) (old : Word) (bad : Bool) =>
        if m = 14 then w.atRsp p req old bad else w.emit (.reply p m (leBytes 8 old.toNat) bad false)
      match w.grantOf p (hallBank off) m req age rivals with
      | some w =>
        let w := w.endLatch p off
        let u := w.readUpset p off 8 u
        if req.poison then
          let ((first, n), w) := w.poisonedBytes
          answer (w.hallParity p 1 m off first n (srcPhys m req)) 0 true
        else
          (match u with
           | .error first n => answer ((w.spoilLine p off u).hallParity p 0 m off first n (srcPhys m req)) 0 true
           | .none =>
             let h := w.hall p
             let old := w64 (w.rdNat (galKey p off) 8)
             let (tr, ev, nd) := track h.tracker h.evicted off (atomSource m req)
             let w := w.setHall p { h with tracker := tr, evicted := ev }
             let w := w.when nd fun w => (w.count (Reg.HALL_ND_ATOMIC p) 1).ndEvent p
             answer (w.wrNat (galKey p off) 8 (atomNew op old req.arg cmp).toNat) old false)
      | none => w

/-- The counters of HALL_CNT_CLR in the order of its bits (R116). -/
def hallCounters (p : Nat) : List Nat :=
  [Reg.HALL_MERGE_HITS p, Reg.HALL_CONFLICT_CYCLES p, Reg.HALL_ND_ATOMIC p, Reg.HALL_PARITY_ERR p, Reg.DM_DESCS p,
   Reg.DM_BYTES p, Reg.SU_FIRINGS p, Reg.SU_NULL_FILL p, Reg.SU_OVF p, Reg.SU_DROP p]

/-- The counters of a list named by the set bits of a mask, cleared with their flags. -/
def clearListed (w : W) (ks : List Nat) (v : Word) : W :=
  ks.zipIdx.foldl (fun w (k, i) => if bit v i then w.setReg k 0 else w) w

end W

/-- The gallery and its master port exist. -/
def masterOk (p m : Nat) : Bool := galOk p && decide (m < 15)

/-! ### The meanings -/

/-- HALL_READ. -/
def execHallRead (p m : Nat) (req : Packet) (cycle age : Nat) (rivals : List (Nat × Nat)) (u : ParityUpset)
    (s : State) : Host.Outcome State Fault Refusal :=
  runOn (masterOk p m) s fun w => w.doHallRead p m req cycle age rivals u

/-- HALL_WRITE. -/
def execHallWrite (p m : Nat) (req : Packet) (age : Nat) (rivals : List (Nat × Nat)) (u : ParityUpset) (s : State) :
    Host.Outcome State Fault Refusal := runOn (masterOk p m) s fun w => w.doHallWrite p m req age rivals u

/-- HALL_ATOMIC. -/
def execHallAtomic (p m : Nat) (req : Packet) (op : AtomOp) (cmp : Word) (age : Nat) (rivals : List (Nat × Nat))
    (u : ParityUpset) (s : State) : Host.Outcome State Fault Refusal :=
  runOn (masterOk p m) s fun w => w.doHallAtomic p m req op cmp age rivals u

/-- HALL_CNT_CLR. -/
def execHallCntClr (p : Nat) (v : Word) (s : State) : Host.Outcome State Fault Refusal :=
  runOn (galOk p) s fun w => w.clearListed (W.hallCounters p) v

end Sys2Proof.Machine
end

