-- ==== Sys2Proof/Machine/Inject.lean ====
section
/-! DEFINITION. Fault injection of vector and scalar cores (04_vector_and_scalar_cores.md R92). -/

namespace Sys2Proof.Machine

/-- VC_INJECT_ARM. -/
def execVcInjectArm (p n : Nat) (v requester : Word) (s : State) : Host.Outcome State Fault Refusal :=
  runOn (vcOk p n) s fun w => w.writeInject p (Reg.VC_INJECT p n) v.toNat 0x7FFF80 requester

/-- SC_INJECT_ARM. -/
def execScInjectArm (p n : Nat) (v requester : Word) (s : State) : Host.Outcome State Fault Refusal :=
  runOn (hartOk (.sc p n)) s fun w => w.writeInject p (Reg.SC_INJECT p n) v.toNat 0x7FFF80 requester

end Sys2Proof.Machine
end

