-- ==== Sys2Proof/Machine/SelfTest.lean ====
section
/-! DEFINITION. Self-test in service and on demand, and the test access port (14_self_test.md R337 to R352). -/

namespace Sys2Proof.Machine

/-- The elements of the full test of gallery `p` (R338). -/
def galleryElems (p : Nat) : List (Nat × Nat) := (List.range 12).map fun e => (e, p)

/-- The code of BYPASS, as which every other code acts (R351). -/
def bypassCode : Nat := 0xFF

namespace W

def sweepOf (w : W) (h : Nat) : Nat := Tbl.get (fun _ => 0) w.c.test.sweeps h

/-- A test joins the tests. -/
def addTest (w : W) (t : Test) : W := w.setTest { w.c.test with tests := w.c.test.tests ++ [t] }

/-- Tests queued for half `h` (R350). -/
def queued (w : W) (h : Nat) : List Test :=
  w.c.test.tests.filter fun t => decide (1 ≤ t.scope) && decide (t.scope ≤ 3) && halfOf t.unit == h && t.phase == .queued

/-! ### Starting a target (R343 to R345) -/

/-- A gallery that was fenced with FLT_CFG.AUTO clear: it keeps its logical number until a REMAP or a cold reset (R359). -/
def strandedAt (w : W) (p : Nat) : Bool :=
  w.flag (Reg.GAL_FENCE p) F.GAL_FENCE_FENCED && (w.logicalOf p).isSome && !(w.c.seq.remaps.any fun r => r.old == p)

/-- A gallery the pointer stops at: not fused off, not in the defect map as DEFECT, not receiving, not stranded. -/
def eligible (w : W) (p : Nat) : Bool :=
  !([4, 5, 6, 7].contains (w.pstate p)) && !w.isDefect 1 p && !w.strandedAt p

/-- The pointer of half `h` moves one place on; a wrap counts a sweep. -/
def stepPointer (w : W) (h : Nat) : W :=
  let k := Reg.ST_HALF h
  let p := w.fld k F.ST_HALF_POINTER
  if p + 1 < 156 * (h + 1) then w.setFld k F.ST_HALF_POINTER (p + 1)
  else
    let w := (w.setFld k F.ST_HALF_POINTER (156 * h)).count (if h = 0 then Reg.ST_SWEEPS0 else Reg.ST_SWEEPS1) 1
    w.setTest { w.c.test with sweeps := Tbl.set (fun _ => 0) w.c.test.sweeps h ((w.sweepOf h + 1) % 2 ^ 64) }

/-- The next target under the pointer, within one turn; the pointer then stands behind it. -/
def nextTarget (w : W) (h : Nat) : Nat → Option Nat × W
  | 0 => (none, w)
  | fuel + 1 =>
    let p := w.fld (Reg.ST_HALF h) F.ST_HALF_POINTER
    let w' := w.stepPointer h
    if w.eligible p then (some p, w') else W.nextTarget w' h fuel

/-- A test that is next in its half begins: a carrying gallery waits for the boundary with its receiving spare, another is
tested in place. -/
def beginTest (w : W) (t : Test) : W :=
  let p := t.unit
  let h := halfOf p
  let w := w.putTest { t with phase := .moving }
  if (w.logicalOf p).isSome ∧ w.pstate p ≠ 2 then w.showHalf h 2 p 0xF ((w.bestSpare h).getD 0x1FF)
  else
    let w := w.enterTesting p
    if t.scope = 3 then w.flipDetours else w

/-- Half `h` holds two spares that have passed their latest test (R344). -/
def spared (w : W) (h : Nat) : Bool := decide (2 ≤ (w.sparesOf h).length)

/-- Half `h` takes its next target, when it has none: a gallery to be tested again, a queued test, and at a tick the
gallery under the pointer (R343, R348, R350). Below two spares it is HELD_NO_SPARE. -/
def startHalf (w : W) (h : Nat) (tick : Bool) : W :=
  if (w.halfTest h).isSome then w
  else
    let again := if tick then w.c.test.again.filter fun p => halfOf p == h && !w.isDefect 1 p && !w.strandedAt p else []
    let now := (w.queued h).find? fun t => t.scope == 2
    match now with
    | some t => w.beginTest t
    | none =>
      if !tick && (w.queued h).isEmpty then w
      else if !w.spared h then
        let k := Reg.ST_HALF h
        if w.fld k F.ST_HALF_STATE = 5 then w
        else (w.setFld k F.ST_HALF_STATE 5).capRecord 3 h (w.sparesOf h).length none
      else
        match again, (w.queued h).head? with
        | p :: _, _ =>
          let w := w.setTest { w.c.test with again := w.c.test.again.filter (· ≠ p) }
          let t : Test := { scope := 1, unit := p, origin := 4, elems := galleryElems p }
          (w.addTest t).beginTest t
        | [], some t => w.beginTest t
        | [], none =>
          match w.nextTarget h 157 with
          | (none, w) => w
          | (some p, w) =>
            let t : Test := { scope := 1, unit := p, origin := 1, elems := galleryElems p }
            (w.addTest t).beginTest t

/-- ROTATION_TICK of half `h`. -/
def doTick (w : W) (h : Nat) : W :=
  if !w.rotating h then w
  else
    let w := w.pend 293
    let st := w.fld (Reg.ST_HALF h) F.ST_HALF_STATE
    if (w.halfTest h).isSome ∨ st = 2 ∨ st = 3 ∨ st = 4 then
      w.count (if h = 0 then Reg.ST_SKIPS0 else Reg.ST_SKIPS1) 1
    else
      let w := if st = 0 then w.idleHalf h else w
      let w := w.startHalf h true
      if w.fld (Reg.ST_HALF h) F.ST_HALF_STATE = 5 ∧ w.spared h ∧ (w.halfTest h).isNone then w.idleHalf h else w

/-! ### Starting on demand (R349, R350) -/

/-- The row's stair links are fenced for their test (R129). -/
def closeStair (w : W) (row : Nat) : W :=
  [0, 1].foldl (fun w pair =>
    let e := stairEnds row pair
    (w.setPortEnabled e.1.1 e.1.2 false).setPortEnabled e.2.1 e.2.2 false) w

/-- The stair links of a row carry traffic again, where no end is fenced and the pair is not DEFECT. -/
def openStair (w : W) (row : Nat) : W :=
  [0, 1].foldl (fun w pair =>
    let e := stairEnds row pair
    let on := !w.isDefect 4 (2 * row + pair) && !w.landFenced e.1.1 && !w.landFenced e.2.1
    (w.setPortEnabled e.1.1 e.1.2 on).setPortEnabled e.2.1 e.2.2 on) w

/-- The ports of a landing and those that face it carry traffic again. -/
def reopenLanding (w : W) (l : Nat) : W :=
  [1, 2, 3, 4, 5].foldl (fun w p => match farEnd l p with
    | some n =>
      let u := linkUnit l p
      if w.landFenced n ∨ w.isDefect u.1 u.2 then w else (w.setPortEnabled l p true).setPortEnabled n (portBack p) true
    | none => w) w

/-- Elements of the device-wide test (R341 phases 4 to 6): the galleries, landings, stair rows, edge routers and switches
that are good. -/
def deviceElems (w : W) : List (Nat × Nat) :=
  let gals := (List.range 312).filter fun p => !inMask w.c.fuses.galOff p && !w.isDefect 1 p
  (gals.flatMap galleryElems) ++ ((List.range 312).filter fun l => !w.isDefect 2 l).map (fun l => (0x10, l)) ++
    ((List.range 12).filter fun r => !(w.isDefect 4 (2 * r) && w.isDefect 4 (2 * r + 1))).map (fun r => (0x11, r)) ++
    ([0, 1].filter fun h => !w.isDefect 8 h).map (fun h => (0x12, h)) ++
    ((List.range 4).filter fun e => !w.isDefect 9 e).map (fun e => (0x13, e))

/-- Units the device-wide test skips are logged NOT_RUN (R341, R369). -/
def logSkipped (w : W) (t : Test) : W :=
  let gals := (List.range 312).filter fun p => !inMask w.c.fuses.galOff p && w.isDefect 1 p
  let lands := (List.range 312).filter fun l => w.isDefect 2 l
  let rows := (List.range 12).filter fun r => w.isDefect 4 (2 * r) && w.isDefect 4 (2 * r + 1)
  let xs := (gals.flatMap galleryElems) ++ lands.map (fun l => (0x10, l)) ++ rows.map (fun r => (0x11, r)) ++
    ([0, 1].filter fun h => w.isDefect 8 h).map (fun h => (0x12, h)) ++
    ((List.range 4).filter fun e => w.isDefect 9 e).map (fun e => (0x13, e))
  xs.foldl (fun w x =>
    let (r, w) := w.noResult
    let (key, w) := w.draw
    w.resultEntry t x.1 x.2 4 t.origin (elemCoverage x.1) r (w.elemKey x.1 x.2 0 t.seed key) (elemBudget x.1) 0) w

/-- What a scope checks in word 1 (R349, R350): its status 0x01. -/
def scopeBad (w : W) (scope unit : Nat) (destroy : Bool) : Bool :=
  match scope with
  | 1 | 2 => !galOk unit || inMask w.c.fuses.galOff unit || w.isDefect 1 unit
  | 3 => !galOk unit || w.isDefect 2 unit
  | 4 => decide (12 ≤ unit)
  | 5 => decide (2 ≤ unit)
  | 6 => false
  | 7 => !destroy || decide (8 ≤ unit) || w.c.fuses.stkOff.toNat.testBit unit
  | 8 => !destroy || decide (8 ≤ unit)
  | _ => true

/-- The state, the spares or the queue do not allow a scope (R350): its status 0x04. -/
def scopeRefused (w : W) (scope unit : Nat) : Bool :=
  let quiet := w.seqState == stIdle || w.seqState == stStopped || w.seqState == stHalted
  let busy := w.c.test.tests.any fun t => t.scope == scope && t.unit == unit && (decide (3 < scope) || t.jsn.isNone)
  match scope with
  | 1 | 3 => busy || !w.spared (halfOf unit) || decide (16 ≤ (w.queued (halfOf unit)).length)
  | 2 => busy || decide (16 ≤ (w.queued (halfOf unit)).length)
  | 4 => busy
  | 5 => busy || !quiet
  | 6 => !quiet || !w.c.test.tests.isEmpty
  | _ => busy || w.seqState != stIdle

/-- Gallery `p` is fenced at once for its test; its work moves away as at a fault (R350). -/
def fenceForTest (w : W) (p : Nat) : W :=
  let g := w.logicalOf p
  let w := w.fenceGallery p
  let w := if w.seqState = stRun ∨ w.seqState = stCommitting then w.rollbackIf else w
  (w.setPstate p 2).moveAway p g

/-- A test of any scope begins or is queued; answers the status of R349, 0 when it goes on. -/
def startTest (w : W) (scope unit : Nat) (destroy : Bool) (elements : Nat) (seed : Word) (jsn : Option Nat)
    (origin : Nat) : Nat × W :=
  if w.scopeBad scope unit destroy then (1, w)
  else if w.scopeRefused scope unit then (4, w)
  else
    let es : List (Nat × Nat) := match scope with
      | 1 | 2 => (galleryElems unit).filter fun e => elements == 0 || elements.testBit e.1
      | 3 => [(0x10, unit)]
      | 4 => [(0x11, unit)]
      | 5 => [(0x12, unit)]
      | 6 => w.deviceElems
      | 7 => [(0x30, unit)]
      | _ => [(0x31, unit)]
    let es := if es.isEmpty then galleryElems unit else es
    let t : Test := { scope := scope, unit := unit, origin := origin, elems := es, seed := seed, jsn := jsn,
                      phase := if scope ≤ 3 then .queued else .running }
    let w := w.addTest t
    (0, match scope with
      | 1 | 3 => w.startHalf (halfOf unit) false
      | 2 => (w.fenceForTest unit).startHalf (halfOf unit) false
      | 4 => (w.closeStair unit).flipDetours
      | 5 => (List.range 32).foldl (fun w i => w.drainPort (32 * unit + i)) w
      | 6 =>
        let w := (w.setTest { w.c.test with back := w.seqState }).logSkipped t
        (List.range 312).foldl (fun w p =>
          if w.pstate p = 0 ∨ w.pstate p = 1 ∨ w.pstate p = 3 then ((w.fenceGallery p).setPstate p 2).islandOn p 8 else w) w
      | 7 => w.zero (hbmKey unit 0) (hbmKey (unit + 1) 0)
      | _ => w.zero (ddrKey unit 0) (ddrKey (unit + 1) 0))

/-- A TEST descriptor of JSN `j`, when its SCOPE is that of the row. -/
def doTest (w : W) (j scope : Nat) : W :=
  match w.mayAct j 0x10 with
  | none => w
  | some d =>
    let x := fun i => d.words.getD i 0
    let sc := bits (x 1) 7 0
    if d.status ≠ 0 then w.complete j d.status 0 0
    else if sc ≠ scope ∧ 1 ≤ sc ∧ sc ≤ 8 then w
    else if (x 2).toNat % 64 ≠ 0 then w.complete j 1 0 0
    else
      let w := w.setDesc { d with phase := .acting }
      let (st, w) := w.startTest sc (bits (x 1) 31 16) (bit (x 1) 32) (bits (x 4) 15 0) (x 5) (some j) 2
      if st = 0 then w else w.complete j st 0 0

/-! ### How a test ends (R348, R350) -/

/-- A failing test raises its error record, with the RESULT of the result entry and its words 0 and 1 (R348, R354). -/
def testRecord (w : W) (entry : List Byte) : W :=
  let x := payWord entry 0
  w.record { cls := 0x0E, kind := bits x 47 44, sev := 3, info := x, aux := payWord entry 1 }

/-- The newest result entry of the log. -/
def lastEntry (w : W) : List Byte :=
  wordBytes (w.regWords (Reg.ST_LOG (8 * ((w.fld Reg.ST_LOG_HEAD ⟨31, 0⟩ + 8191) % 8192))) 8)

/-- The last entry of a test that did not pass. -/
def failedEntry (t : Test) : List Byte := (t.entries.filter fun e => bits (payWord e 0) 47 44 != 0).getLastD []

/-- Gallery `p` has been through its test: a spare again, to be tested once more, or DEFECT at its second failure, with
the record of the `entry` that failed. -/
def judgeGallery (w : W) (p : Nat) (retest : Bool) (bad : Bool) (entry : List Byte) : W :=
  let h := halfOf p
  let w := (w.setPassed p (!bad)).islandOff p
  if !bad then
    let w := (w.setPstate p 1).count (if h = 0 then Reg.ST_PASSES0 else Reg.ST_PASSES1) 1
    if retest then w.count (if h = 0 then Reg.ST_TRANSIENT0 else Reg.ST_TRANSIENT1) 1 else w
  else
    let w := w.countErr (if h = 0 then Reg.ST_FAILS0 else Reg.ST_FAILS1)
    if retest then ((w.enterDefect 1 p 0x0E 1 1 0).setPstate p 4).testRecord entry
    else (w.setPstate p 3).testAgain p

/-- The device-wide test ends (R350): galleries judged, tables and firmware as at cold reset, the image restored with the
placement in use, and the state it had. -/
def endDevice (w : W) : W :=
  let w := ((List.range 312).filter fun p => w.pstate p == 2).foldl (fun w p =>
    (w.setPassed p true).setPstate p (if (w.logicalOf p).isSome then 0 else 1)) w
  let w := w.bootPlaces
  let w := ((List.range 312).filter fun p => w.pstate p == 1).foldl (fun w p => w.islandOff p) w
  let w := (List.range 24).foldl (fun w i => w.openStair (i / 2)) w
  let w := w.enterAll.loadTables.writeDistances
  match w.c.seq.img, w.placement with
  | some i, some pl => w.installImage i pl
  | _, _ => w

/-- A stair row's pair has failed (R342): both links are DEFECT and fenced. More than four such rows, or a row whose stair
side carries a drop, put the part into safe state. -/
def stairFails (w : W) (row : Nat) (entry : List Byte) : W :=
  let w := (((w.enterDefect 4 (2 * row) 0x0E 1 2 0).enterDefect 4 (2 * row + 1) 0x0E 1 2 0).closeStair row).testRecord entry
  let rows := (List.range 12).filter fun r => w.isDefect 4 (2 * r) && w.isDefect 4 (2 * r + 1)
  if 4 < rows.length ∨ [4, 5, 6, 7].contains row then w.safeState 5 else w

/-- An edge router has failed (R342): the half's ports are DISABLED and stay so. -/
def routerFails (w : W) (h : Nat) (entry : List Byte) : W :=
  (List.range 32).foldl (fun w i => (w.clearPort (32 * h + i)).setPortState (32 * h + i) 0)
    ((w.enterDefect 8 h 0x0E 1 2 0).testRecord entry)

/-- A test has run its last element. -/
def finishTest (w : W) (t : Test) : W :=
  let bad := t.bad != 0
  let u := t.unit
  match t.scope with
  | 1 | 2 => ((w.judgeGallery u (t.origin == 4) bad (failedEntry t)).endTest t).idleHalf (halfOf u)
  | 3 =>
    let w := w.endTest t
    let w := if bad then
        (((w.enterDefect 2 u 0x0E 1 2 0).enterDefect 1 u 0x0E 1 2 0).setPstate u 5).testRecord (failedEntry t)
      else ((w.setPstate u 1).islandOff u).reopenLanding u
    w.flipDetours.idleHalf (halfOf u)
  | 4 =>
    let w := w.endTest t
    (if bad then w.stairFails u (failedEntry t) else w.openStair u).flipDetours
  | 5 =>
    let w := w.endTest t
    if bad then w.routerFails u (failedEntry t)
    else (List.range 32).foldl (fun w i => w.doPortUp (32 * u + i)) w
  | 6 => w.endDevice.endTest t
  | _ => if bad then (w.endTest t).testRecord (failedEntry t) else w.endTest t

/-- What the failure of one element of the device-wide test leads to at once (R342, R348). -/
def deviceFails (w : W) (elem unit : Nat) : W :=
  match elem with
  | 0x10 => (((w.enterDefect 2 unit 0x0E 1 2 0).enterDefect 1 unit 0x0E 1 2 0).setPstate unit 5).testRecord w.lastEntry
  | 0x11 => w.stairFails unit w.lastEntry
  | 0x12 => w.routerFails unit w.lastEntry
  | 0x13 => ((w.enterDefect 9 unit 0x0E 1 2 0).setFld Reg.MEM_STACKS F.MEM_STACKS_FAILED
      (w.fld Reg.MEM_STACKS F.MEM_STACKS_FAILED ||| 3 * 4 ^ unit)).testRecord w.lastEntry
  | _ =>
    if w.pstate unit = 2 then
      (((w.setPassed unit false).setPstate unit 3).testAgain unit).countErr
        (if halfOf unit = 0 then Reg.ST_FAILS0 else Reg.ST_FAILS1)
    else w

/-- The running test of an element: the elements of one unit run in order, those of the device-wide test side by side. -/
def testOf (w : W) (elem unit : Nat) : Option Test :=
  w.c.test.tests.find? fun t => t.phase == .running &&
    (t.elems.head? == some (elem, unit) || (t.scope == 6 && t.elems.contains (elem, unit)))

/-- An element has ended with RESULT 0 PASS, 1 FAIL or 2 TIMEOUT: its entry, and the next element or the end. -/
def elementEnds (w : W) (elem unit result : Nat) (r : ElemResult) : W :=
  match w.testOf elem unit with
  | none => w
  | some t =>
    let gallery := decide (elem ≤ 0xB)
    let sweep := if gallery then w.sweepOf (halfOf unit) else 0
    let w := w.pend 292
    let w := w.resultEntry t elem unit result t.origin (elemCoverage elem) r (w.elemKey elem unit sweep t.seed r.key)
      (elemBudget elem) sweep
    let w := if t.scope = 6 ∧ result ≠ 0 then w.deviceFails elem unit else w
    match w.c.test.tests.find? fun x => sameTest x t with
    | none => w
    | some t =>
      let t := { t with elems := t.elems.erase (elem, unit) }
      let w := w.putTest t
      if t.elems.isEmpty then
        let w := w.finishTest t
        if 1 ≤ t.scope ∧ t.scope ≤ 3 then w.startHalf (halfOf t.unit) false else w
      else if t.scope ≤ 2 then
        w.setFld (Reg.ST_HALF (halfOf unit)) F.ST_HALF_ELEMENT (showElem ((t.elems.head?.map (·.1)).getD 0xF))
      else w

/-- ST_ELEMENT_DONE: the signature, count or bitmap decides (R339). -/
def doElementDone (w : W) (elem unit : Nat) (r : ElemResult) : W :=
  let r := if isMarch elem then { r with expected := 0 } else r
  w.elementEnds elem unit (if r.sig = r.expected then 0 else 1) r

/-- ST_ELEMENT_TIMEOUT (R338): what the stopped element leaves in the other fields is free (log entry 1). -/
def doElementTimeout (w : W) (elem unit : Nat) : W :=
  let (r, w) := w.noResult
  let (key, w) := w.draw
  let (d, w) := w.draw
  w.elementEnds elem unit 2 { r with key := key, detail := d, duration := elemBudget elem * 11 / 10 }

/-- A temperature of 105 °C stops every element in progress (R431): it is logged ABANDONED, and runs again. -/
def stopElements (w : W) : W :=
  (w.c.test.tests.filter fun t => t.phase == .running).foldl (fun (w : W) (t : Test) =>
    match t.elems.head? with
    | none => w
    | some (e, u) =>
      if 0xB < e then w
      else
        let (r, w) := w.noResult
        let (key, w) := w.draw
        let sweep := w.sweepOf (halfOf u)
        w.resultEntry t e u 3 t.origin (elemCoverage e) r (w.elemKey e u sweep t.seed key) (elemBudget e) sweep) w

/-! ### The test access port (R351) -/

/-- An instruction is selected. -/
def setTap (w : W) (code : Nat) : W := w.setTest { w.c.test with tap := code }

/-- ST_CMD and ST_RESULT work: PROD_LOCK is not blown, or the debug level is at least 1. -/
def tapOpen (w : W) : Bool := !w.c.fuses.prodLock || decide (1 ≤ w.fld Reg.SEC_STATUS F.SEC_STATUS_DEBUG)

/-- IDCODE: the identification register. -/
def idcode (w : W) : Nat := 1 * 2 ^ 28 + w.c.fuses.part * 2 ^ 12 + 0x2B5 * 2 + 1

/-- A data register of `n` bytes goes out by the test data output. -/
def tapOut (w : W) (code : Nat) (bs : List Byte) : W := (w.setTap code).emit (.wire code bs)

/-- ST_CMD: a TEST descriptor with ORIGIN 3. -/
def doStCmd (w : W) (ws : List Word) : W :=
  if !w.tapOpen then w.setTap bypassCode
  else
    let x := fun i => ws.getD i 0
    ((w.setTap 0x20).startTest (bits (x 1) 7 0) (bits (x 1) 31 16) (bit (x 1) 32) (bits (x 4) 15 0) (x 5) none 3).2

/-- ST_RESULT: the oldest entry not yet read through it; with none left the register's contents are free (log entry
1). -/
def doStResult (w : W) : W :=
  if !w.tapOpen then w.setTap bypassCode
  else
    let head := w.fld Reg.ST_LOG_HEAD ⟨31, 0⟩
    let n := max w.c.test.tapRead (head - 8192)
    if head ≤ n then
      let (bs, w) := w.drawBytes 64
      w.tapOut 0x21 bs
    else
      let bs := wordBytes (w.regWords (Reg.ST_LOG (8 * (n % 8192))) 8)
      (w.setTest { w.c.test with tapRead := n + 1 }).tapOut 0x21 bs

/-- The boundary-scan register: its cells follow the signals, which the model does not hold; free (log entry 1). -/
def boundary (w : W) (code : Nat) : W :=
  let (bs, w) := w.drawBytes 8
  w.tapOut code bs

end W

/-! ### The meanings -/

/-- ROTATION_TICK. -/
def execRotationTick (h : Nat) (s : State) : Host.Outcome State Fault Refusal :=
  runOn (decide (h < 2)) s fun w => w.doTick h

/-- ST_ELEMENT_DONE. -/
def execStElementDone (elem unit : Nat) (r : ElemResult) (s : State) : Host.Outcome State Fault Refusal :=
  run s fun w => w.doElementDone elem unit r

/-- ST_ELEMENT_TIMEOUT. -/
def execStElementTimeout (elem unit : Nat) (s : State) : Host.Outcome State Fault Refusal :=
  run s fun w => w.doElementTimeout elem unit

/-- TEST_GALLERY. -/
def execTestGallery (j : Nat) (s : State) : Host.Outcome State Fault Refusal := run s fun w => w.doTest j 1

/-- TEST_GALLERY_NOW. -/
def execTestGalleryNow (j : Nat) (s : State) : Host.Outcome State Fault Refusal := run s fun w => w.doTest j 2

/-- TEST_LANDING. -/
def execTestLanding (j : Nat) (s : State) : Host.Outcome State Fault Refusal := run s fun w => w.doTest j 3

/-- TEST_STAIR_LINK. -/
def execTestStairLink (j : Nat) (s : State) : Host.Outcome State Fault Refusal := run s fun w => w.doTest j 4

/-- TEST_EDGE_ROUTER. -/
def execTestEdgeRouter (j : Nat) (s : State) : Host.Outcome State Fault Refusal := run s fun w => w.doTest j 5

/-- TEST_DEVICE. -/
def execTestDevice (j : Nat) (s : State) : Host.Outcome State Fault Refusal := run s fun w => w.doTest j 6

/-- TEST_HBM_STACK. -/
def execTestHbmStack (j : Nat) (s : State) : Host.Outcome State Fault Refusal := run s fun w => w.doTest j 7

/-- TEST_DDR5_CHANNEL. -/
def execTestDdr5Channel (j : Nat) (s : State) : Host.Outcome State Fault Refusal := run s fun w => w.doTest j 8

/-- EXTEST. -/
def execExtest (s : State) : Host.Outcome State Fault Refusal := runAux s fun w => w.boundary 0

/-- IDCODE. -/
def execIdcode (s : State) : Host.Outcome State Fault Refusal := runAux s fun w => w.tapOut 1 (leBytes 4 w.idcode)

/-- SAMPLE_PRELOAD. -/
def execSamplePreload (s : State) : Host.Outcome State Fault Refusal := runAux s fun w => w.boundary 2

/-- CLAMP: the bypass register is selected; the outputs hold. -/
def execClamp (s : State) : Host.Outcome State Fault Refusal := runAux s fun w => w.setTap 3

/-- HIGHZ: the bypass register is selected; the outputs float. -/
def execHighz (s : State) : Host.Outcome State Fault Refusal := runAux s fun w => w.setTap 4

/-- ST_CMD. -/
def execStCmd (ws : List Word) (s : State) : Host.Outcome State Fault Refusal := run s fun w => w.doStCmd ws

/-- ST_RESULT. -/
def execStResult (s : State) : Host.Outcome State Fault Refusal := runAux s fun w => w.doStResult

/-- BYPASS. -/
def execBypass (s : State) : Host.Outcome State Fault Refusal := runAux s fun w => w.setTap bypassCode

/-- TEST_LOGIC_RESET: IDCODE is selected. -/
def execTestLogicReset (s : State) : Host.Outcome State Fault Refusal := runAux s fun w => w.setTap 1

/-- ST_CNT_CLR (R352): bits 0 to 5 and 8 to 13. -/
def execStCntClr (v : Word) (s : State) : Host.Outcome State Fault Refusal :=
  run s fun w => (w.clearCounters Reg.ST_MOVES0 6 v).clearCounters Reg.ST_MOVES1 6 (v >>> 8)

end Sys2Proof.Machine
end

