-- ==== Sys2Proof/Machine/Power.lean ====
section
/-! DEFINITION. Power, clocks and thermal (19_power_clocks_thermal.md R418 to R432): the capping loop, the fast clamp, the
half rails, the sensors and what they lead to. -/

namespace Sys2Proof.Machine

/-- f × V² of a point, and the ratio of two points (R422, R424). -/
def pointPower (pt : Nat) : Nat := pointClock pt * (pointVolt pt * pointVolt pt)
def pointRatio (a b : Nat) : Rat := (pointPower a : Rat) / (pointPower b : Rat)

/-- The design power of a part (R24). -/
def designPower (f : Fuses) : Nat := if f.part = 0x2304 then 1200 else if f.part = 0x2048 then 1080 else 950

/-- Sensors (R428, R432): islands, edge routers, engines, vestibule. -/
def sensorCount : Nat := 327

/-- `x` goes into a list kept in the loop's order: island power falling, then physical index rising (R424). -/
def insertPower (x : Nat × Nat) : List (Nat × Nat) → List (Nat × Nat)
  | [] => [x]
  | y :: ys => if y.2 < x.2 then x :: y :: ys else y :: insertPower x ys

/-- Points of islands in the order of a raise: point rising, then physical index rising (R424). -/
def insertPoint (x : Nat × Nat) : List (Nat × Nat) → List (Nat × Nat)
  | [] => [x]
  | y :: ys => if x.2 < y.2 then x :: y :: ys else y :: insertPoint x ys

namespace W

def setPower (w : W) (x : Power) : W := { w with c := { w.c with power := x } }

/-! ### Settings -/

/-- PWR_CFG and PWR_CAP with their clamps (R432). -/
def ptMax (w : W) : Nat := min 8 (w.fld Reg.PWR_CFG F.PWR_CFG_PT_MAX)
def ptMin (w : W) : Nat := min w.ptMax (w.fld Reg.PWR_CFG F.PWR_CFG_PT_MIN)
def excMs (w : W) : Nat := min 10 (max 1 (w.fld Reg.PWR_CFG F.PWR_CFG_EXC_MS))
def upN (w : W) : Nat := max 1 (w.fld Reg.PWR_CFG F.PWR_CFG_UP_N)
def capW (w : W) : Nat := min (designPower w.c.fuses) (max 400 (w.fld Reg.PWR_CAP F.PWR_CAP_CAP))
def throt (w : W) : Nat := min 100 (max 85 (w.fld Reg.THERM_CFG F.THERM_CFG_THROT))

/-! ### Sensors (R428) -/

/-- The last reading of sensor `i` in °C; none before the first one. -/
def sensor (w : W) (i : Nat) : Option Int :=
  match Tbl.get (fun _ => 0) w.c.power.sensors i with
  | 0 => none
  | n => some ((n : Int) - 1000)

/-- The half a throttling sensor acts on besides an island's own sensor: an edge router's half, both for the vestibule
(R429). -/
def sensorActs (i p : Nat) : Bool :=
  if i < 312 then i == p else if i < 314 then halfOf p == i - 312 else decide (323 ≤ i)

/-- An island is held by a thermal action or a low rail (R421, R429). -/
def islandHeld (w : W) (p : Nat) : Bool :=
  w.c.power.railLow.contains (halfOf p) || w.flag Reg.PWR_STATUS F.PWR_STATUS_TJMAX ||
    (w.c.power.throttling.any fun i => sensorActs i p) ||
    (List.range 4).any fun k => w.flag (Reg.MEMC_STATUS (4 * halfOf p + k)) F.MEMC_STATUS_TSTOP

/-- The islands under loop control (R424): in service or receiving, powered, not held. -/
def ctlIslands (w : W) : List Nat :=
  (List.range 312).filter fun p => (w.pstate p == 0 || w.pstate p == 7) && !w.gated p && !w.islandHeld p

/-- A class 0x11 record (R431): the unit, the point after the action, the mean power and a sensor reading. -/
def pwrRecord (w : W) (kind sev unit pt reading : Nat) (urgent : Bool) : W :=
  w.record { cls := 0x11, kind := kind, sev := sev, urgent := urgent, info := w64 (unit % 512 + pt % 16 * 2 ^ 12),
             aux := w64 (w.fld Reg.PWR_NOW F.PWR_NOW_P + min 255 reading * 2 ^ 16) }

/-! ### The capping loop (R424, R426) -/

/-- Islands are lowered one point while power is to be shed; whether any was. -/
def shed (w : W) (floor : Nat) : List (Nat × Nat) → Rat → Bool → Bool × W
  | [], _, did => (did, w)
  | (p, mw) :: rest, x, did =>
    let pt := w.point p
    if x ≤ 0 ∨ pt ≤ floor then W.shed w floor rest x did
    else W.shed (w.setPoint p (pt - 1)) floor rest (x - (mw : Rat) * (1 - pointRatio (pt - 1) pt)) true

/-- The loop at the end of an interval of mean power `mw` (mW); whether an island was lowered. -/
def capLoop (w : W) (mw : Nat) (islands : List (Nat × Nat)) : Bool × W :=
  let ctl := w.ctlIslands
  let cap := w.capW * 1000
  let hyst := w.fld Reg.PWR_CFG F.PWR_CFG_HYST * 1000
  let q := w.c.power
  let above := if cap < mw then q.capped + 1 else 0
  let below := if cap < mw then 0 else if mw + hyst < cap then q.under + 1 else 0
  let w := w.setPower { q with capped := above, under := below }
  if cap < mw then
    let all := decide (w.excMs ≤ above)
    let low := if all then ctl.filter fun p => w.ptMin < w.point p else []
    let w := low.foldl (fun w p => w.setPoint p (w.point p - 1)) w
    let power := fun (p : Nat) => ((islands.find? fun x => x.1 == p).map (·.2)).getD 0
    let order := ctl.foldl (fun (a : List (Nat × Nat)) p => insertPower (p, power p) a) []
    w.shed w.ptMin order ((mw - cap : Nat) : Rat) (!low.isEmpty)
  else if 10 ≤ below then
    let order := ctl.foldl (fun (a : List (Nat × Nat)) p =>
      if w.point p < w.ptMax then insertPoint (p, w.point p) a else a) []
    (false, (order.take w.upN).foldl (fun w x => w.setPoint x.1 (x.2 + 1)) w)
  else (false, w)

/-- FLOOR (R426): every island under control is at PT_MIN and the cap is still exceeded after EXC_MS intervals. -/
def showFloor (w : W) : W :=
  let on := decide (w.excMs ≤ w.c.power.capped) && w.ctlIslands.all fun p => decide (w.point p ≤ w.ptMin)
  let was := w.flag Reg.PWR_STATUS F.PWR_STATUS_FLOOR
  let w := w.setFlag Reg.PWR_STATUS F.PWR_STATUS_FLOOR on
  if on && !was then w.pwrRecord 3 3 0 w.ptMin 0 false else w

/-! ### Throttling (R429) -/

/-- One interval of the sensors that throttle: hot ones lower their islands, below PT_MIN if need be; one that stays cool
for 10 intervals lets go. -/
def throttleStep (w : W) : W :=
  let t : Int := w.throt
  let q := w.c.power
  let hot := q.throttling.filter fun i => match w.sensor i with | some x => decide (t ≤ x) | none => false
  let cools := fun (i : Nat) => match w.sensor i with | some x => decide (x ≤ t - 5) | none => false
  let cooled := q.throttling.foldl (fun (c : Tbl Nat) i =>
    Tbl.set (fun _ => 0) c i (if cools i then Tbl.get (fun _ => 0) c i + 1 else 0)) q.cooled
  let stay := q.throttling.filter fun i => Tbl.get (fun _ => 0) cooled i < 10
  let w := w.setPower { q with throttling := stay, cooled := cooled.filter fun e => stay.contains e.1 }
  (List.range 312).foldl (fun w p =>
    if hot.any (fun i => sensorActs i p) && !w.gated p && w.pstate p != 2 then w.setPoint p (w.point p - 1) else w) w

/-- The hottest reading and its sensor (R432 PWR_NOW). -/
def hottest (w : W) : Nat × Nat :=
  (List.range sensorCount).foldl (fun (b : Nat × Nat) i =>
    match w.sensor i with
    | some x => if (b.1 : Int) < x then (x.toNat, i) else b
    | none => b) (0, 0)

/-- The highest and the lowest point of the islands in service (R432 PWR_STATUS). -/
def showPoints (w : W) : W :=
  let ps := ((List.range 312).filter fun p => w.pstate p == 0 && !w.gated p).map w.point
  (w.setFld Reg.PWR_STATUS F.PWR_STATUS_PT_LOW (ps.foldl min (if ps.isEmpty then 0 else 8))).setFld Reg.PWR_STATUS
    F.PWR_STATUS_PT_HIGH (ps.foldl max 0)

/-- Energy of the interval (R427): the rail counters in register order in mJ, and each island's own in µJ. -/
def addEnergy (w : W) (energy : List Nat) (islands : List (Nat × Nat)) : W :=
  let w := (energy.take 8).zipIdx.foldl (fun w x => w.count (Reg.PWR_E_TOTAL + 8 * x.2) x.1) w
  (islands.filter fun x => galOk x.1).foldl (fun w x => w.count (Reg.GPWR_ENERGY x.1) x.2) w

/-- POWER_INTERVAL: 1 ms has ended with mean power `mw` in mW, the islands' power in mW and the rails' energy in mJ. -/
def doInterval (w : W) (mw : Nat) (islands : List (Nat × Nat)) (energy : List Nat) : W :=
  let w := w.addEnergy energy islands
  let (tj, hot) := w.hottest
  let w := ((w.setFld Reg.PWR_NOW F.PWR_NOW_P (min 0xFFFF (mw / 1000))).setFld Reg.PWR_NOW F.PWR_NOW_TJ (min 255 tj)).setFld
    Reg.PWR_NOW F.PWR_NOW_HOT hot
  let w := w.when (!w.c.power.throttling.isEmpty || w.flag Reg.PWR_STATUS F.PWR_STATUS_TJMAX) fun w => w.count Reg.THERM_MS 1
  let (lowered, w) := w.throttleStep.capLoop mw islands
  let above := decide (w.capW * 1000 < mw)
  let w := if above then
      let w := w.count Reg.PWR_CAPPED_MS 1
      let w := if 1000 ≤ w.c.power.uncapped then w.pwrRecord 1 0 0 (((w.ctlIslands.map w.point).foldl min 8)) 0 false else w
      w.setPower { w.c.power with uncapped := 0 }
    else w.setPower { w.c.power with uncapped := min 1000 (w.c.power.uncapped + 1) }
  let w := (w.setFlag Reg.PWR_STATUS F.PWR_STATUS_CAPPED lowered).setFlag Reg.PWR_STATUS F.PWR_STATUS_CLAMP w.c.power.clamped
  let w := w.setPower { w.c.power with clamped := false }
  let w := w.setFlag Reg.PWR_STATUS F.PWR_STATUS_THERM (!w.c.power.throttling.isEmpty)
  w.showFloor.showPoints.pend 290

/-! ### The fast clamp and the rails (R421, R425) -/

/-- FAST_CLAMP. -/
def doClamp (w : W) : W :=
  let w := w.ctlIslands.foldl (fun w p => w.setPoint p (w.point p - 2)) w
  let w := (w.setPower { w.c.power with clamped := true }).count Reg.PWR_CLAMPS 1
  w.pwrRecord 2 0 0 (((w.ctlIslands.map w.point).foldl min 8)) 0 false

/-- RAIL_UNDERVOLTAGE of half `h`. -/
def doRailLow (w : W) (h : Nat) : W :=
  let q := w.c.power
  if q.railLow.contains h then w
  else
    let w := (w.setPower { q with railLow := h :: q.railLow }).pointZero fun x => x == h
    (w.pwrRecord 9 3 h 0 0 false).pend 291

/-- RAIL_RECOVERED of half `h`: its islands return to loop control. -/
def doRailBack (w : W) (h : Nat) : W :=
  w.setPower { w.c.power with railLow := w.c.power.railLow.filter (· ≠ h) }

/-! ### Temperatures (R428 to R430) -/

/-- An engine above temperature: its lasers go off and its ports fail; OE8 carries the coherent link. -/
def engineHot (w : W) (e : Nat) (t : Nat) : W :=
  let q := w.c.power
  if q.engines.contains e then w
  else
    let w := w.setPower { q with engines := e :: q.engines }
    let w := if e = 8 then w.sclFail 7 0xFFFF 0
      else (List.range 8).foldl (fun w i =>
        let s := w.portState (8 * e + i)
        if s = 0 ∨ s = 6 then w else w.portFail (8 * e + i) 7 0xF 0) w
    w.pwrRecord 8 3 (314 + e) 0 t false

/-- An engine has cooled: its lasers are on again and its ports retrain. -/
def engineCool (w : W) (e : Nat) : W :=
  let q := w.c.power
  if !q.engines.contains e then w
  else
    let w := w.setPower { q with engines := q.engines.filter (· ≠ e) }
    if e = 8 then w else (List.range 8).foldl (fun w i => w.doPortUp (8 * e + i)) w

/-- The thermal trip: every block is held in reset and the lasers are off until the rails go. -/
def thermTrip (w : W) : W :=
  let w := w.lasersOff 9
  { w with c := { w.c with held := true, power := { w.c.power with tripped := true } } }

/-- A temperature of 105 °C or more: every island to point 0, elements in progress stop. -/
def tjMax (w : W) (i t : Nat) : W :=
  if w.flag Reg.PWR_STATUS F.PWR_STATUS_TJMAX then w
  else
    let w := ((w.pointZero fun _ => true).setFlag Reg.PWR_STATUS F.PWR_STATUS_TJMAX true).stopElements
    (w.pwrRecord 5 3 i 0 t true).pendPriv 1 52

/-- The 105 °C condition ends when every sensor has cooled. -/
def tjEnds (w : W) : W :=
  let t : Int := w.throt
  let cool := (List.range sensorCount).all fun i => match w.sensor i with | some x => decide (x ≤ t - 5) | none => true
  if cool then w.setFlag Reg.PWR_STATUS F.PWR_STATUS_TJMAX false else w

/-- Sensor `i` is faulty: its record is raised once. -/
def sensorFault (w : W) (i : Nat) : W :=
  let q := w.c.power
  if q.faulty.contains i then w else (w.setPower { q with faulty := i :: q.faulty }).pwrRecord 6 3 i 0 w.throt false

/-- THERMAL_SAMPLE of sensor `i`; none: no update for 1 ms. -/
def doSample (w : W) (i : Nat) (celsius : Option Int) : W :=
  let good := match celsius with | some x => decide (-40 ≤ x) && decide (x ≤ 150) | none => false
  let x : Int := if good then celsius.getD 0 else w.throt
  let w := if good then w.setPower { w.c.power with faulty := w.c.power.faulty.filter (· ≠ i) } else w.sensorFault i
  let q := w.c.power
  let n := if 115 ≤ x then Tbl.get (fun _ => 0) q.hot i + 1 else 0
  let w := w.setPower { q with sensors := Tbl.set (fun _ => 0) q.sensors i (x + 1000).toNat,
                               hot := Tbl.set (fun _ => 0) q.hot i n }
  let t := x.toNat
  if 2 ≤ n then w.thermTrip
  else
    let engine := decide (314 ≤ i) && decide (i < 323)
    let w := if engine then
        (if 85 ≤ x then w.engineHot (i - 314) t else if x ≤ 75 then w.engineCool (i - 314) else w)
      else if (w.throt : Int) ≤ x ∧ ¬ w.c.power.throttling.contains i then
        let w := w.setPower { w.c.power with throttling := w.c.power.throttling ++ [i] }
        (w.setFlag Reg.PWR_STATUS F.PWR_STATUS_THERM true).pwrRecord 4 0 i (if i < 312 then w.point i else 0) t false
      else w
    if 105 ≤ x then w.tjMax i t else w.tjEnds

end W

/-! ### The meanings -/

/-- POWER_INTERVAL. -/
def execPowerInterval (mw : Nat) (islands : List (Nat × Nat)) (energy : List Nat) (s : State) :
    Host.Outcome State Fault Refusal := run s fun w => w.doInterval mw islands energy

/-- FAST_CLAMP. -/
def execFastClamp (s : State) : Host.Outcome State Fault Refusal := run s fun w => w.doClamp

/-- RAIL_UNDERVOLTAGE. -/
def execRailUndervoltage (h : Nat) (s : State) : Host.Outcome State Fault Refusal :=
  runOn (decide (h < 2)) s fun w => w.doRailLow h

/-- RAIL_RECOVERED. -/
def execRailRecovered (h : Nat) (s : State) : Host.Outcome State Fault Refusal :=
  runOn (decide (h < 2)) s fun w => w.doRailBack h

/-- THERMAL_SAMPLE. -/
def execThermalSample (i : Nat) (celsius : Option Int) (s : State) : Host.Outcome State Fault Refusal :=
  runOn (decide (i < sensorCount)) s fun w => w.doSample i celsius

/-- PWR_CNT_CLR (R432). -/
def execPwrCntClr (v : Word) (s : State) : Host.Outcome State Fault Refusal :=
  run s fun w => w.clearCounters Reg.PWR_E_TOTAL 11 v

end Sys2Proof.Machine
end

