-- ==== Sys2Proof/Machine/Orders.lean ====
section
/-! DEFINITION. Signed orders (11_fabric_network_and_transport.md R284 to R289; 16_reset_and_recovery.md R381;
18_security.md R410, R411; 08_schedules_and_steps.md R196): verification and effect. -/

namespace Sys2Proof.Machine

/-- TYPE and ORDER_NO of an order (R284). -/
def orderType (bs : List Byte) : Nat := field bs 3 1
def orderNo (bs : List Byte) : Nat := field bs 8 8

/-- The body of an order, and what its signatures cover. -/
def orderBody (bs : List Byte) : List Byte := (bs.drop 32).take (field bs 4 2)
def orderSigned (bs : List Byte) : List Byte := bs.take (32 + field bs 4 2)

/-- The keys of a KEYSET body (R411). -/
def newKeys (b : List Byte) : List (List Byte) := (List.range (field b 0 1)).map fun i => (b.drop (8 + 64 * i)).take 64

/-- Devices of a bitmap, in rising order (R288). -/
def bitmapDevices (b : List Byte) : List Nat :=
  b.zipIdx.flatMap fun x => (setBitsBelow 8 x.1.toNat).map fun i => 8 * x.2 + i

/-- Devices of a PEER_LOST body (R289). -/
def lostDevices (b : List Byte) : List Nat := (List.range (field b 4 2)).map fun i => field b (8 + 2 * i) 2

/-- The body has the layout of its TYPE; reserved bytes are not looked at (R8). EXPEL and READMIT have none that the part
reads. -/
def orderBodyOk (typ : Nat) (b : List Byte) : Bool :=
  match typ with
  | 2 => decide (8 ≤ b.length) && b.length == 8 + 2 * field b 4 2
  | 3 => b.length == 8200
  | 5 => b.length == 8
  | 6 => decide (1 ≤ field b 0 1) && decide (field b 0 1 ≤ 16) && decide (1 ≤ field b 1 1) &&
      decide (field b 1 1 ≤ field b 0 1) && b.length == 8 + 64 * field b 0 1
  | _ => true

namespace W

/-- The signatures an order needs are there (R286, R381, R411). -/
def orderSigs (w : W) (via : Nat) (bs : List Byte) : Bool :=
  let typ := orderType bs
  let msg := orderSigned bs
  let es := sigEntries bs msg.length (field bs 6 1)
  let n := (validKeys w.c.keys msg es).length
  if typ = 2 ∨ typ = 3 then decide (1 ≤ n)
  else if typ = 6 ∧ w.c.keys.isEmpty then
    let ks := newKeys (orderBody bs)
    via == 2 && (validKeys ks msg es).length == ks.length
  else decide (w.quorum ≤ n)

/-- What else the order's TYPE asks for: RETURN comes over the management port and names the OOS_SEQ of the device
(R381); PEER_LOST names the current map (R289). -/
def orderFits (w : W) (via : Nat) (bs : List Byte) : Bool :=
  let b := orderBody bs
  match orderType bs with
  | 2 => field b 0 4 == w.c.mapGen
  | 5 => via == 2 && field b 0 8 == w.fld Reg.RST_STATUS F.RST_STATUS_OOS_SEQ
  | _ => true

/-- The device accepts an order (R286). -/
def orderValid (w : W) (via : Nat) (bs : List Byte) : Bool :=
  orderLayout bs && orderBodyOk (orderType bs) (orderBody bs) && field bs 0x18 2 == w.selfDev &&
    decide ((w.reg Reg.FAB_ORDER_NO).toNat < orderNo bs) && w.timeLocked && decide (w.c.time ≤ field bs 0x10 8) &&
    w.orderSigs via bs && w.orderFits via bs

/-! ### Effects -/

/-- A peer-lost notice or an EXPEL aborts the step in progress, and the sequencer stops after the rollback (R196, R287,
R289). A START that waits for its start barrier can no longer come: the sequencer stops at once. -/
def abortToStop (w : W) : W :=
  let st := w.seqState
  if st = stRun ∨ st = stCommitting ∨ st = stMigrate ∨ st = stRollback then
    match w.c.seq.phase with
    | .startBarrier => (w.setSeq { w.c.seq with phase := .idle, stopReq := false }).setSeqState stStopped
    | .ready true => w.stopNow
    | _ => (w.setSeq { w.c.seq with stopRoll := true }).orderAbort
  else w

/-- EXPEL (R287): the step aborts, the fabric ports carry nothing more, the lasers of OE0 to OE7 are off (`laserOff`),
and the record is raised. -/
def expel (w : W) (no : Nat) : W :=
  let w := w.abortToStop
  let w := (List.range 64).foldl (fun w q =>
    let s := w.portState q
    if s = 0 ∨ s = 6 ∨ s = 7 then w else (w.clearPort q).setPortState q 7) w
  let w := w.setFlag Reg.FAB_ORDER F.FAB_ORDER_EXPELLED true
  w.record { cls := 0x0C, kind := 3, sev := 5, info := w64 w.selfDev, aux := w64 no }

/-- READMIT (R287): with EXPELLED clear the lasers of OE0 to OE7 may be on again (`laserOff`). -/
def readmit (w : W) : W := w.setFlag Reg.FAB_ORDER F.FAB_ORDER_EXPELLED false

/-- A new peer map (R288). -/
def newPeers (w : W) (gen : Nat) (ps : List Nat) : W :=
  let gone := w.c.peers.filter fun d => !(ps.contains d)
  let w := gone.foldl (fun w d => w.dropPeer d) w
  { w with c := { w.c with peers := ps, mapGen := gen } }.unstallPeers

/-- Barrier instances in progress that include a lost device are cancelled (R289). -/
def cancelBarriers (w : W) (lost : List Nat) : W :=
  (List.range 32).foldl (fun w k =>
    let b := w.bar k
    let parent : Bool := !bit (w.barWord k 0) 62 && lost.contains (bits (w.barWord k 0) 47 32)
    let child : Bool := (w.barChildren k).any fun c => lost.contains c
    if (b.got ≠ 0 ∨ b.sent = true) ∧ (parent || child) = true then w.barCancel k else w) w

/-- Multicast reserves and deliveries in progress that wait for a lost device go on without it, its members pruned; one
whose parent is lost is dropped (R289). -/
def cancelGroups (w : W) (lost : List Nat) : W :=
  [0, 1].foldl (fun w h =>
    (w.router h).groups.foldl (fun w (x : GroupRun) =>
      let parent : Bool := x.root.isNone && lost.contains (bits (w.groupWord h x.group 0) 47 32)
      let gone := x.waits.filter fun d => lost.contains d
      if parent then w.dropGroup h x
      else if gone.isEmpty then w
      else
        let members := (w.groupChildren h x.group).foldl (fun (a : Nat) c =>
          if gone.contains c.1 then a ||| (c.2 &&& x.asked) else a) 0
        w.groupCheck h { x with waits := x.waits.filter (fun d => !gone.contains d), all := false,
                                pruned := x.pruned ||| members }) w) w

/-- PEER_LOST (R289). -/
def peerLost (w : W) (lost : List Nat) : W :=
  let w := { w with c := { w.c with peers := w.c.peers.filter fun d => !lost.contains d } }
  let w := lost.foldl (fun w d => w.dropPeer d) w
  ((w.cancelBarriers lost).cancelGroups lost).abortToStop

/-- RETURN (R381): the history and the latch are cleared, and a device warm reset starts. -/
def returnToService (w : W) : W :=
  ((w.setRegWords (Reg.RST_HIST 0) [0, 0, 0, 0]).setFlag Reg.RST_STATUS F.RST_STATUS_OOS false).startWarm 5

/-- The effect of an accepted order. -/
def orderEnact (w : W) (bs : List Byte) : W :=
  let no := orderNo bs
  let b := orderBody bs
  let w := (w.setReg Reg.FAB_ORDER_NO (w64 no)).flashPut (.orderNo no)
  match orderType bs with
  | 1 => w.expel no
  | 2 => w.peerLost (lostDevices b)
  | 3 => w.newPeers (field b 0 4) (bitmapDevices (b.drop 8))
  | 4 => w.readmit
  | 5 => w.returnToService
  | 6 => w.flashPut (.keys (field b 1 1) (newKeys b))
  | _ => w

/-- An order is verified: accepted and enacted, or rejected (R286). -/
def orderVerify (w : W) (via : Nat) (bs : List Byte) : Bool × W :=
  if w.orderValid via bs then (true, w.orderEnact bs) else (false, w.orderReject via (orderNo bs))

/-- The verification of the oldest order of a TYPE ends. -/
def doOrder (w : W) (typ : Nat) : W :=
  match w.c.orders.find? fun o => orderType o.1 == typ with
  | none => w
  | some o =>
    let w := { w with c := { w.c with orders := w.c.orders.erase o } }
    if orderNo o.1 = (w.reg Reg.FAB_ORDER_NO).toNat then w else (w.orderVerify o.2 o.1).2

end W

/-! ### The meanings -/

/-- ORDER_EXPEL. -/
def execOrderExpel (s : State) : Host.Outcome State Fault Refusal := runAux s fun w => w.doOrder 1

/-- ORDER_PEER_LOST. -/
def execOrderPeerLost (s : State) : Host.Outcome State Fault Refusal := runAux s fun w => w.doOrder 2

/-- ORDER_PEER_MAP. -/
def execOrderPeerMap (s : State) : Host.Outcome State Fault Refusal := runAux s fun w => w.doOrder 3

/-- ORDER_READMIT. -/
def execOrderReadmit (s : State) : Host.Outcome State Fault Refusal := runAux s fun w => w.doOrder 4

/-- ORDER_RETURN. -/
def execOrderReturn (s : State) : Host.Outcome State Fault Refusal := runAux s fun w => w.doOrder 5

/-- ORDER_KEYSET. -/
def execOrderKeyset (s : State) : Host.Outcome State Fault Refusal := runAux s fun w => w.doOrder 6

end Sys2Proof.Machine
end

