-- ==== Sys2Proof/Machine/ResetDone.lean ====
section
/-! DEFINITION. How resets end (16_reset_and_recovery.md R373 to R379; 12_host_link_and_rings.md R315, R316;
17_bring_up_and_variants.md R402): completion of each domain with its re-qualification, recovery after a device warm
reset, and the isolation of a unit whose reset does not end. -/

namespace Sys2Proof.Machine

namespace W

/-! ### Channels (R224) -/

/-- The running schedule loses what a failed stack held (R222, R224): the sequencer halts. -/
def stackLost (w : W) (m : Nat) : W :=
  match w.c.seq.img with
  | some i => if i.stks.testBit m ∧ w.loaded then w.committedLost else w
  | none => w

/-- The interface of a channel works again, or the channel is given up: what made it fail is over (R219). -/
def channelRetrained (w : W) (m pc : Nat) : W :=
  let t := w.memc m
  w.setMemc m { t with failing := t.failing.filter (· ≠ pc) }

/-- A channel that its reset does not restore (R224): fenced; an HBM stack fails with its defect entries, the row being
that of the address of a memory failure (KIND 3, 4 or 6) on it, if MEMC_ERR_INFO holds one. Which row an address is in is
the controller's and free (log entry 1). Distances are computed again. -/
def channelLost (w : W) (m pc : Nat) : W :=
  let w := (w.channelRetrained m pc).fenceChannel m pc
  if 8 ≤ m then w
  else
    let u := 64 * m + pc
    let w := w.enterDefect 5 u 0x0A 4 4 0
    let k := Reg.MEMC_ERR_INFO m
    let failed := [3, 4, 6].contains (w.fld k F.MEMC_ERR_INFO_KIND)
    let w := if w.flag k F.MEMC_ERR_INFO_VALID ∧ failed ∧ w.fld k F.MEMC_ERR_INFO_PC = pc then
        let (row, w) := w.draw
        w.enterDefect 6 u 0x0A 4 4 row.toNat
      else w
    w.writeDistances.stackLost m

/-! ### A half comes back (R373, R377) -/

/-- The commit record of the committed step, when its slot holds it (R189): its words. -/
def committedRecord (w : W) : Option (List Word) × W :=
  match w.c.seq.img with
  | none => (none, w)
  | some i =>
    let c := (w.reg Reg.SEQ_COMMITTED).toNat
    let (bs, w) := w.devRead (i.commitBase + w64 (64 * (c % 2))) 64
    (if slotValid i bs ∧ (payWord bs 1).toNat = c then some ((List.range 8).map (payWord bs)) else none, w)

/-- The running epoch, from the commit record; 0 before the first commit. -/
def committedEpoch (w : W) : Nat × W :=
  let (r, w) := w.committedRecord
  ((r.map fun ws => bits (ws.getD 0 0) 39 36).getD 0, w)

/-- Gallery `p`, carrying `g` of the running placement, gets the contents of the image again (R362), with the epoch. -/
def refill (w : W) (g p epoch : Nat) : W :=
  if w.usesLogical g then
    (List.range 16).foldl (fun w a => w.setFld (Reg.Q_EPOCH p a) F.Q_EPOCH_CUR epoch) (w.reloadSpare g p)
  else w

/-- A logical gallery of half `h` that failed the re-qualification is remapped or absent (R377). -/
def halfPlace (w : W) (h g : Nat) : W :=
  match w.physOf g with
  | none => w
  | some p =>
    if halfOf p ≠ h ∨ w.pstate p = 0 then w
    else match w.bestSpare h with
      | some q =>
        let w := (w.setMapEntry g (2 ^ 15 + q)).setPstate q 0
        ((w.count Reg.FLT_REMAPS 1).capRecord 1 (q + 512) p none).saveMap
      | none => w.makeAbsent g p

/-- The half reset ends: mesh and stair are re-qualified, firmware is in its galleries, its ports train. -/
def halfDone (w : W) (h : Nat) (b : BootView) : W :=
  let mine := fun (l : Nat) => halfOf l == h
  let half := (List.range 312).filter mine
  let w := (b.fails.filter fun f => f.1 == 0x11).foldl (fun w f =>
    (w.enterDefect 4 (2 * f.2.1) 0x0E f.2.2 4 0).enterDefect 4 (2 * f.2.1 + 1) 0x0E f.2.2 4 0) w
  let w := half.foldl (fun w l => (w.openLanding l).setFlag (Reg.LND_STATUS l) F.LND_STATUS_FENCED_GAL true) w
  let w := (List.range 24).foldl (fun w i =>
    let e := stairEnds (i / 2) (i % 2)
    let on := !w.isDefect 4 i && !w.landFenced e.1.1 && !w.landFenced e.2.1
    (w.setPortEnabled e.1.1 e.1.2 on).setPortEnabled e.2.1 e.2.2 on) w
  let w := w.qualify b mine
  let w := (half.filter fun p => w.pstate p == 7).foldl (fun w p => w.setPstate p 1) w
  let w := ((b.incomplete.filter galOk).filter mine).foldl (fun w p => w.leaveIncomplete p) w
  let w := (List.range w.logicals).foldl (fun w g => w.halfPlace h g) w
  let w := w.writeMasks.loadTables.writeDistances
  let (e, w) := w.committedEpoch
  let w := (List.range w.logicals).foldl (fun w g =>
    match w.physOf g with
    | some p => if halfOf p = h then (w.enterService p).refill g p e else w
    | none => w) w
  (List.range 32).foldl (fun w i => w.portTrain (32 * h + i)) w

/-! ### Recovery after a device warm reset (R315, R316) -/

/-- The words of a record of 64 bytes whose CRC matches (R307, R309). -/
def sealed (bs : List Byte) : Option (List Word) :=
  if bs.length = 64 ∧ bits (payWord bs 7) 63 32 = crc32c (bs.take 60) then some ((List.range 8).map (payWord bs)) else none

/-- RTYPE and JSN of a journal record, and the JSN of the ACCEPT a FINISH or FAIL concerns. -/
def rtype (r : List Word) : Nat := bits (r.getD 0 0) 55 48
def recJsn (r : List Word) : Nat := (r.getD 1 0).toNat
def recTarget (r : List Word) : Nat := (r.getD 4 0).toNat

/-- The journal's valid records. -/
def journalOf (v : WarmView) : List (List Word) :=
  (v.journal.filterMap sealed).filter fun r => bits (r.getD 0 0) 63 56 == 1

/-- The descriptor of an ACCEPT, as the journal and its slot give it: its FAIL record's status, or that of the ACCEPT. -/
def journalDesc (v : WarmView) (recs : List (List Word)) (r : List Word) : Desc :=
  let j := recJsn r
  let fail := recs.find? fun x => rtype x == 3 && recTarget x == j
  let w0 := r.getD 0 0
  let slot := v.slots.find? fun x => x.1 == j
  let words := match slot with
    | some x => (List.range 8).map (payWord x.2.1)
    | none => [w64 (bits (r.getD 5 0) 31 0 * 2 ^ 32 + 2 ^ 8 + bits w0 47 40)]
  { jsn := j, ring := bits w0 31 26, index := bits (r.getD 2 0) 63 32, cpr := bits w0 25 20, cslot := bits (r.getD 2 0) 31 0,
    words := words, bound := r.getD 3 0 != 0, start := (r.getD 3 0).toNat, target := recTarget r,
    dcrc := bits (r.getD 6 0) 31 0,
    status := match fail with | some x => bits (x.getD 0 0) 39 32 | none => bits w0 39 32,
    buf := (slot.bind fun x => x.2.2).getD [], phase := .accepted, failRec := if fail.isSome then 3 else 0 }

/-- Descriptors in JSN order. -/
def inJsnOrder (ds : List Desc) : List Desc :=
  ds.foldl (fun l d => l.takeWhile (fun e => decide (e.jsn < d.jsn)) ++ d :: l.dropWhile fun e => decide (e.jsn < d.jsn)) []

/-- What a descriptor re-executes has changed since its accept: its slot's CRC differs (R315). -/
def slotChanged (v : WarmView) (d : Desc) : Bool :=
  match v.slots.find? fun x => x.1 == d.jsn with
  | some x => crc32c (x.2.1.take 64) != d.dcrc
  | none => false

/-- One ACCEPT with no FINISH, after committed step `c` (R315). -/
def recoverDesc (w : W) (v : WarmView) (c : Nat) (sameLoad : Desc → Bool) (d : Desc) : W :=
  let op := d.opcode
  let finish := if op = 4 then d.target else d.start
  if d.bound ∧ finish ≤ c then
    if op = 0x18 then w.setDesc { d with step := d.start, buf := w.resultRecord d d.start }
    else if op = 4 then w.complete d.jsn 0 (w64 d.target) d.target
    else if op = 0x19 then w.complete d.jsn 0 (d.words.getD 2 0) (d.start - 1)
    else w.complete d.jsn 0 (w64 (if d.status = 0 then d.bytes else 0)) d.start
  else if op = 4 ∧ d.bound then w.setDesc { d with phase := .acting }
  else if d.bound ∧ d.isCopy ∧ (d.status ≠ 0 ∨ slotChanged v d) then
    w.setDesc { d with status := if d.status = 0 then 6 else d.status, phase := .acting, pos := d.len }
  else if d.status ≠ 0 then w.complete d.jsn d.status 0 0
  else if slotChanged v d then w.complete d.jsn 6 0 0
  else if op = 0xA ∨ sameLoad d then w.complete d.jsn 0 0 0
  else w

/-- The image of the job line is read again, its digest checked (R178 step 2); the schedule with its seeds and the
configuration set comes after. -/
def reloadImage (w : W) (job : List Word) : Option Img × W :=
  let a := job.getD 0 0
  let (hd, w) := w.devRead a 16
  let (img, w) := w.devRead a (max 256 (leNat ((hd.drop 8).take 8)))
  if !headerOk img || imageDigest img != (img.drop 0x30).take 64 ||
      job.getD 4 0 != w64 (leNat ((img.drop 0x30).take 8)) then (none, w)
  else
    let h := fun (o n : Nat) => leNat ((img.drop o).take n)
    let n := h 0x16 1
    let blk := job.getD 2 0
    let (bs, w) := if blk = 0 then ([], w) else w.devRead blk 128
    let seeds := (List.range n).map fun i => if blk = 0 then w64 (h (0x70 + 8 * i) 8) else payWord bs i
    let regions := match (sectionsOf img).find? fun s => s.typ == 9 with
      | some s => (List.range 64).map (payWord (img.drop s.off))
      | none => []
    let w := w.setStepWd (h 0x18 4)
    let w := w.setFld Reg.SEQ_CFG F.SEQ_CFG_QUIET (h 0x1C 4)
    (some { addr := a, stks := h 0x12 1, devices := h 0x14 2, nseeds := n, ncfg := h 0x17 1, digest := (img.drop 0x30).take 64,
            commitBase := w64 (h 0x20 8), drainBase := w64 (h 0x28 8), seeds := seeds, seedBlock := blk, regions := regions,
            view := imageView img }, w)

/-- The committed step, and configuration set, epoch and JOURNAL of its record; the schedule is in place but not
started. -/
def settleJob (w : W) (v : WarmView) (job : List Word) : Option (Nat × Nat) × W :=
  match w.reloadImage job with
  | (none, w) => (none, w)
  | (some i, w) =>
    let (c, w) := (w.setSeq { img := some i }).settleCommit v.forward
    match c with
    | none => (none, w.setSeq {})
    | some c =>
      let (r, w) := (w.setReg Reg.SEQ_COMMITTED (w64 c)).committedRecord
      let ws := r.getD []
      (some (c, (ws.getD 4 0).toNat),
       w.setSeq { w.c.seq with cfg := bits (ws.getD 0 0) 35 32, commitTime := (ws.getD 2 0).toNat })

/-- Nothing is accepted on a ring until both its doorbells are written again; the next index is the one after the newest
ACCEPT of the ring (R316). -/
def disarm (w : W) (accs : List Desc) : W :=
  let w := (List.range 64).foldl (fun w r =>
    let next := accs.foldl (fun (a : Nat) d => if d.ring = r then (d.index + 1) % 2 ^ 32 else a) 0
    w.setCmdRing r { prod := next, next := next, armed := false }) w
  (List.range 64).foldl (fun w c =>
    let next := accs.foldl (fun (a : Nat) d => if d.cpr = c then (d.cslot + 1) % 2 ^ 32 else a) 0
    w.setCplRing c { ci := next, next := next, write := next, armed := false }) w

/-- The recovery (R315): the committed step, the job, the journal's open descriptors, the run limit; the schedule is
loaded again and its next step may start. -/
def recover (w : W) (v : WarmView) : W :=
  let recs := journalOf v
  let accs := inJsnOrder ((recs.filter fun r => rtype r == 1).map (journalDesc v recs))
  let job := match sealed v.job with | some ws => if ws.getD 0 0 = 0 then none else some ws | none => none
  let (at_, w) := match job with | some ws => w.settleJob v ws | none => (none, w)
  let (c, j0) := at_.getD (0, 0)
  let isOpen := fun (d : Desc) => decide (j0 ≤ d.jsn) && !(recs.any fun x => rtype x == 2 && recTarget x == d.jsn)
  let open_ := accs.filter isOpen
  let jsn := recs.foldl (fun (a : Nat) r => max a (recJsn r + 1)) 0
  let limit := open_.foldl (fun (a : Nat) d => if d.opcode = 4 ∧ d.status = 0 then max a d.target else a)
    ((job.map fun ws => (ws.getD 3 0).toNat).getD 0)
  let w := w.disarm accs
  let w := w.setHost { w.c.host with jsn := jsn, descs := open_ }
  let w := w.setSeq { w.c.seq with runLimit := limit }
  let sameLoad := fun (d : Desc) => match job with
    | some ws => d.opcode == 2 && at_.isSome && d.words.getD 1 0 == ws.getD 0 0 &&
        (bits (d.words.getD 3 0) 7 0 == bits (ws.getD 1 0) 7 0 || bits (d.words.getD 3 0) 7 0 == 0xFF)
    | none => false
  let w := open_.foldl (fun w d => w.recoverDesc v c sameLoad d) w
  match at_, job with
  | some _, some ws =>
    let (e, w) := w.committedEpoch
    let w := w.finishLoad (bits (ws.getD 1 0) 7 0) none v.forward stIdle
    w.usedGals.foldl (fun w p => (List.range 16).foldl (fun w a => w.setFld (Reg.Q_EPOCH p a) F.Q_EPOCH_CUR e) w) w
  | _, _ => w

/-- The device warm reset ends (R379, R402): mesh, firmware, memory, maps, then the recovery and DEVICE_READY. -/
def warmDone (w : W) (v : WarmView) (t : Nat) : W :=
  let b := v.boot
  let w := (List.range 312).foldl (fun w l => w.openLanding l) w
  let w := (w.qualify b fun _ => true).loadTables
  if !w.exitsOk then w.safeState 6
  else if !w.componentsOk b then w.componentFails
  else
    let w := (b.incomplete.filter galOk).foldl (fun w p => w.leaveIncomplete p) w
    let w := (w.memoryUp b).showTrained.bootPlaces.writeDistances.enterAll.loadTables
    let w := (((w.idleHalf 0).idleHalf 1).setFlag Reg.SEQ_CFG F.SEQ_CFG_EN true).setStage 9
    let w := (w.setReg Reg.BOOT_READY (w.reg Reg.RST_UPTIME)).setBootState
      (if !w.sclUp then 3 else if w.degraded then 2 else 1)
    let w := w.showFabric
    let w := if w.sclUp then (w.recover v).errEvent 3 else w
    w.startMessage.rstRecord 8 0 0 (w64 t)

/-! ### Completion (R373) -/

/-- RESET_COMPLETE: the reset at place `k` of those in progress ends. -/
def doResetComplete (w : W) (k : Nat) (v : WarmView) : W :=
  match w.c.resets[k]? with
  | none => w
  | some r =>
    let w := w.setResets (w.c.resets.eraseIdx k)
    let t := w.uptime - r.start
    let aux := w64 t
    match r.dom with
    | .core p a => (w.resetCore p a).rstRecord 1 p 0 aux
    | .gallery p => (w.resetIsland p).rstRecord 2 p 0 aux
    | .landing l =>
      let bad := v.boot.links.filter fun u => (linkEnd u).1 == l || farEnd (linkEnd u).1 (linkEnd u).2 == some l
      let w := w.resetLanding l
      (if bad = [] then w else (w.failLinks bad).flipDetours).rstRecord 3 l 0 aux
    | .half h => (w.halfDone h v.boot).rstRecord 4 h 0 aux
    | .port q => (w.portTrain q).rstRecord 5 q 0 aux
    | .hbm m pc =>
      (if v.boot.channels.contains (m, pc) then w.channelLost m pc else w.channelRetrained m pc).rstRecord 6
        (64 * m + pc) 0 aux
    | .ddr m =>
      (if v.boot.channels.any fun x => x.1 == m then w.channelLost m 0 else w.channelRetrained m 0).rstRecord 7 m 0 aux
    | .warm => w.warmDone v t

/-! ### Escalation (R376, R382) -/

/-- The gallery's power switch opens: FLT_PSTATE and the map say DEFECT, and its work moves away. -/
def isolateGallery (w : W) (p : Nat) : W :=
  let g := w.logicalOf p
  let w := (w.fenceGallery p).islandOff p
  let w := if w.seqState = stRun ∨ w.seqState = stCommitting then w.rollbackIf else w
  ((w.enterDefect 1 p 0x12 9 4 0).setPstate p 4).moveAway p g

/-- The landing's power switch opens. -/
def isolateLanding (w : W) (l : Nat) : W :=
  let w := { w with c := { w.c with lndOff := l :: w.c.lndOff.filter (· ≠ l) } }
  (w.fenceLanding l 0x12 9).islandOff l

/-- The port's transmitters are held off: it stays FAILED, and a hot spare takes over. -/
def isolatePort (w : W) (q : Nat) : W :=
  let w := ((w.clearPort q).setPortState q 7).enterDefect 7 q 0x12 9 4 0
  w.when (w.flag (Reg.FAB_PORT_CFG q) F.FAB_PORT_CFG_SPARE_AUTO) fun w => w.tryPromote q

/-- RESET_TIMEOUT: the reset at place `k` has reached its timeout. -/
def doResetTimeout (w : W) (k : Nat) : W :=
  match w.c.resets[k]? with
  | none => w
  | some r =>
    let w := w.setResets (w.c.resets.eraseIdx k)
    let aux := w64 (w.uptime - r.start)
    match r.dom with
    | .core p _ => (w.rstRecord 9 p 3 aux).doGalleryReset p
    | .gallery p => (w.rstRecord 9 p 3 aux).isolateGallery p
    | .landing l => (w.rstRecord 9 l 3 aux).isolateLanding l
    | .half h => (w.rstRecord 9 h 5 aux).selfWarm 4
    | .port q => (w.rstRecord 9 q 3 aux).isolatePort q
    | .hbm m pc => (w.rstRecord 9 (64 * m + pc) 3 aux).channelLost m pc
    | .ddr m => (w.rstRecord 9 m 3 aux).channelLost m 0
    | .warm =>
      let w := (w.setFlag Reg.RST_STATUS F.RST_STATUS_COLD_REQ true).rstRecord 0xD 0 5 aux
      { w with c := { w.c with held := true } }

/-- ISOLATION_SWITCH_TIMEOUT: the power switch of an isolated gallery or landing does not report off. -/
def doSwitchTimeout (w : W) (p : Nat) (isLanding : Bool) : W :=
  let isolated := if isLanding then w.c.lndOff.contains p else w.isDefect 1 p && w.gated p
  if isolated then w.doHalfReset (halfOf p) else w

end W

/-! ### The meanings -/

/-- RESET_COMPLETE. -/
def execResetComplete (k : Nat) (found : WarmView) (s : State) : Host.Outcome State Fault Refusal :=
  runAux s fun w => w.doResetComplete k found

/-- RESET_TIMEOUT. -/
def execResetTimeout (k : Nat) (s : State) : Host.Outcome State Fault Refusal := runAux s fun w => w.doResetTimeout k

/-- ISOLATION_SWITCH_TIMEOUT. -/
def execIsolationSwitchTimeout (p : Nat) (landing : Bool) (s : State) : Host.Outcome State Fault Refusal :=
  if galOk p then runAux s fun w => w.doSwitchTimeout p landing else .fault .noSuchUnit

end Sys2Proof.Machine
end

