-- ==== Sys2Proof/Machine/SetupWrite.lean ====
section
/-! DEFINITION. What a write of the set-up region does (00_scope.md R4 to R7; the register tables of the chapters): the
plain fields by their access codes, and the registers whose write is an action of their block. -/

namespace Sys2Proof.Machine

/-- A write of one register: its row, its offset from S, the bits written (all of them, or the half of a 64-bit register),
the value in place, the requester. -/
structure RegWr where
  row : RegRow
  k : Nat
  m : Nat
  v : Nat
  req : Word

/-- The value in place, zero outside the bits written. -/
def RegWr.word (x : RegWr) : Word := w64 (x.v &&& x.m)

/-- Bit `i` is written 1. -/
def RegWr.on (x : RegWr) (f : Fld) : Bool := bits x.word f.hi f.lo != 0

namespace W

/-- The register with its RW fields as written (R4). -/
def rwMerged (w : W) (x : RegWr) : Word :=
  let rw := x.row.maskOf (· == .rw) &&& x.m
  (w.reg x.k &&& ~~~(w64 rw)) ||| (x.word &&& w64 rw)

/-- A write that only sets fields (R4): RW set, W1C cleared, W1S set; RO, WO and RSV bits are not written. -/
def plainWrite (w : W) (x : RegWr) : W :=
  let c := w64 (x.row.maskOf (· == .w1c)) &&& x.word
  let st := w64 (x.row.maskOf (· == .w1s)) &&& x.word
  w.setReg x.k ((w.rwMerged x &&& ~~~c) ||| st)

/-- A write refused in the current state (R354 class 0x0F KIND 0x2). -/
def refuseWrite (w : W) (x : RegWr) : W := w.recordAccess 2 x.k x.req

/-- The actions of a row of action bits, in the order listed. -/
def actions (w : W) (x : RegWr) (as : List (Fld × (W → W))) : W := as.foldl (fun (w : W) a => w.when (x.on a.1) a.2) w

/-! ### A gallery's block (R464, R465) -/

/-- Core registers, block base `b`: INJECT at 0xC, CNT_CLR at 0x20. -/
def coreWrite (w : W) (p b mask counters : Nat) (x : RegWr) : W :=
  if x.k = b + 0xC then w.writeInject p x.k x.word.toNat mask x.req
  else if x.k = b + 0x20 then w.clearCounters (b + 0x40) counters x.word
  else w.plainWrite x

/-- SC_CFG: a change of EN starts or stops the core. -/
def scCfgWrite (w : W) (p n : Nat) (x : RegWr) : W :=
  let was := w.flag x.k F.SC_CFG_EN
  let on := x.on F.SC_CFG_EN
  let w := (w.plainWrite x).setFlag x.k F.SC_CFG_EN was
  if on && !was then w.doScEnable p n else if was && !on then w.doScDisable p n else w

/-- A queue block (R175). -/
def queueWrite (w : W) (p a off : Nat) (x : RegWr) : W :=
  if x.k = Reg.Q_CNT_CLR p a then w.doQCntClr p a x.word
  else if x.k = Reg.Q_DRAIN_CTL p a then w.when (x.on F.Q_DRAIN_CTL_CLEAR) fun w => w.doDrainClear p a
  else if 0x100 ≤ off ∧ off < 0x200 then
    if ((w.agent p a).openOn ((off - 0x100) / 8 % 16)).isEmpty then w.plainWrite x else w.engineFault p a 5
  else w.plainWrite x

/-- A gallery's registers outside its cores and queue blocks. -/
def galleryWrite (w : W) (p : Nat) (x : RegWr) : W :=
  if x.k = Reg.HALL_CNT_CLR p then w.clearListed (hallCounters p) x.word
  else if x.k = Reg.GSTEP_CTL p then
    if x.on F.GSTEP_CTL_ABORT then w.doGstepAbort p
    else if x.on F.GSTEP_CTL_START then (if x.on F.GSTEP_CTL_COLD then w.doColdEntry p else w.doWarmEntry p)
    else w
  else if x.k = Reg.GSTEP_SCAN p then
    let w := w.plainWrite x
    if x.on F.GSTEP_SCAN_GO then w.doScanGo p (w.reg x.k ||| 1) else w
  else if x.k = Reg.GND_CTL p then
    w.when (x.on F.GND_CTL_SNAP) fun w => w.setFld (Reg.GND_SENT p) ⟨31, 0⟩ (w.fld (Reg.GND_PEND p) ⟨31, 0⟩)
  else if x.k = Reg.GAL_FENCE p then
    w.actions x [(F.GAL_FENCE_FENCE, fun w => w.fenceIsland p), (F.GAL_FENCE_UNFENCE, fun w => w.doUnfence p x.req)]
  else if x.k = Reg.GAL_RST p then
    if x.on F.GAL_RST_GAL then w.doGalleryReset p
    else w.when (x.on F.GAL_RST_CORE) fun w => w.doCoreReset p (bits x.word 15 0) x.req
  else if x.k = Reg.GBOOT_CTL p then
    w.actions x [(F.GBOOT_CTL_ARM, fun w => w.doGbootArm p), (F.GBOOT_CTL_DISARM, fun w => w.doGbootDisarm p),
      (F.GBOOT_CTL_REPORT, fun w => w.doGbootReport p (bits x.word 26 16) (bits x.word 2 0))]
  else w.plainWrite x

/-- A gallery slot. -/
def slotWrite (w : W) (x : RegWr) : W :=
  let p := (x.k - 0x20000000) / 0x40000
  let off := (x.k - 0x20000000) % 0x40000
  let n := off % 0x4000 / 0x100
  if off < 0x4000 then w.galleryWrite p x
  else if off < 0x4800 then
    let w := w.coreWrite p (Reg.MC_ID p n) 0x7FFFFF 9 x
    w.when (x.k == Reg.MC_CFG p n) fun w => w.mcGo p n
  else if off < 0x4C00 then w.coreWrite p (Reg.VC_ID p (n % 8)) 0x7FFF80 8 x
  else if off < 0x20000 then
    if x.k = Reg.SC_CFG p (n % 4) then w.scCfgWrite p (n % 4) x else w.coreWrite p (Reg.SC_ID p (n % 4)) 0x7FFF80 8 x
  else w.queueWrite p ((off - 0x20000) / 0x2000) ((off - 0x20000) % 0x2000) x

/-! ### A landing's slot (R148) -/

def landingWrite (w : W) (x : RegWr) : W :=
  let l := (x.k - 0x10000000) / 0x4000
  if x.k = Reg.LND_CNT_CLR l then w.clearCounters (Reg.LND_FLITS_OUT l) 7 x.word
  else if x.k = Reg.LND_TBL_SEL l then w.doTblSel l x.word
  else if x.k = Reg.LND_FLT_ARRIVE l then
    if x.m = 2 ^ 64 - 1 then w.doLndFltArrive l x.word else w.recordAccess 1 x.k x.req
  else if x.k = Reg.LND_CFG l then
    let w := w.plainWrite x
    w.setReg x.k (w64 ((w.reg x.k).toNat &&& lndCfgBits l))
  else if x.k = Reg.LND_RST l then w.when (x.on F.LND_RST_GO) fun w => w.doLandingReset l
  else w.plainWrite x

/-! ### The vestibule -/

/-- Security block (R404 to R418). -/
def secWrite (w : W) (x : RegWr) : W :=
  if x.k = Reg.SEC_CTL then w.when (x.on F.SEC_CTL_RELOCK) fun w => w.doRelock
  else if x.k = Reg.SEC_FLOOR then w.doFloorWrite x.word x.req
  else if x.k = Reg.SEC_MB_CTL then
    if x.on F.SEC_MB_CTL_GO then w.mailboxGo (bits x.word 31 24) (bits x.word 23 1) x.req else w.plainWrite x
  else w.plainWrite x

/-- CP_WDn (R375): PERIOD, EN once set, KICK. -/
def watchdogWrite (w : W) (n : Nat) (x : RegWr) : W :=
  let fresh := x.on F.CP_WD_EN && !w.flag x.k F.CP_WD_EN
  let w := w.plainWrite x
  let w := w.when fresh fun w => w.doWdEnable n (w.fld x.k F.CP_WD_PERIOD)
  w.when (x.on F.CP_WD_KICK) fun w => w.setKick n

/-- Reset block (R373 to R387). -/
def rstWrite (w : W) (x : RegWr) : W :=
  if x.k = Reg.RST_CTL then
    if x.on F.RST_CTL_WARM then w.doWarmReset 1 x.req
    else w.actions x [(F.RST_CTL_HALF_W, fun w => w.doHalfReset 0), (F.RST_CTL_HALF_E, fun w => w.doHalfReset 1)]
  else if x.k = Reg.RST_CNT_CLR then w.clearCounters Reg.RST_MERGED 2 x.word
  else if x.k = Reg.SNAP_CTL then
    w.actions x [(F.SNAP_CTL_REARM, fun w => w.doRearm), (F.SNAP_CTL_TRIG, fun w => w.doSnapTrigger 2)]
  else if x.k = Reg.DUMP_CTL then w.when (bit x.word 0) fun w => w.startDump
  else match (List.range 4).find? fun n => x.k == Reg.CP_WD n with
    | some n => w.watchdogWrite n x
    | none => w.plainWrite x

/-- Self-test block: a half whose rotation is switched on or off shows it while it has no target (R352). -/
def stWrite (w : W) (x : RegWr) : W :=
  if x.k = Reg.ST_CNT_CLR then (w.clearCounters Reg.ST_MOVES0 6 x.word).clearCounters Reg.ST_MOVES1 6 (x.word >>> 8)
  else if x.k = Reg.ST_CFG then
    (List.range 2).foldl (fun (w : W) h =>
      let st := bits (w.reg (Reg.ST_HALF h)) 2 0
      w.when (st == 0 || st == 1) fun w => w.idleHalf h) (w.plainWrite x)
  else w.plainWrite x

/-- Sequencer block (R202). -/
def seqWrite (w : W) (x : RegWr) : W :=
  if x.k = Reg.SEQ_CNT_CLR then w.clearCounters Reg.SEQ_REEXECS 2 x.word
  else if x.k = Reg.SEQ_CTL then
    w.actions x [(F.SEQ_CTL_ABORT, orderAbort), (F.SEQ_CTL_STOP, doSeqStop), (F.SEQ_CTL_RESUME, doSeqResume),
      (F.SEQ_CTL_UNLOAD, doSeqUnload)]
  else if x.k = Reg.SEQ_WD then
    let w := w.plainWrite x
    w.setStepWd (w.fld Reg.SEQ_WD F.SEQ_WD_STEP_WD)
  else w.plainWrite x

/-- Memory block (R205, R227, R228). -/
def memWrite (w : W) (x : RegWr) : W :=
  let off := x.k - 0x700000
  if x.k = Reg.MEM_DDR then w.doMemDdrIlvWrite x.word x.req
  else if 0x100 ≤ off ∧ off < 0x200 then w.doMemIrgnWrite ((off - 0x100) / 0x10) (off % 0x10 / 8) (w.rwMerged x) x.req
  else if 0x1000 ≤ off ∧ off < 0x2000 ∧ off % 0x100 = 0xC then w.clearCounters (x.k - 0xC + 0x40) 9 x.word
  else w.plainWrite x

/-- The shares of FAB_PORT_VLCRED or SCL_VLCRED total at most 128. -/
def sharesOk (v : Word) : Bool :=
  decide (((List.range 8).map fun (i : Nat) => bits v (8 * i + 7) (8 * i)).foldl (· + ·) 0 ≤ 128)

/-- A fabric port's block and the fabric control block (R255, R259). -/
def fabWrite (w : W) (x : RegWr) : W :=
  if x.k = Reg.FAB_TOPO then w.doTopoWrite (w.rwMerged x) x.req
  else if 0x904000 ≤ x.k then w.plainWrite x
  else
    let q := (x.k - 0x900000) / 0x100
    if x.k = Reg.FAB_PORT_CFG q then
      let was := w.flag x.k F.FAB_PORT_CFG_EN
      let on := x.on F.FAB_PORT_CFG_EN
      let w := (w.plainWrite x).setFlag x.k F.FAB_PORT_CFG_EN was
      if on && !was then w.doPortEnable q else if was && !on then w.doPortDisable q else w
    else if x.k = Reg.FAB_PORT_CTL q then
      w.actions x [(F.FAB_PORT_CTL_DOWN, fun w => w.drainPort q), (F.FAB_PORT_CTL_UP, fun w => w.doPortUp q)]
    else if x.k = Reg.FAB_PORT_CNT_CLR q then w.clearCounters (Reg.LNK_TX_FRAMES q) 11 x.word
    else if x.k = Reg.FAB_PORT_VLCRED q then
      if w.portState q = 0 ∧ sharesOk (w.rwMerged x) then w.plainWrite x else w.refuseWrite x
    else w.plainWrite x

/-- A command ring is disabled and holds no accepted descriptor. -/
def ringIdle (w : W) (r : Nat) : Bool :=
  !w.flag (Reg.SCL_CR_CFG r) F.SCL_CR_CFG_EN && !(w.c.host.descs.any fun d => d.ring == r)

/-- A completion ring is disabled and no accepted descriptor completes on it. -/
def cplIdle (w : W) (c : Nat) : Bool :=
  !w.flag (Reg.SCL_CPR_CFG c) F.SCL_CPR_CFG_EN && !(w.c.host.descs.any fun d => d.cpr == c)

/-- SCL block (R318). -/
def sclWrite (w : W) (x : RegWr) : W :=
  let off := x.k - 0xC00000
  if x.k = Reg.SCL_CNT_CLR then w.clearCounters Reg.SCL_DESC_ACC 8 x.word
  else if x.k = Reg.SCL_CFG then
    let was := w.flag x.k F.SCL_CFG_EN
    ((w.plainWrite x).setFlag x.k F.SCL_CFG_EN was).doSclEnable (x.on F.SCL_CFG_EN)
  else if x.k = Reg.SCL_VLCRED then
    if w.fld Reg.SCL_STATUS F.SCL_STATUS_STATE = 0 ∧ sharesOk (w.rwMerged x) then w.plainWrite x else w.refuseWrite x
  else if x.k = Reg.SCL_JRNL_BASE ∨ x.k = Reg.SCL_JRNL_CFG ∨ x.k = Reg.SCL_JOB_ADDR then
    if (List.range 64).all fun r => w.ringIdle r then w.plainWrite x else w.refuseWrite x
  else if 0x400 ≤ off ∧ off < 0x800 then
    if w.ringIdle ((off - 0x400) / 0x10) then w.plainWrite x else w.refuseWrite x
  else if 0x800 ≤ off ∧ off < 0xC00 then
    if w.cplIdle ((off - 0x800) / 0x10) then w.plainWrite x else w.refuseWrite x
  else if 0x1000 ≤ off ∧ off < 0x1200 then w.doCmdDb ((off - 0x1000) / 8) (bits x.word 31 0)
  else if 0x1200 ≤ off ∧ off < 0x1400 then w.doCplDb ((off - 0x1200) / 8) (bits x.word 31 0)
  else w.plainWrite x

/-- An interrupt source (R437, R438, R445): a reserved one has no effect; an urgent one keeps EN, MOD and PRIO; a private
one has no TARGET. -/
def sourceWrite (w : W) (n id : Nat) (x : RegWr) : W :=
  if !srcOk n id then w
  else
    let old := w.reg x.k
    let w := w.plainWrite x
    let w := w.when (bit old 29) fun w => w.setReg x.k (putBits (putBits (w.reg x.k) 28 28 (bits old 28 28)) 25 19 (bits old 25 19))
    let w := w.when (id < 64) fun w => w.setReg x.k (putBits (w.reg x.k) 27 26 (bits old 27 26))
    w.when (bit x.word 30) fun w => w.pendSrc n id

/-- The interrupt controller (R445). -/
def icWrite (w : W) (x : RegWr) : W :=
  let off := x.k - 0xD00000
  if x.k = Reg.IC_CNT_CLR then w.clearCounters Reg.IC_DELIV0 5 x.word
  else if 0x2000 ≤ off then w.sourceWrite 0 (64 + (off - 0x2000) / 4) x
  else if 0x1000 ≤ off then w.sourceWrite ((off - 0x1000) / 0x100) ((off - 0x1000) % 0x100 / 4) x
  else match (List.range 4).find? fun n => x.k == Reg.IC_CP_SWI n || x.k == Reg.IC_CP_CTL n with
    | some n => if x.k = Reg.IC_CP_SWI n then w.doSwi n x.word else w.doCpRun n (x.on F.IC_CP_CTL_RUN)
    | none => w.plainWrite x

/-- MGMT_CFG.SAVE (R454): the management settings go to flash. -/
def mgmtSave (w : W) : W :=
  w.flashPut (.mgmt [w.reg Reg.MGMT_CFG, w.reg Reg.MGMT_IP4, w.reg (Reg.MGMT_DEST 0), w.reg (Reg.MGMT_DEST 1)])

/-- Management block (R459, R460). -/
def mgmtWrite (w : W) (x : RegWr) : W :=
  if x.k = Reg.MGMT_CNT_CLR then w.clearCounters Reg.MGMT_RX 4 x.word
  else if x.k = Reg.MGMT_CFG then (w.plainWrite x).when (x.on F.MGMT_CFG_SAVE) mgmtSave
  else if x.k = Reg.SVC_STATUS then
    w.when (x.on F.SVC_STATUS_ATTN_CLR) fun w => w.setAttn 0
  else w.plainWrite x

/-- A write of one register. -/
def regWrite1 (w : W) (x : RegWr) : W :=
  if 0x20000000 ≤ x.k then w.slotWrite x
  else if 0x10000000 ≤ x.k then w.landingWrite x
  else
    match x.k / 0x100000 with
    | 1 => w.secWrite x
    | 2 => w.rstWrite x
    | 3 => if x.k = Reg.FLT_CNT_CLR then w.clearCounters Reg.FLT_RECORDS 5 x.word else w.plainWrite x
    | 4 => w.stWrite x
    | 5 => w.seqWrite x
    | 7 => w.memWrite x
    | 9 => w.fabWrite x
    | 10 | 11 =>
      let h := x.k / 0x100000 - 10
      if x.k = Reg.ER_CNT_CLR h then w.clearCounters (Reg.ER_PKT_BAD h) 12 x.word else w.plainWrite x
    | 12 => w.sclWrite x
    | 13 => w.icWrite x
    | 14 => if x.k = Reg.PWR_CNT_CLR then w.clearCounters Reg.PWR_E_TOTAL 11 x.word else w.plainWrite x
    | 15 => w.mgmtWrite x
    | _ => w.plainWrite x

/-- 32 bits written at offset `k` (R469). -/
def regWrite32 (w : W) (k v : Nat) (req : Word) : W :=
  match w.regFor k with
  | some (r, kb, b) => w.regWrite1 ⟨r, kb, (2 ^ 32 - 1) * 2 ^ (8 * b), v % 2 ^ 32 * 2 ^ (8 * b), req⟩
  | none => w

/-- A write that was taken takes effect: a 64-bit write over two 32-bit registers is two writes, the lower first (R466). -/
def regWrite (w : W) (x : Nat × Nat × Nat × Word) : W :=
  let (k, size, v, req) := x
  if size = 4 then w.regWrite32 k v req
  else match w.regFor k with
    | some (r, kb, 0) =>
      if r.bytes = 8 then w.regWrite1 ⟨r, kb, 2 ^ 64 - 1, v, req⟩
      else (w.regWrite32 k v req).regWrite32 (k + 4) (v / 2 ^ 32) req
    | _ => w

/-- The writes of the command in progress take effect, in order. -/
def flushBus (w : W) : W :=
  let ws := w.c.bus
  ws.foldl regWrite { w with c := { w.c with bus := [] } }

end W

end Sys2Proof.Machine
end

