-- ==== Sys2Proof/Machine/BusExec.lean ====
section
/-! DEFINITION. The meanings of the commands that can write registers of the set-up region (22_register_map.md R461 to
R470): stores, the data mover, fabric and host writes, and a register write itself. Each ends with `flushBus`, which
carries out the register writes it has taken. -/

namespace Sys2Proof.Machine

/-- ST8. -/
def execSt8 (h : Hart) (u : CoreUpset) (s : State) : Host.Outcome State Fault Refusal :=
  sExec h 0x0C none u s fun i w => (w.sStore h i 1).flushBus

/-- ST16. -/
def execSt16 (h : Hart) (u : CoreUpset) (s : State) : Host.Outcome State Fault Refusal :=
  sExec h 0x0D none u s fun i w => (w.sStore h i 2).flushBus

/-- ST32. -/
def execSt32 (h : Hart) (u : CoreUpset) (s : State) : Host.Outcome State Fault Refusal :=
  sExec h 0x0E none u s fun i w => (w.sStore h i 4).flushBus

/-- ST64. -/
def execSt64 (h : Hart) (u : CoreUpset) (s : State) : Host.Outcome State Fault Refusal :=
  sExec h 0x0F none u s fun i w => (w.sStore h i 8).flushBus

/-- DM_COPY. -/
def execDmCopy (p : Nat) (u : DmUpset) (s : State) : Host.Outcome State Fault Refusal :=
  runOn (galOk p) s fun w => (w.doDescriptor p 0x10 u).flushBus

/-- DM_MCAST. -/
def execDmMcast (p : Nat) (u : DmUpset) (s : State) : Host.Outcome State Fault Refusal :=
  runOn (galOk p) s fun w => (w.doDescriptor p 0x11 u).flushBus

/-- DM_FILL. -/
def execDmFill (p : Nat) (u : DmUpset) (s : State) : Host.Outcome State Fault Refusal :=
  runOn (galOk p) s fun w => (w.doDescriptor p 0x12 u).flushBus

/-- DM_ATOMIC. -/
def execDmAtomic (p : Nat) (u : DmUpset) (s : State) : Host.Outcome State Fault Refusal :=
  runOn (galOk p) s fun w => (w.doDescriptor p 0x13 u).flushBus

/-- DM_NULL_TOKEN. -/
def execDmNullToken (p : Nat) (s : State) : Host.Outcome State Fault Refusal :=
  runOn (galOk p) s fun w => (w.doDmNull p).flushBus

/-- DM_DESCRIPTOR_START. -/
def execDmDescriptorStart (p : Nat) (u : DmUpset) (s : State) : Host.Outcome State Fault Refusal :=
  runOn (galOk p) s fun w => (w.doDmStart p u).flushBus

/-- DM_COMPLETION. -/
def execDmCompletion (p : Nat) (s : State) : Host.Outcome State Fault Refusal :=
  runOn (galOk p) s fun w => (w.doDmCompletion p).flushBus

/-- DM_TIMEOUT. -/
def execDmTimeout (p : Nat) (s : State) : Host.Outcome State Fault Refusal :=
  runOn (galOk p) s fun w => (w.doDmTimeout p).flushBus

/-- RD_RSP. -/
def execRdRsp (p : Nat) (t : Packet) (s : State) : Host.Outcome State Fault Refusal :=
  runOn (galOk p) s fun w => (w.doRdRsp p t).flushBus

/-- WR_ACK. -/
def execWrAck (p : Nat) (t : Packet) (s : State) : Host.Outcome State Fault Refusal :=
  runOn (galOk p) s fun w => (w.doWrAck p t).flushBus

/-- AT_RSP. -/
def execAtRsp (p : Nat) (t : Packet) (s : State) : Host.Outcome State Fault Refusal :=
  runOn (galOk p) s fun w => (w.doAtRsp p t).flushBus

/-- ERR_RSP. -/
def execErrRsp (p : Nat) (t : Packet) (s : State) : Host.Outcome State Fault Refusal :=
  runOn (galOk p) s fun w => (w.doErrRsp p t).flushBus

/-- FAB_WRITE. -/
def execFabWrite (h : Nat) (t : FabPkt) (s : State) : Host.Outcome State Fault Refusal :=
  runOn (routerOk h) s fun w => (if t.ptype = 1 then w.seqIn h t none else w).flushBus

/-- HWR. -/
def execHwr (m : SclMsg) (s : State) : Host.Outcome State Fault Refusal := run s fun w => (w.doHwr m).flushBus

/-- SCL_DATA. -/
def execSclData (m : SclMsg) (s : State) : Host.Outcome State Fault Refusal := run s fun w => (w.doSclData m).flushBus

/-- REGISTER_WRITE (R4 to R6, R462): `size` bytes of `v` at offset `k` from S, by a requester. An address that does not
answer is left alone. -/
def execRegisterWrite (k size : Nat) (v requester : Word) (s : State) : Host.Outcome State Fault Refusal :=
  runAux s fun w => (w.setupWrite k size v.toNat requester).2.flushBus

/-- BACK_STAIR_TIMEOUT: the register at offset `k` has not answered its requester within 64 µs. -/
def execBackStairTimeout (k : Nat) (requester : Word) (s : State) : Host.Outcome State Fault Refusal :=
  runAux s fun w => w.recordAccess 2 k requester

end Sys2Proof.Machine
end

