-- ==== Sys2Proof/Machine/CpInstr.lean ====
section
/-! DEFINITION. The instructions of a control processor beyond the scalar ones (20_control_complex_and_interrupts.md
R435). On a scalar core their words are malformed. -/

namespace Sys2Proof.Machine

namespace W

/-- WFI: issue stops, the next instruction is the one to resume at. With IE 0 a source that is deliverable but for IE
does not let it stop. -/
def doWfi (w : W) (n : Nat) : W :=
  let w' := (w.hNext (.cp n)).setFlag (Reg.IC_CP_STATUS n) F.IC_CP_STATUS_WFI true
  if !w.flag (Reg.IC_CP_STATUS n) F.IC_CP_STATUS_IE && (w'.bestSource n).isSome then w.hNext (.cp n) else w'

/-- IRET: the newest entry of the save stack gives pc and running priority. What an empty stack gives is not stated and
free (log entry 1). -/
def doIret (w : W) (n : Nat) : W :=
  let c := w.cp n
  match c.stack with
  | (pc, pr) :: rest =>
    (w.setCp n { c with stack := rest, given := c.given.drop 1, pc := pc }).setFld (Reg.IC_CP_STATUS n) F.IC_CP_STATUS_RUNPRI pr
  | [] => let (x, w) := w.draw; w.setHpc (.cp n) (bits x 31 0)

/-- CINV: the data-cache line that holds address SA is dropped. -/
def doCinv (w : W) (n : Nat) (a : Word) : W :=
  let c := w.cp n
  (w.setCp n { c with dcache := c.dcache.filter fun e => e.1 != a.toNat / 128 * 128 }).hNext (.cp n)

end W

/-- The shape of a control-processor instruction's meaning. -/
def cpExec (h : Hart) (fn : Nat) (u : CoreUpset) (s : State) (f : Nat → SIns → W → W) :
    Host.Outcome State Fault Refusal :=
  sExec h 0x18 (some fn) u s fun i w => match h with
    | .sc _ _ => w
    | .cp n => f n i w

/-- WFI. -/
def execWfi (h : Hart) (u : CoreUpset) (s : State) : Host.Outcome State Fault Refusal :=
  cpExec h 0x200 u s fun n _ w => w.doWfi n

/-- IRET. -/
def execIret (h : Hart) (u : CoreUpset) (s : State) : Host.Outcome State Fault Refusal :=
  cpExec h 0x201 u s fun n _ w => w.doIret n

/-- IEN. -/
def execIen (h : Hart) (u : CoreUpset) (s : State) : Host.Outcome State Fault Refusal :=
  cpExec h 0x202 u s fun n _ w => (w.setFlag (Reg.IC_CP_STATUS n) F.IC_CP_STATUS_IE true).hNext (.cp n)

/-- IDIS. -/
def execIdis (h : Hart) (u : CoreUpset) (s : State) : Host.Outcome State Fault Refusal :=
  cpExec h 0x203 u s fun n _ w => (w.setFlag (Reg.IC_CP_STATUS n) F.IC_CP_STATUS_IE false).hNext (.cp n)

/-- CINV. -/
def execCinv (h : Hart) (u : CoreUpset) (s : State) : Host.Outcome State Fault Refusal :=
  cpExec h 0x204 u s fun n i w => w.doCinv n (w.sreg (.cp n) i.sa)

end Sys2Proof.Machine
end

