-- ==== Sys2Proof/Machine/Maps.lean ====
section
/-! DEFINITION. The descriptors REMAP and DEFECTS (15_faults_and_fencing.md R365), with the flash layout of the defect map
(R367, R368). -/

namespace Sys2Proof.Machine

/-- An entry of the defect map (R368). -/
def DefEntry.words (e : DefEntry) : List Word :=
  [ w64 (e.utype % 256 * 2 ^ 56 + e.unit % 2 ^ 16 * 2 ^ 40 + e.state % 256 * 2 ^ 32 + e.cls % 256 * 2 ^ 24
      + e.kind % 16 * 2 ^ 20 + e.origin % 16 * 2 ^ 16 + e.strikes % 256 * 2 ^ 8),
    w64 (e.life % 2 ^ 32 * 2 ^ 32), w64 e.aux, w64 e.time ]

/-- The valid flash copy of the defect map (R367): 64 KiB. -/
def Flash.mapCopy (f : Flash) : List Byte :=
  let head := leBytes 2 0x444D ++ [byte 1, byte 0] ++ leBytes 4 f.gen ++ leBytes 2 f.defects.length ++ [byte 0, byte 0] ++
    leBytes 4 f.life ++ List.replicate 44 0
  let body := fit 8192 (wordBytes f.logical) ++ fit 57280 (wordBytes ((f.defects.take 1790).flatMap DefEntry.words))
  head ++ leBytes 4 (crc32c (head ++ body)) ++ body

namespace W

/-- Logical gallery `g` is carried by `p` from now on, in IDLE: no context moves. -/
def carry (w : W) (g : Nat) (p : Option Nat) : W :=
  match p with
  | some p => w.setMapEntry g (2 ^ 15 + p)
  | none => w.setMapEntry g (2 ^ 14 + natBits (w.mapEntry g) 8 0)

/-- The galleries whose part changed enter service or become spares, and the tables follow. -/
def settleMap (w : W) : W :=
  let w := (List.range 312).foldl (fun w p =>
    let has := (w.logicalOf p).isSome
    if has ∧ w.pstate p = 1 then (w.setPstate p 0).enterService p
    else if !has && w.pstate p == 0 then ((w.setPstate p 1).fenceIsland p).islandOff p
    else w) w
  ((w.writeMasks.writeBanks).flipChecked fun w => w.flipAll (1 - w.meshBank) true).writeDistances.saveMap

/-- The galleries of half `h` that REBUILD counts as good. -/
def goodGalleries (w : W) (h : Nat) : List Nat :=
  ((List.range 156).map fun i => 156 * h + i).filter fun p =>
    w.pstate p == 0 || (w.pstate p == 1 && w.passedAt p != 0)

/-- The carriers of half `h` after REBUILD, in row-major order: the spares are the good galleries of column 6 in rising
row, then those of the highest index. -/
def rebuilt (w : W) (h : Nat) : List Nat :=
  let good := w.goodGalleries h
  let s := good.length - w.c.fuses.lph
  let spares := ((good.filter fun p => colOf p == 6) ++ (good.filter fun p => colOf p != 6).reverse).take s
  good.filter fun p => !spares.contains p

/-- REMAP (R365): the status, the number of logical galleries that changed, and the part. -/
def remapNow (w : W) (x : Word) : Nat × Nat × W :=
  if w.seqState ≠ stIdle then (4, 0, w)
  else if bits x 7 0 = 0 then
    let old := (List.range w.logicals).map w.physOf
    let lph := w.c.fuses.lph
    let lists := [w.rebuilt 0, w.rebuilt 1]
    let w := (List.range w.logicals).foldl (fun w g => w.carry g ((lists.getD (g / lph) [])[g % lph]?)) w
    let n := (((List.range w.logicals).map w.physOf).zip old |>.filter fun x => x.1 != x.2).length
    (0, n, w.settleMap)
  else
    let g := bits x 27 16
    let p := bits x 40 32
    let half := g / w.c.fuses.lph
    if w.logicals ≤ g ∨ ¬ (w.sparesOf half).contains p then (1, 0, w)
    else (0, 1, (w.carry g (some p)).settleMap)

/-- REMAP of descriptor `j`. -/
def doRemap (w : W) (j : Nat) : W :=
  match w.mayAct j 0x20 with
  | none => w
  | some d =>
    if d.status ≠ 0 then w
    else
      let (st, n, w) := w.remapNow (d.words.getD 1 0)
      w.complete j st (w64 n) 0

/-- DEFECTS of descriptor `j`: the flash copy goes to the host; DETAIL is its GEN. -/
def doDefects (w : W) (j : Nat) : W :=
  match w.mayAct j 0x21 with
  | none => w
  | some d =>
    if d.status ≠ 0 then w
    else (w.setDesc { d with detail := w64 w.c.flash.gen }).outBytes j w.c.flash.mapCopy

end W

/-! ### The meanings -/

/-- REMAP. -/
def execRemap (j : Nat) (s : State) : Host.Outcome State Fault Refusal := run s fun w => w.doRemap j

/-- DEFECTS. -/
def execDefects (j : Nat) (s : State) : Host.Outcome State Fault Refusal := run s fun w => w.doDefects j

end Sys2Proof.Machine
end

