-- ==== Sys2Proof/Machine/Mgmt.lean ====
section
/-! DEFINITION. Management and service (21_management_and_service.md R446 to R460; 23_package_and_signals.md R478): the
messages of both paths, the record stream, telemetry, firmware update, dumps, ATTN_L and the LED chain. -/

namespace Sys2Proof.Machine

/-- The set-up region in the device-local map (R461). -/
def setupBase : Nat := 0x7FF000000000

namespace W

/-! ### Messages (R449, R450) -/

/-- CP3, or CP0 in safe state, serves a path: Ethernet only when enabled, and not in safe state (R342). -/
def mgmtServed (w : W) (mctp : Bool) : Bool :=
  !w.flag Reg.RST_STATUS F.RST_STATUS_COLD_REQ &&
    (mctp || (w.flag Reg.MGMT_CFG F.MGMT_CFG_EN && w.fld Reg.BOOT_STATUS F.BOOT_STATUS_STATE != 4))

/-- Something arrives on a path: the source of R437, and the Ethernet link is seen up. -/
def mgmtArrive (w : W) (mctp : Bool) : W :=
  if mctp then w.pend 285 else (w.setFlag Reg.MGMT_STATUS F.MGMT_STATUS_LINK true).pend 284

/-- The CRC of a message as it came in. -/
def mgmtCrc (m : MgmtMsg) : Nat :=
  crc32c (leBytes 2 m.tag ++ [byte m.version, byte m.mtype] ++ leBytes 4 m.seq ++ leBytes 2 m.body.length ++
    [byte m.status, byte m.flags] ++ m.body)

/-- The answer of a request: the request's SEQ, with STATUS and a body. -/
def answer (w : W) (m : MgmtMsg) (status : Nat) (body : List Byte) : W :=
  w.mgmtSend m.mctp.toNat m.station m.mtype m.seq status 1 body

/-- The MTYPEs that R450 does not list. -/
def reservedMtype (t : Nat) : Bool := t == 0 || t == 0x0D || decide (0x0E < t)

/-- A message comes in, for the row that serves type `typ`: discarded and counted in MGMT_BAD with a bad CRC or version or a
reserved MTYPE; a wrong TAG, a RESPONSE mark or a body beyond 1,400 bytes is malformed; otherwise `f` serves it. -/
def onMessage (w : W) (typ : Nat) (m : MgmtMsg) (f : W → W) : W :=
  if !w.mgmtServed m.mctp then w
  else
    let w := (w.mgmtArrive m.mctp).count Reg.MGMT_RX 1
    if m.crc ≠ mgmtCrc m ∨ m.version ≠ 1 ∨ (m.mtype ≠ typ ∧ reservedMtype m.mtype) then w.count Reg.MGMT_BAD 1
    else if m.mtype ≠ typ ∨ m.tag ≠ 0x4D4D ∨ m.flags % 2 = 1 ∨ 1400 < m.body.length then w.answer m 1 []
    else f w

/-- A body of at least `n` bytes, or STATUS 0x01. -/
def needBody (w : W) (m : MgmtMsg) (ok : Bool) (f : W → W) : W := if ok then f w else w.answer m 1 []

/-- The requester of management, as R354 class 0x0F names it. -/
def mgmtReq : Word := w64 0x1FD

/-- Words of the set-up region read (REG_READ): none when an address does not answer. -/
def regWordsRead (w : W) (a : Nat) : Nat → List Byte → Option (List Byte) × W
  | 0, acc => (some acc, w)
  | n + 1, acc =>
    if a < setupBase ∨ 0x800000000000 ≤ a then (none, w)
    else match w.setupRead (a - setupBase) 4 mgmtReq with
      | (some v, w) => W.regWordsRead w (a + 4) n (acc ++ leBytes 4 v)
      | (none, w) => (none, w)

/-- Words of the set-up region written (REG_WRITE), up to the first address that does not answer. -/
def regWordsWrite (w : W) (a : Nat) : List Nat → Bool × W
  | [] => (true, w)
  | v :: vs =>
    if a < setupBase ∨ 0x800000000000 ≤ a then (false, w)
    else
      let (ok, w) := w.setupWrite (a - setupBase) 4 v mgmtReq
      if ok then W.regWordsWrite w.flushBus (a + 4) vs else (false, w)

/-- REG_READ. -/
def doRegRead (w : W) (m : MgmtMsg) : W :=
  let n := field m.body 8 2
  w.needBody m (m.body.length == 10 && decide (1 ≤ n) && decide (n ≤ 256)) fun w =>
    match w.regWordsRead (field m.body 0 8) n [] with
    | (some bs, w) => w.answer m 0 (m.body ++ bs)
    | (none, w) => w.answer m 2 []

/-- REG_WRITE. -/
def doRegWrite (w : W) (m : MgmtMsg) : W :=
  let n := field m.body 8 2
  w.needBody m (decide (1 ≤ n) && decide (n ≤ 256) && m.body.length == 10 + 4 * n) fun w =>
    let (ok, w) := w.regWordsWrite (field m.body 0 8) ((List.range n).map fun i => field m.body (10 + 4 * i) 4)
    w.answer m (if ok then 0 else 2) []

/-- STATUS of an access to memory that ended before its end: 0x05 for a write that the guard refuses, else 0x02. -/
def memStatus (w : W) (a : Nat) (r : Option (Ans × Nat)) : Nat :=
  match r with
  | none => 0
  | some (.error, lo) => (match w.place none (w.loc (w64 (a + lo))) with
    | .mem .. => 5
    | _ => 2)
  | some _ => 2

/-- An address and a length that MEM_READ and MEM_WRITE allow. -/
def memArgsOk (bs : List Byte) : Bool :=
  let n := field bs 8 2
  decide (10 ≤ bs.length) && field bs 0 8 % 64 == 0 && decide (64 ≤ n) && decide (n ≤ 1024)

/-- MEM_READ. -/
def doMemRead (w : W) (m : MgmtMsg) : W :=
  w.needBody m (memArgsOk m.body && m.body.length == 10) fun w =>
    let a := field m.body 0 8
    match w.farRead none mgmtReq (w.loc (w64 a)) (field m.body 8 2) with
    | ((bs, none), w) => w.answer m 0 (m.body ++ bs)
    | ((_, some _), w) => w.answer m 2 []

/-- MEM_WRITE. -/
def doMemWrite (w : W) (m : MgmtMsg) : W :=
  w.needBody m (memArgsOk m.body && m.body.length == 10 + field m.body 8 2) fun w =>
    let a := field m.body 0 8
    let (r, w) := w.farWrite none mgmtReq (w.loc (w64 a)) (m.body.drop 10)
    w.answer m (w.memStatus a r) []

/-! ### Orders (R450, R286) -/

/-- The source address of a message, path included. -/
def sourceOf (m : MgmtMsg) : Nat := 2 * m.station + m.mctp.toNat

/-- Bytes put at an offset of the staging buffer; what no put has written is free (log entry 1). -/
def stagePut (w : W) (old : List Byte) (off : Nat) (bs : List Byte) : List Byte × W :=
  let (gap, w) := if old.length < off then w.drawBytes (off - old.length) else ([], w)
  let old := old ++ gap
  (old.take off ++ bs ++ old.drop (off + bs.length), w)

/-- ORDER_PUT. -/
def doOrderPut (w : W) (m : MgmtMsg) : W :=
  let off := field m.body 0 4
  let bs := m.body.drop 4
  w.needBody m (decide (4 ≤ m.body.length) && decide (bs.length ≤ 1392) && decide (off + bs.length ≤ 524288)) fun w =>
    match w.c.mgmt.staging with
    | some (st, old) =>
      if st ≠ sourceOf m then w.answer m 3 []
      else
        let (new, w) := w.stagePut old off bs
        (w.setMgmt { w.c.mgmt with staging := some (st, new) }).answer m 0 []
    | none =>
      let (new, w) := w.stagePut [] off bs
      (w.setMgmt { w.c.mgmt with staging := some (sourceOf m, new) }).answer m 0 []

/-- ORDER_SUBMIT: verified at once; the last accepted order again is done without effect. -/
def doOrderSubmit (w : W) (m : MgmtMsg) : W :=
  let n := field m.body 0 4
  w.needBody m (m.body.length == 4) fun w =>
    match w.c.mgmt.staging with
    | none => w.answer m 4 []
    | some (st, old) =>
      if st ≠ sourceOf m then w.answer m 3 []
      else
        let w := w.setMgmt { w.c.mgmt with staging := none }
        let bs := old.take n
        if orderLayout bs ∧ n ≤ old.length ∧ orderNo bs = (w.reg Reg.FAB_ORDER_NO).toNat then w.answer m 0 []
        else
          let (ok, w') := w.orderVerify 2 bs
          if ok && decide (n ≤ old.length) then w'.answer m 0 [] else (w.orderReject 2 (orderNo bs)).answer m 5 []

/-! ### The record stream (R451) -/

/-- REC_ACK: the path has every record up to an ESN; records every path has had leave the queue. -/
def doRecAck (w : W) (m : MgmtMsg) : W :=
  let path := m.mctp.toNat
  let esn := field m.body 0 4
  w.needBody m (m.body.length == 4) fun w =>
    let x := w.recPath path
    let later : Bool := match x.acked with
      | some a => serialLater 32 esn a
      | none => true
    let w := w.when later fun w => w.setRecPath path { x with acked := some esn }
    let have1 := fun (r : Bool × List Word) (p : Nat) => match (w.recPath p).acked with
      | some a => !serialLater 32 (recEsn r.2) a
      | none => false
    let on := [0, 1].filter fun p => w.pathOn p
    let keep := w.c.mgmt.recs.filter fun r => on.isEmpty || !(on.all fun p => have1 r p)
    ((w.setMgmt { w.c.mgmt with recs := keep }).showOutstanding).streamPath path

/-- REC_RESEND_TIMEOUT: what a path was sent and has not acknowledged goes out again. -/
def doRecResend (w : W) (path : Nat) : W :=
  if !w.pathOn path then w
  else match (w.recPath path).last with
    | none => w
    | some l => w.streamOut path 13 (((w.unacked path).take 256).filter fun r => !serialLater 32 (recEsn r.2) l)

/-! ### Firmware and dumps (R453, R454, R388) -/

/-- The slot that does not run. -/
def otherSlot (w : W) : Bool := !w.running

/-- FW_PUT: STATUS and effect. -/
def fwPut (w : W) (off : Nat) (bs : List Byte) : Nat × W :=
  if bs.isEmpty ∨ 1392 < bs.length ∨ 25165824 < off + bs.length then (1, w)
  else if off ≠ 0 ∧ !w.c.mgmt.writing then (4, w)
  else (0, (w.setMgmt { w.c.mgmt with writing := true }).flashPut (.firmware w.otherSlot.toNat off bs))

/-- The new slot passes the checks of FW_COMMIT. -/
def fwGood (w : W) (total : Nat) : Bool :=
  let bs := (w.slot w.otherSlot).take total
  match manifestOf bs with
  | some m => m.verifies bs && decide ((w.reg Reg.SEC_FLOOR).toNat ≤ m.svn) && m.matches bs [1, 2, 3, 4, 5]
  | none => false

/-- FW_COMMIT. -/
def fwCommit (w : W) (total : Nat) : Nat × W :=
  let busy := w.c.flashQ.any fun op => match op with
    | .firmware .. => true
    | _ => false
  if busy then (3, w)
  else if !w.c.mgmt.writing then (4, w)
  else if w.fwGood total then (0, (w.setBad w.otherSlot false).setMgmt { w.c.mgmt with writing := false })
  else (5, w)

/-- DUMP_READ. -/
def doDumpRead (w : W) (m : MgmtMsg) : W :=
  let area := field m.body 0 1
  let off := field m.body 4 4
  let n := field m.body 8 2
  w.needBody m (m.body.length == 10 && decide (area ≤ 1) && decide (64 ≤ n) && decide (n ≤ 1024)) fun w =>
    if area = 0 then
      let a := (w.reg Reg.DUMP_ADDR).toNat
      if a = 0 then w.answer m 4 []
      else match w.farRead none mgmtReq (w.loc (w64 (a + off))) n with
        | ((bs, none), w) => w.answer m 0 (m.body ++ bs)
        | ((_, some _), w) => w.answer m 2 []
    else
      let copying := w.c.flashQ.any fun op => match op with
        | .crash _ => true
        | _ => false
      if copying then w.answer m 3 []
      else if 8388608 < off + n then w.answer m 2 []
      else
        let bs := (w.c.flash.crash.drop off).take n
        w.answer m 0 (m.body ++ bs ++ List.replicate (n - bs.length) (byte 0xFF))

/-! ### MCTP, PLDM, IP, I3C (R446, R447, R452, R478) -/

/-- An answer below the management messages whose bytes other standards give: they are free (log entry 1). -/
def freeAnswer (w : W) (what : Nat) : W :=
  let (bs, w) := w.drawBytes 64
  w.emit (.wire what bs)

/-- MCTP_CONTROL: command 0x01 Set Endpoint ID brings the path up (PRESUMED: the code is MCTP's). -/
def doMctpControl (w : W) (body : List Byte) : W :=
  if !w.mgmtServed true then w
  else
    let w := w.mgmtArrive true
    (w.when (field body 1 1 == 1) fun w => w.setFlag Reg.MGMT_STATUS F.MGMT_STATUS_I3C_UP true).freeAnswer 1

/-- PLDM_DISCOVERY. -/
def doPldmDiscovery (w : W) : W := if w.mgmtServed true then (w.mgmtArrive true).freeAnswer 3 else w

/-- The sensors of R452; none for one that is unavailable. -/
def sensorValue (w : W) (id : Nat) : Option Int :=
  let reg := fun (k : Nat) (f : Fld) => some ((w.fld k f : Nat) : Int)
  if id = 1 then reg Reg.PWR_NOW F.PWR_NOW_P
  else if id = 2 then reg Reg.PWR_NOW F.PWR_NOW_TJ
  else if 3 ≤ id ∧ id ≤ 10 then
    if (w.fld Reg.MEM_STACKS F.MEM_STACKS_ENABLED).testBit (id - 3) then reg (Reg.MEMC_STATUS (id - 3)) F.MEMC_STATUS_TEMP
    else none
  else if 11 ≤ id ∧ id ≤ 19 then w.sensor (303 + id)
  else if id = 20 then reg Reg.PWR_E_TOTAL ⟨47, 0⟩
  else if id = 21 then reg Reg.BOOT_STATUS F.BOOT_STATUS_STATE
  else if id = 22 then reg Reg.SEQ_STATUS F.SEQ_STATUS_STATE
  else if id = 23 then reg Reg.SVC_STATUS F.SVC_STATUS_ATTN_STATE
  else none

/-- PLDM_PLATFORM: a reading of the sensor in body bytes 3 and 4, command 0x11 in byte 2 (PRESUMED: the places are
PLDM's): availability and value; any other command has a free answer. -/
def doPldmPlatform (w : W) (body : List Byte) : W :=
  if !w.mgmtServed true then w
  else
    let w := w.mgmtArrive true
    if field body 2 1 = 0x11 then
      let id := field body 3 2
      let v := w.sensorValue id
      w.emit (.wire 4 (leBytes 2 id ++ [byte v.isSome.toNat] ++ leBytes 8 (((v.getD 0) % (2 ^ 64 : Int)).toNat)))
    else w.freeAnswer 4

/-- PLDM_FIRMWARE_UPDATE: a put, or with no data the commit of `total` bytes (R453). -/
def doPldmFirmware (w : W) (off total : Nat) (data : List Byte) : W :=
  if !w.mgmtServed true then w
  else
    let w := w.mgmtArrive true
    let (st, w) := if data.isEmpty then w.fwCommit total else w.fwPut off data
    w.emit (.wire 5 (leBytes 1 st))

/-- An echo request is answered: on IPv6 always, on IPv4 when the static address is valid. -/
def doEcho (w : W) (v6 : Bool) (station : Nat) (body : List Byte) : W :=
  if !w.mgmtServed false then w
  else
    let w := w.mgmtArrive false
    w.when (v6 || bit (w.reg Reg.MGMT_IP4) 63) fun w => w.emit (.wire 8 (leBytes 16 station ++ body))

/-- ARP for the static IPv4 address. -/
def doArp (w : W) (station addr : Nat) : W :=
  if !w.mgmtServed false then w
  else
    let w := w.mgmtArrive false
    let ip := w.reg Reg.MGMT_IP4
    w.when (bit ip 63 && bits ip 31 0 == addr) fun w =>
      w.emit (.wire 9 (leBytes 16 station ++ leBytes 6 (w.reg Reg.MGMT_MAC).toNat))

/-- The IPv6 link-local address formed from the MAC address: fe80::/64 and the modified EUI-64 (PRESUMED). -/
def linkLocal (w : W) : Nat :=
  let mac := (w.reg Reg.MGMT_MAC).toNat
  0xFE80 * 2 ^ 112 + ((mac / 2 ^ 24) ^^^ 0x020000) * 2 ^ 40 + 0xFFFE * 2 ^ 24 + mac % 2 ^ 24

/-- Neighbour discovery for the link-local address. -/
def doNeighbour (w : W) (station addr : Nat) : W :=
  if !w.mgmtServed false then w
  else (w.mgmtArrive false).when (addr == w.linkLocal) fun w =>
    w.emit (.wire 9 (leBytes 16 station ++ leBytes 6 (w.reg Reg.MGMT_MAC).toNat))

/-- I3C_ENTDAA (R478): the dynamic address is taken; provisioned ID, BCR and DCR are given, highest byte first. -/
def doEntdaa (w : W) (addr : Nat) : W :=
  let pid := 0x2B5 * 2 ^ 33 + w.c.fuses.part % 2 ^ 16 * 2 ^ 16 + w.c.fuses.serial.toNat % 2 ^ 16
  (w.setMgmt { w.c.mgmt with i3c := some (addr % 128) }).emit (.wire 7 ((leBytes 6 pid).reverse ++ [byte 0x06, byte 0x00]))

/-! ### Service signals (R455 to R457) -/

/-- ATTN_PRESS. -/
def doAttnPress (w : W) : W :=
  if w.fld Reg.SVC_STATUS F.SVC_STATUS_ATTN_STATE = 1 then w
  else
    let st := w.seqState
    let w := w.pend 287
    let w := if st = stIdle ∨ st = stStopped ∨ st = stHalted then w.setAttn 2 else (w.setAttn 1).doSeqStop
    w.doSnapTrigger 3

/-- ATTN_TIMEOUT: not DRAINED within 10 s. -/
def doAttnTimeout (w : W) : W := w.when (w.fld Reg.SVC_STATUS F.SVC_STATUS_ATTN_STATE == 1) fun w => w.setAttn 3

/-- A blink of `hz` is on: the phase follows RST_UPTIME (DESIGN CHOICE). -/
def blink (w : W) (hz : Nat) : Bool := (w.reg Reg.RST_UPTIME).toNat / (500000000 / hz) % 2 == 0

/-- Green and amber of a link in a state of R256, MARGINAL marked. -/
def linkLeds (w : W) (state : Nat) (marginal : Bool) : Bool × Bool :=
  let (g, a) := match state with
    | 3 => (true, false)
    | 4 => (w.blink 1, false)
    | 1 | 2 => (w.blink 4, false)
    | 5 => (false, w.blink 4)
    | 6 => (false, w.blink 1)
    | 7 => (false, true)
    | _ => (false, false)
  (g, a || marginal)

/-- Green and amber of fibre attach unit `n`. -/
def unitLeds (w : W) (n : Nat) : Bool × Bool :=
  let lifted := (w.fld Reg.FAB_LATCH F.FAB_LATCH_LIFTED).testBit n
  let off := (w.fld Reg.FAB_LATCH F.FAB_LATCH_LASER_OFF).testBit n
  (off, lifted && !off && w.blink 4)

/-- Green and amber of the SCL: its states 3 UP and 4 FAILED. -/
def sclLeds (w : W) : Bool × Bool :=
  match w.fld Reg.SCL_STATUS F.SCL_STATUS_STATE with
  | 3 => w.linkLeds 3 false
  | 4 => w.linkLeds 7 false
  | n => w.linkLeds n false

/-- The 146 bits of the chain, bit 0 first. -/
def chainBits (w : W) : List Bool :=
  let xs := ((List.range 64).map fun q =>
      w.linkLeds (w.portState q) (w.flag (Reg.FAB_PORT_STATUS q) F.FAB_PORT_STATUS_MARGINAL)) ++
    ((List.range 8).map fun n => w.unitLeds n) ++ [w.sclLeds]
  (xs.flatMap fun x => [x.1, x.2]).map fun b => b || w.flag Reg.SVC_LED F.SVC_LED_TEST

/-- IDENT_L's pattern (R456): the LED is on. -/
def identOn (w : W) : Bool :=
  let st := w.fld Reg.BOOT_STATUS F.BOOT_STATUS_STATE
  let attn := w.fld Reg.SVC_STATUS F.SVC_STATUS_ATTN_STATE
  if st = 4 ∨ st = 5 ∨ attn = 1 ∨ attn = 3 then w.blink 4
  else if attn = 2 ∧ (w.reg Reg.RST_UPTIME).toNat < w.c.mgmt.drainedAt + 60000000000 then true
  else match w.fld Reg.SVC_LED F.SVC_LED_IDENT with
    | 1 => true
    | 2 => w.blink 1
    | _ => false

/-- LED_CHAIN_REFRESH: the chain as bytes, bit 0 first, and IDENT_L. -/
def doLedRefresh (w : W) : W :=
  let n := (w.chainBits.zipIdx.map fun (b, i) => if b then 2 ^ i else 0).foldl (fun (a : Nat) x => a + x) 0
  w.emit (.wire 10 (leBytes 19 n ++ leBytes 1 w.identOn.toNat))

end W

/-! ### The meanings -/

/-- INFO. -/
def execInfo (m : MgmtMsg) (s : State) : Host.Outcome State Fault Refusal :=
  runAux s fun w => w.onMessage 0x01 m fun w => w.answer m 0 w.infoBytes

/-- REG_READ. -/
def execRegRead (m : MgmtMsg) (s : State) : Host.Outcome State Fault Refusal :=
  runAux s fun w => w.onMessage 0x02 m fun w => w.doRegRead m

/-- REG_WRITE. -/
def execRegWrite (m : MgmtMsg) (s : State) : Host.Outcome State Fault Refusal :=
  runAux s fun w => w.onMessage 0x03 m fun w => w.doRegWrite m

/-- MEM_READ. -/
def execMemRead (m : MgmtMsg) (s : State) : Host.Outcome State Fault Refusal :=
  runAux s fun w => w.onMessage 0x04 m fun w => w.doMemRead m

/-- MEM_WRITE. -/
def execMemWrite (m : MgmtMsg) (s : State) : Host.Outcome State Fault Refusal :=
  runAux s fun w => (w.onMessage 0x05 m fun w => w.doMemWrite m).flushBus

/-- ORDER_PUT. -/
def execOrderPut (m : MgmtMsg) (s : State) : Host.Outcome State Fault Refusal :=
  runAux s fun w => w.onMessage 0x06 m fun w => w.doOrderPut m

/-- ORDER_SUBMIT. -/
def execOrderSubmit (m : MgmtMsg) (s : State) : Host.Outcome State Fault Refusal :=
  runAux s fun w => w.onMessage 0x07 m fun w => w.doOrderSubmit m

/-- REC_ACK. -/
def execRecAck (m : MgmtMsg) (s : State) : Host.Outcome State Fault Refusal :=
  runAux s fun w => w.onMessage 0x09 m fun w => w.doRecAck m

/-- REC_RESEND_TIMEOUT: 200 ms on path 0 Ethernet or 1 MCTP. -/
def execRecResendTimeout (path : Nat) (s : State) : Host.Outcome State Fault Refusal :=
  runAux s fun w => w.doRecResend path

/-- ORDER_STAGING_TIMEOUT. -/
def execOrderStagingTimeout (s : State) : Host.Outcome State Fault Refusal :=
  runAux s fun w => w.setMgmt { w.c.mgmt with staging := none }

/-- FW_PUT. -/
def execFwPut (m : MgmtMsg) (s : State) : Host.Outcome State Fault Refusal :=
  runAux s fun w => w.onMessage 0x0A m fun w =>
    w.needBody m (decide (8 ≤ m.body.length)) fun w =>
      let (st, w) := w.fwPut (field m.body 0 4) (m.body.drop 8)
      w.answer m st []

/-- FW_COMMIT. -/
def execFwCommit (m : MgmtMsg) (s : State) : Host.Outcome State Fault Refusal :=
  runAux s fun w => w.onMessage 0x0B m fun w =>
    w.needBody m (m.body.length == 4) fun w =>
      let (st, w) := w.fwCommit (field m.body 0 4)
      w.answer m st []

/-- DUMP_READ. -/
def execDumpRead (m : MgmtMsg) (s : State) : Host.Outcome State Fault Refusal :=
  runAux s fun w => w.onMessage 0x0C m fun w => w.doDumpRead m

/-- MCTP_CONTROL. -/
def execMctpControl (body : List Byte) (s : State) : Host.Outcome State Fault Refusal :=
  runAux s fun w => w.doMctpControl body

/-- PLDM_DISCOVERY. -/
def execPldmDiscovery (_body : List Byte) (s : State) : Host.Outcome State Fault Refusal :=
  runAux s fun w => w.doPldmDiscovery

/-- PLDM_PLATFORM. -/
def execPldmPlatform (body : List Byte) (s : State) : Host.Outcome State Fault Refusal :=
  runAux s fun w => w.doPldmPlatform body

/-- PLDM_FIRMWARE_UPDATE. -/
def execPldmFirmwareUpdate (off total : Nat) (data : List Byte) (s : State) : Host.Outcome State Fault Refusal :=
  runAux s fun w => w.doPldmFirmware off total data

/-- ICMP_ECHO. -/
def execIcmpEcho (v6 : Bool) (station : Nat) (body : List Byte) (s : State) : Host.Outcome State Fault Refusal :=
  runAux s fun w => w.doEcho v6 station body

/-- ARP_REQUEST. -/
def execArpRequest (station addr : Nat) (s : State) : Host.Outcome State Fault Refusal :=
  runAux s fun w => w.doArp station addr

/-- NEIGHBOUR_DISCOVERY. -/
def execNeighbourDiscovery (station addr : Nat) (s : State) : Host.Outcome State Fault Refusal :=
  runAux s fun w => w.doNeighbour station addr

/-- I3C_ENTDAA. -/
def execI3cEntdaa (addr : Nat) (s : State) : Host.Outcome State Fault Refusal := runAux s fun w => w.doEntdaa addr

/-- ATTN_PRESS. -/
def execAttnPress (s : State) : Host.Outcome State Fault Refusal := runAux s fun w => w.doAttnPress

/-- ATTN_TIMEOUT. -/
def execAttnTimeout (s : State) : Host.Outcome State Fault Refusal := runAux s fun w => w.doAttnTimeout

/-- ATTN_CLR. -/
def execAttnClr (s : State) : Host.Outcome State Fault Refusal := runAux s fun w => w.setAttn 0

/-- LED_CHAIN_REFRESH. -/
def execLedChainRefresh (s : State) : Host.Outcome State Fault Refusal := runAux s fun w => w.doLedRefresh

/-- MGMT_SAVE. -/
def execMgmtSave (s : State) : Host.Outcome State Fault Refusal := runAux s fun w => w.mgmtSave

/-- MGMT_CNT_CLR. -/
def execMgmtCntClr (v : Word) (s : State) : Host.Outcome State Fault Refusal :=
  runAux s fun w => w.clearCounters Reg.MGMT_RX 4 v

end Sys2Proof.Machine
end

