-- ==== Sys2Proof/Machine/Dispatch.lean ====
section
/-! DEFINITION. One arm per command: the meaning it calls. -/

namespace Sys2Proof.Machine

/-- The effect of a command on everything but the command queue. -/
def exec (i : Instr) (s : State) : Host.Outcome State Fault Refusal :=
  match i with
  | .registerWrite k size v requester => Sys2Proof.Machine.execRegisterWrite k size v requester s
  | .mma p n u => Sys2Proof.Machine.execMma p n u s
  | .mcDeferredCmdFault p n => Sys2Proof.Machine.execMcDeferredCmdFault p n s
  | .mcNullToken p n => Sys2Proof.Machine.execMcNullToken p n s
  | .mcBlockClose p n u => Sys2Proof.Machine.execMcBlockClose p n u s
  | .mcDrain p n u => Sys2Proof.Machine.execMcDrain p n u s
  | .mcInjectArm p n v requester => Sys2Proof.Machine.execMcInjectArm p n v requester s
  | .mcCntClr p n v => Sys2Proof.Machine.execMcCntClr p n v s
  | .vcKernel p x => Sys2Proof.Machine.execVcKernel p x s
  | .vcNullCommand p x => Sys2Proof.Machine.execVcNullCommand p x s
  | .vfma p n u => Sys2Proof.Machine.execVfma p n u s
  | .vadd p n u => Sys2Proof.Machine.execVadd p n u s
  | .vmul p n u => Sys2Proof.Machine.execVmul p n u s
  | .vsub p n u => Sys2Proof.Machine.execVsub p n u s
  | .vmin p n u => Sys2Proof.Machine.execVmin p n u s
  | .vmax p n u => Sys2Proof.Machine.execVmax p n u s
  | .vcmp p n u => Sys2Proof.Machine.execVcmp p n u s
  | .vsel p n u => Sys2Proof.Machine.execVsel p n u s
  | .vcvt p n u => Sys2Proof.Machine.execVcvt p n u s
  | .vredsum p n u => Sys2Proof.Machine.execVredsum p n u s
  | .vredmax p n u => Sys2Proof.Machine.execVredmax p n u s
  | .vscale p n u => Sys2Proof.Machine.execVscale p n u s
  | .vgetexp p n u => Sys2Proof.Machine.execVgetexp p n u s
  | .vgetmant p n u => Sys2Proof.Machine.execVgetmant p n u s
  | .vand p n u => Sys2Proof.Machine.execVand p n u s
  | .vor p n u => Sys2Proof.Machine.execVor p n u s
  | .vxor p n u => Sys2Proof.Machine.execVxor p n u s
  | .vshl p n u => Sys2Proof.Machine.execVshl p n u s
  | .vshr p n u => Sys2Proof.Machine.execVshr p n u s
  | .vld p n u => Sys2Proof.Machine.execVld p n u s
  | .vst p n u => Sys2Proof.Machine.execVst p n u s
  | .vldh p n u => Sys2Proof.Machine.execVldh p n u s
  | .vsth p n u => Sys2Proof.Machine.execVsth p n u s
  | .vrng p n u => Sys2Proof.Machine.execVrng p n u s
  | .xaddi p n u => Sys2Proof.Machine.execXaddi p n u s
  | .xloop p n u => Sys2Proof.Machine.execXloop p n u s
  | .xli p n u => Sys2Proof.Machine.execXli p n u s
  | .qrecv p n u => Sys2Proof.Machine.execQrecv p n u s
  | .qsend p n u => Sys2Proof.Machine.execQsend p n u s
  | .vend p n u => Sys2Proof.Machine.execVend p n u s
  | .vcCompletionToken p n => Sys2Proof.Machine.execVcCompletionToken p n s
  | .vcErrRsp p n => Sys2Proof.Machine.execVcErrRsp p n s
  | .vcInjectArm p n v requester => Sys2Proof.Machine.execVcInjectArm p n v requester s
  | .vcCntClr p n v => Sys2Proof.Machine.execVcCntClr p n v s
  | .add h u => Sys2Proof.Machine.execAdd h u s
  | .sub h u => Sys2Proof.Machine.execSub h u s
  | .and h u => Sys2Proof.Machine.execAnd h u s
  | .or h u => Sys2Proof.Machine.execOr h u s
  | .xor h u => Sys2Proof.Machine.execXor h u s
  | .shl h u => Sys2Proof.Machine.execShl h u s
  | .shr h u => Sys2Proof.Machine.execShr h u s
  | .sra h u => Sys2Proof.Machine.execSra h u s
  | .slt h u => Sys2Proof.Machine.execSlt h u s
  | .sltu h u => Sys2Proof.Machine.execSltu h u s
  | .mul h u => Sys2Proof.Machine.execMul h u s
  | .mulhu h u => Sys2Proof.Machine.execMulhu h u s
  | .min h u => Sys2Proof.Machine.execMin h u s
  | .max h u => Sys2Proof.Machine.execMax h u s
  | .minu h u => Sys2Proof.Machine.execMinu h u s
  | .maxu h u => Sys2Proof.Machine.execMaxu h u s
  | .addi h u => Sys2Proof.Machine.execAddi h u s
  | .andi h u => Sys2Proof.Machine.execAndi h u s
  | .ori h u => Sys2Proof.Machine.execOri h u s
  | .xori h u => Sys2Proof.Machine.execXori h u s
  | .slti h u => Sys2Proof.Machine.execSlti h u s
  | .lui h u => Sys2Proof.Machine.execLui h u s
  | .ld8 h u => Sys2Proof.Machine.execLd8 h u s
  | .ld16 h u => Sys2Proof.Machine.execLd16 h u s
  | .ld32 h u => Sys2Proof.Machine.execLd32 h u s
  | .ld64 h u => Sys2Proof.Machine.execLd64 h u s
  | .st8 h u => Sys2Proof.Machine.execSt8 h u s
  | .st16 h u => Sys2Proof.Machine.execSt16 h u s
  | .st32 h u => Sys2Proof.Machine.execSt32 h u s
  | .st64 h u => Sys2Proof.Machine.execSt64 h u s
  | .beq h u => Sys2Proof.Machine.execBeq h u s
  | .bne h u => Sys2Proof.Machine.execBne h u s
  | .blt h u => Sys2Proof.Machine.execBlt h u s
  | .bge h u => Sys2Proof.Machine.execBge h u s
  | .bltu h u => Sys2Proof.Machine.execBltu h u s
  | .bgeu h u => Sys2Proof.Machine.execBgeu h u s
  | .jal h u => Sys2Proof.Machine.execJal h u s
  | .jalr h u => Sys2Proof.Machine.execJalr h u s
  | .connect h u => Sys2Proof.Machine.execConnect h u s
  | .send h u => Sys2Proof.Machine.execSend h u s
  | .recv h u => Sys2Proof.Machine.execRecv h u s
  | .close h u => Sys2Proof.Machine.execClose h u s
  | .stepwait h u => Sys2Proof.Machine.execStepwait h u s
  | .step h u => Sys2Proof.Machine.execStep h u s
  | .ycg h u => Sys2Proof.Machine.execYcg h u s
  | .fence h u => Sys2Proof.Machine.execFence h u s
  | .halt h u => Sys2Proof.Machine.execHalt h u s
  | .time h u => Sys2Proof.Machine.execTime h u s
  | .scLoadReturn h k v u => Sys2Proof.Machine.execScLoadReturn h k v u s
  | .scLoadTimeout h k => Sys2Proof.Machine.execScLoadTimeout h k s
  | .scEnable p n => Sys2Proof.Machine.execScEnable p n s
  | .scDisable p n => Sys2Proof.Machine.execScDisable p n s
  | .scInjectArm p n v requester => Sys2Proof.Machine.execScInjectArm p n v requester s
  | .scCntClr p n v => Sys2Proof.Machine.execScCntClr p n v s
  | .wfi h u => Sys2Proof.Machine.execWfi h u s
  | .iret h u => Sys2Proof.Machine.execIret h u s
  | .ien h u => Sys2Proof.Machine.execIen h u s
  | .idis h u => Sys2Proof.Machine.execIdis h u s
  | .cinv h u => Sys2Proof.Machine.execCinv h u s
  | .hallRead p m req cycle age rivals u => Sys2Proof.Machine.execHallRead p m req cycle age rivals u s
  | .hallWrite p m req age rivals u => Sys2Proof.Machine.execHallWrite p m req age rivals u s
  | .hallAtomic p m req op cmp age rivals u => Sys2Proof.Machine.execHallAtomic p m req op cmp age rivals u s
  | .poisonedResponse p a => Sys2Proof.Machine.execPoisonedResponse p a s
  | .dmCopy p u => Sys2Proof.Machine.execDmCopy p u s
  | .dmMcast p u => Sys2Proof.Machine.execDmMcast p u s
  | .dmFill p u => Sys2Proof.Machine.execDmFill p u s
  | .dmAtomic p u => Sys2Proof.Machine.execDmAtomic p u s
  | .dmNullToken p => Sys2Proof.Machine.execDmNullToken p s
  | .dmDescriptorStart p u => Sys2Proof.Machine.execDmDescriptorStart p u s
  | .dmCompletion p => Sys2Proof.Machine.execDmCompletion p s
  | .dmTimeout p => Sys2Proof.Machine.execDmTimeout p s
  | .suSwitch p e bad => Sys2Proof.Machine.execSuSwitch p e bad s
  | .suMerge p e bad => Sys2Proof.Machine.execSuMerge p e bad s
  | .suDistribute p e bad => Sys2Proof.Machine.execSuDistribute p e bad s
  | .suCollect p e bad => Sys2Proof.Machine.execSuCollect p e bad s
  | .suWatchdog p e => Sys2Proof.Machine.execSuWatchdog p e s
  | .hallCntClr p v => Sys2Proof.Machine.execHallCntClr p v s
  | .lndHeadFlit l port t pre u => Sys2Proof.Machine.execLndHeadFlit l port t pre u s
  | .rdRsp p t => Sys2Proof.Machine.execRdRsp p t s
  | .wrAck p t => Sys2Proof.Machine.execWrAck p t s
  | .atRsp p t => Sys2Proof.Machine.execAtRsp p t s
  | .mcPrune p t => Sys2Proof.Machine.execMcPrune p t s
  | .errRsp p t => Sys2Proof.Machine.execErrRsp p t s
  | .fltArrive l port x => Sys2Proof.Machine.execFltArrive l port x s
  | .fltRelease l x => Sys2Proof.Machine.execFltRelease l x s
  | .faultFlag l m lm => Sys2Proof.Machine.execFaultFlag l m lm s
  | .tblFlip l t => Sys2Proof.Machine.execTblFlip l t s
  | .lndFltArrive p x => Sys2Proof.Machine.execLndFltArrive p x s
  | .lndTblSelFlip l v => Sys2Proof.Machine.execLndTblSelFlip l v s
  | .lndStallTimeout l port vc src => Sys2Proof.Machine.execLndStallTimeout l port vc src s
  | .lndCntClr l v => Sys2Proof.Machine.execLndCntClr l v s
  | .tokenData p t => Sys2Proof.Machine.execTokenData p t s
  | .tokenNull p t => Sys2Proof.Machine.execTokenNull p t s
  | .tokenConnect p t => Sys2Proof.Machine.execTokenConnect p t s
  | .tokenClose p t => Sys2Proof.Machine.execTokenClose p t s
  | .tokenRingMsg p t => Sys2Proof.Machine.execTokenRingMsg p t s
  | .tokenRingPad p t => Sys2Proof.Machine.execTokenRingPad p t s
  | .tokenReserve p t => Sys2Proof.Machine.execTokenReserve p t s
  | .creditReturn p t => Sys2Proof.Machine.execCreditReturn p t s
  | .grant p t => Sys2Proof.Machine.execGrant p t s
  | .refuse p t => Sys2Proof.Machine.execRefuse p t s
  | .closeAck p t => Sys2Proof.Machine.execCloseAck p t s
  | .creditBatchTimeout p a k => Sys2Proof.Machine.execCreditBatchTimeout p a k s
  | .connectTimeout p a slot => Sys2Proof.Machine.execConnectTimeout p a slot s
  | .sendPlace h u => Sys2Proof.Machine.execSendPlace h u s
  | .sendPost h u => Sys2Proof.Machine.execSendPost h u s
  | .sendNull h u => Sys2Proof.Machine.execSendNull h u s
  | .sendRetry h u => Sys2Proof.Machine.execSendRetry h u s
  | .recvReleaseOnly h u => Sys2Proof.Machine.execRecvReleaseOnly h u s
  | .connectMulticast h u => Sys2Proof.Machine.execConnectMulticast h u s
  | .mcDataSend p a m => Sys2Proof.Machine.execMcDataSend p a m s
  | .reserveTimeout p a k => Sys2Proof.Machine.execReserveTimeout p a k s
  | .sendStallWatchdog p a slot => Sys2Proof.Machine.execSendStallWatchdog p a slot s
  | .qDrainClear p a => Sys2Proof.Machine.execQDrainClear p a s
  | .qCntClr p a v => Sys2Proof.Machine.execQCntClr p a v s
  | .seqStepStart => Sys2Proof.Machine.execSeqStepStart s
  | .warmEntry p => Sys2Proof.Machine.execWarmEntry p s
  | .coldEntry p => Sys2Proof.Machine.execColdEntry p s
  | .gstepAbort p => Sys2Proof.Machine.execGstepAbort p s
  | .commitRelease nd => Sys2Proof.Machine.execCommitRelease nd s
  | .commitRecordAck => Sys2Proof.Machine.execCommitRecordAck s
  | .guardCopyAck cfg => Sys2Proof.Machine.execGuardCopyAck cfg s
  | .stepWatchdog silent => Sys2Proof.Machine.execStepWatchdog silent s
  | .quietEnd => Sys2Proof.Machine.execQuietEnd s
  | .rollbackRestart => Sys2Proof.Machine.execRollbackRestart s
  | .seqCtlStop => Sys2Proof.Machine.execSeqCtlStop s
  | .seqCtlResume => Sys2Proof.Machine.execSeqCtlResume s
  | .seqCtlUnload => Sys2Proof.Machine.execSeqCtlUnload s
  | .seqCtlAbort => Sys2Proof.Machine.execSeqCtlAbort s
  | .scanGo p v => Sys2Proof.Machine.execScanGo p v s
  | .scanDone p bad => Sys2Proof.Machine.execScanDone p bad s
  | .drainScanTimeout p => Sys2Proof.Machine.execDrainScanTimeout p s
  | .migrationStart g dst => Sys2Proof.Machine.execMigrationStart g dst s
  | .fabricBarrierTimeout => Sys2Proof.Machine.execFabricBarrierTimeout s
  | .programDigestDone forward => Sys2Proof.Machine.execProgramDigestDone forward s
  | .seqCntClr v => Sys2Proof.Machine.execSeqCntClr v s
  | .memcRead m req ago lat u => Sys2Proof.Machine.execMemcRead m req ago lat u s
  | .memcWrite m req u => Sys2Proof.Machine.execMemcWrite m req u s
  | .memcAtomic m req op cmp u => Sys2Proof.Machine.execMemcAtomic m req op cmp u s
  | .patrolScrub m a u => Sys2Proof.Machine.execPatrolScrub m a u s
  | .refresh m b => Sys2Proof.Machine.execRefresh m b s
  | .dramTempRead m temp => Sys2Proof.Machine.execDramTempRead m temp s
  | .memIrgnWrite n r v requester => Sys2Proof.Machine.execMemIrgnWrite n r v requester s
  | .memDdrIlvWrite v requester => Sys2Proof.Machine.execMemDdrIlvWrite v requester s
  | .dimmPresenceChange c d present => Sys2Proof.Machine.execDimmPresenceChange c d present s
  | .memcCntClr m v => Sys2Proof.Machine.execMemcCntClr m v s
  | .linkDataFrame q f u => Sys2Proof.Machine.execLinkDataFrame q f u s
  | .linkNak q f u bad => Sys2Proof.Machine.execLinkNak q f u bad s
  | .ctrlIdle q f u => Sys2Proof.Machine.execCtrlIdle q f u s
  | .ctrlTrain q f u => Sys2Proof.Machine.execCtrlTrain q f u s
  | .ctrlPromote q f u => Sys2Proof.Machine.execCtrlPromote q f u s
  | .ctrlPromoteAck q f u => Sys2Proof.Machine.execCtrlPromoteAck q f u s
  | .ctrlPromoteNak q f u => Sys2Proof.Machine.execCtrlPromoteNak q f u s
  | .ctrlDown q f u => Sys2Proof.Machine.execCtrlDown q f u s
  | .ctrlDownAck q f u => Sys2Proof.Machine.execCtrlDownAck q f u s
  | .linkReplayTimeout q bad => Sys2Proof.Machine.execLinkReplayTimeout q bad s
  | .nakRepeatTimeout q => Sys2Proof.Machine.execNakRepeatTimeout q s
  | .lossOfLight q lanes => Sys2Proof.Machine.execLossOfLight q lanes s
  | .lossOfLock q lanes => Sys2Proof.Machine.execLossOfLock q lanes s
  | .qualWindowEnd q lanes => Sys2Proof.Machine.execQualWindowEnd q lanes s
  | .laneLock x => Sys2Proof.Machine.execLaneLock x s
  | .trainingPhaseTimeout q => Sys2Proof.Machine.execTrainingPhaseTimeout q s
  | .soakEnd q syms errors => Sys2Proof.Machine.execSoakEnd q syms errors s
  | .portUp q => Sys2Proof.Machine.execPortUp q s
  | .portDown q => Sys2Proof.Machine.execPortDown q s
  | .portEnable q => Sys2Proof.Machine.execPortEnable q s
  | .portDisable q => Sys2Proof.Machine.execPortDisable q s
  | .lightReturn q lanes => Sys2Proof.Machine.execLightReturn q lanes s
  | .latchLift n => Sys2Proof.Machine.execLatchLift n s
  | .linkDrainTimeout q => Sys2Proof.Machine.execLinkDrainTimeout q s
  | .laserOffTimeout n => Sys2Proof.Machine.execLaserOffTimeout n s
  | .latchClose n => Sys2Proof.Machine.execLatchClose n s
  | .fabPortCntClr q v => Sys2Proof.Machine.execFabPortCntClr q v s
  | .erMeshIngress h t => Sys2Proof.Machine.execErMeshIngress h t s
  | .fabricPacketForward h k bad => Sys2Proof.Machine.execFabricPacketForward h k bad s
  | .fabricDwellTimeout h k => Sys2Proof.Machine.execFabricDwellTimeout h k s
  | .fabWrite h t => Sys2Proof.Machine.execFabWrite h t s
  | .fabRead h t => Sys2Proof.Machine.execFabRead h t s
  | .fabAtomic h t op cmp => Sys2Proof.Machine.execFabAtomic h t op cmp s
  | .fabToken h t => Sys2Proof.Machine.execFabToken h t s
  | .fabReserve h t => Sys2Proof.Machine.execFabReserve h t s
  | .fabReadRsp h t => Sys2Proof.Machine.execFabReadRsp h t s
  | .fabAtomicRsp h t => Sys2Proof.Machine.execFabAtomicRsp h t s
  | .rsvAns h t => Sys2Proof.Machine.execRsvAns h t s
  | .ctxOpen h t => Sys2Proof.Machine.execCtxOpen h t s
  | .ctxOpenAck h t => Sys2Proof.Machine.execCtxOpenAck h t s
  | .ctxClose h t => Sys2Proof.Machine.execCtxClose h t s
  | .ctxCloseAck h t => Sys2Proof.Machine.execCtxCloseAck h t s
  | .ctxNoctx h t => Sys2Proof.Machine.execCtxNoctx h t s
  | .tack h t => Sys2Proof.Machine.execTack h t s
  | .tackDelayTimeout h dev => Sys2Proof.Machine.execTackDelayTimeout h dev s
  | .retransmitTimeout h dev k => Sys2Proof.Machine.execRetransmitTimeout h dev k s
  | .connectionIdleTimeout h dev => Sys2Proof.Machine.execConnectionIdleTimeout h dev s
  | .fabReserveTimeout h g => Sys2Proof.Machine.execFabReserveTimeout h g s
  | .barrierArrive h t => Sys2Proof.Machine.execBarrierArrive h t s
  | .barrierRelease h t => Sys2Proof.Machine.execBarrierRelease h t s
  | .barrierArriveResend k => Sys2Proof.Machine.execBarrierArriveResend k s
  | .barrierActionAtT k => Sys2Proof.Machine.execBarrierActionAtT k s
  | .barrierTrigger t => Sys2Proof.Machine.execBarrierTrigger t s
  | .timePacket q t rx tx => Sys2Proof.Machine.execTimePacket q t rx tx s
  | .timeSync => Sys2Proof.Machine.execTimeSync s
  | .orderPacket h t => Sys2Proof.Machine.execOrderPacket h t s
  | .orderAssemblyTimeout k => Sys2Proof.Machine.execOrderAssemblyTimeout k s
  | .orderExpel => Sys2Proof.Machine.execOrderExpel s
  | .orderPeerLost => Sys2Proof.Machine.execOrderPeerLost s
  | .orderPeerMap => Sys2Proof.Machine.execOrderPeerMap s
  | .orderReadmit => Sys2Proof.Machine.execOrderReadmit s
  | .orderReturn => Sys2Proof.Machine.execOrderReturn s
  | .orderKeyset => Sys2Proof.Machine.execOrderKeyset s
  | .erCntClr h v => Sys2Proof.Machine.execErCntClr h v s
  | .sclLinkFail kind lanes lseq => Sys2Proof.Machine.execSclLinkFail kind lanes lseq s
  | .sclDownTimeout => Sys2Proof.Machine.execSclDownTimeout s
  | .hrd m part => Sys2Proof.Machine.execHrd m part s
  | .hwr m => Sys2Proof.Machine.execHwr m s
  | .flush m => Sys2Proof.Machine.execFlush m s
  | .snpInv m => Sys2Proof.Machine.execSnpInv m s
  | .sclData m => Sys2Proof.Machine.execSclData m s
  | .sclCmp m => Sys2Proof.Machine.execSclCmp m s
  | .sclErr m => Sys2Proof.Machine.execSclErr m s
  | .sclCmdDb r v => Sys2Proof.Machine.execSclCmdDb r v s
  | .sclCplDb c v => Sys2Proof.Machine.execSclCplDb c v s
  | .descriptorAccept r slot blk => Sys2Proof.Machine.execDescriptorAccept r slot blk s
  | .nop j => Sys2Proof.Machine.execNop j s
  | .load j u => Sys2Proof.Machine.execLoad j u s
  | .replace j forward => Sys2Proof.Machine.execReplace j forward s
  | .steps j => Sys2Proof.Machine.execSteps j s
  | .copyIn j => Sys2Proof.Machine.execCopyIn j s
  | .copyOut j => Sys2Proof.Machine.execCopyOut j s
  | .stop j => Sys2Proof.Machine.execStop j s
  | .resume j => Sys2Proof.Machine.execResume j s
  | .unload j => Sys2Proof.Machine.execUnload j s
  | .abort j => Sys2Proof.Machine.execAbort j s
  | .drain j => Sys2Proof.Machine.execDrain j s
  | .descFence j => Sys2Proof.Machine.execDescFence j s
  | .result j => Sys2Proof.Machine.execResult j s
  | .digest j => Sys2Proof.Machine.execDigest j s
  | .digestDone bad => Sys2Proof.Machine.execDigestDone bad s
  | .remap j => Sys2Proof.Machine.execRemap j s
  | .defects j => Sys2Proof.Machine.execDefects j s
  | .cplModerationTimeout c => Sys2Proof.Machine.execCplModerationTimeout c s
  | .sclCntClr v => Sys2Proof.Machine.execSclCntClr v s
  | .gndSnap p => Sys2Proof.Machine.execGndSnap p s
  | .rotationTick h => Sys2Proof.Machine.execRotationTick h s
  | .rotationMove g dst => Sys2Proof.Machine.execRotationMove g dst s
  | .stElementDone elem unit r => Sys2Proof.Machine.execStElementDone elem unit r s
  | .stElementTimeout elem unit => Sys2Proof.Machine.execStElementTimeout elem unit s
  | .testGallery j => Sys2Proof.Machine.execTestGallery j s
  | .testGalleryNow j => Sys2Proof.Machine.execTestGalleryNow j s
  | .testLanding j => Sys2Proof.Machine.execTestLanding j s
  | .testStairLink j => Sys2Proof.Machine.execTestStairLink j s
  | .testEdgeRouter j => Sys2Proof.Machine.execTestEdgeRouter j s
  | .testDevice j => Sys2Proof.Machine.execTestDevice j s
  | .testHbmStack j => Sys2Proof.Machine.execTestHbmStack j s
  | .testDdr5Channel j => Sys2Proof.Machine.execTestDdr5Channel j s
  | .extest => Sys2Proof.Machine.execExtest s
  | .idcode => Sys2Proof.Machine.execIdcode s
  | .samplePreload => Sys2Proof.Machine.execSamplePreload s
  | .clamp => Sys2Proof.Machine.execClamp s
  | .highz => Sys2Proof.Machine.execHighz s
  | .stCmd ws => Sys2Proof.Machine.execStCmd ws s
  | .stResult => Sys2Proof.Machine.execStResult s
  | .bypass => Sys2Proof.Machine.execBypass s
  | .stCntClr v => Sys2Proof.Machine.execStCntClr v s
  | .interruptDelivery n => Sys2Proof.Machine.execInterruptDelivery n s
  | .spareReloadDone cause => Sys2Proof.Machine.execSpareReloadDone cause s
  | .galFenceSet p => Sys2Proof.Machine.execGalFenceSet p s
  | .galUnfence p requester => Sys2Proof.Machine.execGalUnfence p requester s
  | .fltCntClr v => Sys2Proof.Machine.execFltCntClr v s
  | .coreReset p mask requester => Sys2Proof.Machine.execCoreReset p mask requester s
  | .galleryReset p => Sys2Proof.Machine.execGalleryReset p s
  | .lndReset l => Sys2Proof.Machine.execLndReset l s
  | .halfReset h => Sys2Proof.Machine.execHalfReset h s
  | .deviceWarmReset cause requester => Sys2Proof.Machine.execDeviceWarmReset cause requester s
  | .resetComplete k found => Sys2Proof.Machine.execResetComplete k found s
  | .resetTimeout k => Sys2Proof.Machine.execResetTimeout k s
  | .isolationSwitchTimeout p landing => Sys2Proof.Machine.execIsolationSwitchTimeout p landing s
  | .cpWdEnable n period => Sys2Proof.Machine.execCpWdEnable n period s
  | .cpWdKick n => Sys2Proof.Machine.execCpWdKick n s
  | .cpWdExpiry n => Sys2Proof.Machine.execCpWdExpiry n s
  | .snapTrigger source => Sys2Proof.Machine.execSnapTrigger source s
  | .snapRearm => Sys2Proof.Machine.execSnapRearm s
  | .snapLatchAtT => Sys2Proof.Machine.execSnapLatchAtT s
  | .dumpGo => Sys2Proof.Machine.execDumpGo s
  | .dumpReadTimeout k => Sys2Proof.Machine.execDumpReadTimeout k s
  | .dumpComplete => Sys2Proof.Machine.execDumpComplete s
  | .dumpWaitTimeout => Sys2Proof.Machine.execDumpWaitTimeout s
  | .rstCntClr v => Sys2Proof.Machine.execRstCntClr v s
  | .coldReset found => Sys2Proof.Machine.execColdReset found s
  | .powerLoss => Sys2Proof.Machine.execPowerLoss s
  | .coldSequenceTimeout => Sys2Proof.Machine.execColdSequenceTimeout s
  | .readyActions => Sys2Proof.Machine.execReadyActions s
  | .bootPage p t => Sys2Proof.Machine.execBootPage p t s
  | .gbootArm p => Sys2Proof.Machine.execGbootArm p s
  | .gbootDisarm p => Sys2Proof.Machine.execGbootDisarm p s
  | .gbootReport p npages round => Sys2Proof.Machine.execGbootReport p npages round s
  | .attest len requester => Sys2Proof.Machine.execAttest len requester s
  | .getCert len requester => Sys2Proof.Machine.execGetCert len requester s
  | .unlock len requester => Sys2Proof.Machine.execUnlock len requester s
  | .mailboxOpDone => Sys2Proof.Machine.execMailboxOpDone s
  | .relock => Sys2Proof.Machine.execRelock s
  | .secFloorWrite v requester => Sys2Proof.Machine.execSecFloorWrite v requester s
  | .idKeyReady => Sys2Proof.Machine.execIdKeyReady s
  | .flashOpDone ok => Sys2Proof.Machine.execFlashOpDone ok s
  | .powerInterval mw islands energy => Sys2Proof.Machine.execPowerInterval mw islands energy s
  | .fastClamp => Sys2Proof.Machine.execFastClamp s
  | .railUndervoltage h => Sys2Proof.Machine.execRailUndervoltage h s
  | .railRecovered h => Sys2Proof.Machine.execRailRecovered h s
  | .thermalSample sensor celsius => Sys2Proof.Machine.execThermalSample sensor celsius s
  | .pwrCntClr v => Sys2Proof.Machine.execPwrCntClr v s
  | .icClaim n => Sys2Proof.Machine.execIcClaim n s
  | .sourceTrigger n id => Sys2Proof.Machine.execSourceTrigger n id s
  | .softwareInterrupt n v => Sys2Proof.Machine.execSoftwareInterrupt n v s
  | .cpTimer n => Sys2Proof.Machine.execCpTimer n s
  | .moderationTimeout n m => Sys2Proof.Machine.execModerationTimeout n m s
  | .cpRelease n => Sys2Proof.Machine.execCpRelease n s
  | .cpHold n => Sys2Proof.Machine.execCpHold n s
  | .icCntClr v => Sys2Proof.Machine.execIcCntClr v s
  | .info m => Sys2Proof.Machine.execInfo m s
  | .regRead m => Sys2Proof.Machine.execRegRead m s
  | .regWrite m => Sys2Proof.Machine.execRegWrite m s
  | .memRead m => Sys2Proof.Machine.execMemRead m s
  | .memWrite m => Sys2Proof.Machine.execMemWrite m s
  | .orderPut m => Sys2Proof.Machine.execOrderPut m s
  | .orderSubmit m => Sys2Proof.Machine.execOrderSubmit m s
  | .recAck m => Sys2Proof.Machine.execRecAck m s
  | .recResendTimeout path => Sys2Proof.Machine.execRecResendTimeout path s
  | .orderStagingTimeout => Sys2Proof.Machine.execOrderStagingTimeout s
  | .fwPut m => Sys2Proof.Machine.execFwPut m s
  | .fwCommit m => Sys2Proof.Machine.execFwCommit m s
  | .dumpRead m => Sys2Proof.Machine.execDumpRead m s
  | .mctpControl body => Sys2Proof.Machine.execMctpControl body s
  | .pldmDiscovery body => Sys2Proof.Machine.execPldmDiscovery body s
  | .pldmPlatform body => Sys2Proof.Machine.execPldmPlatform body s
  | .pldmFirmwareUpdate off total data => Sys2Proof.Machine.execPldmFirmwareUpdate off total data s
  | .icmpEcho v6 station body => Sys2Proof.Machine.execIcmpEcho v6 station body s
  | .arpRequest station addr => Sys2Proof.Machine.execArpRequest station addr s
  | .neighbourDiscovery station addr => Sys2Proof.Machine.execNeighbourDiscovery station addr s
  | .i3cEntdaa addr => Sys2Proof.Machine.execI3cEntdaa addr s
  | .attnPress => Sys2Proof.Machine.execAttnPress s
  | .attnTimeout => Sys2Proof.Machine.execAttnTimeout s
  | .attnClr => Sys2Proof.Machine.execAttnClr s
  | .ledChainRefresh => Sys2Proof.Machine.execLedChainRefresh s
  | .mgmtSave => Sys2Proof.Machine.execMgmtSave s
  | .mgmtCntClr v => Sys2Proof.Machine.execMgmtCntClr v s
  | .backStairTimeout k requester => Sys2Proof.Machine.execBackStairTimeout k requester s
  | .refclkLoss => Sys2Proof.Machine.execRefclkLoss s
  | .fabTopoWrite v requester => Sys2Proof.Machine.execFabTopoWrite v requester s
  | .sclLinkEnable on => Sys2Proof.Machine.execSclLinkEnable on s
  | .testLogicReset => Sys2Proof.Machine.execTestLogicReset s
  | .writeMessageClose h land rtag => Sys2Proof.Machine.execWriteMessageClose h land rtag s

end Sys2Proof.Machine
end

