-- ==== Sys2Proof/Machine/Step.lean ====
section
/-! DEFINITION. One step of the part: the oldest waiting command is carried out; with none waiting, time passes. -/

namespace Sys2Proof.Machine

/-- The nanoseconds by which the counter moves in one, and the correction then still owed (R278, R279): slewed, never
backward. The rate is a DESIGN CHOICE (log entry 4). -/
def slewed (owed : Int) : Nat × Int :=
  if 1000 ≤ owed then (2, owed - 1000) else if owed ≤ -1000 then (0, owed + 1000) else (1, owed)

/-- A nanosecond passes with nothing commanded (log entry 4): global time (R278) and, while the rails are on, RST_UPTIME
(R380) advance. -/
def State.tick (s : State) : State :=
  if s.chip.powered then
    let k := s.chip.timeKeep
    let (d, owed) := slewed k.owed
    let w : W := ⟨{ s.chip with time := (s.chip.time + d) % 2 ^ 64, timeKeep := { k with owed := owed } }, s.mem, [], []⟩
    { s with chip := (w.setReg Reg.RST_UPTIME (w.reg Reg.RST_UPTIME + 1)).c }
  else s

/-- One step. -/
def step (s : State) : Host.Outcome State Fault Refusal :=
  match s.pending with
  | [] => .next s.tick
  | i :: rest => exec i { s with pending := rest }

/-- The command that a word spells put at the front of the queue; nothing where it spells none. -/
def State.withFetchWord (s : State) (nbits w : Nat) : State :=
  match Sys2Proof.decodeTableWord nbits w with
  | some i => { s with pending := i :: s.pending }
  | none => s

end Sys2Proof.Machine
end

