-- ==== Sys2Proof/WellFormed.lean ====
section
/-! DEFINITION. The well-formed commands: those whose operands name units the part has (01_the_willek_at_a_glance.md R12 to R14; the
numbers of units the chapters give). A command that is not well formed names a unit that does not exist. -/

namespace Sys2Proof

/-- A physical gallery or landing of the part (R12). -/
def isGallery (p : Nat) : Bool := decide (p < 312)

/-- A scalar core (two in every gallery) or a control processor (four). -/
def isHart : Hart → Bool
  | .sc p n => isGallery p && decide (n < 2)
  | .cp k => decide (k < 4)

/-- Every unit the command names is one the part has. -/
def Instr.wf : Instr → Bool
  | .registerWrite .. | .seqStepStart | .commitRelease .. | .commitRecordAck | .guardCopyAck .. | .stepWatchdog ..
  | .quietEnd | .rollbackRestart | .seqCtlStop | .seqCtlResume | .seqCtlUnload | .seqCtlAbort | .fabricBarrierTimeout
  | .programDigestDone .. | .seqCntClr .. | .memDdrIlvWrite .. | .barrierTrigger .. | .timeSync
  | .orderAssemblyTimeout .. | .orderExpel | .orderPeerLost | .orderPeerMap | .orderReadmit | .orderReturn | .orderKeyset
  | .sclLinkFail .. | .sclDownTimeout | .hrd .. | .hwr .. | .flush .. | .snpInv .. | .sclData .. | .sclCmp .. | .sclErr ..
  | .nop .. | .load .. | .replace .. | .steps .. | .copyIn .. | .copyOut .. | .stop .. | .resume .. | .unload .. | .abort ..
  | .drain .. | .descFence .. | .result .. | .digest .. | .digestDone .. | .remap .. | .defects .. | .sclCntClr ..
  | .stElementDone .. | .stElementTimeout .. | .testGallery .. | .testGalleryNow .. | .testLanding .. | .testStairLink ..
  | .testEdgeRouter .. | .testDevice .. | .testHbmStack .. | .testDdr5Channel .. | .extest | .idcode | .samplePreload
  | .clamp | .highz | .stCmd .. | .stResult | .bypass | .stCntClr .. | .spareReloadDone .. | .fltCntClr ..
  | .deviceWarmReset .. | .resetComplete .. | .resetTimeout .. | .snapTrigger .. | .snapRearm | .snapLatchAtT | .dumpGo
  | .dumpReadTimeout .. | .dumpComplete | .dumpWaitTimeout | .rstCntClr .. | .coldReset .. | .powerLoss
  | .coldSequenceTimeout | .readyActions | .attest .. | .getCert .. | .unlock .. | .mailboxOpDone | .relock
  | .secFloorWrite .. | .idKeyReady | .flashOpDone .. | .powerInterval .. | .fastClamp | .pwrCntClr .. | .icCntClr ..
  | .info .. | .regRead .. | .regWrite .. | .memRead .. | .memWrite .. | .orderPut .. | .orderSubmit .. | .recAck ..
  | .recResendTimeout .. | .orderStagingTimeout | .fwPut .. | .fwCommit .. | .dumpRead .. | .mctpControl ..
  | .pldmDiscovery .. | .pldmPlatform .. | .pldmFirmwareUpdate .. | .icmpEcho .. | .arpRequest .. | .neighbourDiscovery ..
  | .i3cEntdaa .. | .attnPress | .attnTimeout | .attnClr | .ledChainRefresh | .mgmtSave | .mgmtCntClr ..
  | .backStairTimeout .. | .refclkLoss | .fabTopoWrite .. | .sclLinkEnable .. | .testLogicReset =>
    true
  | .mma p n .. | .mcDeferredCmdFault p n | .mcNullToken p n | .mcBlockClose p n .. | .mcDrain p n .. | .mcInjectArm p n ..
  | .mcCntClr p n .. =>
    isGallery p && decide (n < 8)
  | .vcKernel p ⟨n, _⟩ | .vcNullCommand p ⟨n, _⟩ | .vfma p n .. | .vadd p n .. | .vmul p n .. | .vsub p n .. | .vmin p n ..
  | .vmax p n .. | .vcmp p n .. | .vsel p n .. | .vcvt p n .. | .vredsum p n .. | .vredmax p n .. | .vscale p n ..
  | .vgetexp p n .. | .vgetmant p n .. | .vand p n .. | .vor p n .. | .vxor p n .. | .vshl p n .. | .vshr p n ..
  | .vld p n .. | .vst p n .. | .vldh p n .. | .vsth p n .. | .vrng p n .. | .xaddi p n .. | .xloop p n .. | .xli p n ..
  | .qrecv p n .. | .qsend p n .. | .vend p n .. | .vcCompletionToken p n | .vcErrRsp p n | .vcInjectArm p n ..
  | .vcCntClr p n .. =>
    isGallery p && decide (n < 4)
  | .add h .. | .sub h .. | .and h .. | .or h .. | .xor h .. | .shl h .. | .shr h .. | .sra h .. | .slt h .. | .sltu h ..
  | .mul h .. | .mulhu h .. | .min h .. | .max h .. | .minu h .. | .maxu h .. | .addi h .. | .andi h .. | .ori h ..
  | .xori h .. | .slti h .. | .lui h .. | .ld8 h .. | .ld16 h .. | .ld32 h .. | .ld64 h .. | .st8 h .. | .st16 h ..
  | .st32 h .. | .st64 h .. | .beq h .. | .bne h .. | .blt h .. | .bge h .. | .bltu h .. | .bgeu h .. | .jal h ..
  | .jalr h .. | .connect h .. | .send h .. | .recv h .. | .close h .. | .stepwait h .. | .step h .. | .ycg h ..
  | .fence h .. | .halt h .. | .time h .. | .scLoadReturn h .. | .scLoadTimeout h .. | .wfi h .. | .iret h .. | .ien h ..
  | .idis h .. | .cinv h .. | .sendPlace h .. | .sendPost h .. | .sendNull h .. | .sendRetry h .. | .recvReleaseOnly h ..
  | .connectMulticast h .. =>
    isHart h
  | .scEnable p n | .scDisable p n | .scInjectArm p n .. | .scCntClr p n .. =>
    isHart (.sc p n)
  | .hallRead p m .. | .hallWrite p m .. | .hallAtomic p m .. =>
    isGallery p && decide (m < 15)
  | .poisonedResponse p a | .creditBatchTimeout p a .. | .connectTimeout p a .. | .mcDataSend p a ..
  | .reserveTimeout p a .. | .sendStallWatchdog p a .. | .qDrainClear p a | .qCntClr p a .. =>
    isGallery p && decide (a < 16)
  | .dmCopy p .. | .dmMcast p .. | .dmFill p .. | .dmAtomic p .. | .dmNullToken p | .dmDescriptorStart p ..
  | .dmCompletion p | .dmTimeout p | .hallCntClr p .. | .rdRsp p .. | .wrAck p .. | .atRsp p .. | .mcPrune p ..
  | .errRsp p .. | .lndFltArrive p .. | .tokenData p .. | .tokenNull p .. | .tokenConnect p .. | .tokenClose p ..
  | .tokenRingMsg p .. | .tokenRingPad p .. | .tokenReserve p .. | .creditReturn p .. | .grant p .. | .refuse p ..
  | .closeAck p .. | .warmEntry p | .coldEntry p | .gstepAbort p | .scanGo p .. | .scanDone p .. | .drainScanTimeout p
  | .gndSnap p | .galFenceSet p | .galUnfence p .. | .coreReset p .. | .galleryReset p | .isolationSwitchTimeout p ..
  | .bootPage p .. | .gbootArm p | .gbootDisarm p | .gbootReport p .. =>
    isGallery p
  | .suSwitch p e .. | .suMerge p e .. | .suDistribute p e .. | .suCollect p e .. | .suWatchdog p e =>
    isGallery p && decide (e < 256)
  | .lndHeadFlit l port .. =>
    isGallery l && decide (port < 9)
  | .fltArrive l port .. =>
    isGallery l && decide (1 ≤ port) && decide (port ≤ 5)
  | .fltRelease l .. | .faultFlag l .. | .tblFlip l .. | .lndTblSelFlip l .. | .lndStallTimeout l .. | .lndCntClr l ..
  | .lndReset l =>
    isGallery l
  | .migrationStart _ dst | .rotationMove _ dst =>
    isGallery dst
  | .memcRead m .. | .memcWrite m .. | .memcAtomic m .. | .patrolScrub m .. | .refresh m .. | .dramTempRead m ..
  | .memcCntClr m .. =>
    decide (m < 16)
  | .memIrgnWrite n r .. =>
    decide (n < 16) && decide (r < 2)
  | .dimmPresenceChange c d .. =>
    decide (c < 8) && decide (d < 2)
  | .linkDataFrame q .. | .linkNak q .. | .ctrlIdle q .. | .ctrlTrain q .. | .linkReplayTimeout q .. | .lossOfLight q ..
  | .lossOfLock q .. | .qualWindowEnd q .. | .laneLock ⟨q, _⟩ | .trainingPhaseTimeout q | .soakEnd q .. =>
    decide (q ≤ 64)
  | .ctrlPromote q .. | .ctrlPromoteAck q .. | .ctrlPromoteNak q .. | .ctrlDown q .. | .ctrlDownAck q ..
  | .nakRepeatTimeout q | .timePacket q .. | .portUp q | .portDown q | .portEnable q | .portDisable q | .lightReturn q ..
  | .linkDrainTimeout q | .fabPortCntClr q .. =>
    decide (q < 64)
  | .latchLift n | .laserOffTimeout n | .latchClose n =>
    decide (n < 8)
  | .erMeshIngress h .. | .fabricPacketForward h .. | .fabricDwellTimeout h .. | .fabWrite h .. | .fabRead h ..
  | .fabAtomic h .. | .fabToken h .. | .fabReserve h .. | .fabReadRsp h .. | .fabAtomicRsp h .. | .rsvAns h ..
  | .ctxOpen h .. | .ctxOpenAck h .. | .ctxClose h .. | .ctxCloseAck h .. | .ctxNoctx h .. | .tack h ..
  | .tackDelayTimeout h .. | .retransmitTimeout h .. | .connectionIdleTimeout h .. | .fabReserveTimeout h ..
  | .barrierArrive h .. | .barrierRelease h .. | .orderPacket h .. | .erCntClr h .. | .writeMessageClose h .. =>
    decide (h < 2)
  | .barrierArriveResend k | .barrierActionAtT k =>
    decide (k < 32)
  | .sclCmdDb r .. | .descriptorAccept r .. =>
    decide (r < 64)
  | .sclCplDb c .. | .cplModerationTimeout c =>
    decide (c < 64)
  | .rotationTick h | .halfReset h | .railUndervoltage h | .railRecovered h =>
    decide (h < 2)
  | .interruptDelivery n | .cpWdEnable n .. | .cpWdKick n | .cpWdExpiry n | .icClaim n | .softwareInterrupt n ..
  | .cpTimer n | .cpRelease n | .cpHold n =>
    decide (n < 4)
  | .thermalSample sensor .. =>
    decide (sensor < 327)
  | .sourceTrigger n id =>
    decide (n < 4) && decide (id < 576)
  | .moderationTimeout n m =>
    decide (n < 4) && decide (1 ≤ m) && decide (m ≤ 7)

end Sys2Proof
end

