-- ==== Sys2Proof/Safety.lean ====
section
/-! DEFINITION. What counts as a safe run, in the terms the statements use: every command names units the part has, so
that no step faults, and memory keeps its canonical form; and the words the statements about a command's effect share. -/

namespace Sys2Proof.Machine

/-- Every waiting command is well formed. -/
def State.queueOk (s : State) : Bool := s.pending.all Sys2Proof.Instr.wf

/-- The invariant of safe runs: memory is canonical and every waiting command is well formed. -/
def State.safe (s : State) : Bool := s.mem.wf && s.queueOk

/-- From `s` to `t` only registers among `ks` may differ: the other registers, every unit, memory and the queue are as
before. -/
def OnlyRegs (s t : State) (ks : List Nat) : Prop :=
  t = { s with chip := { s.chip with regs := t.chip.regs } } ∧ ∀ k, k ∉ ks → t.w.reg k = s.w.reg k

/-- Command `i` at `s` clears the registers of `ks` whose places in the list are set in `mask`, and does nothing else. -/
def Clears (i : Instr) (s : State) (mask : Word) (ks : List Nat) : Prop :=
  ∃ t, exec i s = .next t ∧ OnlyRegs s t ks ∧
    ∀ k, t.w.reg k = if ks.zipIdx.any (fun e => e.1 == k && bit mask e.2) then 0 else s.w.reg k

/-- The counters of a block that a *_CNT_CLR write names by bit number, in the order of the block's register table. -/
def counterClear : Instr → Option (Word × List Nat)
  | .mcCntClr p n v => some (v, [Reg.MC_EVT_NANGEN p n, Reg.MC_EVT_OVF p n, Reg.MC_EVT_SAT p n,
      Reg.MC_EVT_NONFINITE_BLOCK p n, Reg.MC_TILES p n, Reg.MC_BUSY_CYCLES p n, Reg.MC_NULL_SKIP p n,
      Reg.MC_CHECK_SKIP p n, Reg.MC_CHECK_FAIL p n])
  | .vcCntClr p n v => some (v, [Reg.VC_EVT_NANGEN p n, Reg.VC_EVT_OVF p n, Reg.VC_EVT_SAT p n,
      Reg.VC_EVT_NONFINITE_BLOCK p n, Reg.VC_KERNELS p n, Reg.VC_BUSY_CYCLES p n, Reg.VC_NULL_SKIP p n,
      Reg.VC_CHECK_FAIL p n])
  | .scCntClr p n v => some (v, [Reg.SC_EVT_NANGEN p n, Reg.SC_EVT_OVF p n, Reg.SC_EVT_SAT p n,
      Reg.SC_EVT_NONFINITE_BLOCK p n, Reg.SC_INSTRET p n, Reg.SC_STALL_CYCLES p n, Reg.SC_NULL_RECV p n,
      Reg.SC_CHECK_FAIL p n])
  | .hallCntClr p v => some (v, [Reg.HALL_MERGE_HITS p, Reg.HALL_CONFLICT_CYCLES p, Reg.HALL_ND_ATOMIC p,
      Reg.HALL_PARITY_ERR p, Reg.DM_DESCS p, Reg.DM_BYTES p, Reg.SU_FIRINGS p, Reg.SU_NULL_FILL p, Reg.SU_OVF p,
      Reg.SU_DROP p])
  | .lndCntClr p v => some (v, [Reg.LND_FLITS_OUT p, Reg.LND_PREEMPT p, Reg.LND_MC_PRUNED p, Reg.LND_DISCARD p,
      Reg.LND_FLT_SAT p, Reg.LND_LINK_PERR p, Reg.LND_FLT_FAULT p])
  | .memcCntClr m v => some (v, [Reg.MEMC_CE m, Reg.MEMC_UE m, Reg.MEMC_UE_RECOVERED m, Reg.MEMC_GUARD_REJ m,
      Reg.MEMC_RCB_HITS m, Reg.MEMC_RCB_FULL m, Reg.MEMC_ND_ATOMIC m, Reg.MEMC_RD_LINES m, Reg.MEMC_WR_LINES m])
  | .fabPortCntClr q v => some (v, [Reg.LNK_TX_FRAMES q, Reg.LNK_RX_FRAMES q, Reg.LNK_REPLAYS q, Reg.LNK_CRC_ERR q,
      Reg.LNK_FEC_UNCORR q, Reg.LNK_POISON q, Reg.LNK_LOS q, Reg.LNK_FEC_SYM0 q, Reg.LNK_FEC_SYM1 q,
      Reg.LNK_FEC_SYM2 q, Reg.LNK_FEC_SYM3 q])
  | .erCntClr h v => some (v, [Reg.ER_PKT_BAD h, Reg.ER_ECRC_ERR h, Reg.ER_DWELL_DROP h, Reg.ER_TP_DUP h,
      Reg.ER_TP_OUTWIN h, Reg.ER_TP_RETX h, Reg.ER_CTX_WAIT h, Reg.ER_UNREACH h, Reg.ER_BAR_LATE h,
      Reg.ER_BAR_FAULT h, Reg.ER_LOST_DROP h, Reg.ER_ORDER_REJ h])
  | .sclCntClr v => some (v, [Reg.SCL_DESC_ACC, Reg.SCL_CPL_WR, Reg.SCL_ERR_DROP, Reg.SCL_DB_BAD, Reg.SCL_MSG_BAD,
      Reg.SCL_CRC_ERR, Reg.SCL_REPLAYS, Reg.SCL_SNOOPS])
  | .seqCntClr v => some (v, [Reg.SEQ_REEXECS, Reg.SEQ_WD_TRIPS])
  | .fltCntClr v => some (v, [Reg.FLT_RECORDS, Reg.FLT_SUPPRESSED, Reg.FLT_REMAPS, Reg.FLT_STRIKES, Reg.FLT_DEFMAP_FAIL])
  | .rstCntClr v => some (v, [Reg.RST_MERGED, Reg.SNAP_FAB_BAD])
  | .pwrCntClr v => some (v, [Reg.PWR_E_TOTAL, Reg.PWR_E_JOB, Reg.PWR_E_CORE_W, Reg.PWR_E_CORE_E, Reg.PWR_E_HBM,
      Reg.PWR_E_OPT, Reg.PWR_E_DDR, Reg.PWR_E_OTHER, Reg.PWR_CAPPED_MS, Reg.PWR_CLAMPS, Reg.THERM_MS])
  | .icCntClr v => some (v, [Reg.IC_DELIV0, Reg.IC_DELIV1, Reg.IC_DELIV2, Reg.IC_DELIV3, Reg.IC_MERGED])
  | .mgmtCntClr v => some (v, [Reg.MGMT_RX, Reg.MGMT_TX, Reg.MGMT_BAD, Reg.MGMT_REC_DROP])
  | .stCntClr v => some (putBits (v >>> 2) 5 0 (bits v 5 0), [Reg.ST_MOVES0, Reg.ST_PASSES0, Reg.ST_TRANSIENT0,
      Reg.ST_FAILS0, Reg.ST_SKIPS0, Reg.ST_SWEEPS0, Reg.ST_MOVES1, Reg.ST_PASSES1, Reg.ST_TRANSIENT1, Reg.ST_FAILS1,
      Reg.ST_SKIPS1, Reg.ST_SWEEPS1])
  | .qCntClr p a v =>
    let n := bits v 5 0
    match bits v 17 16 with
    | 0 => if n < 16 then some (BitVec.allOnes 64, [Reg.Q_MSGS p a n, Reg.Q_BYTES p a n, Reg.Q_ESTALL p a n]) else none
    | 1 => some (BitVec.allOnes 64, [Reg.CH_MSGS p a n, Reg.CH_BYTES p a n, Reg.CH_CSTALL p a n])
    | 2 => if n < 5 then some (BitVec.allOnes 64, [Reg.Q_ND_ORDER p a + 8 * n]) else none
    | _ => none
  | _ => none

/-- Vector core `n` of gallery `p` is about to carry out the well-formed instruction `i`: its kernel runs and waits for
nothing, no reset or fence holds it, `i` is the word at VC_PC, no byte of memory holds a parity error, and no injection is
armed (R75 to R77, R84, R92, R102). -/
structure VecRuns (s : State) (p n : Nat) (i : VIns) : Prop where
  live : s.live = true
  gal : p < 312
  core : n < 4
  running : (s.w.vc p n).running = true
  ready : (s.w.vc p n).wait = .run
  up : s.w.vcHalted p n = false
  allowed : s.w.agentRuns p (8 + n) = true
  inside : s.w.vpc p n + 8 ≤ 2 ^ 17
  word : i = VIns.of (w64 (s.w.rdNat (galKey p (vcBuf n + s.w.vpc p n)) 8))
  ok : vInsOk i = true
  intact : s.badPar = []
  unarmed : s.w.flag (Reg.VC_INJECT p n) F.VC_INJECT_ARM = false

/-- The part with the issue cycles of instruction `i` counted (R80, R92): two where an operand is FP64, one under a mask
of zeros. -/
def W.vecBusy (w : W) (p n : Nat) (i : VIns) : W :=
  w.count (Reg.VC_BUSY_CYCLES p n)
    (if (w.vc p n).mreg i.mask ≠ 0 ∧ (i.fmt = 0x01 ∨ (i.op = 0x09 ∧ i.ex 7 0 = 0x01)) then 2 else 1)

/-- The elementwise vector instructions: opcode, command, and the result of one element of VA, VB, VC in a format (R78). -/
def vecElementwise : List (Nat × (Nat → Nat → CoreUpset → Instr) × (Fmt → Nat → Nat → Nat → Res)) :=
  [(0x01, .vfma, vfmaRes), (0x02, .vadd, fun f a b _ => addRes f a b), (0x03, .vmul, fun f a b _ => mulRes f a b),
   (0x04, .vsub, fun f a b _ => subRes f a b), (0x05, .vmin, fun f a b _ => (minRes f a b, {})),
   (0x06, .vmax, fun f a b _ => (maxRes f a b, {})), (0x0D, .vgetexp, fun f a _ _ => (getExp f a, {})),
   (0x0E, .vgetmant, fun f a _ _ => getMantRes f a), (0x10, .vand, fun _ a b _ => (a &&& b, {})),
   (0x11, .vor, fun _ a b _ => (a ||| b, {})), (0x12, .vxor, fun _ a b _ => (a ^^^ b, {})),
   (0x13, .vshl, fun f a b _ => (shlRes f.width a b, {})), (0x14, .vshr, fun f a b _ => (shrRes f.width a b, {}))]

/-- Scalar core or control processor `h` is about to carry out the instruction `i`: it may issue, its program counter is
aligned and inside its local memory, `i` is the word there, of opcode `op` and, in the register form, function `fn`; no
load that is still out concerns its registers, no byte of memory holds a parity error, and no injection is armed (R86 to
R88, R92, R102, R435). -/
structure HartRuns (s : State) (h : Hart) (op : Nat) (fn : Option Nat) (i : SIns) : Prop where
  live : s.live = true
  unit : hartOk h = true
  ready : s.w.hReady h = true
  aligned : s.w.hpc h % 4 = 0
  inside : s.w.hpc h + 4 ≤ hartMem h
  word : i = s.w.hFetch h
  opcode : i.op = op
  function : fn = none ∨ fn = some i.fn
  known : sOpKnown h i = true
  intact : s.badPar = []
  free : ((s.w.hart h).outs.any fun a => a.isLoad && a.dst != 0 && (a.dst == i.sd || a.dst ∈ sReads i)) = false
  unarmed : ∀ p n, h = .sc p n → s.w.flag (Reg.SC_INJECT p n) F.SC_INJECT_ARM = false

/-- The register-form instructions of OP 0x00: function, command, and the value SD takes from SA and SB (R87). -/
def aluInstructions : List (Nat × (Hart → CoreUpset → Instr) × (Word → Word → Word)) :=
  [(0x000, .add, fun a b => a + b), (0x001, .sub, fun a b => a - b), (0x002, .and, fun a b => a &&& b),
   (0x003, .or, fun a b => a ||| b), (0x004, .xor, fun a b => a ^^^ b), (0x005, .shl, fun a b => a <<< (b.toNat % 64)),
   (0x006, .shr, fun a b => a >>> (b.toNat % 64)), (0x007, .sra, fun a b => a.sshiftRight (b.toNat % 64)),
   (0x008, .slt, fun a b => if a.toInt < b.toInt then 1 else 0), (0x009, .sltu, fun a b => if a.toNat < b.toNat then 1 else 0),
   (0x00A, .mul, fun a b => a * b), (0x00B, .mulhu, fun a b => w64 (a.toNat * b.toNat / 2 ^ 64)),
   (0x00C, .min, fun a b => if a.toInt < b.toInt then a else b), (0x00D, .max, fun a b => if a.toInt < b.toInt then b else a),
   (0x00E, .minu, fun a b => if a.toNat < b.toNat then a else b), (0x00F, .maxu, fun a b => if a.toNat < b.toNat then b else a)]

/-- The immediate-form instructions: opcode, command, and the value SD takes from SA and the sign-extended IMM16 (R87). -/
def immInstructions : List (Nat × (Hart → CoreUpset → Instr) × (Word → Int → Word)) :=
  [(0x01, .addi, fun a b => a + BitVec.ofInt 64 b), (0x02, .andi, fun a b => a &&& BitVec.ofInt 64 b),
   (0x03, .ori, fun a b => a ||| BitVec.ofInt 64 b), (0x04, .xori, fun a b => a ^^^ BitVec.ofInt 64 b),
   (0x05, .slti, fun a b => if a.toInt < b then 1 else 0), (0x06, .lui, fun _ b => BitVec.ofInt 64 (b * 65536))]

/-- The branches: opcode, command, and when the two sources take it (R87). -/
def branches : List (Nat × (Hart → CoreUpset → Instr) × (Word → Word → Bool)) :=
  [(0x10, .beq, fun a b => decide (a = b)), (0x11, .bne, fun a b => decide (a ≠ b)),
   (0x12, .blt, fun a b => decide (a.toInt < b.toInt)), (0x13, .bge, fun a b => decide (b.toInt ≤ a.toInt)),
   (0x14, .bltu, fun a b => decide (a.toNat < b.toNat)), (0x15, .bgeu, fun a b => decide (b.toNat ≤ a.toNat))]

/-- The loads and stores by opcode: the command and the access size (R87). -/
def scalarLoads : List (Nat × (Hart → CoreUpset → Instr) × Nat) :=
  [(0x08, .ld8, 1), (0x09, .ld16, 2), (0x0A, .ld32, 4), (0x0B, .ld64, 8)]
def scalarStores : List (Nat × (Hart → CoreUpset → Instr) × Nat) :=
  [(0x0C, .st8, 1), (0x0D, .st16, 2), (0x0E, .st32, 4), (0x0F, .st64, 8)]

/-- The sequenced packet types whose command carries nothing more than the packet (R263). -/
def sequencedPackets : List (Nat × (Nat → FabPkt → Instr)) :=
  [(1, .fabWrite), (2, .fabRead), (4, .fabToken), (5, .fabReadRsp), (6, .fabAtomicRsp), (9, .fabReserve), (0xA, .rsvAns)]

/-- `i` is the command of the TEST descriptor of JSN `j` whose SCOPE is `scope` (R349, R350). -/
def TestCommand (scope j : Nat) (i : Instr) : Prop :=
  (scope = 1 ∧ i = .testGallery j) ∨ (scope = 2 ∧ i = .testGalleryNow j) ∨ (scope = 3 ∧ i = .testLanding j) ∨
    (scope = 4 ∧ i = .testStairLink j) ∨ (scope = 5 ∧ i = .testEdgeRouter j) ∨ (scope = 6 ∧ i = .testDevice j) ∨
    (scope = 7 ∧ i = .testHbmStack j) ∨ (scope = 8 ∧ i = .testDdr5Channel j)

/-- `i` is the mailbox command of OP `op` (R416). -/
def MailboxCommand (op len : Nat) (requester : Word) (i : Instr) : Prop :=
  (op = 1 ∧ i = .attest len requester) ∨ (op = 2 ∧ i = .getCert len requester) ∨ (op = 3 ∧ i = .unlock len requester)

/-- A request of type `typ` that the part serves: its path is on, and CRC, VERSION, MTYPE, TAG, FLAGS and length are in
order (R449, R450). -/
structure Requested (s : State) (typ : Nat) (m : MgmtMsg) : Prop where
  aux : s.aux = true
  served : s.w.mgmtServed m.mctp = true
  crc : m.crc = W.mgmtCrc m
  version : m.version = 1
  mtype : m.mtype = typ
  tag : m.tag = 0x4D4D
  request : m.flags % 2 = 0
  short : m.body.length ≤ 1400

/-- The part with the message `m` come in and counted. -/
def W.received (w : W) (m : MgmtMsg) : W := (w.mgmtArrive m.mctp).count Reg.MGMT_RX 1

end Sys2Proof.Machine
end

