-- ==== Sys2Proof/Certificates/Slice0/Obligations.lean ====
section
/-! DEFINITION. The statements for the provers. Each says, in the words of the manual's rules, what the part does. A
command's effect is written as the state it leaves, `s.after w` with the changes made to `s.w`: everything not changed
there is as before, memory and the queue among it. -/

open Sys2Proof Sys2Proof.Machine

/-! ### The machine -/

/-- A step carries out the oldest waiting command, on the state with the rest of the queue. -/
def Obligations.StepRunsTheOldestCommand : Prop :=
  ∀ (c : Instr) (s : State) (rest : List Instr), s.pending = c :: rest → step s = exec c { s with pending := rest }

/-- Whatever command a step carries out, memory stays in its canonical form, addresses strictly rising and no entry equal to
what an unlisted address reads as; the queue loses its oldest command and gains none; and with no command waiting memory is
as before. -/
def Obligations.StepKeepsMemoryCanonical : Prop :=
  ∀ s t : State, s.mem.wf = true → step s = .next t →
    t.mem.wf = true ∧ t.pending = s.pending.tail ∧ (s.pending = [] → t.mem = s.mem)

/-- A well-formed command always answers a next state; one that names a unit the part does not have stops by name and
changes nothing. -/
def Obligations.CommandsCompleteOrNameTheMissingUnit : Prop :=
  ∀ (i : Instr) (s : State), (i.wf = true → ∃ t, exec i s = .next t) ∧ (i.wf = false → exec i s = .fault .noSuchUnit)

/-- A safe run never stops: from a state whose memory is canonical and whose waiting commands are all well formed, the
step answers a next state, and that state is safe again. -/
def Obligations.SafeRunsNeverStop : Prop :=
  ∀ s : State, s.safe = true → ∃ t, step s = .next t ∧ t.safe = true

/-- After reset memory lists nothing and the queue is empty, so the state is safe. -/
def Obligations.ResetIsSafe : Prop :=
  State.reset.mem = [] ∧ State.reset.pending = [] ∧ State.reset.safe = true ∧ ∀ k, State.reset.w.rd k = 0

/-- With no command waiting, a step of a powered part lets one nanosecond pass (the model's choice, log entry 4): RST_UPTIME
advances by one and global time by one, or by none or two while a correction of a microsecond or more is owed, and what is
still owed becomes less; nothing else changes. An unpowered part stays as it is. A part without power, or after
a thermal trip, carries out only a cold reset, a loss of power or of the reference clock, and a change of a memory module:
every other well-formed command leaves its state as it was. -/
def Obligations.IdleAndUnpoweredParts : Prop :=
  (∀ s : State, s.pending = [] →
    (s.chip.powered = false → step s = .next s) ∧
    (s.chip.powered = true → ∃ t, step s = .next t ∧
      t = { s with chip := { s.chip with time := t.chip.time, timeKeep := t.chip.timeKeep, regs := t.chip.regs } } ∧
      t.chip.timeKeep = { s.chip.timeKeep with owed := t.chip.timeKeep.owed } ∧
      (-1000 < s.chip.timeKeep.owed → s.chip.timeKeep.owed < 1000 →
        t.chip.time = (s.chip.time + 1) % 2 ^ 64 ∧ t.chip.timeKeep.owed = s.chip.timeKeep.owed) ∧
      (1000 ≤ s.chip.timeKeep.owed →
        t.chip.time = (s.chip.time + 2) % 2 ^ 64 ∧ t.chip.timeKeep.owed = s.chip.timeKeep.owed - 1000) ∧
      (s.chip.timeKeep.owed ≤ -1000 →
        t.chip.time = s.chip.time % 2 ^ 64 ∧ t.chip.timeKeep.owed = s.chip.timeKeep.owed + 1000) ∧
      ∀ k, t.w.reg k = if k = Reg.RST_UPTIME then s.w.reg k + 1 else s.w.reg k)) ∧
  (∀ (i : Instr) (s : State), i.wf = true → s.aux = false →
    (∀ found, i ≠ .coldReset found) → i ≠ .powerLoss → i ≠ .refclkLoss → (∀ c d b, i ≠ .dimmPresenceChange c d b) →
    exec i s = .next s)

/-- A register reads as it was last written, and a write to one register leaves every other register alone.
Memory after a command reads at every address as the command saw it at its end: a byte stored reads as stored, a
range cleared reads zero, a range copied reads as its source did. -/
def Obligations.WhatIsWrittenReadsBack : Prop :=
  (∀ (w : W) (k j : Nat) (v : Word), (w.setReg k v).reg j = if j = k then v else w.reg j) ∧
  (∀ (s : State) (w : W) (k : Nat), s.mem.wf = true → Memory.get (s.after w).mem k = Memory.peek s.mem w.log k)

/-- A register access of a size other than four or eight bytes, or not naturally aligned, is not performed: a read gives
zero, a write changes no register it names, and an error record is raised: the next ESN is taken, and with no rate limit the
record joins the queue.
An aligned write to a register whose write is no action of its block (here of the power block) sets the register's RW
fields to the bits written, in the half or the whole that is written, and leaves its other bits and everything else alone.

Completes: registerWrite. -/
def Obligations.RegisterAccessesMustBeAligned : Prop :=
  (∀ (s : State) (k b size : Nat) (r : RegRow) (v req : Word), s.aux = true → s.chip.bus = [] →
    regAt k = some (r, k - b, b) → b ≤ k → 0xE00000 ≤ k - b → k - b < 0xF00000 → k - b ≠ Reg.PWR_CNT_CLR →
    r.maskOf (fun a => a == .w1c || a == .w1s) = 0 →
    (size = 4 ∧ k % 4 = 0) ∨ (size = 8 ∧ k % 8 = 0 ∧ b = 0 ∧ r.bytes = 8) →
    let written := (2 ^ (8 * size) - 1) * 2 ^ (8 * b)
    let rw := w64 (r.maskOf (· == .rw) &&& written)
    exec (.registerWrite k size v req) s = .next (s.after (s.w.setReg (k - b)
      ((s.w.reg (k - b) &&& ~~~rw) ||| (w64 (v.toNat % 2 ^ (8 * size) * 2 ^ (8 * b)) &&& rw))))) ∧
  ∀ (s : State) (k size : Nat) (v req : Word), (size ≠ 4 ∧ size ≠ 8) ∨ k % size ≠ 0 →
    let t := s.w.record { cls := 0x0F, kind := 1, info := w64 (0x7FF000000000 + k), aux := req }
    s.w.setupRead k size req = (some 0, t) ∧ s.w.setupWrite k size v.toNat req = (true, t) ∧
    (s.aux = true → s.chip.bus = [] → t.c.bus = [] ∧ exec (.registerWrite k size v req) s = .next (s.after t)) ∧
    bits (t.reg Reg.FLT_ESN) 31 0 = (bits (s.w.reg Reg.FLT_ESN) 31 0 + 1) % 2 ^ 32 ∧
    (s.w.fld Reg.FLT_CFG F.FLT_CFG_RATE = 0 → t.c.recQ.length = s.chip.recQ.length + 1)

/-! ### Counters -/

/-- A write to a *_CNT_CLR register clears each counter its mask names, with the counter's overflow flag, and does nothing
else. A performance or event counter at less than all ones counts one event by one and leaves its overflow flag and every
other register alone; at all ones it keeps its count and its sticky flag in bit 63 is set.

Completes: mcCntClr, vcCntClr, scCntClr, hallCntClr, lndCntClr, qCntClr, seqCntClr, memcCntClr, fabPortCntClr, erCntClr,
sclCntClr, stCntClr, fltCntClr, rstCntClr, pwrCntClr, icCntClr, mgmtCntClr. -/
def Obligations.CountersStickAndClear : Prop :=
  (∀ (i : Instr) (s : State) (mask : Word) (ks : List Nat), counterClear i = some (mask, ks) → i.wf = true →
    s.live = true → Clears i s mask ks) ∧
  (∀ (w : W) (k j : Nat),
    (bits (w.reg k) 47 0 < 2 ^ 48 - 1 →
      (w.count k 1).reg j = if j = k then putBits (w.reg k) 47 0 (bits (w.reg k) 47 0 + 1) else w.reg j) ∧
    (bits (w.reg k) 47 0 = 2 ^ 48 - 1 →
      (w.count k 1).reg j = if j = k then putBit (w.reg k) 63 true else w.reg j))

/-! ### The matrix core (03) -/

/-- A well-formed matrix command at the head of queue 0 of an idle core is popped and opens its tile: accumulators at zero,
no reduction step yet, BUSY set; a command that follows a running one is held decoded ahead.
A command found malformed when it was decoded ahead takes effect once the core is free: CMD_FAULT and HALTED rise and
the schedule fault names its TAG.
A null token at the head of queue 0 of a core with no tile is popped and counted, and one null token goes out.
In self-test, or with debug unlocked, a write arms an injection of a matrix, vector or scalar core; at any other time
it only leaves a record.

Completes: mma, mcDeferredCmdFault, mcNullToken, mcInjectArm, vcInjectArm, scInjectArm. -/
def Obligations.MatrixCommands : Prop :=
  (∀ (s : State) (p n : Nat) (t0 t : Packet) (w : W), s.live = true → p < 312 → n < 8 → s.w.mcRuns p n = true →
    s.w.flag (Reg.MC_CFG p n) F.MC_CFG_EN = true → s.w.mcHalted p n = false → (s.w.mc p n).ahead = none →
    s.w.head p n 0 = some t0 → isNull t0 = false → s.w.pop p n 0 = some (t, w) →
    let ws := (List.range 4).map (payWord t.data)
    let x := McCmd.ofWords ws
    mcCmdOk t.len ws (w.mcOpened p n) = true →
    ((s.w.mc p n).cmd = none → (w.mc p n).tile = none → x.init = false →
      ∀ a b o, Fmt.ofCode x.fmtA = some a → Fmt.ofCode x.fmtB = some b → Fmt.ofCode x.fmtOut = some o →
        exec (.mma p n .none) s = .next (s.after ((w.setMc p n { w.mc p n with
          tile := some (openTile a b o x.tag none), cmd := some ws, blk := 0 }).mcSync p n))) ∧
    ((s.w.mc p n).cmd ≠ none →
      exec (.mma p n .none) s = .next (s.after (w.setMc p n { s.w.mc p n with ahead := some (ws, false) })))) ∧
  (∀ (s : State) (p n : Nat) (ws : List Word), s.live = true → p < 312 → n < 8 → s.w.mcRuns p n = true →
    s.w.mcHalted p n = false → s.w.flag (Reg.MC_CFG p n) F.MC_CFG_EN = true → (s.w.mc p n).ahead = some (ws, true) →
    (s.w.mc p n).cmd = none → (s.w.mc p n).draining = none →
    exec (.mcDeferredCmdFault p n) s = .next (s.after
      ((((s.w.setMc p n { s.w.mc p n with ahead := none }).setFlag (Reg.MC_STATUS p n) F.MC_STATUS_CMD_FAULT true).setFlag
        (Reg.MC_STATUS p n) F.MC_STATUS_HALTED true).raiseSched p
        { cls := 0x01, kind := 0xF, agent := some n, tag := (McCmd.ofWords ws).tag,
          info := (((s.w.setFlag (Reg.MC_STATUS p n) F.MC_STATUS_CMD_FAULT true).setFlag (Reg.MC_STATUS p n)
            F.MC_STATUS_HALTED true)).reg (Reg.MC_CHECK_INFO p n),
          aux := (((s.w.setFlag (Reg.MC_STATUS p n) F.MC_STATUS_CMD_FAULT true).setFlag (Reg.MC_STATUS p n)
            F.MC_STATUS_HALTED true)).reg (Reg.MC_CHECK_DELTA p n) }))) ∧
  (∀ (s : State) (p n : Nat) (t0 t : Packet) (w : W), s.live = true → p < 312 → n < 8 → s.w.mcRuns p n = true →
    s.w.flag (Reg.MC_CFG p n) F.MC_CFG_EN = true → s.w.mcHalted p n = false → (s.w.mc p n).ahead = none →
    s.w.head p n 0 = some t0 → isNull t0 = true → s.w.pop p n 0 = some (t, w) → (w.mc p n).cmd = none →
    (w.mc p n).draining = none →
    exec (.mcNullToken p n) s = .next (s.after ((w.count (Reg.MC_NULL_SKIP p n) 1).unitSend p n 0 1 []))) ∧
  (∀ (s : State) (p n : Nat) (v req : Word), s.live = true → p < 312 →
    (s.w.pstate p = 2 ∨ s.w.flag Reg.SEC_STATUS F.SEC_STATUS_DEBUG = true →
      (n < 8 → exec (.mcInjectArm p n v req) s = .next (s.after (s.w.setReg (Reg.MC_INJECT p n)
        (putBit (w64 (v.toNat &&& 0x7FFFFF)) 31 (bit v 31 || bit (s.w.reg (Reg.MC_INJECT p n)) 31))))) ∧
      (n < 4 → exec (.vcInjectArm p n v req) s = .next (s.after (s.w.setReg (Reg.VC_INJECT p n)
        (putBit (w64 (v.toNat &&& 0x7FFF80)) 31 (bit v 31 || bit (s.w.reg (Reg.VC_INJECT p n)) 31))))) ∧
      (n < 2 → exec (.scInjectArm p n v req) s = .next (s.after (s.w.setReg (Reg.SC_INJECT p n)
        (putBit (w64 (v.toNat &&& 0x7FFF80)) 31 (bit v 31 || bit (s.w.reg (Reg.SC_INJECT p n)) 31)))))) ∧
    (s.w.pstate p ≠ 2 ∧ s.w.flag Reg.SEC_STATUS F.SEC_STATUS_DEBUG = false →
      (n < 8 → exec (.mcInjectArm p n v req) s = .next (s.after (s.w.recordAccess 3 (Reg.MC_INJECT p n) req))) ∧
      (n < 4 → exec (.vcInjectArm p n v req) s = .next (s.after (s.w.recordAccess 3 (Reg.VC_INJECT p n) req))) ∧
      (n < 2 → exec (.scInjectArm p n v req) s = .next (s.after (s.w.recordAccess 3 (Reg.SC_INJECT p n) req)))))

/-- Thirty-two reduction steps of a tile whose command goes on: with no upset, no armed injection and no stored parity
error, the accumulators take the block's result (for MX operands when the exact checks pass; a check that fails halts the
core), its events and its cycles are counted, and the exponent maxima follow. INT8 products are summed exactly and wrap
modulo 2^32, and raise no event.
The drain of a tile of MX operands: results written to the local buffer, the completion token with the TAG sent on
slot 0, the tile counted, the null tokens behind it sent.

Completes: mcBlockClose, mcDrain. -/
def Obligations.TilesAdvanceAndDrain : Prop :=
  (∀ (s : State) (p n : Nat) (t : Tile) (ws : List Word), s.live = true → p < 312 → n < 8 → s.w.mcRuns p n = true →
    s.w.mcHalted p n = false → (s.w.mc p n).tile = some t → (s.w.mc p n).cmd = some ws → s.badPar = [] →
    s.w.flag (Reg.MC_INJECT p n) F.MC_INJECT_ARM = false →
    let m := s.w.mc p n
    let x := McCmd.ofWords ws
    let o := s.w.mcOperands p n x t.fmtA t.fmtB m.blk
    let busy := s.w.count (Reg.MC_BUSY_CYCLES p n) (32 * mcCycles t.fmtA t.fmtB)
    let next := fun (acc : List Nat) => { m with blk := m.blk + 1, tile := some { t with
      acc := acc, k := t.k + 32, blocks := t.blocks + 1, eA := maxWith t.eA t.fmtA o.a, eB := maxWith t.eB t.fmtB o.b } }
    32 * (m.blk + 1) < x.k →
    (t.fmtA.isMx = true →
      exec (.mcBlockClose p n .none) s = .next (s.after (match (mxBlock t o []).1 with
        | none => (busy.mcEvents p n (mxBlock t o []).2.2).setMc p n (next (mxBlock t o []).2.1)
        | some v => ((busy.setMc p n { m with tile := none, cmd := none, ahead := none, nullsCmd := 0 }).mcFail p n false
            t.tag t.blocks (1 + v.kind) v.row v.col (w64 (unsigned 64 v.delta))).mcSync p n))) ∧
    (t.fmtA = .int8 →
      exec (.mcBlockClose p n .none) s = .next (s.after ((busy.mcEvents p n {}).setMc p n (next (intBlock t o [])))) ∧
      (∀ k, (busy.mcEvents p n {}).reg k = busy.reg k) ∧
      ∀ i j, i < 64 → j < 64 → (((intBlock t o []).getD (65 * i + j) 0 : Nat) : Int) =
        ((t.at i j : Int) + dot ((o.a.getD i []).map (signed 8)) ((o.b.getD j []).map (signed 8))) % (2 ^ 32 : Int)) ∧
    (t.fmtA = .bf16 ∨ t.fmtA = .fp16 →
      exec (.mcBlockClose p n .none) s
        = .next (s.after ((busy.mcEvents p n (fpBlock t o []).2).setMc p n (next (fpBlock t o []).1))))) ∧
  (∀ (s : State) (p n : Nat) (t : Tile), s.live = true → p < 312 → n < 8 → s.w.mcRuns p n = true →
    (s.w.mc p n).draining = some t → t.fmtA.isMx = true →
    exec (.mcDrain p n .none) s = .next (s.after
      ((((((((s.w.mcWriteResult p n t).count (Reg.MC_CHECK_SKIP p n) 0).setMc p n { s.w.mc p n with
        draining := none, nullsDrain := 0 }).mcSync p n).unitSend p n 0 0 (W.completionData t.tag 0)).count
        (Reg.MC_TILES p n) 1).mcNulls p n (s.w.mc p n).nullsDrain))))

/-! ### The vector core (04) -/

/-- A lane whose mask bit is 0 keeps its old value, and every other lane takes the new one.
Packed elements read back, element by element, and the elements above them are zero. -/
def Obligations.VectorLanesAndElements : Prop :=
  (∀ (m : MReg) (old new : VReg) (l : Nat), l < 128 →
    elem 32 (mergeLanes m old new) l = if m.toNat.testBit l then elem 32 new l else elem 32 old l) ∧
  (∀ (wd : Nat) (es : List Nat) (k : Nat), wd ∈ ([8, 16, 32, 64] : List Nat) → es.length * wd ≤ 4096 → k < 4096 / wd →
    elem wd (packElems wd es) k = es.getD k 0 % 2 ^ wd)

/-- An elementwise instruction writes to VD, in the lanes of its mask, the result of each element in its format; the events
of the active elements and the cycles are counted, and VC_PC moves on by 8.
Completes: vfma, vadd, vmul, vsub, vmin, vmax, vgetexp, vgetmant, vand, vor, vxor, vshl, vshr. -/
def Obligations.ElementwiseInstructions : Prop :=
  ∀ e ∈ vecElementwise, ∀ (s : State) (p n : Nat) (i : VIns) (fm : Fmt), VecRuns s p n i → i.op = e.1 →
    Fmt.ofCode i.fmt = some fm →
    let c := s.w.vc p n
    let m := c.mreg i.mask
    let at' := fun (r k : Nat) => elem fm.width (c.vreg r) k
    let rs := (List.range (4096 / fm.width)).map fun k =>
      if active m fm.width k then e.2.2 fm (at' i.va k) (at' i.vb k) (at' i.vc k) else (0, {})
    exec (e.2.1 p n .none) s = .next (s.after ((((s.w.vecBusy p n i).vcEvents p n
      (rs.foldl (fun ev r => ev.add r.2) {})).setVc p n (c.setV i.vd (mergeLanes m (c.vreg i.vd)
      (packElems fm.width (rs.map (·.1)))))).vcNext p n))

/-- Select, scale, convert, random words and compare: what each writes, under its mask.
The reductions: the fixed tree over the 128 lanes, masked-off lanes as the identity, the result in lane 0 and zero in
the others; with no active lane nothing is written.
Completes: vsel, vscale, vcvt, vrng, vcmp, vredsum, vredmax. -/
def Obligations.VectorConversionsAndReductions : Prop :=
  (∀ (s : State) (p n : Nat) (i : VIns) (fm : Fmt), VecRuns s p n i → Fmt.ofCode i.fmt = some fm →
    let c := s.w.vc p n
    let m := c.mreg i.mask
    let done := fun (w : W) (r : VReg) => s.after ((w.setVc p n (c.setV i.vd (mergeLanes m (c.vreg i.vd) r))).vcNext p n)
    let busy := s.w.vecBusy p n i
    (i.op = 0x08 → exec (.vsel p n .none) s = .next (done busy (mergeLanes (c.mreg (i.ex 2 0)) (c.vreg i.vb) (c.vreg i.va)))) ∧
    (i.op = 0x0C →
      let rs := (List.range (4096 / fm.width)).map fun k =>
        if active m fm.width k then scaleRes fm (elem fm.width (c.vreg i.va) k) (elem 32 (c.vreg i.vb) (W.scaleLane fm.width k))
        else (0, {})
      exec (.vscale p n .none) s = .next (done (busy.vcEvents p n (rs.foldl (fun ev r => ev.add r.2) {}))
        (packElems fm.width (rs.map (·.1))))) ∧
    (i.op = 0x09 → ∀ src, Fmt.ofCode (i.ex 7 0) = some src →
      let st := c.xreg (i.ex 18 15)
      let draw := cvtDraw (i.round == 1) (c.xreg (i.ex 22 19)) (bits st 63 32) (bits st 31 0)
      let r := if fm.isMx then cvtToMx src fm draw m (c.vreg i.va) else cvtToPlain src fm draw m (c.vreg i.va)
      exec (.vcvt p n .none) s = .next (done (busy.vcEvents p n r.2) r.1)) ∧
    (i.op = 0x1C →
      let st := c.xreg (i.ex 18 15)
      exec (.vrng p n .none) s = .next (done busy (packElems 64 ((List.range 64).map fun k =>
        (ycg (c.xreg (i.ex 22 19)) (bits st 63 32) ((bits st 31 0 + k) % 2 ^ 32)).toNat)))) ∧
    (i.op = 0x07 →
      let holds := fun k => cmpRes fm (i.ex 1 0) (elem fm.width (c.vreg i.va) k) (elem fm.width (c.vreg i.vb) k)
      let ok := fun l => if fm.width = 64 then holds (l / 2)
        else (List.range (32 / fm.width)).all fun b => holds (32 / fm.width * l + b)
      let bitsOf : MReg := BitVec.ofNat 128 ((List.range 128).foldl (fun a l => if ok l then a + 2 ^ l else a) 0)
      exec (.vcmp p n .none) s = .next (s.after
        ((busy.setVc p n (c.setM (i.vd % 8) ((bitsOf &&& m) ||| (c.mreg (i.vd % 8) &&& ~~~m)))).vcNext p n)))) ∧
  (∀ (s : State) (p n : Nat) (i : VIns) (fm : Fmt), VecRuns s p n i → Fmt.ofCode i.fmt = some fm →
    let c := s.w.vc p n
    let m := c.mreg i.mask
    let busy := s.w.vecBusy p n i
    let xs := fun (ident : Nat) => (List.range 128).map fun l => if m.toNat.testBit l then elem 32 (c.vreg i.va) l else ident
    let done := fun (r : Res) =>
      s.after (((busy.vcEvents p n r.2).setVc p n (c.setV i.vd (packElems 32 [r.1]))).vcNext p n)
    (i.op = 0x0A → m ≠ 0 → exec (.vredsum p n .none) s
      = .next (done (laneTree (addRes fm) (xs (if fm = .fp32 then 0x80000000 else 0))))) ∧
    (i.op = 0x0B → m ≠ 0 → exec (.vredmax p n .none) s = .next (done (laneTree (fun a b => (maxRes fm a b, {}))
      (xs (if fm = .fp32 then 0xFF800000 else 0x80000000))))) ∧
    (m = 0 → (i.op = 0x0A → exec (.vredsum p n .none) s = .next (s.after (busy.vcNext p n))) ∧
      (i.op = 0x0B → exec (.vredmax p n .none) s = .next (s.after (busy.vcNext p n)))))

/-- Vector loads and stores inside their spaces: 512 bytes of local memory or of the hall window to VD under the mask, or
the active lanes of VD, four bytes each, to memory; the hall answers a load line by line, as the crossbar grants it, and a
store takes its grants. Where no merge latch and no parity error comes in, the lines hold what memory holds.
QRECV takes the head of a queue, of 512 bytes, into VD; a null token gives zeros and clears the mask it names; QSEND
sends VD on an open slot with credit.
Completes: vld, vst, vldh, vsth, qrecv, qsend. -/
def Obligations.VectorMemoryAndQueues : Prop :=
  (∀ (s : State) (p n : Nat) (i : VIns), VecRuns s p n i →
    let c := s.w.vc p n
    let m := c.mreg i.mask
    let busy := s.w.vecBusy p n i
    let loc := s.w.vcAddr p n i 32
    let win := s.w.vcAddr p n i 128
    let load := fun (key : Nat) => s.after ((busy.setVc p n
      (c.setV i.vd (mergeLanes m (c.vreg i.vd) (vregOf (s.w.rdBytes key 512))))).vcNext p n)
    let store := fun (key : Nat) => s.after ((busy.vcStore key m (c.vreg i.vd)).vcNext p n)
    (loc + 512 ≤ 2 ^ 17 →
      (i.op = 0x18 → exec (.vld p n .none) s = .next (load (galKey p (vcBuf n + loc)))) ∧
      (i.op = 0x19 → exec (.vst p n .none) s = .next (store (galKey p (vcBuf n + loc))))) ∧
    (win + 512 ≤ windowTop →
      (i.op = 0x1A → ∀ bs w, busy.getLines p (8 + n) win 512 0x1FF = ((bs, false), w) →
        exec (.vldh p n .none) s = .next (s.after ((w.setVc p n
          ((w.vc p n).setV i.vd (mergeLanes m ((w.vc p n).vreg i.vd) (vregOf bs)))).vcNext p n)) ∧
        bs = s.w.rdBytes (galKey p win) 512) ∧
      (i.op = 0x1A → 0x400000 ≤ win → exec (.vldh p n .none) s = .next (load (galKey p win))) ∧
      (i.op = 0x1B → exec (.vsth p n .none) s
        = .next (s.after (((busy.vcGrants p n win m).vcStore (galKey p win) m (c.vreg i.vd)).vcNext p n))))) ∧
  (∀ (s : State) (p n : Nat) (i : VIns), VecRuns s p n i →
    let c := s.w.vc p n
    let m := c.mreg i.mask
    let busy := s.w.vecBusy p n i
    (i.op = 0x28 → ∀ t w, busy.pop p (8 + n) (i.ex 3 0) = some (t, w) → t.poison = false →
      (isNull t = false → t.data.length = 512 →
        exec (.qrecv p n .none) s = .next (s.after ((w.drawBytes 0).2.vcWrite p n i.vd m (vregOf t.data)))) ∧
      (isNull t = true → exec (.qrecv p n .none) s
        = .next (s.after ((w.setVc p n (((w.vc p n).setV i.vd 0).setM (i.ex 6 4) 0)).vcNext p n)))) ∧
    (i.op = 0x29 →
      let slot := (c.xreg (i.ex 3 0)).toNat
      let x := (busy.agent p (8 + n)).slot slot
      slot < 16 → x.state = 2 → 8 ≤ x.grantSlots → x.waitq = [] → busy.canSend p (8 + n) slot 0 512 = true →
      exec (.qsend p n .none) s
        = .next (s.after ((busy.sendNow p (8 + n) slot 0 (vregBytes (c.vreg i.vd))).vcNext p n))))

/-- A kernel command starts an idle vector core at the address it names, with x1 to x3; a null command is counted and a null
token goes out; an ended kernel sends its completion token; an address error halts the core with KIND 0x7.
Completes: vcKernel, vcNullCommand, vcCompletionToken, vcErrRsp. -/
def Obligations.VectorKernels : Prop :=
  ∀ (s : State) (p n : Nat), s.live = true → p < 312 → n < 4 →
    (∀ t0 t w, s.w.vcIdle p n = true → s.w.head p (8 + n) 0 = some t0 → s.w.pop p (8 + n) 0 = some (t, w) →
      t.poison = false →
      let w0 := payWord t.data 0
      (isNull t0 = false → t.len = 32 → bits w0 7 0 = 2 → bits w0 39 32 = 1 → bits w0 24 8 % 8 = 0 →
        let c := { w.vc p n with tag := bits w0 63 48 }
        let c := ((c.setX 1 (payWord t.data 1)).setX 2 (payWord t.data 2)).setX 3 (payWord t.data 3)
        exec (.vcKernel p ⟨n, .none⟩) s = .next (s.after (((w.setVc p n { c with running := true, wait := .run }).setReg
          (Reg.VC_PC p n) (w64 (bits w0 24 8))).setFlag (Reg.VC_STATUS p n) F.VC_STATUS_BUSY true))) ∧
      (isNull t0 = true → exec (.vcNullCommand p ⟨n, .none⟩) s
        = .next (s.after ((w.count (Reg.VC_NULL_SKIP p n) 1).unitSend p (8 + n) 0 1 [])))) ∧
    ((s.w.vc p n).running = true →
      let c := s.w.vc p n
      (c.wait = .ended → exec (.vcCompletionToken p n) s = .next (s.after
        ((((s.w.setVc p n { c with running := false, wait := .run }).setFlag (Reg.VC_STATUS p n) F.VC_STATUS_BUSY false).count
          (Reg.VC_KERNELS p n) 1).unitSend p (8 + n) 0 0 (W.completionData c.tag 0)))) ∧
      (c.wait = .answer →
        let info := s.w.vcInfo p n 0x7F 7
        exec (.vcErrRsp p n) s = .next (s.after ((info.2.vcHalt p n none).raiseSched p
          { cls := 0x02, kind := 7, agent := some (8 + n), tag := c.tag, pc := s.w.vpc p n, info := info.1 }))))

/-- The index instructions: x0 stays zero; XADDI adds its immediate; XLI loads it; XLOOP counts down and, while the count is
not zero, goes back by its offset in instructions; VEND ends the kernel, whose completion then follows.
Completes: xaddi, xloop, xli, vend. -/
def Obligations.VectorIndices : Prop :=
  ∀ (s : State) (p n : Nat) (i : VIns), VecRuns s p n i →
    let c := s.w.vc p n
    let busy := s.w.vecBusy p n i
    let at' := i.ex 3 0
    (i.op = 0x20 → exec (.xaddi p n .none) s = .next (s.after ((busy.setVc p n (c.setX (i.ex 7 4)
      (c.xreg at' + w64 (unsigned 64 (signed 15 (i.ex 22 8)))))).vcNext p n))) ∧
    (i.op = 0x21 → c.xreg at' = 1 →
      exec (.xloop p n .none) s = .next (s.after ((busy.setVc p n (c.setX at' 0)).vcNext p n))) ∧
    (i.op = 0x21 → c.xreg at' ≠ 1 →
      exec (.xloop p n .none) s = .next (s.after ((busy.setVc p n (c.setX at' (c.xreg at' - 1))).setReg (Reg.VC_PC p n)
        (w64 (unsigned 32 ((s.w.vpc p n : Int) + 8 * signed 19 (i.ex 22 4))))))) ∧
    (i.op = 0x22 → exec (.xli p n .none) s = .next (s.after ((busy.setVc p n (c.setX at' (w64 (i.ex 22 4)))).vcNext p n))) ∧
    (i.op = 0x3F → exec (.vend p n .none) s = .next (s.after ((busy.setVc p n { c with wait := .ended }).vcNext p n))) ∧
    c.xreg 0 = 0 ∧ ∀ v, (c.setX 0 v).xreg 0 = 0

/-! ### Scalar cores and control processors (04, 20) -/

/-- An instruction that writes SD and goes on: SD takes the value unless it is s0, which reads as zero; the program counter
moves on by 4; a scalar core counts the instruction; the other general registers, the other cores, memory, and every
register of the set-up region but SC_PC, SC_STATUS and SC_INSTRET of the core are as before. -/
def Obligations.WritingARegister : Prop :=
  ∀ (w : W) (h : Hart) (d j : Nat) (v : Word), hartOk h = true → w.hpc h + 4 < 2 ^ 32 →
    let w' := w.hWrite h d v
    w'.sreg h j = (if j = 0 then 0 else if j = d then v else w.sreg h j) ∧ w'.hpc h = w.hpc h + 4 ∧
    (∀ h', hartOk h' = true → h' ≠ h → w'.hart h' = w.hart h') ∧ w'.mem = w.mem ∧ w'.log = w.log ∧
    (∀ k, (∀ p n, h = .sc p n → k ≠ Reg.SC_PC p n ∧ k ≠ Reg.SC_STATUS p n ∧ k ≠ Reg.SC_INSTRET p n) → w'.reg k = w.reg k)

/-- The register-form instructions: SD takes the function of SA and SB, 64 bits wide, and the next instruction follows.
The immediate-form instructions: SD takes the function of SA and IMM16 sign-extended.

Completes: add sub and or xor shl shr sra slt sltu mul mulhu min max minu maxu addi andi ori xori slti lui. -/
def Obligations.ScalarArithmeticAndImmediates : Prop :=
  (∀ e ∈ aluInstructions, ∀ (s : State) (h : Hart) (i : SIns), HartRuns s h 0x00 (some e.1) i →
    exec (e.2.1 h .none) s = .next (s.after (s.w.hWrite h i.sd (e.2.2 (s.w.sreg h i.sa) (s.w.sreg h i.sb))))) ∧
  (∀ e ∈ immInstructions, ∀ (s : State) (h : Hart) (i : SIns), HartRuns s h e.1 none i →
    exec (e.2.1 h .none) s = .next (s.after (s.w.hWrite h i.sd (e.2.2 (s.w.sreg h i.sa) i.imm))))

/-- The branches go to four times IMM16 beyond themselves when their comparison holds, and on otherwise; JAL and JALR leave
the address of the next instruction in SD.

Completes: beq bne blt bge bltu bgeu jal jalr. -/
def Obligations.BranchesAndJumps : Prop :=
  (∀ e ∈ branches, ∀ (s : State) (h : Hart) (i : SIns), HartRuns s h e.1 none i →
    exec (e.2.1 h .none) s = .next (s.after (s.w.hGoto h (if e.2.2 (s.w.sreg h i.sd) (s.w.sreg h i.sa) then
      unsigned 32 ((s.w.hpc h : Int) + 4 * i.imm) else s.w.hpc h + 4)))) ∧
  (∀ (s : State) (h : Hart) (i : SIns), HartRuns s h 0x16 none i →
    exec (.jal h .none) s = .next (s.after ((s.w.setSreg h i.sd (w64 (s.w.hpc h + 4))).hGoto h
      (unsigned 32 ((s.w.hpc h : Int) + 4 * i.off21))))) ∧
  (∀ (s : State) (h : Hart) (i : SIns), HartRuns s h 0x17 none i →
    exec (.jalr h .none) s = .next (s.after ((s.w.setSreg h i.sd (w64 (s.w.hpc h + 4))).hGoto h
      (s.w.sreg h i.sa + w64 (unsigned 64 i.imm)).toNat)))

/-- Loads and stores in local memory: naturally aligned, little-endian, zero-extended; a store changes only its own bytes
of memory. An access that is not naturally aligned is the fault of KIND 0x6.

Completes: ld8 ld16 ld32 ld64 st8 st16 st32 st64. -/
def Obligations.LocalLoadsAndStores : Prop :=
  (∀ e ∈ scalarLoads, ∀ (s : State) (h : Hart) (i : SIns), HartRuns s h e.1 none i →
    let a := s.w.sAddr h i
    (a.toNat % e.2.2 = 0 → a.toNat + e.2.2 ≤ hartMem h →
      exec (e.2.1 h .none) s = .next (s.after (s.w.hWrite h i.sd (w64 (s.w.rdNat (hartKey h a.toNat) e.2.2))))) ∧
    (a.toNat % e.2.2 ≠ 0 → exec (e.2.1 h .none) s = .next (s.after (s.w.hFault h 6 (s.w.hpc h) a)))) ∧
  (∀ e ∈ scalarStores, ∀ (s : State) (h : Hart) (i : SIns), HartRuns s h e.1 none i → s.chip.bus = [] →
    let a := s.w.sAddr h i
    let v := (s.w.sreg h i.sd).toNat % 2 ^ (8 * e.2.2)
    a.toNat % e.2.2 = 0 → a.toNat + e.2.2 ≤ hartMem h →
    exec (e.2.1 h .none) s = .next (s.after ((s.w.wrNat (hartKey h a.toNat) e.2.2 v).hNext h)) ∧
    (s.mem.wf = true → ∀ k, k < hartKey h a.toNat ∨ hartKey h a.toNat + e.2.2 ≤ k →
      Memory.get (s.after ((s.w.wrNat (hartKey h a.toNat) e.2.2 v).hNext h)).mem k = Memory.get s.mem k))

/-- The other instructions that need no channel: YCG gives the generator's word, TIME global time, FENCE waits for nothing
that is out, HALT halts the core behind itself.
The instructions of the control processors: WFI stops issue behind itself, IRET takes the newest entry of the save
stack, IEN and IDIS set and clear IE, CINV drops the data-cache line that holds its address.

Completes: ycg fence halt time wfi iret ien idis cinv. -/
def Obligations.SystemInstructions : Prop :=
  (∀ (s : State) (h : Hart) (i : SIns) (fn : Nat), HartRuns s h 0x18 (some fn) i →
    (fn = 0x106 → exec (.ycg h .none) s = .next (s.after (s.w.hWrite h i.sd
      (ycg (s.w.sreg h i.sa) (bits (s.w.sreg h i.sb) 63 32) (bits (s.w.sreg h i.sb) 31 0))))) ∧
    (fn = 0x107 → (s.w.hart h).outs = [] → exec (.fence h .none) s = .next (s.after (s.w.hNext h))) ∧
    (fn = 0x107 → (s.w.hart h).outs ≠ [] → exec (.fence h .none) s = .next (s.after (s.w.hStall h false))) ∧
    (fn = 0x108 → exec (.halt h .none) s = .next (s.after ((s.w.hNext h).hHalt h .halted))) ∧
    (fn = 0x109 → exec (.time h .none) s = .next (s.after (s.w.hWrite h i.sd (w64 s.chip.time))))) ∧
  (∀ (s : State) (k fn : Nat) (i : SIns), HartRuns s (.cp k) 0x18 (some fn) i →
    (fn = 0x200 → s.w.flag (Reg.IC_CP_STATUS k) F.IC_CP_STATUS_IE = true → exec (.wfi (.cp k) .none) s
      = .next (s.after ((s.w.hNext (.cp k)).setFlag (Reg.IC_CP_STATUS k) F.IC_CP_STATUS_WFI true))) ∧
    (fn = 0x201 → ∀ pc pri rest, (s.w.cp k).stack = (pc, pri) :: rest → exec (.iret (.cp k) .none) s
      = .next (s.after ((s.w.setCp k { s.w.cp k with stack := rest, given := (s.w.cp k).given.drop 1, pc := pc }).setFld (Reg.IC_CP_STATUS k)
        F.IC_CP_STATUS_RUNPRI pri))) ∧
    (fn = 0x202 → exec (.ien (.cp k) .none) s
      = .next (s.after ((s.w.setFlag (Reg.IC_CP_STATUS k) F.IC_CP_STATUS_IE true).hNext (.cp k)))) ∧
    (fn = 0x203 → exec (.idis (.cp k) .none) s
      = .next (s.after ((s.w.setFlag (Reg.IC_CP_STATUS k) F.IC_CP_STATUS_IE false).hNext (.cp k)))) ∧
    (fn = 0x204 → exec (.cinv (.cp k) .none) s
      = .next (s.after ((s.w.setCp k { s.w.cp k with dcache := (s.w.cp k).dcache.filter fun e =>
        e.1 != (s.w.sreg (.cp k) i.sa).toNat / 128 * 128 }).hNext (.cp k)))))

/-- The channel instructions of a scalar core on an idle slot or an open one with credit: CONNECT takes the lowest free send
slot and waits, or opens a multicast slot at once; SEND sends its payload and SD becomes 0; RECV puts the head token in
local memory and describes it in SD; CLOSE sends CLOSE and waits; STEPWAIT waits for the next step; STEP reads the step. On a
multicast slot a SEND begins the reserve phase, for the mask of the slot's name, and with RETRY for the late targets.

Completes: connect connectMulticast send sendNull sendRetry recv recvReleaseOnly close stepwait step. -/
def Obligations.ChannelInstructions : Prop :=
  ∀ (s : State) (p n fn : Nat) (i : SIns), HartRuns s (.sc p n) 0x18 (some fn) i →
    let h := Hart.sc p n
    let a := 12 + n
    let sa := s.w.sreg h i.sa
    let sb := s.w.sreg h i.sb
    let x := s.w.scSlot p n (bits sa 5 0)
    let opened := bits sa 5 0 < 16 ∧ x.state = 2
    (fn = 0x100 → bit sa 38 = false → ∀ k, (List.range 16).find? (fun k => (s.w.scSlot p n k).state == 0) = some k →
      exec (.connect h .none) s = .next (s.after ((s.w.sendConnect p a k sa (bits sb 15 0) (bit sb 16) false).scWait p n
        (.connect k)))) ∧
    (fn = 0x100 → bit sa 38 = true → ∀ k m, (List.range 16).find? (fun k => ((s.w.agent p a).slot k).state == 0) = some k →
      (List.range 4).find? (fun m => !((s.w.agent p a).mcSlot m).inUse) = some m →
      exec (.connectMulticast h .none) s = .next (s.after ((s.w.setAgent p a
        (((s.w.agent p a).setSlot k
          { state := 2, name := sa, conn := 0xFFFE, mc := true, mcs := m, raw := bit sb 16, epoch := s.w.epoch p a }).setMcSlot m { inUse := true, gen := bits sb 47 32, flight := bits sb 22 17 })).hWrite h
        i.sd (w64 k)))) ∧
    (fn = 0x101 → bits sa 11 8 = 0 → opened → x.mc = false → x.ring = false → ∀ data, s.w.sendPayload p n sb = some data →
      slotsOf data.length ≤ x.grantSlots → s.w.canSend p a (bits sa 5 0) 0 data.length = true →
      exec (.send h .none) s = .next (s.after ((s.w.sendNow p a (bits sa 5 0) 0 data).hWrite h i.sd 0))) ∧
    (fn = 0x101 → bits sa 11 8 = 1 → opened → x.mc = false → s.w.canSend p a (bits sa 5 0) 1 0 = true →
      exec (.sendNull h .none) s = .next (s.after ((s.w.sendNow p a (bits sa 5 0) 1 []).hWrite h i.sd 0))) ∧
    (fn = 0x101 → opened → x.mc = true → ((s.w.agent p a).mcSlot x.mcs).late = 0 →
      let all := if bit x.name 39 then s.w.regMask (Reg.DM_MASK p (bits x.name 27 24) 0) else 0
      (bits sa 11 8 = 0 → ∀ data, s.w.sendPayload p n sb = some data → exec (.send h .none) s
        = .next (s.after (s.w.sendReserve p n (bits sa 5 0) x.mcs all 0 data))) ∧
      (bits sa 11 8 = 1 → exec (.sendNull h .none) s
        = .next (s.after (s.w.sendReserve p n (bits sa 5 0) x.mcs all 1 [])))) ∧
    (fn = 0x101 → bits sa 11 8 = 8 → opened → x.mc = true → ∀ data, s.w.sendPayload p n sb = some data →
      ((s.w.agent p a).mcSlot x.mcs).late ≠ 0 → exec (.sendRetry h .none) s
        = .next (s.after (s.w.sendReserve p n (bits sa 5 0) x.mcs ((s.w.agent p a).mcSlot x.mcs).late 0 data))) ∧
    (fn = 0x102 → bit sa 5 = false → ∀ t w, s.w.pop p a (bits sa 3 0) = some (t, w) → t.poison = false →
      (isNull t = false → bits sb 31 0 + t.data.length ≤ 2 ^ 16 →
        exec (.recv h .none) s = .next (s.after ((w.wrBytes (hartKey h (bits sb 31 0)) t.data).hWrite h i.sd
          (w64 ((tkind t == 4).toNat * 2 ^ 62 + t.seq % 2 ^ 16 * 2 ^ 32 + t.conn % 2 ^ 16 * 2 ^ 16 + t.len % 2 ^ 16))))) ∧
      (isNull t = true → exec (.recv h .none) s = .next (s.after ((w.count (Reg.SC_NULL_RECV p n) 1).hWrite h i.sd
          (w64 (2 ^ 63 + t.seq % 2 ^ 16 * 2 ^ 32 + t.conn % 2 ^ 16 * 2 ^ 16)))))) ∧
    (fn = 0x102 → bit sa 5 = true → exec (.recvReleaseOnly h .none) s = .next (s.after
      ((s.w.releaseRing p a (bits sa 3 0)).draw.2.hWrite h i.sd (s.w.releaseRing p a (bits sa 3 0)).draw.1))) ∧
    (fn = 0x103 → opened → x.mc = true →
      exec (.close h .none) s = .next (s.after ((s.w.setAgent p a (((s.w.agent p a).setSlot (bits sa 5 0) {}).setMcSlot
        x.mcs {})).hWrite h i.sd 0))) ∧
    (fn = 0x103 → opened → x.mc = false → s.w.canSend p a (bits sa 5 0) 3 0 = true →
      let w := s.w.sendNow p a (bits sa 5 0) 3 []
      exec (.close h .none) s = .next (s.after ((w.setAgent p a ((w.agent p a).setSlot (bits sa 5 0)
        { (w.agent p a).slot (bits sa 5 0) with state := 3 })).scWait p n (.close (bits sa 5 0))))) ∧
    (fn = 0x104 → n ≠ 0 ∨ s.w.fld (Reg.GSTEP_STATE p) F.GSTEP_STATE_STATE ≠ 2 →
      exec (.stepwait h .none) s = .next (s.after (s.w.scWait p n .step))) ∧
    (fn = 0x105 → exec (.step h .none) s = .next (s.after (s.w.hWrite h i.sd (s.w.reg Reg.SEQ_STEP))))

/-- A ring message: PLACE on a ring slot with room reserves its lines and answers the global address of the payload; POST
writes the header, sends the notice and moves the producer on.
A load beyond local memory returns: its destination takes the answer. A load that has not returned in time is the fault
of KIND 0x8. Enabling a scalar core starts it at address 0, disabling it stops its issue.

Completes: sendPlace sendPost scLoadReturn scLoadTimeout scEnable scDisable. -/
def Obligations.RingSendsAndCoreEvents : Prop :=
  (∀ (s : State) (p n : Nat) (i : SIns), HartRuns s (.sc p n) 0x18 (some 0x101) i →
    let h := Hart.sc p n
    let a := 12 + n
    let sa := s.w.sreg h i.sa
    let k := bits sa 5 0
    let x := s.w.scSlot p n k
    let size := x.grantLines * 128
    k < 16 → x.state = 2 → x.ring = true → 0 < x.grantLines → (s.w.hart h).outs.length < 8 →
    (bits sa 11 8 = 2 → x.placed = none → ∀ q lg base, s.w.ringBase x.name = some (q, lg, base) →
      let len := bits (s.w.sreg h i.sb) 31 0
      let r := ceilDiv (16 + len) 128
      r ≤ (size - x.prod % size) / 128 → r ≤ x.lines → s.w.canSend p a k 4 16 = true →
      exec (.sendPlace h .none) s = .next (s.after ((s.w.setAgent p a ((s.w.agent p a).setSlot k
        { x with lines := x.lines - r, placed := some len, hdr := false, waiting := false })).hWrite h i.sd
        (w64 (s.w.selfDev * 2 ^ 48 + 0x7F0000000000 + lg * 2 ^ 23 + base) + w64 (x.prod % size + 16))))) ∧
    (bits sa 11 8 = 4 → ∀ len, x.placed = some len → x.hdr = false →
      let r := ceilDiv (16 + len) 128
      let w := (s.w.setAgent p a ((s.w.agent p a).setSlot k { x with hdr := true })).writeHeader p n k (x.prod % size)
        (W.ringHeader 1 len x.seq r)
      (w.ringBusy p n k size = true → exec (.sendPost h .none) s = .next (s.after (w.hStall h false))) ∧
      (w.ringBusy p n k size = false → w.canSend p a k 4 16 = true →
        let w := w.sendNow p a k 4 (leBytes 16 (len * 2 ^ 32 + x.prod % size))
        let y := (w.agent p a).slot k
        exec (.sendPost h .none) s = .next (s.after ((w.setAgent p a ((w.agent p a).setSlot k
          { y with prod := y.prod + 128 * r, placed := none, hdr := false })).hWrite h i.sd 0))))) ∧
  ((∀ (s : State) (h : Hart) (k : Nat) (v : Word) (a : FarAccess), s.live = true → hartOk h = true →
    (s.w.hart h).outs[k]? = some a → a.isLoad = true →
    (∀ p n, h = .sc p n → a.data = none → ((s.w.hart h).outs.take k).any (fun o => W.sameWord o.addr a.addr) = false →
      ∀ x w, (s.w.setHart h { s.w.hart h with outs := (s.w.hart h).outs.eraseIdx k }).farLoad (some p) a.addr a.size (w64 p)
        = (.ok x false, w) →
      exec (.scLoadReturn h k v .none) s = .next (s.after ((w.setSreg h a.dst (w64 (leNat x))).releaseOuts h 8))) ∧
    exec (.scLoadTimeout h k) s = .next (s.after (s.w.hFault h 8 a.pc a.addr))) ∧
  (∀ (s : State) (p n : Nat), s.live = true → p < 312 → n < 2 →
    (s.w.flag (Reg.SC_CFG p n) F.SC_CFG_EN = false → s.w.flag (Reg.SC_STATUS p n) F.SC_STATUS_HALTED = false →
      (s.w.sc p n).wait ≠ .halted →
      exec (.scEnable p n) s = .next (s.after ((((s.w.setFlag (Reg.SC_CFG p n) F.SC_CFG_EN true).setSc p n
        { s.w.sc p n with wait := .run, outs := [] }).setReg (Reg.SC_PC p n) 0).setFlag (Reg.SC_STATUS p n)
        F.SC_STATUS_BUSY true))) ∧
    (s.w.flag (Reg.SC_CFG p n) F.SC_CFG_EN = true →
      exec (.scDisable p n) s = .next (s.after ((s.w.setFlag (Reg.SC_CFG p n) F.SC_CFG_EN false).setFlag
        (Reg.SC_STATUS p n) F.SC_STATUS_BUSY false)))))

/-! ### Hall, data mover, steering unit, responses (05) -/

/-- A line request at the hall, granted, error-free: a read answers the bytes and opens the bank's merge latch, a write
stores its bytes and ends the latch of its line, an atomic stores its result, answers the old word and enters the tracker. A
request that is not granted leaves everything as it was; one into a core's own memory is granted against the core itself. The merge window of a read is that of the lowest enabled hall region that contains it, else
the default one, at most 8 cycles.
Responses reach their requester: a read response a scalar core's load, a write acknowledgement its store, answers of
the data mover's requests its job, an address error (cause 3) faults the core with KIND 0x7; answers to a table flip and
to a multicast are gathered; a poisoned line stalls its agent.

Completes: hallRead hallWrite hallAtomic rdRsp wrAck errRsp atRsp mcPrune poisonedResponse. -/
def Obligations.HallRequestsAndResponses : Prop :=
  (∀ (s : State) (p m off age cycle : Nat) (req : Packet) (rivals : List (Nat × Nat)), s.live = true → p < 312 → m < 15 →
    s.w.hallTarget p m req = (some off, true) → s.badPar = [] →
    let b := W.hallBank off
    let la := Tbl.get (fun _ => {}) (s.w.hall p).latch b
    let bs := s.w.lineBytes p off req.len
    (off < 0x400000 → ∀ g, s.w.grantOf p b m req age rivals = some g →
      (la.live = false ∨ la.line ≠ off / 128 →
        let l : Latch := { live := true, line := off / 128, cycle := cycle, window := g.mergeW p off, master := m }
        exec (.hallRead p m req cycle age rivals .none) s = .next (s.after ((g.setHall p
          { g.hall p with latch := Tbl.set (fun _ => {}) (g.hall p).latch b l }).hallReply p m req bs false))) ∧
      (m ≠ 14 → req.poison = false → exec (.hallWrite p m req age rivals .none) s = .next (s.after
        (((g.endLatch p off).wrBytes (galKey p off) (req.data.take (128 - off % 128))).emit (.reply p m [] false false)))) ∧
      (m ≠ 14 → req.poison = false → off % 8 = 0 → ∀ op cmp,
        let g := g.endLatch p off
        let old := w64 (g.rdNat (galKey p off) 8)
        let tr := track (g.hall p).tracker (g.hall p).evicted off m
        tr.2.2 = false →
        exec (.hallAtomic p m req op cmp age rivals .none) s = .next (s.after
          (((g.setHall p { g.hall p with tracker := tr.1, evicted := tr.2.1 }).wrNat (galKey p off) 8
            (atomNew op old req.arg cmp).toNat).emit (.reply p m (leBytes 8 old.toNat) false false))))) ∧
    (off < 0x400000 → la.live = true → la.line = off / 128 → la.master ≠ m → la.cycle ≤ cycle →
      cycle ≤ la.cycle + la.window → s.w.portTurn p m req rivals = true →
      exec (.hallRead p m req cycle age rivals .none) s = .next (s.after
        (((s.w.usePort p m req).count (Reg.HALL_MERGE_HITS p) 1).hallReply p m req bs la.poison))) ∧
    (off < 0x400000 → s.w.grantOf p b m req age rivals = none → la.live = false →
      exec (.hallRead p m req cycle age rivals .none) s = .next (s.after s.w) ∧
      exec (.hallWrite p m req age rivals .none) s = .next (s.after s.w)) ∧
    (0x400000 ≤ off → ∀ g, s.w.coreGrant p off m req age rivals = some g →
      (W.ownerOf off < 8 → exec (.hallRead p m req cycle age rivals .none) s = .next (s.after (g.hallReply p m req bs false))) ∧
      (m ≠ 14 → req.poison = false → exec (.hallWrite p m req age rivals .none) s = .next (s.after
        ((g.wrBytes (galKey p off) (req.data.take (128 - off % 128))).emit (.reply p m [] false false)))))) ∧
  (∀ (w : W) (p off : Nat), off < 0x400000 →
    let holds := fun (n : Nat) => w.flag (Reg.HALL_REGION p n) F.HALL_REGION_EN = true ∧
      w.fld (Reg.HALL_REGION p n) F.HALL_REGION_BASE * 4096 ≤ off ∧
      off < (w.fld (Reg.HALL_REGION p n) F.HALL_REGION_BASE + w.fld (Reg.HALL_REGION p n) F.HALL_REGION_SIZE + 1) * 4096
    (∀ n, n < 8 → holds n → (∀ m, m < n → ¬ holds m) →
      w.mergeW p off = min 8 (w.fld (Reg.HALL_REGION p n) F.HALL_REGION_MERGE_W)) ∧
    ((∀ n, n < 8 → ¬ holds n) → w.mergeW p off = min 8 (w.fld (Reg.HALL_CFG p) F.HALL_CFG_DEF_MERGE_W))) ∧
  (∀ (s : State) (p n k : Nat) (t : Packet) (o : FarAccess), s.live = true → p < 312 → n < 2 →
    let h := Hart.sc p n
    (t.exit = 0 → credAgent t = 12 + n →
      (s.w.outIndex h true t.addr = some k →
        exec (.rdRsp p t) s = .next (s.after (s.w.doLoadReturn h k (rspWord t) (if t.poison then .poisoned else .none)).flushBus)) ∧
      (s.w.outIndex h false t.addr = some k → t.poison = false →
        exec (.wrAck p t) s = .next (s.after ((s.w.setHart h { s.w.hart h with
          outs := (s.w.hart h).outs.eraseIdx k }).releaseOuts h 8).flushBus)) ∧
      (((s.w.hart h).outs.findIdx? fun o => o.addr == t.addr) = some k → (s.w.hart h).outs[k]? = some o →
        bits t.arg 3 0 = 3 → exec (.errRsp p t) s = .next (s.after (s.w.hFault h 7 o.pc o.addr).flushBus))) ∧
    (t.exit = 0 → credAgent t = 15 → exec (.atRsp p t) s = .next (s.after (s.w.dmAnswer p 5 t).flushBus)) ∧
    (t.exit = 2 → ∀ f, s.chip.flip = some f →
      exec (.wrAck p t) s = .next (s.after (s.w.flipAnswer t.mask 0).flushBus) ∧
      let f' := { f with pruned := f.pruned ||| t.mask }
      let left := if f.targets &&& ~~~(f.acked ||| f'.pruned) == 0 then none else some f'
      exec (.mcPrune p t) s = .next (s.after { s.w with c := { s.chip with flip := left } })) ∧
    (t.exit = 0 → exec (.mcPrune p t) s
      = .next (s.after (s.w.mcAnswer p (credAgent t) (credSlot t) t.mask true false))) ∧
    (∀ a, a < 8 → exec (.poisonedResponse p a) s = .next (s.after (s.w.setMc p a { s.w.mc p a with stalled := true }))))

/-- A well-formed descriptor at the head of queue 0 of a data mover that runs is taken as its newest job and starts when it
overlaps no earlier job that is not done.
The rest of the data mover's work: a one-line FILL writes its bytes and is done; a null token takes its place among
the jobs; a waiting job starts; the oldest finished job sends its token and is counted; an answer that is not in time
halts the unit with KIND 0x3.

Completes: dmCopy dmMcast dmFill dmAtomic dmNullToken dmDescriptorStart dmCompletion dmTimeout. -/
def Obligations.DataMoverDescriptors : Prop :=
  (∀ (s : State) (p op : Nat) (i : Instr) (t t' : Packet) (w : W),
    (op, i) ∈ [(0x10, Instr.dmCopy p .none), (0x11, .dmMcast p .none), (0x12, .dmFill p .none), (0x13, .dmAtomic p .none)] →
    s.live = true → p < 312 → s.w.dmRuns p = true → s.w.flag (Reg.DM_CFG p) ⟨0, 0⟩ = true →
    (s.w.dm p).jobs.length < 4 → s.w.head p 15 0 = some t → isNull t = false → t.poison = false → t.len = 48 →
    s.w.pop p 15 0 = some (t', w) →
    let ws := (List.range 6).map (payWord t.data)
    let x := DmCmd.ofWords ws
    let k := (w.dm p).jobs.length
    let taken := w.setDm p { w.dm p with jobs := (w.dm p).jobs ++ [{ words := ws }] }
    x.bad = false → x.opcode = op →
    (taken.dmClear p k x = true → exec i s = .next (s.after (taken.dmStart p k .none).flushBus)) ∧
    (taken.dmClear p k x = false → exec i s = .next (s.after taken.flushBus))) ∧
  (∀ (s : State) (p : Nat), s.live = true → p < 312 →
    (∀ (w : W) (k : Nat) (j : DmJob) (a : List Byte) (w1 : W), (w.dm p).jobs[k]? = some j → j.outs = [] →
      let x := DmCmd.ofWords j.words
      x.opcode = 0x12 → x.dim1 = 1 → linePieces x.dst.toNat x.dim0 = [(0, x.dim0)] →
      w.farPut (some p) (w64 p) x.dst (x.fillBytes x.dim0) = (.ok a false, w1) →
      w.dmStart p k .none = w1.setDm p { w1.dm p with jobs := (w1.dm p).jobs.set k { j with held := false, state := .done } }) ∧
    (s.w.dmRuns p = true → s.w.flag (Reg.DM_CFG p) ⟨0, 0⟩ = true → (s.w.dm p).jobs.length < 4 → ∀ t t' w,
      s.w.head p 15 0 = some t → isNull t = true → s.w.pop p 15 0 = some (t', w) →
      exec (.dmNullToken p) s = .next (s.after (w.setDm p { w.dm p with
        jobs := (w.dm p).jobs ++ [{ isNull := true, state := .done }] }).flushBus)) ∧
    (s.w.dmRuns p = true → ∀ j rest, (s.w.dm p).jobs = j :: rest → j.state = .waiting →
      exec (.dmDescriptorStart p .none) s = .next (s.after (s.w.dmStart p 0 .none).flushBus)) ∧
    ((s.w.dm p).halted = false → ∀ j rest, (s.w.dm p).jobs = j :: rest → j.state = .done →
      let d := s.w.setDm p { s.w.dm p with jobs := rest }
      let x := DmCmd.ofWords j.words
      exec (.dmCompletion p) s = .next (s.after (if j.isNull then d.unitSend p 15 0 1 []
        else ((d.count (Reg.DM_DESCS p) 1).count (Reg.DM_BYTES p) x.size).unitSend p 15 0 0
          (W.completionData x.tag j.pruned)).flushBus)) ∧
    ((s.w.dm p).halted = false → ∀ j rest o os, (s.w.dm p).jobs = j :: rest → j.outs = o :: os →
      exec (.dmTimeout p) s = .next (s.after (s.w.dmFail p 3 (DmCmd.ofWords j.words).tag o.addr).flushBus)))

/-- The steering operations with their control in the control list: SWITCH sends the data token on the output it names and
null tokens on the others, DISTRIBUTE sends it on its output, MERGE takes one token of every input and sends the one
named, COLLECT sends the head of the input named; a token that waits alone is the fault of KIND 2, which names the input that is
empty.

Completes: suSwitch suDistribute suMerge suCollect suWatchdog. -/
def Obligations.SteeringOperations : Prop :=
  ∀ (s : State) (p e : Nat), s.live = true → p < 312 → e < 256 →
    let x := s.w.suEntry p e
    let r := Tbl.get (fun _ => {}) (s.w.su p).runs e
    x.csrc = 1 → r.ctrl = none →
    (∀ t t' w, let v := s.w.suByte p x.clist
      s.w.suReady p e 1 = true → x.clist < 4096 → v ≤ x.nfan → s.w.head p 14 x.inq = some t → t.poison = false →
      isNull t = false → t.seq = r.tag → (s.w.suFires p e).pop p 14 x.inq = some (t', w) →
      exec (.suSwitch p e false) s = .next (s.after (((List.range (x.nfan + 1)).foldl (fun w i =>
        if i = v then w.suSend p (x.out + i) t' else w.suNull p (x.out + i)) w).suSlotDone p e x
          { r with ctrl := some (.value v) }))) ∧
    (∀ t t' w, let v := s.w.suByte p (x.clist + r.slot)
      s.w.suReady p e 3 = true → x.clist + r.slot < 4096 → v ≤ x.nfan → s.w.head p 14 x.inq = some t → t.poison = false →
      isNull t = false → isNull t' = false → t.seq = r.tag → (s.w.suFires p e).pop p 14 x.inq = some (t', w) →
      Tbl.get (fun _ => 0) r.count v < x.cap →
      exec (.suDistribute p e false) s = .next (s.after ((w.suSend p (x.out + v) t').suSlotDone p e x
        { r with count := Tbl.set (fun _ => 0) r.count v (Tbl.get (fun _ => 0) r.count v + 1) }))) ∧
    (let v := s.w.suByte p x.clist
      let heads := x.inputs.filterMap fun q => s.w.head p 14 q
      s.w.suReady p e 2 = true → x.clist < 4096 → v ≤ x.nfan → heads.length = x.nfan + 1 →
      heads.all (fun t => !t.poison && t.seq == r.tag) = true → (heads[v]?).map isNull = some false →
      exec (.suMerge p e false) s = .next (s.after ((x.inputs.zipIdx.foldl (fun w (q, i) =>
        match w.pop p 14 q with
        | none => w
        | some (t, w) => if i = v then w.suSend p x.out t else w) (s.w.suFires p e)).suSlotDone p e x { r with ctrl := some (.value v) }))) ∧
    (∀ t t' w, let v := s.w.suByte p (x.clist + r.slot)
      s.w.suReady p e 4 = true → x.clist + r.slot < 4096 → v ≤ x.nfan → s.w.head p 14 (x.inq + v) = some t →
      t.poison = false → t.seq = r.tag → Tbl.get (fun _ => 0) r.count v < x.cap → (s.w.suFires p e).pop p 14 (x.inq + v) = some (t', w) →
      exec (.suCollect p e false) s = .next (s.after ((w.suSend p x.out t').suSlotDone p e x
        { r with count := Tbl.set (fun _ => 0) r.count v (Tbl.get (fun _ => 0) r.count v + 1) }))) ∧
    (∀ q, x.op = 2 → (s.w.su p).stopped = false → s.w.flag (Reg.SU_CFG p) ⟨0, 0⟩ = true → s.w.agentRuns p 14 = true →
      (x.inputs.any fun q => (s.w.head p 14 q).isSome) = true →
      (x.inputs.find? fun q => (s.w.head p 14 q).isNone) = some q →
      exec (.suWatchdog p e) s = .next (s.after (s.w.suFault p e q 2 r.tag r.tag)))

/-! ### Mesh, flights, tables (06) -/

/-- A packet whose destination is this landing leaves by the port its EXIT names, LOCAL, MEM or OUTER; one on its way to
another landing by the port of the route table; in either case only when the port is on. A malformed request is
discarded, counted, answered with cause 1 and recorded. A packet that enters by LOCAL, MEM or OUTER is injected, its source
this landing and that port.

Completes: lndHeadFlit. -/
def Obligations.PacketsAreRouted : Prop :=
  ∀ (s : State) (l port pre : Nat) (t : Packet), s.live = true → l < 312 → port ≤ 7 → portHere l port = true →
    s.w.flag (Reg.LND_CFG l) F.LND_CFG_EN = true →
    (headBad t = false → t.typ ≠ 9 → t.typ ≠ 0xA → t.typ ≠ 0xB → port = 0 ∨ 6 ≤ port →
      exec (.lndHeadFlit l port t pre .none) s = .next (s.after (s.w.inject l port t pre))) ∧
    (headBad t = false → t.typ ≠ 9 → t.typ ≠ 0xA → t.typ ≠ 0xB → 1 ≤ port → port ≤ 5 → t.mc = false → t.via = false →
      let out := if t.dst = l then (if t.exit = 0 then 0 else if t.exit = 1 then 6 else 7) else s.w.rt l t.dst
      s.w.portOn l out = true → exec (.lndHeadFlit l port t pre .none) s = .next (s.after (s.w.sendHop l out t pre))) ∧
    (headBad t = true → isResponse t = false → exec (.lndHeadFlit l port t pre .none) s
      = .next (s.after (((s.w.errRsp l t 1).count (Reg.LND_DISCARD l) 1).lndFault l 4 port (vcOf t) t.srcLand 0)))

/-- A contribution of a flight that is valid, from a member port, of the expected generation and the first of its source is
combined with those that are in; when it is the last, it goes to the parent. A release moves the expected generation
on.
A landing takes the other bank of its tables on a TBL_FLIP, which it acknowledges, and on a write of LND_TBL_SEL with
FLIP; partial flights end. A fault flag at the attach landing of its route goes over the drop to CP1, joined with one
that waits. An output that stays blocked is recorded and raises its flag.

Completes: fltArrive fltRelease tblFlip lndTblSelFlip faultFlag lndStallTimeout. -/
def Obligations.FlightsCombineAndTablesFlip : Prop :=
  (∀ (s : State) (l port : Nat) (x : Word), s.live = true → l < 312 →
    let f := bits x 63 58
    let e := s.w.ft l f
    let pt := Tbl.get (fun _ => {}) (s.w.landing l).parts f
    let c := W.combine (bits e 62 60) pt.value (bits x 31 0) (pt.srcs == 0)
    let pt' : Partial := { pt with srcs := pt.srcs + 2 ^ port, value := c.1 }
    let put := fun (q : Partial) => s.w.setLanding l
      { s.w.landing l with parts := Tbl.set (fun _ => {}) (s.w.landing l).parts f q }
    (1 ≤ port → port ≤ 5 → bit e 63 = true → bit e (47 + port) = true → bits x 57 42 = s.w.fltGen l f →
      pt.srcs.testBit port = false → c.2 = false →
      (pt'.srcs ≠ bits e 47 47 + 2 * bits e 52 48 → exec (.fltArrive l port x) s = .next (s.after (put pt'))) ∧
      (pt'.srcs = bits e 47 47 + 2 * bits e 52 48 → bits e 59 56 ≠ 0xF → exec (.fltArrive l port x) s
        = .next (s.after ((put { pt' with sent := true }).toPort l (bits e 59 56)
          { typ := 9, srcLand := l, arg := flightWord f (bits x 57 42) pt.epoch c.1 } 0)))) ∧
    (bit e 63 = true → bits e 52 48 = 0 → bit e 47 = false → bits e 59 56 ≠ 0xF → f ≠ 63 →
      exec (.fltRelease l x) s = .next (s.after ((put {}).setFltGen l f ((s.w.fltGen l f + 1) % 2 ^ 16))))) ∧
  (∀ (s : State) (l : Nat), s.live = true → l < 312 →
    (∀ t : Packet, exec (.tblFlip l t) s = .next (s.after (((s.w.flipTo l (bits t.arg 0 0) (bit t.arg 1) (bit t.arg 2)
      (bits t.arg 31 16) (if t.len = 128 then some t.data else none)).setFlag (Reg.LND_STATUS l) F.LND_STATUS_FLIP_SEEN
      true).wrAck l { t with mc := true } false))) ∧
    (∀ v : Word, bit v 1 = true → bit v 2 = false → (s.w.landing l).flag = none →
      exec (.lndTblSelFlip l v) s = .next (s.after ((s.w.setFld (Reg.LND_TBL_SEL l) F.LND_TBL_SEL_ACTIVE
        (1 - s.w.bank l)).setLanding l { s.w.landing l with parts := [] }))) ∧
    (∀ (m lm : Mask) (d : Nat), bits (s.w.reg (Reg.FLAG_DST l (s.w.bank l))) 8 0 = l → dropOf l = some d →
      s.w.portOn l 8 = true →
      let f := W.orFlag ((s.chip.flags.find? fun e => e.1 == d).map (·.2)) m lm
      exec (.faultFlag l m lm) s = .next (s.after (({ s.w with c := { s.chip with
        flags := Tbl.set (fun _ => (0, 0)) s.chip.flags d f } } : W).pendPriv 1 (32 + d)))) ∧
    (∀ port vc src, let k := Reg.LND_FAULT_INFO l
      let st := (s.w.setFlag (Reg.LND_STATUS l) F.LND_STATUS_STALL true).setLanding l { s.w.landing l with
        stalled := port :: (s.w.landing l).stalled.filter (· ≠ port) }
      let info := w64 (2 ^ 47 + 3 * 2 ^ 43 + port % 16 * 2 ^ 39 + vc % 4 * 2 ^ 37 + src % 512 * 2 ^ 28)
      let w := (st.setReg k info).setFlag (Reg.LND_STATUS l) F.LND_STATUS_FAULT true
      st.flag k F.LND_FAULT_INFO_VALID = false → exec (.lndStallTimeout l port vc src) s
        = .next (s.after ((w.addWork .hang { cls := 8, kind := 3, phys := some l, info := w.reg k }).emit
          (.mesh l { typ := 0xB, srcLand := l, lmask := maskOf l })))))

/-! ### Channels and queues (07) -/

/-- A DATA, NULL or CLOSE token of the current epoch, on an open connection and of the expected SEQ, enters the queue of
its connection, whose expected SEQ moves on; any other goes to the drain queue with its schedule fault. A
ring notice that agrees with the record it names moves the consumer's offset on and enters in the same way.

Completes: tokenData tokenNull tokenClose tokenRingMsg tokenRingPad. -/
def Obligations.TokensArrive : Prop :=
  ∀ (s : State) (p : Nat) (t : Packet), s.live = true → p < 312 →
    let a := tokAgent t
    let g := s.w.agent p a
    (∀ i, t.epoch = s.w.epoch p a → t.conn ≠ 0xFFFE → g.lookup t.conn = some i → t.seq = (g.conn i).expSeq →
      let c := { g.conn i with expSeq := ((g.conn i).expSeq + 1) % 2 ^ 16 }
      let t' := s.after ((s.w.setAgent p a (g.setConn i c)).enqueue p a c.queue t)
      (tkind t = 0 → exec (.tokenData p t) s = .next t') ∧ (tkind t = 1 → exec (.tokenNull p t) s = .next t') ∧
      (tkind t = 3 → exec (.tokenClose p t) s = .next t') ∧
      (s.w.ringAgrees p a (g.conn i).queue t 1 = true → tkind t = 4 →
        let q := (g.conn i).queue
        let next := (bits (payWord t.data 0) 31 0 + 128 * ceilDiv (16 + bits (payWord t.data 0) 63 32) 128)
          % 2 ^ s.w.fld (Reg.Q_RING p a q) F.Q_RING_LOG2
        exec (.tokenRingMsg p t) s = .next (s.after ((s.w.setAgent p a { g with
          ringCons := Tbl.set (fun _ => 0) g.ringCons q next }).arrive p a t))) ∧
      (s.w.ringAgrees p a (g.conn i).queue t 2 = true → tkind t = 5 →
        let q := (g.conn i).queue
        exec (.tokenRingPad p t) s = .next (s.after ((s.w.setAgent p a { g with
          ringCons := Tbl.set (fun _ => 0) g.ringCons q 0 }).arrive p a t)))) ∧
    (t.epoch ≠ s.w.epoch p a →
      let t' := s.after ((s.w.drainToken p a t).engineFault p a 2)
      (tkind t = 0 → exec (.tokenData p t) s = .next t') ∧ (tkind t = 1 → exec (.tokenNull p t) s = .next t') ∧
      (tkind t = 3 → exec (.tokenClose p t) s = .next t'))

/-- CONNECT at an enabled, plain queue with room opens the lowest free connection and GRANT goes back; one epoch ahead it is
held. RESERVE takes its place among the reservations of a multicast queue, and its slots when they are free; one that
waits too long answers that it did not reserve.

Completes: tokenConnect tokenReserve reserveTimeout. -/
def Obligations.ConnectionsOpen : Prop :=
  ∀ (s : State) (p : Nat) (t : Packet), s.live = true → p < 312 →
    let a := tokAgent t
    let g := s.w.agent p a
    let q := bits t.arg 59 56
    (tkind t = 2 → t.epoch = s.w.epoch p a → ∀ i, (List.range 64).find? (fun i => !(g.conn i).isOpen) = some i →
      s.w.qcfg p a q F.Q_CFG_EN = 1 → s.w.qcfg p a q F.Q_CFG_FLIGHTQ = 0 → s.w.qcfg p a q F.Q_CFG_MCQ = 0 →
      s.w.qcfg p a q F.Q_CFG_RAW = bits t.arg 51 51 → s.w.qcfg p a q F.Q_CFG_RING = 0 →
      bits t.arg 15 0 ≤ s.w.qcfg p a q F.Q_CFG_SIZE - g.assigned q →
      let c : RConn := { isOpen := true, inc := (g.conn i).inc, queue := q, key := s.w.connectKey t, srcLand := t.srcLand,
                         slots := bits t.arg 15 0, epoch := t.epoch, rtag := t.rtag, srcExit := t.srcExit,
                         chan := t.chan }
      exec (.tokenConnect p t) s = .next (s.after ((s.w.setAgent p a (g.setConn i c)).sendCredit p 1
        ((g.setConn i c).number i) 0 (bits t.arg 15 0) c))) ∧
    (tkind t = 2 → t.epoch = (s.w.epoch p a + 1) % 16 → t.epoch ≠ s.w.epoch p a → g.early.length < 16 →
      exec (.tokenConnect p t) s = .next (s.after (s.w.setAgent p a { g with early := g.early ++ [t] }))) ∧
    (tkind t = 6 → t.epoch = s.w.epoch p a → s.w.mcTakes p a q t = true →
      let r : Reserve := { queue := q, slots := bits t.arg 8 0, flight := bits t.arg 30 25, gen := bits t.arg 24 9,
                           held := false, pkt := t }
      exec (.tokenReserve p t) s = .next (s.after ((s.w.setAgent p a { g with
        reserves := g.reserves ++ [r], mcSrc := Tbl.set (fun _ => none) g.mcSrc q (some (W.mcSource t)) }).grantReserves
          p a q))) ∧
    (∀ a k r, a < 16 → (s.w.agent p a).reserves[k]? = some r → r.held = false →
      exec (.reserveTimeout p a k) s = .next (s.after (((s.w.setAgent p a { s.w.agent p a with
        reserves := (s.w.agent p a).reserves.eraseIdx k }).emit (.mesh p
          { typ := 4, srcLand := p, dst := r.pkt.srcLand, exit := r.pkt.srcExit, rtag := r.pkt.rtag, mask := maskOf p,
            arg := 0 })).emit
        (.contribute p r.flight r.gen 0))))

/-- The credit packets at a sender: CREDIT_RETURN adds to an open slot and what waited goes out, GRANT opens a connecting
slot with its credits and a token larger than them is malformed, REFUSE and a CONNECT without an answer free it, CLOSE_ACK frees a closing one; the instruction that
waited on the slot returns.
A multicast whose targets have all answered and whose release is in sends its data to the targets that reserved; a send
slot blocked for too long is hung, recorded once, and raises the hang; draining is cleared by command.

Completes: creditReturn grant refuse closeAck connectTimeout creditBatchTimeout mcDataSend sendStallWatchdog qDrainClear. -/
def Obligations.CreditsAndMulticasts : Prop :=
  (∀ (s : State) (p : Nat) (t : Packet), s.live = true → p < 312 →
    let a := credAgent t
    let k := credSlot t
    let g := s.w.agent p a
    let x := g.slot k
    let ok := t.epoch = s.w.epoch p a
    (ckind t = 0 → ok → x.state ≠ 0 → bits t.arg 47 32 = x.conn →
      let x' := { x with slots := x.slots + bits t.arg 15 0, lines := x.lines + bits t.arg 31 16 }
      exec (.creditReturn p t) s = .next (s.after ((s.w.setAgent p a (g.setSlot k x')).flushSlot p a k
        (x.waitq.length + 1)))) ∧
    (ckind t = 1 → ok → x.state = 1 →
      let x' := { x with state := 2, conn := bits t.arg 47 32, slots := bits t.arg 15 0, lines := bits t.arg 31 16,
                         grantSlots := bits t.arg 15 0, grantLines := bits t.arg 31 16, seq := 0,
                         ring := decide (bits t.arg 31 16 ≠ 0), prod := 0,
                         waitq := x.waitq.filter fun o => decide (W.OutTok.need o ≤ bits t.arg 15 0) }
      let big := x.waitq.any fun o => decide (bits t.arg 15 0 < W.OutTok.need o)
      exec (.grant p t) s = .next (s.after ((((s.w.setAgent p a (g.setSlot k x')).slotReturn p a (.connect k) k).when big
        fun w => w.engineFault p a 4).flushSlot p a k (x'.waitq.length + 1)))) ∧
    (ckind t = 2 → ok → x.state = 1 → x.table = false →
      exec (.refuse p t) s = .next (s.after ((s.w.setAgent p a (g.setSlot k {})).slotReturn p a (.connect k) (-1)))) ∧
    (ckind t = 3 → ok → x.state = 3 → bits t.arg 47 32 = x.conn →
      exec (.closeAck p t) s = .next (s.after ((s.w.setAgent p a (g.setSlot k {})).slotReturn p a (.close k) 0))) ∧
    (∀ a k, a < 16 → ((s.w.agent p a).slot k).state = 1 → ((s.w.agent p a).slot k).table = false →
      exec (.connectTimeout p a k) s = .next (s.after ((s.w.setAgent p a ((s.w.agent p a).setSlot k {})).slotReturn p a
        (.connect k) (-3)))) ∧
    (∀ a i, a < 16 → let g := s.w.agent p a
      (g.conn i).isOpen = true → 0 < (g.conn i).freedSlots →
      exec (.creditBatchTimeout p a i) s = .next (s.after ((s.w.setAgent p a (g.setConn i
        { g.conn i with freedSlots := 0, freedLines := 0 })).sendCredit p 0 (g.number i) (g.conn i).freedLines
        (g.conn i).freedSlots (g.conn i))))) ∧
  (∀ (s : State) (p a : Nat), s.live = true → p < 312 → a < 16 →
    let g := s.w.agent p a
    (∀ m k, s.w.mcOwner p a m = some k → let c := g.mcSlot m
      let x := g.slot k
      c.phase = 1 → c.released = true → (c.acked ||| c.pruned) &&& c.target = c.target → c.reserved ≠ 0 →
      let c' := { c with late := c.target &&& ~~~(c.reserved ||| c.pruned), phase := 2, acked := 0,
                         gen := (c.gen + 1) % 2 ^ 16 }
      let w := s.w.setAgent p a (g.setMcSlot m c')
      let pkt := { w.tokenPacket p a k c.kind x.name 0xFFFE x.seq x.raw 0 c.data with
        mc := true, mask := c.reserved, nbody := if c.data.length ≤ 56 then 0 else ceilDiv c.data.length 128 }
      exec (.mcDataSend p a m) s = .next (s.after (((w.emit (.mesh p pkt)).count (Reg.CH_MSGS p a k) 1).count
        (Reg.CH_BYTES p a k) c.data.length))) ∧
    (∀ k, (g.slot k).state = 2 → (g.slot k).waiting = true → let x := g.slot k
      let w := s.w.setAgent p a (g.setSlot k { x with state := 4 })
      let q := w.fullest p a
      let h := Reg.Q_HANG_INFO p a
      let w' := (w.setReg h (w64 (x.conn % 2 ^ 16 * 2 ^ 48 + k % 64 * 2 ^ 42 + q.1 * 2 ^ 38 + q.2 % 2 ^ 16 * 2 ^ 22
        + 2 ^ 21))).setReg (Reg.Q_HANG_TGT p a) x.name
      w.flag h F.Q_HANG_INFO_VALID = false →
      exec (.sendStallWatchdog p a k) s = .next (s.after (w'.raiseHang p
        { cls := 7, kind := 1, agent := some a, pc := w'.agentPc p a, connA := x.conn, slotA := k, queueB := q.1,
          connB := q.2, info := w'.reg h, aux := w'.reg (Reg.Q_HANG_TGT p a) }))) ∧
    exec (.qDrainClear p a) s = .next (s.after (s.w.setAgent p a { g with drain := [] })))

/-! ### Schedules and steps (08, 13) -/

/-- The START of a step that is due, held by nothing and not waiting for a barrier, is made: the sequencer runs the step
and START is multicast. An unfenced gallery enters it warm, keeping its cores' state, or cold, everything cleared; an
aborted step leaves every gallery ABORTED.

Completes: seqStepStart warmEntry coldEntry gstepAbort. -/
def Obligations.StepsStart : Prop :=
  (∀ (s : State) (cold : Bool), s.live = true → s.chip.seq.phase = .ready cold →
    s.w.seqState = stRun ∨ s.w.seqState = stLoading → s.w.mayStart = true → (cold = true → s.chip.seq.flipped = true) →
    s.chip.seq.startBar = false → s.chip.seq.onStart = [] → s.chip.seq.abortNext = false → s.chip.seq.drainNext = false →
    let q := { s.chip.seq with phase := .run, flipped := false, startBar := false, release := none, onStart := [] }
    let q := { q with abortNext := false, drainNext := false, placed := [] }
    exec .seqStepStart s = .next (s.after (((s.w.setSeqState stRun).setSeq q).emit (.gstep true cold false)))) ∧
  (∀ (s : State) (p : Nat), s.live = true → p < 312 → s.w.flag (Reg.GAL_FENCE p) F.GAL_FENCE_FENCED = false →
    (let w := (s.w.entryState p false).newTracker p
      let w := w.setFld (Reg.GND_PEND p) ⟨31, 0⟩ (w.fld (Reg.GND_PEND p) ⟨31, 0⟩ - w.fld (Reg.GND_SENT p) ⟨31, 0⟩)
      exec (.warmEntry p) s = .next (s.after (([0, 1] : List Nat).foldl (fun w n =>
        if (w.sc p n).wait = .step then w.hNext (.sc p n) else w) (w.setFld (Reg.GND_SENT p) ⟨31, 0⟩ 0)))) ∧
    (let w := (s.w.entryState p true).newTracker p
      let w := (List.range 16).foldl (fun w a => w.coldAgent p a) w
      let w := (List.range 8).foldl (fun w n => w.coldMc p n) w
      let w := (List.range 4).foldl (fun w n => w.coldVc p n) w
      let w := (((w.coldSc p 0).coldSc p 1).setDm p {}).setSu p {}
      let w := w.setFld (Reg.GND_SENT p) ⟨31, 0⟩ 0
      exec (.coldEntry p) s = .next (s.after (([0, 1, 2, 3, 4, 5, 6, 7, 8, 9, 10, 11, 14, 15] : List Nat).foldl
        (fun w a => w.openTable p a) w))) ∧
    exec (.gstepAbort p) s = .next (s.after (s.w.setFld (Reg.GSTEP_STATE p) F.GSTEP_STATE_STATE 4)))

/-- An agent's contribution to the commit flight makes its gallery arrive. With the commit and ND releases in and nothing
left to copy, a single device issues the COMMITTED record; its acknowledgement lets the guard copies be written; the last
of them commits the step: SEQ_COMMITTED takes it, SEQ_STEP moves on, and a requested stop ends in STOPPED; otherwise the next START is due. On several devices
PREPARED stands first and the fabric barrier is entered.

Completes: lndFltArrive commitRelease commitRecordAck guardCopyAck. -/
def Obligations.StepsCommit : Prop :=
  (∀ (s : State) (p : Nat) (x : Word) (pl : ImgPlacement), s.live = true → p < 312 → s.w.placement = some pl →
    let f := bits x 63 58
    pl.commit = f → bit (s.w.ft p f) 63 = true → bit (s.w.ft p f) 47 = true → bits x 57 42 = s.w.fltGen p f →
    (Tbl.get (fun _ => {}) (s.w.landing p).parts f).srcs.testBit 0 = false →
    let w := s.w.contribute p 0 x
    w.fld (Reg.GSTEP_STATE p) F.GSTEP_STATE_STATE = 1 →
    exec (.lndFltArrive p x) s
      = .next (s.after ((w.setFld (Reg.GSTEP_STATE p) F.GSTEP_STATE_STATE 2).boundaryCheck p))) ∧
  (∀ (s : State) (i : Img), s.live = true → s.chip.seq.phase = .record false → s.chip.seq.img = some i →
    exec .commitRecordAck s = .next (s.after (((s.w.setFlag Reg.SEQ_STATUS F.SEQ_STATUS_PREPARED true).setSeq
      { s.chip.seq with phase := .fabric }).barContribute i.view.commitBar (s.w.stepNo % 2 ^ 16)))) ∧
  (∀ (s : State) (nd : Nat), s.live = true → s.w.seqState = stRun → s.chip.seq.phase = .run →
    let w := s.w.setSeq { s.chip.seq with release := some (nd % 2 ^ 32) }
    (w.copiesDone w.stepNo = true → w.devices = 0 → exec (.commitRelease nd) s = .next (s.after w.issueCommitted)) ∧
    (w.copiesDone w.stepNo = false → exec (.commitRelease nd) s = .next (s.after w))) ∧
  (∀ s : State, s.live = true → s.chip.seq.phase = .record true →
    let w := s.w.writeGuards s.w.stepNo
    exec .commitRecordAck s = .next (s.after (w.setSeq { s.chip.seq with phase := .guards }))) ∧
  (∀ s : State, s.live = true → s.chip.seq.phase = .guards →
    let n := s.w.stepNo
    let nd := ((List.range 16).map fun m => (s.w.memc m).ndSince).sum
    let w := ((List.range 16).foldl (fun (w : W) m => w.setMemc m { w.memc m with ndSince := 0 }) s.w).addNd nd n
    let w := (w.setReg Reg.SEQ_COMMITTED (w64 n)).pend 281
    let w := ((w.setFld Reg.SEQ_STATUS F.SEQ_STATUS_REEXEC 0).setFlag Reg.SEQ_STATUS F.SEQ_STATUS_PREPARED false).commitDone n
    let w := w.dropReserves fun _ => true
    let w := ({ w with c := { w.c with fabLog := {} } } : W).setReg Reg.SEQ_STEP (w64 (n + 1))
    (w.c.seq.stopReq = true → exec (.guardCopyAck none) s
      = .next (s.after ((w.setSeq { w.c.seq with phase := .idle, stopReq := false }).setSeqState stStopped))) ∧
    (w.c.seq.stopReq = false → ((w.setSeq { w.c.seq with phase := .ready false }).setSeqState stRun).c.seq.moves = [] →
      exec (.guardCopyAck none) s
        = .next (s.after (((w.setSeq { w.c.seq with phase := .ready false }).setSeqState stRun).tryStart))))

/-- Watchdogs and rollback: a step that does not commit in time is counted, its late galleries are recorded and it rolls
back; after the quiet time the rollback goes on to its restart, which counts the re-execution and starts the step cold
again, up to MAX_REEXEC; a fabric release that does not come is recorded, a record for each missing peer, while the wait goes on.

Completes: stepWatchdog quietEnd rollbackRestart fabricBarrierTimeout. -/
def Obligations.StepsRollBack : Prop :=
  ∀ s : State, s.live = true →
    (s.w.seqState = stRun → s.chip.seq.phase = .run → s.chip.seq.release = none →
      let late := s.w.usedGals.filter fun p => s.w.fld (Reg.GSTEP_STATE p) F.GSTEP_STATE_STATE != 2 &&
        s.w.fld (Reg.GSTEP_STATE p) F.GSTEP_STATE_STATE != 3
      let w := s.w.countErr Reg.SEQ_WD_TRIPS
      exec (.stepWatchdog []) s = .next (s.after (((late.take 16).foldl (fun w p => w.record
        { cls := 9, kind := 1, sev := 2, phys := some p, info := w64 (late.length % 2 ^ 16 + stRun * 2 ^ 16),
          aux := w.reg Reg.SEQ_COMMITTED }) w).rollbackIf))) ∧
    (s.w.seqState = stRollback → s.chip.seq.phase = .quiet → s.chip.seq.draining = [] →
      exec .quietEnd s = .next (s.after (if s.chip.seq.stopRoll then
        (s.w.setSeq { s.chip.seq with phase := .idle, stopRoll := false }).setSeqState stStopped
        else s.w.setSeq { s.chip.seq with phase := .restart }))) ∧
    (s.w.seqState = stRollback → s.chip.seq.phase = .restart → s.chip.seq.remaps = [] → s.chip.flip = none →
      s.chip.resets = [] → s.chip.host.descs = [] → s.chip.host.ops = [] → s.chip.seq.flipped = true → s.chip.seq.stopRoll = false →
      let n := s.w.fld Reg.SEQ_STATUS F.SEQ_STATUS_REEXEC + 1
      (n ≤ s.w.fld Reg.SEQ_CFG F.SEQ_CFG_MAX_REEXEC →
        exec .rollbackRestart s = .next (s.after ((((((s.w.setFld Reg.SEQ_STATUS F.SEQ_STATUS_REEXEC n).count
          Reg.SEQ_REEXECS 1).setFlag Reg.ND_STATUS F.ND_STATUS_REEXEC true)).doStart true).replayLogs))) ∧
      (s.w.fld Reg.SEQ_CFG F.SEQ_CFG_MAX_REEXEC < n →
        exec .rollbackRestart s = .next (s.after s.w.abandon))) ∧
    (s.chip.seq.phase = .fabric ∨ s.chip.seq.phase = .startBarrier →
      exec .fabricBarrierTimeout s = .next (s.after (s.w.missingPeers.foldl (fun w d => w.record
        { cls := 9, kind := 4, sev := 3, connA := d, info := w64 (w.seqState * 2 ^ 16),
          aux := w.reg Reg.SEQ_COMMITTED }) s.w)))

/-- SEQ_CTL: STOP asks a running schedule to stop at its next commit; RESUME of a stopped one starts the step after the last
commit cold; UNLOAD of a stopped one leaves IDLE; ABORT before the commit point begins the rollback. PROGRAM_DIGEST done
and right, with well-formed sections, the load goes on.

Completes: seqCtlStop seqCtlResume seqCtlUnload seqCtlAbort programDigestDone. -/
def Obligations.SequencerControl : Prop :=
  ∀ s : State, s.live = true →
    (s.w.seqState ≠ stIdle → s.w.seqState ≠ stStopped → s.w.seqState ≠ stHalted →
      exec .seqCtlStop s = .next (s.after (s.w.setSeq { s.chip.seq with stopReq := true }))) ∧
    (s.w.mayResume = true →
      let w := (s.w.setReg Reg.SEQ_STEP (w64 ((s.w.reg Reg.SEQ_COMMITTED).toNat + 1))).setSeqState stRun
      let q : Seq := { s.chip.seq with phase := .ready true, startBar := true, flipped := false, stopReq := false }
      exec .seqCtlResume s = .next (s.after ((w.setSeq { q with abortNext := false }).tryStart))) ∧
    (s.w.seqState = stStopped →
      let w := ((s.w.setSeqState stIdle).setSeq {}).setFld Reg.SEQ_STATUS F.SEQ_STATUS_PLACE 0xFF
      s.chip.seq.onStart = [] → w.c.host.descs = [] → exec .seqCtlUnload s = .next (s.after w)) ∧
    (s.w.seqState = stRun → s.w.pastCommit = false → exec .seqCtlAbort s = .next (s.after s.w.beginRollback)) ∧
    (∀ forward i l, s.chip.seq.phase = .digest → s.chip.seq.img = some i → s.chip.seq.load = some l →
      let r := s.w.devRead i.addr l.bytes
      imageDigest r.1 = i.digest → badSection r.1 = none → badReduce r.1 = none →
      exec (.programDigestDone forward) s = .next (s.after (r.2.finishLoad l.place (some l.start) forward stIdle)))

/-- Scans and moves: GO on an arrived, waiting or aborted gallery starts its scan; a scan to memory ends with its state
back and DONE; one that takes too long leaves the drain as not answered, and its state is read by a snapshot; a migration or rotation of a running schedule waits for the
boundary; a snapshot of nondeterminism events copies the pending count.

Completes: scanGo scanDone drainScanTimeout migrationStart rotationMove gndSnap. -/
def Obligations.ScansAndMoves : Prop :=
  ∀ (s : State) (p : Nat), s.live = true → p < 312 →
    (∀ v : Word, bit v 0 = true → bits v 2 1 < 2 → s.w.fld (Reg.GSTEP_STATE p) F.GSTEP_STATE_STATE ∈ [2, 3, 4] →
      let st := s.w.fld (Reg.GSTEP_STATE p) F.GSTEP_STATE_STATE
      let w : W := { s.w with c := { s.chip with scans := Tbl.set (fun _ => 0) s.chip.scans p st } }
      exec (.scanGo p v) s = .next (s.after ((w.setReg (Reg.GSTEP_SCAN p) (w64 (2 ^ 13 + bits v 12 1 * 2))).setFld
        (Reg.GSTEP_STATE p) F.GSTEP_STATE_STATE 5))) ∧
    (let k := Reg.GSTEP_SCAN p;
      s.w.flag k F.GSTEP_SCAN_BUSY = true → s.w.flag k F.GSTEP_SCAN_TO_MEM = true →
      let w := (((s.w.scanToMem p (s.w.fld k F.GSTEP_SCAN_SCOPE == 1)).setFlag k F.GSTEP_SCAN_BUSY false).setFlag k F.GSTEP_SCAN_DONE true).setFlag k
        F.GSTEP_SCAN_ERROR false
      let w := w.setFld (Reg.GSTEP_STATE p) F.GSTEP_STATE_STATE (Tbl.get (fun _ => 0) w.c.scans p)
      let w := w.setSeq { w.c.seq with draining := w.c.seq.draining.filter (· ≠ p) }
      p ∉ s.chip.seq.draining → w.c.seq.moves = [] → exec (.scanDone p false) s = .next (s.after w.handleDeferred)) ∧
    (p ∈ s.chip.seq.draining →
      let w := ((s.w.setFlag (Reg.GSTEP_SCAN p) F.GSTEP_SCAN_BUSY false).setFlag (Reg.GSTEP_SCAN p) F.GSTEP_SCAN_ERROR true).setSeq
        { s.chip.seq with draining := s.chip.seq.draining.filter (· ≠ p),
                          noAnswer := p :: s.chip.seq.noAnswer.filter (· ≠ p) }
      exec (.drainScanTimeout p) s = .next (s.after (w.when (w.flag Reg.SNAP_CFG F.SNAP_CFG_CMD) fun w =>
        w.snapLatch 2 0 false).startDump)) ∧
    (∀ g src, s.w.physOf g = some src → halfOf src = halfOf p → s.w.pstate p = 1 → s.chip.seq.moves = [] →
      s.chip.seq.remaps = [] → s.w.seqState = stRun → s.chip.seq.phase = .run →
      exec (.migrationStart g p) s = .next (s.after (s.w.setSeq
        { s.chip.seq with moves := [{ g := g, src := src, dst := p, rotation := false, scanning := false }] })) ∧
      (s.w.testMoving src = true → exec (.rotationMove g p) s = .next (s.after (s.w.setSeq
        { s.chip.seq with moves := [{ g := g, src := src, dst := p, rotation := true, scanning := false }] })))) ∧
    exec (.gndSnap p) s = .next (s.after (s.w.setFld (Reg.GND_SENT p) ⟨31, 0⟩ (s.w.fld (Reg.GND_PEND p) ⟨31, 0⟩)))

/-! ### Memory (09) -/

/-- A memory controller that takes requests: a read of a healthy line counts and answers its bytes, and in a region that
combines reads opens an entry or merges with an open one of the line; a write closes the line's entry, and when the guard
lets it through stores its bytes and is acknowledged; one it rejects is answered by ERR_RSP cause 3; an atomic answers the
old value.
Upkeep of memory: a scrub that corrects counts and one that loses data records KIND 6; a refresh dates its bank; a
temperature below the threshold by more than 5 °C ends throttling, one at it throttles; a region or the interleave is
written only when IDLE; a module that comes or goes on a powered part fences its channel.

Completes: memcRead memcWrite memcAtomic patrolScrub refresh dramTempRead memIrgnWrite memDdrIlvWrite dimmPresenceChange. -/
def Obligations.MemoryControllers : Prop :=
  (∀ (s : State) (m pc irgn key ago lat : Nat) (req : Packet), s.live = true → m < 16 → s.w.memTakes m = true →
    s.w.place none req.addr = .mem m pc irgn key → s.w.memFenced m pc = false → pc ∉ (s.w.memc m).failing →
    key / 128 ∉ (s.w.memc m).lost → key / 128 ∉ (s.w.memc m).weak →
    (let comb := if m < 8 then (s.w.irgn irgn).comb else 0
     let live := (s.w.memc m).rcb.filter fun e => decide (s.chip.time ≤ e.last)
     let mine := (s.w.memc m).rcb.find? fun e => decide (s.chip.time ≤ e.last + ago) && e.line == key / 128 && !e.closed
     let w := (s.w.count (Reg.MEMC_RD_LINES m) 1).activateBank m pc (key / 128)
     let bs := s.w.rdBytes key (W.lineLen req)
     (comb = 0 → exec (.memcRead m req ago lat .none) s = .next (s.after (w.rdRsp req.dst req bs false))) ∧
     (comb ≠ 0 → mine = none → live.length < 64 → exec (.memcRead m req ago lat .none) s
       = .next (s.after ((w.setMemc m { w.memc m with rcb := live ++ [
          { line := key / 128, last := s.chip.time + lat + comb * 16, poison := false }] }).rdRsp req.dst req bs false))) ∧
     (comb ≠ 0 → ∀ e, mine = some e → ∀ u, exec (.memcRead m req ago lat u) s
       = .next (s.after ((s.w.count (Reg.MEMC_RCB_HITS m) 1).rdRsp req.dst req bs e.poison)))) ∧
    (let bs := req.data.take (128 - req.addr.toNat % 128)
     let w := s.w.rcbClose m (key / 128)
     (s.w.guardAllows m (bits req.addr 47 0) bs.length = true → req.poison = false → exec (.memcWrite m req .none) s
        = .next (s.after ((((w.activateBank m pc (key / 128)).wrBytes key bs).count (Reg.MEMC_WR_LINES m) 1).wrAck
            req.dst req false))) ∧
     (s.w.guardAllows m (bits req.addr 47 0) bs.length = false → exec (.memcWrite m req .none) s
        = .next (s.after (w.guardReject m pc irgn req)))) ∧
    (∀ op cmp, req.addr.toNat % 8 = 0 → s.w.guardAllows m (bits req.addr 47 0) 8 = true → req.poison = false →
      let w := (s.w.rcbClose m (key / 128)).activateBank m pc (key / 128)
      exec (.memcAtomic m req op cmp .none) s = .next (s.after ((w.memAtomic m key (requester req) op req.arg cmp).2.atRsp
        req.dst req (w64 (s.w.rdNat key 8)) false)))) ∧
  (∀ (s : State) (m : Nat), s.live = true → m < 16 →
    (∀ (a : Word) (pc irgn key : Nat), s.w.fld (Reg.MEMC_CFG m) F.MEMC_CFG_SCRUB_H ≠ 0 → s.w.memTakes m = true →
      s.w.place none (s.w.loc a) = .mem m pc irgn key → s.w.memFenced m pc = false → pc ∉ (s.w.memc m).failing →
      let w := s.w.activateBank m pc (key / 128)
      exec (.patrolScrub m a .corrected) s
        = .next (s.after ((w.setWeak m (key / 128) false).memCorrected m pc 0x1FF irgn a)) ∧
      exec (.patrolScrub m a .lost) s
        = .next (s.after ((w.setWeak m (key / 128) true).memRecord m 6 0 pc 0x1FF irgn a))) ∧
    (∀ b, exec (.refresh m b) s = .next (s.after (s.w.setMemc m { s.w.memc m with
      refreshed := Tbl.set (fun _ => 0) (s.w.memc m).refreshed b s.chip.time,
      acts := Tbl.set (fun _ => 0) (s.w.memc m).acts b 0 }))) ∧
    (∀ temp, let st := Reg.MEMC_STATUS m
      let tt := min 105 (max 70 (s.w.fld (Reg.MEMC_CFG m) F.MEMC_CFG_TTHROT))
      let w := s.w.setFld st F.MEMC_STATUS_TEMP (min temp 255)
      (temp + 5 < tt → exec (.dramTempRead m temp) s
        = .next (s.after ((w.setFlag st F.MEMC_STATUS_THROTTLE false).setFlag st F.MEMC_STATUS_TSTOP false))) ∧
      (tt ≤ temp → temp < tt + 10 → exec (.dramTempRead m temp) s
        = .next (s.after (w.setFlag st F.MEMC_STATUS_THROTTLE true)))) ∧
    (∀ (n i : Nat) (v requester : Word), n < 16 → i < 2 →
      let k := if i = 0 then Reg.MEM_IRGN_LO n else Reg.MEM_IRGN_HI n
      let w := s.w.setReg k (if i = 0 then w64 (bits v 63 49 * 2 ^ 49 + bits v 27 0) else w64 (bits v 52 0))
      exec (.memIrgnWrite n i v requester) s
        = .next (s.after (if s.w.seqIdle && w.irgnValid n then w else s.w.recordAccess 2 k requester))) ∧
    (∀ v requester, exec (.memDdrIlvWrite v requester) s = .next (s.after
      (if s.w.seqIdle then s.w.setFld Reg.MEM_DDR F.MEM_DDR_ILV (bits v 0 0)
       else s.w.recordAccess 2 Reg.MEM_DDR requester))) ∧
    (∀ c d present, c < 8 → d < 2 → s.chip.powered = true → s.chip.dimms.testBit (2 * c + d) ≠ present →
      let w : W := { s.w with c := { s.chip with dimms := flipBit s.chip.dimms (2 * c + d) } }
      let w := w.fenceChannel (8 + c) 0
      exec (.dimmPresenceChange c d present) s = .next (s.after (((w.record
        { cls := 0x0A, kind := 9, sev := 3, unit := some (8 + c), info := w.reg (Reg.MEMC_ERR_INFO (8 + c)),
          aux := w.reg (Reg.MEMC_ERR_ADDR (8 + c)) }).pend (72 + c)).pend 289))))

/-! ### Links (10) -/

/-- Frames on a fabric link: a good one is counted and its ACK and counts are taken; a DATA frame in order joins its
lane's stream, one with a bad CRC is counted and asked for again; a NAK of a held frame sends again from it, a NAK of any
other fails the port; timers send again or repeat the NAK; DOWN and DOWN_ACK leave the port DRAINED.

Completes: linkDataFrame linkNak ctrlIdle ctrlTrain ctrlPromote ctrlPromoteAck ctrlPromoteNak ctrlDown ctrlDownAck
linkReplayTimeout nakRepeatTimeout. -/
def Obligations.LinkFrames : Prop :=
  ∀ (s : State) (q : Nat) (f : LinkFrame), s.live = true → q < 64 → s.w.portLive q = true →
    (clipFrame f = f → frameForm f = true →
      let w := s.w.count (Reg.LNK_RX_FRAMES q) 1
      let a := w.takeAck q f
      (f.ftype = 1 → f.lseq = (a.port q).expect → exec (.linkDataFrame q f .none) s = .next (s.after
        ((a.setPort q { a.port q with expect := ((a.port q).expect + 1) % 2 ^ 16, missing := false }).takeData q f))) ∧
      (f.ftype = 3 → (∃ r ∈ (s.w.port q).replay, r.lseq = f.ack) → ∀ bad,
        exec (.linkNak q f .none bad) s
          = .next (s.after ((((w.noteAck q f).replayFrom q bad).pumpPort q).drainCheck q))) ∧
      (f.ftype = 3 → (∀ r ∈ (s.w.port q).replay, r.lseq ≠ f.ack) → ∀ bad,
        exec (.linkNak q f .none bad) s = .next (s.after (w.portFail q 1 0 f.ack))) ∧
      (f.ftype = 2 →
        (f.subtype = 0 → exec (.ctrlIdle q f .none) s = .next (s.after a)) ∧
        (f.subtype = 1 → exec (.ctrlTrain q f .none) s = .next (s.after (a.doTrain q f))) ∧
        (f.subtype = 2 → exec (.ctrlPromote q f .none) s = .next (s.after (a.doPromote q f))) ∧
        (f.subtype = 3 → exec (.ctrlPromoteAck q f .none) s = .next (s.after (a.doPromoteAck q))) ∧
        (f.subtype = 4 → exec (.ctrlPromoteNak q f .none) s = .next (s.after (a.doPromoteNak q))) ∧
        (f.subtype = 5 → exec (.ctrlDown q f .none) s = .next (s.after ((a.sendCtrl q 6 .none).drained q))) ∧
        (f.subtype = 6 → (a.port q).downSent = true → exec (.ctrlDownAck q f .none) s = .next (s.after (a.drained q))))) ∧
    (∀ ps, receivedFrame f (.flips ps) = none → exec (.linkDataFrame q f (.flips ps)) s
      = .next (s.after (((s.w.count (Reg.LNK_RX_FRAMES q) 1).countErr (Reg.LNK_CRC_ERR q)).nak q))) ∧
    (∀ f0 fs, (s.w.port q).replay = f0 :: fs →
      let tries := (s.w.port q).tries
      let mx := max 1 (s.w.fld (Reg.FAB_PORT_CFG q) F.FAB_PORT_CFG_RETRY_MAX)
      (tries < mx → exec (.linkReplayTimeout q none) s = .next (s.after ((f0 :: fs).foldl
        (fun w g => (w.sendFrame q g).count (Reg.LNK_REPLAYS q) 1) (s.w.setPort q { s.w.port q with tries := tries + 1 })))) ∧
      (mx ≤ tries → exec (.linkReplayTimeout q none) s = .next (s.after (s.w.portFail q 1 0 f0.lseq)))) ∧
    ((s.w.port q).missing = true → exec (.nakRepeatTimeout q) s = .next (s.after (s.w.sendFrame q { ftype := 3 })))

/-- Training of a fabric port: locked lanes send the identity, a fitting identity starts the soak, a good soak of a port
with a role makes it ACTIVE, a phase missed once starts over; an enabled port trains; FAB_TOPO is written only while every
port is DISABLED and with the device inside the torus; a FAILED or DRAINED port trains again when told, or when all its
light is back; a disabled port is reset.
Ports leaving service: a spare drains when told; loss of light or lock fails a port in service with KIND 2 or 3; a
quiet qualification window clears MARGINAL; a lifted latch is recorded and drains its eight ports; the drain's timeout
drops what is not acknowledged; the lasers of a lifted unit go off, and come on when it closes, its ports training again.

Completes: laneLock soakEnd trainingPhaseTimeout portEnable portUp lightReturn portDisable fabTopoWrite portDown lossOfLight
lossOfLock qualWindowEnd latchLift linkDrainTimeout laserOffTimeout latchClose. -/
def Obligations.PortsTrainAndLeave : Prop :=
  (∀ (s : State) (q : Nat), s.live = true → q < 64 →
    (let p := s.w.port q;
      (s.w.portState q = 1 → p.train = .lock →
        let w := (s.w.setPort q { p with train := .identity }).setFld (Reg.FAB_PORT_STATUS q) F.FAB_PORT_STATUS_LOCK 0xF
        ∀ seen, lanesAgree 4 seen = true → exec (.laneLock ⟨q, seen⟩) s = .next (s.after (w.sendCtrl q 1 (.train w.selfDev q p.dir (if p.dir = 7 then 0xFF else p.ord) 1
          ((List.range 8).map fun v => bits (s.w.reg (Reg.FAB_PORT_VLCRED q)) (8 * v + 7) (8 * v)) 256)))) ∧
      (∀ syms, s.w.portState q = 2 → p.train = .soak → (∀ n ∈ syms, n ≤ 2125000) → p.dir < 7 → p.replaced = false →
        exec (.soakEnd q syms 0) s = .next (s.after
          ((s.w.setPort q { p with train := .none, missed := false }).setPortState q 3))) ∧
      (p.train = .soak ∨ p.train = .lock → p.missed = false → exec (.trainingPhaseTimeout q) s
        = .next (s.after ((s.w.setPort q { p with train := .lock, missed := true }).setPortState q 1)))) ∧
    (∀ (f : LinkFrame) (a : W) (dev peer dir ord version depth : Nat) (shares : List Nat),
      f.args = .train dev peer dir ord version shares depth → (a.port q).train = .identity →
      a.identityOk q dev dir ord version = true →
      let o := if ord = 0xFF then 0xF else ord % 16
      let v := w64 (dev % 2 ^ 16 * 2 ^ 40 + peer % 64 * 2 ^ 34 + min 1 version * 2 ^ 30 + o * 2 ^ 26 + 2 ^ 25)
      a.doTrain q f = ((a.setReg (Reg.FAB_PORT_PEER q) v).setPort q { a.port q with train := .soak,
                                                                                    shares := shares }).setPortState q 2) ∧
    exec (.portEnable q) s
      = .next (s.after ((s.w.setFlag (Reg.FAB_PORT_CFG q) F.FAB_PORT_CFG_EN true).portTrain q)) ∧
    (s.w.flag (Reg.FAB_PORT_CFG q) F.FAB_PORT_CFG_EN = true → s.w.portDead q = false →
      let w := s.w.trainStart q
      (s.w.portState q = 6 → exec (.portUp q) s = .next (s.after w)) ∧
      (s.w.portState q = 7 → exec (.portUp q) s = .next (s.after (w.setPort q { w.port q with again := true })))) ∧
    (let w := s.w.setFld (Reg.FAB_PORT_STATUS q) F.FAB_PORT_STATUS_LOS 0;
      s.w.portState q = 7 → exec (.lightReturn q 15) s = .next (s.after (w.retrain q))) ∧
    (let w := (s.w.setFlag (Reg.FAB_PORT_CFG q) F.FAB_PORT_CFG_EN false).clearPort q
      let w := (w.setFld (Reg.FAB_PORT_STATUS q) F.FAB_PORT_STATUS_LOCK 0).setFlag (Reg.FAB_PORT_STATUS q)
        F.FAB_PORT_STATUS_MARGINAL false
      exec (.portDisable q) s = .next (s.after ((w.setPortState q 0).startReset (.port q)))) ∧
    (∀ v requester, let size := (bits v 5 0 + 1) * ((min 31 (bits v 12 8) + 1) * (min 31 (bits v 20 16) + 1))
      let keep := bits v 48 48 * 2 ^ 48 + bits v 47 32 * 2 ^ 32 + bits v 20 16 * 2 ^ 16 + bits v 12 8 * 2 ^ 8 + bits v 5 0
      ((∀ i < 64, s.w.portState i = 0) → bits v 47 32 < size → exec (.fabTopoWrite v requester) s
        = .next (s.after ((List.range 64).foldl (fun w i => w.portTrain i) (s.w.setReg Reg.FAB_TOPO (w64 keep))))) ∧
      ((∃ i < 64, s.w.portState i ≠ 0) ∨ size ≤ bits v 47 32 → exec (.fabTopoWrite v requester) s
        = .next (s.after (s.w.recordAccess 2 Reg.FAB_TOPO requester))))) ∧
  (∀ (s : State) (q n : Nat), s.live = true → q < 64 → n < 8 →
    (s.w.portState q = 4 → exec (.portDown q) s = .next (s.after ((s.w.setPortState q 5).drainCheck q))) ∧
    (∀ lanes, lanes < 16 →
      let st := Reg.FAB_PORT_STATUS q
      (s.w.portState q ∈ [1, 2, 3, 4] → s.w.lifted q = false → exec (.lossOfLight q lanes) s = .next (s.after
        (((s.w.countErr (Reg.LNK_LOS q)).setFld st F.FAB_PORT_STATUS_LOS
          (s.w.fld st F.FAB_PORT_STATUS_LOS ||| lanes)).portFail q 2 lanes 0))) ∧
      (s.w.portState q ∈ [1, 2, 3, 4, 5] → exec (.lossOfLock q lanes) s = .next (s.after
        ((s.w.setFld st F.FAB_PORT_STATUS_LOCK (s.w.fld st F.FAB_PORT_STATUS_LOCK &&& (15 - lanes))).portFail q 3 lanes 0)))) ∧
    (s.w.portState q ∈ [3, 4, 5] →
      (∀ x y, s.w.fld Reg.FAB_QUAL F.FAB_QUAL_FAIL_K * 1024 < x ∨ 100 < y →
        exec (.qualWindowEnd q [(x, y)]) s = .next (s.after (s.w.portFail q 4 1 0))) ∧
      exec (.qualWindowEnd q [(0, 0), (0, 0), (0, 0), (0, 0)]) s = .next (s.after
        (s.w.setFlag (Reg.FAB_PORT_STATUS q) F.FAB_PORT_STATUS_MARGINAL false))) ∧
    (let w := (s.w.setFlag Reg.FAB_LATCH ⟨n, n⟩ true).setFlag Reg.FAB_LATCH ⟨8 + n, 8 + n⟩ true
      let w := (w.pend 288).record { cls := 0x0B, kind := 0, sev := 0, info := w.reg Reg.FAB_LATCH }
      s.w.engineOn (8 * n) = true → exec (.latchLift n) s
        = .next (s.after (((List.range 8).foldl (fun w i => w.drainPort (8 * n + i)) w).laserCheck n))) ∧
    (s.w.portState q = 5 → exec (.linkDrainTimeout q) s
      = .next (s.after ((s.w.setPort q { s.w.port q with replay := [], out := [] }).drainCheck q))) ∧
    ((s.w.fld Reg.FAB_LATCH F.FAB_LATCH_LIFTED).testBit n = true →
      exec (.laserOffTimeout n) s = .next (s.after (s.w.setFlag Reg.FAB_LATCH ⟨16 + n, 16 + n⟩ true)) ∧
      let w := ((s.w.setFlag Reg.FAB_LATCH ⟨n, n⟩ false).setFlag Reg.FAB_LATCH ⟨8 + n, 8 + n⟩ true).setFlag Reg.FAB_LATCH
        ⟨16 + n, 16 + n⟩ false
      let w := w.pend 288
      exec (.latchClose n) s = .next (s.after ((List.range 8).foldl (fun w i =>
        if [5, 6, 7].contains (w.portState (8 * n + i)) then w.retrain (8 * n + i) else w) w))))

/-! ### Fabric network and transport (11) -/

/-- A packet in an edge router: one that breaks a rule is dropped and counted; one for this device is taken; any other
leaves by the productive port with most credit, HOPS and DL moving on, and a control packet by the escape port with credit;
one that dwells too long is dropped and counted. A
mesh request for a live device is sent as a message, one for a lost device is answered ERR_RSP cause 3; an open write
message closes when no further request comes.

Completes: fabricPacketForward fabricDwellTimeout erMeshIngress writeMessageClose. -/
def Obligations.PacketsCrossTheFabric : Prop :=
  ∀ (s : State) (h : Nat), s.live = true → h < 2 →
    (∀ k i, (s.w.router h).queue[k]? = some i →
      (s.w.fabBad i.pkt = true → exec (.fabricPacketForward h k false) s
        = .next (s.after ((s.w.takeRouter h k i).countErr (Reg.ER_PKT_BAD h)))) ∧
      (s.w.fabBad i.pkt = false → i.pkt.dst = s.w.selfDev → i.pkt.ecrcBad = false →
        exec (.fabricPacketForward h k false) s = .next (s.after ((s.w.takeRouter h k i).emit
          (.fab (if fabClass i.pkt = some 2 then h else i.pkt.splane) i.pkt)))) ∧
      (∀ cls q dir, s.w.fabBad i.pkt = false → i.pkt.dst ≠ s.w.selfDev → fabClass i.pkt = some cls → cls ≠ 2 →
        s.w.flag Reg.FAB_RT_CFG F.FAB_RT_CFG_DOR = false → s.w.adaptivePort h (3 * cls) i.pkt.dst = some (q, dir) →
        exec (.fabricPacketForward h k false) s
          = .next (s.after ((s.w.takeRouter h k i).fabOut i.pkt q dir (3 * cls)))) ∧
      (∀ q dir, s.w.fabBad i.pkt = false → i.pkt.dst ≠ s.w.selfDev → fabClass i.pkt = some 2 →
        s.w.escapePort h i.pkt = some (q, dir) →
        let v := 6 + ((s.w.dlAfter i.pkt dir).testBit (2 - dir / 2)).toNat
        s.w.laneCredit q v ≠ 0 → exec (.fabricPacketForward h k false) s
          = .next (s.after ((s.w.takeRouter h k i).fabOut i.pkt q dir v))) ∧
      exec (.fabricDwellTimeout h k) s = .next (s.after ((s.w.takeRouter h k i).count (Reg.ER_DWELL_DROP h) 1))) ∧
    (∀ t : Packet, t.mc = false →
      let dev := bits t.addr 63 48
      (t.typ ∈ [1, 3, 5, 7] → dev ∉ s.chip.peers → exec (.erMeshIngress h t) s
        = .next (s.after (s.w.errRsp (s.w.nearLanding h t.srcLand) t 3))) ∧
      (t.typ ∈ [1, 5] → dev ∈ s.chip.peers →
        let w := s.w.closeWrites h t.srcLand dev
        exec (.erMeshIngress h t) s = .next (s.after ((w.setRouter h { w.router h with
          reqs := (w.router h).reqs ++ [{ dev := dev, req := t }] }).sendMsg h dev
            { ptype := if t.typ = 1 then 2 else 3, addr := t.addr } (W.meshBody t) [])))) ∧
    (∀ land rtag, exec (.writeMessageClose h land rtag) s
      = .next (s.after (((s.w.router h).writes.filter fun o => o.land == land && o.rtag == rtag).foldl
          (fun w o => w.closeWrite h o) s.w)))

/-- A sequenced packet at its home router: from a lost device it is dropped and counted; without a context CTX_NOCTX goes
back; seen before, it is counted and acknowledged again; more than 1,023 ahead it is dropped; any other is kept, EPSN moves
past what is there, a WRITE stores its bytes, complete messages are delivered in order, and a full batch is acknowledged.

Completes: fabWrite fabRead fabAtomic fabToken fabReserve fabReadRsp fabAtomicRsp rsvAns. -/
def Obligations.SequencedPacketsArrive : Prop :=
  ∀ (s : State) (h : Nat) (t : FabPkt) (atom : Option (AtomOp × Word)) (i : Instr), s.live = true → h < 2 →
    ((atom = none ∧ ∃ e ∈ sequencedPackets, e.1 = t.ptype ∧ i = e.2 h t) ∨
      (t.ptype = 3 ∧ ∃ op cmp, atom = some (op, cmp) ∧ i = .fabAtomic h t op cmp)) →
    let done := fun (w : W) => if t.ptype = 1 then w.flushBus else w
    (t.src ∉ s.chip.peers → exec i s = .next (s.after (done (s.w.count (Reg.ER_LOST_DROP h) 1)))) ∧
    (t.src ∈ s.chip.peers →
      (s.w.rxConn h t.src = none → exec i s = .next (s.after (done (s.w.sendCtx h t.src 5)))) ∧
      (∀ c, s.w.rxConn h t.src = some c → c.isOpen = true →
        let ahead := (t.psn + 2 ^ 32 - c.epsn) % 2 ^ 32
        let again := serialLater 32 c.epsn t.psn = true ∨ t.psn ∈ c.marks
        (again → exec i s = .next (s.after (done ((s.w.count (Reg.ER_TP_DUP h) 1).sendTack h t.src)))) ∧
        (¬ again → 1024 ≤ ahead → exec i s = .next (s.after (done (s.w.count (Reg.ER_TP_OUTWIN h) 1)))) ∧
        (¬ again → ahead < 1024 →
          let m := (c.msgs.find? fun m => m.msn == t.msn).getD { msn := t.msn, got := 0, pkts := [] }
          let m := { m with got := m.got + t.len, pkts := placePkt t m.pkts, atom := if atom.isSome then atom else m.atom }
          let c := W.advance { c with marks := t.psn :: c.marks, since := c.since + 1,
                                      msgs := (c.msgs.filter fun x => x.msn != t.msn) ++ [m] } 1024
          let w := s.w.setRx h c
          let w := if t.ptype = 1 then (w.farWrite none (w.peerReq h t.src) (t.addr + w64 t.off) t.data).2 else w
          let w := w.deliverMsgs h t.src (c.msgs.length + 1)
          exec i s = .next (s.after (done (if max 1 (w.fld Reg.FAB_TP_CFG F.FAB_TP_CFG_ACK_BATCH) ≤ c.since
            then w.sendTack h t.src else w))))))

/-- Connections: a free context is opened and acknowledged, the sender then transmits; a context closes, and its sender
with it, or opens anew with what was queued meanwhile; NOCTX opens one again, every message not done from offset 0; a TACK drops what it covers and answers what is done; what is due is acknowledged;
a packet not acknowledged in time goes out again and counts; an idle connection closes; a group's reserve goes on without
late answers.

Completes: ctxOpen ctxOpenAck ctxClose ctxCloseAck ctxNoctx tack tackDelayTimeout retransmitTimeout connectionIdleTimeout
fabReserveTimeout. -/
def Obligations.FabricConnections : Prop :=
  ∀ (s : State) (h dev : Nat), s.live = true → h < 2 →
    (∀ t : FabPkt, t.src = dev → t.ptype = 7 →
      let code := leNat (t.data.take 1) % 16
      (code = 1 → s.w.rxConn h dev = none → ((s.w.router h).rx.filter fun c => c.isOpen).length < 4096 →
        exec (.ctxOpen h t) s = .next (s.after ((s.w.setRx h { dev := dev }).sendCtx h dev 2))) ∧
      (code = 2 → (s.w.txConn h dev).state = .opening → exec (.ctxOpenAck h t) s
        = .next (s.after ((s.w.setTx h { s.w.txConn h dev with state := .opened }).transmit h dev))) ∧
      (code = 3 → exec (.ctxClose h t) s = .next (s.after
        ((s.w.setRx h { dev := dev, isOpen := false, closedAt := s.chip.time }).sendCtx h dev 4))) ∧
      (let c := s.w.txConn h dev;
        (code = 4 → c.state = .closing → exec (.ctxCloseAck h t) s = .next (s.after (if c.msgs = []
          then (s.w.setTx h { dev := c.dev, otherPlane := c.otherPlane, stalled := c.stalled }).openWaiting h
          else (s.w.setTx h (W.restarted c)).openConn h dev))) ∧
        (code = 5 → c.state = .opened → exec (.ctxNoctx h t) s = .next (s.after (((s.w.setTx h (W.restarted c)).when
          (c.msgs.any fun m => m.pkts.any fun p => p.ptype == 3) fun w =>
            w.setFlag Reg.ND_STATUS F.ND_STATUS_UNBOUND true).openConn h dev))))) ∧
    (∀ t : FabPkt, t.src = dev → t.ptype = 8 → (s.w.txConn h dev).state = .opened →
      let c := s.w.txConn h dev
      let epsn := bits (payWord t.data 0) 31 0
      let done := bits (payWord t.data 0) 63 32
      (∀ p ∈ c.pkts, serialLater 32 epsn p.pkt.psn = true) →
      let w := s.w.setTx h { c with pkts := [], msgs := c.msgs.filter fun m => !serialLater 32 done m.msn,
                                    stalled := c.stalled && c.pkts.isEmpty }
      exec (.tack h t) s = .next (s.after (((c.msgs.filter fun m => serialLater 32 done m.msn).foldl
        (fun w m => w.messageDone h m) w).transmit h dev))) ∧
    (∀ c, s.w.rxConn h dev = some c → 0 < c.since → exec (.tackDelayTimeout h dev) s
      = .next (s.after (s.w.sendTack h dev))) ∧
    (∀ k p, let c := s.w.txConn h dev
      c.pkts[k]? = some p → c.state = .opened → p.sent ≠ 0 → p.sacked = false →
      s.w.fld Reg.FAB_TP_CFG F.FAB_TP_CFG_RTX_PLANE = 0 → p.sent < max 1 (s.w.fld Reg.FAB_TP_CFG F.FAB_TP_CFG_RTX_MAX) →
      exec (.retransmitTimeout h dev k) s = .next (s.after (((s.w.setTx h { c with
        pkts := c.pkts.set k { p with sent := p.sent + 1 } }).count (Reg.ER_TP_RETX h) 1).fabSend
          (if c.otherPlane then 1 - h else h) p.pkt))) ∧
    (let c := s.w.txConn h dev;
      c.state = .opened → c.pkts = [] → c.msgs = [] → s.w.fld Reg.FAB_TP_CFG F.FAB_TP_CFG_IDLE ≠ 0 →
      exec (.connectionIdleTimeout h dev) s = .next (s.after ((s.w.setTx h { c with state := .closing }).sendCtx h dev 3))) ∧
    (∀ g x, s.w.findGroup h g false = some x → exec (.fabReserveTimeout h g) s
      = .next (s.after (s.w.groupCheck h
        { x with waits := [], owed := 0, all := x.all && x.waits.isEmpty && x.owed == 0 })))

/-- Barriers and global time: a child's arrival combines, one at no entry counts; a release in time is passed on and acted
on at its time; an arrival is sent again; the local member of the commit barrier commits at T; a trigger in time is kept; a
request for the time is answered with the timestamps; the parent's answer steers the counter, sets OFFSET and LOCKED within
100 ps; a grandmaster is LOCKED to itself, any other device asks its parent.

Completes: barrierArrive barrierRelease barrierTrigger barrierArriveResend barrierActionAtT timePacket timeSync. -/
def Obligations.BarriersAndTime : Prop :=
  ∀ (s : State) (h : Nat) (t : FabPkt), s.live = true → h < 2 →
    (t.ptype = 0xB →
      let k := 16 * h + barNum t
      let T := (payWord t.data 0).toNat
      (barBop t = 1 → bit (s.w.barWord k 0) 63 = false →
        exec (.barrierArrive h t) s = .next (s.after (s.w.countErr (Reg.ER_BAR_FAULT h)))) ∧
      (∀ c, barBop t = 1 → bit (s.w.barWord k 0) 63 = true → ((s.w.barChildren k).findIdx? fun d => d == t.src) = some c →
        barPktGen t = s.w.barGen k → (s.w.bar k).got.testBit (1 + c) = false → exec (.barrierArrive h t) s
          = .next (s.after ((s.w.setBar k { s.w.bar k with got := (s.w.bar k).got + 2 ^ (1 + c) }).barCheck k))) ∧
      (barBop t = 2 → bit (s.w.barWord k 0) 63 = true → barPktGen t = s.w.barGen k →
        t.src = bits (s.w.barWord k 0) 47 32 → s.chip.time ≤ T → s.w.timeLocked = true →
        exec (.barrierRelease h t) s = .next (s.after (s.w.barRelease k T))) ∧
      (barBop t = 3 → s.w.flag Reg.SNAP_CFG F.SNAP_CFG_FAB_IN = true → s.chip.time ≤ T → T ≤ s.chip.time + 1000000000 →
        s.w.timeLocked = true → exec (.barrierTrigger t) s
          = .next { s with chip := { s.chip with snapAt := some T } })) ∧
    (∀ k, k < 32 →
      ((s.w.bar k).sent = true → exec (.barrierArriveResend k) s
        = .next (s.after (s.w.barPacket k (bits (s.w.barWord k 0) 47 32) 1 (s.w.barGen k) none))) ∧
      (∀ i T, (s.w.bar k).due = some T → T ≤ s.chip.time → s.chip.seq.img = some i → i.view.commitBar = k → s.chip.seq.phase = .fabric →
        exec (.barrierActionAtT k) s
          = .next (s.after (s.w.setBar k { s.w.bar k with due := none }).issueCommitted))) ∧
    (∀ q (rx tx : Nat), q < 64 → t.ptype = 0xC →
      let stamp := fun (i : Nat) => leNat ((t.data.drop (1 + 8 * i)).take 8)
      let off : Int := (((stamp 1 : Int) - stamp 0) + ((stamp 2 : Int) - rx)) / 2
      let k := s.chip.timeKeep
      let w : W := { s.w with c := { s.chip with
        time := if k.stepped then s.chip.time else ((s.chip.time : Int) + off / 1000).toNat,
        timeKeep := { stepped := true, delay := (((rx : Int) - stamp 0) - ((stamp 2 : Int) - stamp 1)) / 2,
                      owed := if k.stepped then off else off % 1000 } } }
      let w := w.setFld Reg.FAB_TIME_STATUS F.FAB_TIME_STATUS_OFFSET (unsigned 16 (max (-32768) (min 32767 off)))
      (t.data.headD 0 = 0 → s.w.portState q = 3 → exec (.timePacket q t rx tx) s = .next (s.after (s.w.sendTime q
        (byte 1 :: leBytes 8 (stamp 0) ++ leBytes 8 rx ++ leBytes 8 tx)))) ∧
      (t.data.headD 0 ≠ 0 → s.w.flag Reg.FAB_TIME_CFG F.FAB_TIME_CFG_GM = false → s.w.parentPort = some q →
        k.waiting = true → exec (.timePacket q t rx tx) s
          = .next (s.after (w.setTimeState (if -100 ≤ off ∧ off ≤ 100 then 2 else 1))))) ∧
    (s.w.flag Reg.FAB_TIME_CFG F.FAB_TIME_CFG_GM = true → exec .timeSync s = .next (s.after
      (({ s.w with c := { s.chip with timeKeep := { stepped := true } } } : W).setTimeState 2))) ∧
    (∀ q, s.w.flag Reg.FAB_TIME_CFG F.FAB_TIME_CFG_GM = false → s.w.fld Reg.FAB_TIME_CFG F.FAB_TIME_CFG_PARENT_DIR ≠ 7 →
      s.w.parentPort = some q → s.chip.timeKeep.waiting = false → s.chip.timeKeep.missed < 4 → s.w.timeState ≠ 0 →
      exec .timeSync s = .next (s.after (({ s.w with c := { s.chip with timeKeep :=
        { s.chip.timeKeep with waiting := true } } } : W).sendTime q (byte 0 :: leBytes 8 (s.chip.time * 1000)))))

/-- Orders: one that is complete in its packet is taken up, one for another device goes on, an assembly that is too slow is
dropped and counted. The oldest order of a TYPE, if it is valid and newer than the last one, sets FAB_ORDER_NO and has its
effect; a bad one is rejected.

Completes: orderPacket orderAssemblyTimeout orderExpel orderPeerLost orderPeerMap orderReadmit orderReturn orderKeyset. -/
def Obligations.SignedOrders : Prop :=
  ∀ s : State, s.live = true →
    (∀ (h : Nat) (t : FabPkt), h < 2 → t.ptype = 0xD →
      (t.dst ≠ s.w.selfDev → exec (.orderPacket h t) s = .next (s.after (s.w.fabSend h t))) ∧
      (t.dst = s.w.selfDev → t.mlen ≤ 524288 → s.chip.orderAsm = [] → t.off = 0 → t.data.length = t.mlen →
        exec (.orderPacket h t) s = .next (s.after ((s.w.pend (145 + 4 * h)).orderArrive h t.data)))) ∧
    (∀ k a, s.chip.orderAsm[k]? = some a → exec (.orderAssemblyTimeout k) s = .next (s.after
      (({ s.w with c := { s.chip with orderAsm := s.chip.orderAsm.eraseIdx k } } : W).countErr (Reg.ER_ORDER_REJ a.via)))) ∧
    (∀ o typ, (s.chip.orders.find? fun o => orderType o.1 == typ) = some o →
      orderNo o.1 ≠ (s.w.reg Reg.FAB_ORDER_NO).toNat →
      let w1 : W := { s.w with c := { s.chip with orders := s.chip.orders.erase o } }
      let w := (w1.setReg Reg.FAB_ORDER_NO (w64 (orderNo o.1))).flashPut (.orderNo (orderNo o.1))
      let b := orderBody o.1
      let verdict := fun (effect : W) =>
        s.after (if w1.orderValid o.2 o.1 = true then effect else w1.orderReject o.2 (orderNo o.1))
      (typ = 1 → exec .orderExpel s = .next (verdict (w.expel (orderNo o.1)))) ∧
      (typ = 2 → exec .orderPeerLost s = .next (verdict (w.peerLost (lostDevices b)))) ∧
      (typ = 3 → exec .orderPeerMap s = .next (verdict (w.newPeers (field b 0 4) (bitmapDevices (b.drop 8))))) ∧
      (typ = 4 → exec .orderReadmit s = .next (verdict w.readmit)) ∧
      (typ = 5 → exec .orderReturn s = .next (verdict w.returnToService)) ∧
      (typ = 6 → exec .orderKeyset s = .next (verdict (w.flashPut (.keys (field b 1 1) (newKeys b))))))

/-! ### Host link and rings (12), audit and digests (13) -/

/-- The coherent link: enabled it trains, disabled it is DISABLED; with its 16 lanes locked the identity goes out, the far
end's answer begins the soak, and a good soak brings it UP and sends what was held; a failure in service is recorded and it
trains again; if it stays down, a device warm reset of cause 2 starts. A completion ring with records that no EVENT told gets
one when its time is up.

Completes: sclLinkEnable, sclLinkFail, laneLock, ctrlTrain, soakEnd, sclDownTimeout, cplModerationTimeout. -/
def Obligations.HostLinkComesAndGoes : Prop :=
  ∀ s : State, s.live = true →
    (s.w.flag Reg.SCL_CFG F.SCL_CFG_EN = false →
      let w := s.w.setFlag Reg.SCL_CFG F.SCL_CFG_EN true
      exec (.sclLinkEnable true) s
        = .next (s.after ((w.setHost { w.c.host with train := .lock, missed := false }).setSclState 1))) ∧
    (s.w.flag Reg.SCL_CFG F.SCL_CFG_EN = true →
      let w := s.w.setFlag Reg.SCL_CFG F.SCL_CFG_EN false
      exec (.sclLinkEnable false) s = .next (s.after (((w.setHost
        { w.c.host with train := .none, missed := false, lines := [], link := W.sclRestart w.c.host.link }).setFld
        Reg.SCL_STATUS F.SCL_STATUS_VERSION 0).setSclState 0))) ∧
    (∀ seen, s.chip.host.train = .lock → lanesAgree 16 seen = true →
      exec (.laneLock ⟨64, seen⟩) s = .next (s.after (((s.w.setSclState 1).sclPhase .identity).sclIdentity))) ∧
    (∀ f u g port order device version shares depth, s.chip.host.train = .identity → s.w.sclState = 1 →
      receivedFrame f u = some g → g.ftype = 2 → g.args = .train 1 port order device version shares depth → 1 ≤ version →
      let w := ((s.w.sclAck g).sclPhase .soak).setFld Reg.SCL_STATUS F.SCL_STATUS_VERSION 1
      exec (.ctrlTrain 64 f u) s = .next (s.after
        ((w.setHost { w.c.host with link := { w.c.host.link with shares := shares } }).setSclState 2))) ∧
    (∀ syms : List Nat, s.chip.host.train = .soak → (∀ n ∈ syms, n ≤ 2125000) →
      exec (.soakEnd 64 syms 0) s
        = .next (s.after ((((s.w.sclPhase .none).setReg Reg.SCL_FAULT_INFO 0).setSclState 3).sclRelease))) ∧
    (∀ kind lanes lseq, s.w.sclState = 3 → kind ≠ 5 →
      let w := (s.w.setSclState 4).sclNote kind lanes lseq 3
      exec (.sclLinkFail kind lanes lseq) s = .next (s.after (w.setHost
        { w.c.host with train := .lock, missed := false, lines := [], link := W.sclRestart w.c.host.link }))) ∧
    (s.w.sclUp = false → s.w.flag Reg.SCL_CFG F.SCL_CFG_EN = true → s.w.flag Reg.SCL_FAULT_INFO F.SCL_FAULT_INFO_VALID = true →
      s.w.fld Reg.SCL_FAULT_INFO F.SCL_FAULT_INFO_KIND < 8 → s.w.fld Reg.BOOT_STATUS F.BOOT_STATUS_STATE ∈ [1, 2] →
      s.chip.resets = [] → exec .sclDownTimeout s = .next (s.after (s.w.startWarm 2))) ∧
    (∀ c, c < 64 → (s.w.cplRing c).since ≠ 0 → s.w.fld (Reg.SCL_CPR_CFG c) F.SCL_CPR_CFG_MOD_US ≠ 0 →
      exec (.cplModerationTimeout c) s = .next (s.after ((s.w.setCplRing c { s.w.cplRing c with since := 0 }).sclEvent
        (s.w.fld (Reg.SCL_CPR_CFG c) F.SCL_CPR_CFG_VECTOR)
        (if s.w.errRing = some c then 2 else 1) c)))

/-- Messages of the host: a read that memory answers returns the line, a write stores the line, FLUSH is answered, a snoop
answers whether the line was held and drops it, an answer goes to what asked: an accept, a completion, a FINISH, an error
record, a line of a transfer or of a ring; a doorbell inside its ring moves the ring, one outside counts in SCL_DB_BAD.

Completes: hrd, hwr, flush, snpInv, sclData, sclCmp, sclErr, sclCmdDb, sclCplDb. -/
def Obligations.HostMessagesAreServed : Prop :=
  ∀ (s : State) (m : SclMsg), s.live = true →
    (msgOk 0x11 m = true → bits m.line 63 48 = 0 → ∀ (part : Option (Nat × Nat)) bs w,
      let o := (part.getD (0, 64)).1
      s.w.farLine none (w64 0x1FF) (s.w.loc (m.line + w64 o)) (part.getD (0, 64)).2 = (.ok bs false, w) →
      exec (.hrd m part) s = .next (s.after (w.sclSend
        { mtype := 0x31, tag := m.tag, line := m.line,
          data := (List.replicate o 0 ++ bs ++ List.replicate 64 0).take 64 }))) ∧
    (msgOk 0x12 m = true → bits m.line 63 48 = 0 → m.masked = false → ∀ bs p w,
      s.w.farPut none (w64 0x1FF) (s.w.loc (m.line + w64 0)) (m.data.take 64) = (.ok bs p, w) →
      exec (.hwr m) s = .next (s.after w.flushBus)) ∧
    (msgOk 0x13 m = true → exec (.flush m) s
      = .next (s.after (s.w.sclSend { mtype := 0x32, tag := m.tag, line := m.line }))) ∧
    (msgOk 0x21 m = true →
      let a := m.line.toNat
      let held := s.chip.host.lines.contains a
      let coming := (s.chip.host.ops.filter fun o => o.2 == .shared a).map (·.1)
      let w := s.w.setHost { s.chip.host with lines := s.chip.host.lines.filter (· ≠ a), snooped := coming ++ s.chip.host.snooped }
      let w := (w.count Reg.SCL_SNOOPS 1).sclSendOn 4
        { mtype := Config.snpRspType, tag := m.tag, arg := held.toNat, line := m.line }
      exec (.snpInv m) s = .next (s.after (if held && w.slotWanted a then w.sclRequest 1 a [] (.shared a) else w))) ∧
    (msgOk 0x31 m = true → ∀ a, (s.w.takeOp m.tag).1 = some (.shared a) → m.tag ∉ s.chip.host.snooped →
      exec (.sclData m) s = .next (s.after ((s.w.takeOp m.tag).2.keepLine a).flushBus)) ∧
    (msgOk 0x31 m = true → ∀ j o d bs w, (s.w.takeOp m.tag).1 = some (.dmaIn j o) → (s.w.takeOp m.tag).2.desc j = some d →
      (s.w.takeOp m.tag).2.farPut none (w64 0x1FF) ((s.w.takeOp m.tag).2.loc (d.devAddr + w64 o)) (m.data.take 64)
        = (.ok bs false, w) → exec (.sclData m) s = .next (s.after (w.lineDone j).flushBus)) ∧
    (msgOk 0x32 m = true →
      let w := (s.w.takeOp m.tag).2
      (∀ j, (s.w.takeOp m.tag).1 = some (.accept j) → exec (.sclCmp m) s = .next (s.after (w.accepted j))) ∧
      (∀ j d, (s.w.takeOp m.tag).1 = some (.completion j) → w.desc j = some d → exec (.sclCmp m) s
        = .next (s.after (((w.setDesc { d with phase := .finWait }).cplWritten d.cpr).pump))) ∧
      (∀ j, (s.w.takeOp m.tag).1 = some (.finish j) → exec (.sclCmp m) s = .next (s.after (w.finished j))) ∧
      (∀ j d, (s.w.takeOp m.tag).1 = some (.failRec j) → w.desc j = some d →
        exec (.sclCmp m) s = .next (s.after (w.setDesc { d with failRec := 3 }).tryCommit)) ∧
      (∀ c, (s.w.takeOp m.tag).1 = some (.errRec c) → exec (.sclCmp m) s = .next (s.after (w.cplWritten c))) ∧
      (∀ j o, (s.w.takeOp m.tag).1 = some (.dmaOut j o) → exec (.sclCmp m) s = .next (s.after (w.lineDone j)))) ∧
    (msgOk 0x33 m = true → ∀ j o, (s.w.takeOp m.tag).1 = some (.dmaIn j o) →
      exec (.sclErr m) s = .next (s.after (((s.w.takeOp m.tag).2.copyFail j 2).lineDone j))) ∧
    (∀ r v, r < 64 → v < 2 ^ 32 →
      let x := s.w.cmdRing r
      let owed := s.chip.host.descs.filter fun d =>
        d.ring == r && !([DPhase.writing, .finWait, .finishing].contains d.phase)
      let oldest := match owed.head? with | some d => d.index | none => x.next
      let bad := serialLater 32 x.prod v = true ∨ 2 ^ s.w.crLog r < (v + 2 ^ 32 - oldest % 2 ^ 32) % 2 ^ 32
      (¬ bad → exec (.sclCmdDb r v) s
        = .next (s.after ((s.w.setCmdRing r { x with prod := v, armed := true }).pend (152 + r)))) ∧
      (bad → let w := s.w.countErr Reg.SCL_DB_BAD
        exec (.sclCmdDb r v) s = .next (s.after (w.record
          { cls := 0x0D, kind := 0xB, sev := 0, info := w.reg Reg.SCL_FAULT_INFO, aux := w64 v }))) ∧
      exec (.sclCplDb r v) s = .next (s.after
        (((s.w.setCplRing r { s.w.cplRing r with ci := v, armed := true }).pend (216 + r)).pump)))

/-- Descriptors: the next one of a ring that may accept is read, checked and journalled. Accepted and at its turn, NOP and
DESC_FENCE complete, STOP completes in STOPPED, RESUME, UNLOAD, ABORT and DRAIN act on the sequencer and complete, STEPS
raises the run limit, a copy starts in its step, RESULT goes to the host after its commit, a DIGEST is taken up and its
output goes to the host, REMAP and DEFECTS answer, and a LOAD of a good header and a REPLACE begin.

Completes: nop, descFence, stop, resume, unload, abort, drain, steps, copyIn, copyOut, result, digest, digestDone, remap,
defects, load, replace. -/
def Obligations.DescriptorsAct : Prop :=
  ∀ (s : State) (j : Nat) (d : Desc), s.live = true → d.status = 0 →
    (s.w.mayAct j 1 = some d → exec (.nop j) s = .next (s.after (s.w.complete j 0 0 0))) ∧
    (s.w.mayAct j 0xC = some d → (∀ e ∈ s.chip.host.descs, j ≤ e.jsn) →
      exec (.descFence j) s = .next (s.after (s.w.complete j 0 0 0))) ∧
    (s.w.mayAct j 7 = some d → s.w.seqState = stStopped → exec (.stop j) s = .next (s.after (s.w.complete j 0 0 0))) ∧
    (s.w.mayAct j 8 = some d → s.w.mayResume = true →
      exec (.resume j) s = .next (s.after (s.w.doSeqResume.complete j 0 0 0))) ∧
    (s.w.mayAct j 9 = some d → s.w.seqState = stStopped →
      exec (.unload j) s = .next (s.after (s.w.doSeqUnload.complete j 0 0 0))) ∧
    (s.w.mayAct j 0xA = some d → s.w.seqState = stRun →
      exec (.abort j) s = .next (s.after (s.w.orderAbort.complete j 0 0 0))) ∧
    (s.w.mayAct j 0xB = some d → s.w.seqState = stRun →
      exec (.drain j) s = .next (s.after (s.w.orderDrain.complete j 0 0 0))) ∧
    (s.w.desc j = some d → d.phase = .accepted →
      (d.opcode = 4 → (∀ e ∈ s.chip.host.descs, e.opcode = 4 → j ≤ e.jsn) →
        let w := s.w.setDesc { d with phase := .acting }
        exec (.steps j) s = .next (s.after ((w.setSeq { s.chip.seq with
          runLimit := s.chip.seq.runLimit + bits (d.words.getD 1 0) 31 0 }).jobLine.tryStart))) ∧
      (d.bound = true → d.start = s.w.stepNo → s.chip.seq.phase = .run → s.w.seqState = stRun →
        (d.opcode = 5 → exec (.copyIn j) s = .next (s.after (s.w.copyStart j))) ∧
        (d.opcode = 6 → exec (.copyOut j) s = .next (s.after (s.w.copyStart j)))) ∧
      (d.opcode = 0x18 → d.step ≠ 0 → exec (.result j) s = .next (s.after (s.w.outBytes j d.buf))) ∧
      (s.w.digestReady d = true → (∀ e ∈ s.chip.host.descs, e.opcode ≠ 0x19 ∨ (e.phase ≠ .acting ∧ j ≤ e.jsn)) →
        exec (.digest j) s = .next (s.after (s.w.setDesc { d with phase := .acting })))) ∧
    ((s.chip.host.descs.find? fun d => d.opcode == 0x19 && d.phase == .acting && d.buf == []) = some d → d.bound = false →
      let a := (d.words.getD 1 0).toNat
      let n := (d.words.getD 2 0).toNat
      ∀ bs w, s.w.digestRead ((List.range (n / 128)).map fun i => a + 128 * i) = ((bs, none, false), w) →
      let leaf := fun (i : Nat) => (bs.drop (4096 * i)).take 4096
      exec (.digestDone none) s = .next (s.after (((w.pend 296).setDesc { d with detail := w64 n, step := 0 }).outBytes d.jsn
        ((digestOf n leaf ++ List.replicate 64 0).take 64)))) ∧
    (s.w.mayAct j 0x20 = some d →
      let r := s.w.remapNow (d.words.getD 1 0)
      exec (.remap j) s = .next (s.after (r.2.2.complete j r.1 (w64 r.2.1) 0))) ∧
    (s.w.mayAct j 0x21 = some d → exec (.defects j) s
      = .next (s.after ((s.w.setDesc { d with detail := w64 s.chip.flash.gen }).outBytes j s.chip.flash.mapCopy))) ∧
    (s.w.mayAct j 2 = some d → s.w.seqState = stIdle → s.w.flag Reg.SEQ_CFG F.SEQ_CFG_EN = true →
      bit (d.words.getD 3 0) 8 = false →
      let w := s.w.setDesc { d with phase := .acting }
      ∀ u, let hd := w.devRead (d.words.getD 1 0) 16 u
      let img := hd.2.devRead (d.words.getD 1 0) (max 256 (leNat ((hd.1.drop 8).take 8)))
      let h := fun (o n : Nat) => leNat ((img.1.drop o).take n)
      headerOk img.1 = true →
      ∃ t i, exec (.load j u) s = .next t ∧ t.w.seqState = stLoading ∧ t.chip.seq.phase = .digest ∧ t.chip.seq.img = some i ∧
        i.addr = d.words.getD 1 0 ∧ i.digest = (img.1.drop 0x30).take 64 ∧ i.commitBase = w64 (h 0x20 8) ∧ i.view = imageView img.1 ∧
        t.chip.seq.load = some { start := (d.words.getD 2 0).toNat, place := bits (d.words.getD 3 0) 7 0,
                                 init := bits (d.words.getD 3 0) 63 32, jsn := j, bytes := img.1.length }) ∧
    (∀ forward i, s.w.mayAct j 3 = some d → s.w.seqState = stStopped → s.chip.seq.img = some i →
      let want := bits (d.words.getD 1 0) 7 0
      let w := (s.w.setDesc { d with phase := .acting }).setSeq
        { s.chip.seq with load := some { start := 0, place := want, init := 0, jsn := j, bytes := 0 } }
      exec (.replace j forward) s = .next (s.after (w.finishLoad want none forward stStopped)))

/-- DESCRIPTOR_ACCEPT of a ring that may accept: a slot of the other phase is only read; one of this phase, in order, takes
the next JSN and completion slot, and an ACCEPT record with the status of its checks goes to the journal; the digest block
of a RESULT is read before.

Completes: descriptorAccept. -/
def Obligations.DescriptorsAreAccepted : Prop :=
  ∀ (s : State) (r : Nat) (bs : List Byte) (blk : Option (List Byte)), s.live = true → r < 64 →
    let cr := s.w.cmdRing r
    let c := s.w.fld (Reg.SCL_CR_CFG r) F.SCL_CR_CFG_CPR
    let ring := s.w.cplRing c
    s.w.sclUp = true → s.w.flag Reg.SCL_JRNL_CFG F.SCL_JRNL_CFG_EN = true →
    s.w.flag (Reg.SCL_CR_CFG r) F.SCL_CR_CFG_EN = true → cr.armed = true → ring.armed = true →
    s.w.flag (Reg.SCL_CPR_CFG c) F.SCL_CPR_CFG_EN = true → cr.next ≠ cr.prod → s.w.sclTag.isSome = true → s.w.jrnlRoom = true →
    (∀ e ∈ s.chip.host.descs, e.ring = r → e.phase ≠ .accepting) →
    (ring.next + 2 ^ 32 - ring.ci) % 2 ^ 32 < 2 ^ s.w.cprLog c →
    (∀ e ∈ s.chip.host.descs, e.cpr = c → (ring.next + 2 ^ 32 - e.cslot) % 2 ^ 32 < 2 ^ s.w.cprLog c) →
    let w := (s.w.sclSend { mtype := 1, tag := s.w.sclTag.getD 0, line := w64 (s.w.slotLine r) }).keepLine (s.w.slotLine r)
    let ws := (List.range 8).map (payWord bs)
    (bits (ws.getD 0 0) 16 16 ≠ phaseBit (s.w.crLog r) cr.next →
      exec (.descriptorAccept r (some bs) blk) s = .next (s.after w)) ∧
    (bits (ws.getD 0 0) 16 16 = phaseBit (s.w.crLog r) cr.next →
      let w := w.when (bits (ws.getD 0 0) 7 0 == 0x18) fun w => [0, 64].foldl (fun w o =>
        w.sclSend { mtype := 2, tag := w.sclTag.getD 0, line := w64 ((ws.getD 2 0).toNat / 64 * 64 + o) }) w
      let (status, bound, start, target) := w.precheck ws blk
      let d : Desc := { jsn := w.c.host.jsn, ring := r, index := cr.next, cpr := c, cslot := ring.next, words := ws,
                        bound := bound, start := start, target := target, dcrc := crc32c (bs.take 64), status := status,
                        buf := if bits (ws.getD 0 0) 7 0 = 0x18 then blk.getD [] else [] }
      let w := (w.setCmdRing r { cr with next := (cr.next + 1) % 2 ^ 32 }).setCplRing c
        { ring with next := (ring.next + 1) % 2 ^ 32 }
      let w := w.setHost { w.c.host with descs := w.c.host.descs ++ [d] }
      exec (.descriptorAccept r (some bs) blk) s
        = .next (s.after (w.jrnlWrite d 1 status start target (.accept d.jsn))))

/-! ### Self-test (14) -/

/-- Self-test: a tick of a rotation that is on takes the half's next target; an element that ends is judged by its
signature, one that runs over by its limit; a TEST descriptor at its turn begins its test or completes with its status. The
test access port shifts out identification, boundary cells and results, selects bypass, and takes TEST while it is open; closed, it
selects bypass for these.

Completes: rotationTick, stElementDone, stElementTimeout, testGallery, testGalleryNow, testLanding, testStairLink,
testEdgeRouter, testDevice, testHbmStack, testDdr5Channel, extest, samplePreload, idcode, clamp, highz, bypass,
testLogicReset, stCmd, stResult. -/
def Obligations.SelfTests : Prop :=
  ∀ s : State, s.live = true →
    (∀ h, h < 2 → s.w.rotating h = true →
      let w := s.w.pend 293
      w.halfTest h = none → w.fld (Reg.ST_HALF h) F.ST_HALF_STATE = 1 →
      let r := w.startHalf h true
      exec (.rotationTick h) s = .next (s.after (if r.fld (Reg.ST_HALF h) F.ST_HALF_STATE = 5 ∧ r.spared h = true ∧
        (r.halfTest h).isNone = true then r.idleHalf h else r))) ∧
    (∀ elem unit r, let r' : ElemResult := { r with expected := if isMarch elem then 0 else r.expected }
      exec (.stElementDone elem unit r) s
        = .next (s.after (s.w.elementEnds elem unit (if r'.sig = r'.expected then 0 else 1) r'))) ∧
    (∀ elem unit, let n := s.w.noResult
      let k := n.2.draw
      let d := k.2.draw
      exec (.stElementTimeout elem unit) s = .next (s.after (d.2.elementEnds elem unit 2
        { n.1 with key := k.1, detail := d.1, duration := elemBudget elem * 11 / 10 }))) ∧
    (∀ scope j i d, TestCommand scope j i → s.w.mayAct j 0x10 = some d → d.status = 0 → bits (d.words.getD 1 0) 7 0 = scope →
      (d.words.getD 2 0).toNat % 64 = 0 →
      let r := (s.w.setDesc { d with phase := .acting }).startTest scope (bits (d.words.getD 1 0) 31 16)
        (bit (d.words.getD 1 0) 32) (bits (d.words.getD 4 0) 15 0) (d.words.getD 5 0) (some j) 2
      exec i s = .next (s.after (if r.1 = 0 then r.2 else r.2.complete j r.1 0 0))) ∧
    (let b := s.w.drawBytes 8;
      exec .extest s = .next (s.after (b.2.tapOut 0 b.1)) ∧ exec .samplePreload s = .next (s.after (b.2.tapOut 2 b.1))) ∧
    exec .idcode s = .next (s.after (s.w.tapOut 1
      (leBytes 4 (2 ^ 28 + s.chip.fuses.part * 2 ^ 12 + 0x2B5 * 2 + 1)))) ∧
    exec .clamp s = .next (s.after (s.w.setTap 3)) ∧ exec .highz s = .next (s.after (s.w.setTap 4)) ∧
    exec .bypass s = .next (s.after (s.w.setTap 0xFF)) ∧ exec .testLogicReset s = .next (s.after (s.w.setTap 1)) ∧
    (s.w.tapOpen = false → (∀ ws : List Word, exec (.stCmd ws) s = .next (s.after (s.w.setTap 0xFF))) ∧
      exec .stResult s = .next (s.after (s.w.setTap 0xFF))) ∧
    (s.w.tapOpen = true →
      (∀ ws : List Word, exec (.stCmd ws) s = .next (s.after ((s.w.setTap 0x20).startTest (bits (ws.getD 1 0) 7 0)
        (bits (ws.getD 1 0) 31 16) (bit (ws.getD 1 0) 32) (bits (ws.getD 4 0) 15 0) (ws.getD 5 0) none 3).2)) ∧
      (let head := s.w.fld Reg.ST_LOG_HEAD ⟨31, 0⟩
       let n := max s.chip.test.tapRead (head - 8192)
       n < head → exec .stResult s = .next (s.after ((s.w.setTest { s.chip.test with tapRead := n + 1 }).tapOut 0x21
         (wordBytes (s.w.regWords (Reg.ST_LOG (8 * (n % 8192))) 8))))))

/-! ### Faults, interrupts, control processors (15, 20) -/

/-- An interrupt that a processor takes enters its handler when IE is set, and only ends WFI when not; a claim answers the
source at the running priority and clears it; triggers, software interrupts and timers pend their sources; moderation ends;
a processor is released at VBASE + 0x400 or held.

Completes: interruptDelivery, icClaim, sourceTrigger, softwareInterrupt, cpTimer, moderationTimeout, cpRelease, cpHold,
cpWdEnable, cpWdKick, cpWdExpiry. -/
def Obligations.InterruptsAreDelivered : Prop :=
  ∀ (s : State) (n : Nat), s.live = true → n < 4 →
    (∀ id, s.w.cpTakes n = true → (s.w.cp n).wait = .run → s.w.bestSource n = some id →
      (s.w.flag (Reg.IC_CP_STATUS n) F.IC_CP_STATUS_IE = false → exec (.interruptDelivery n) s
        = .next (s.after (s.w.setFlag (Reg.IC_CP_STATUS n) F.IC_CP_STATUS_WFI false))) ∧
      (s.w.flag (Reg.IC_CP_STATUS n) F.IC_CP_STATUS_IE = true → exec (.interruptDelivery n) s
        = .next (s.after (if n = 1 then (s.w.enterHandler n id).cp1Handler
            else if n = 3 then (s.w.enterHandler n id).streamRecords else s.w.enterHandler n id)))) ∧
    (∀ id, (W.srcIds.find? fun id => s.w.srcUp n id && s.w.runPri n == some (s.w.srcPrio n id)) = some id →
      let c := s.w.cp n
      let w := s.w.setCp n { c with given := c.given.map fun g => if g = id then 0x3FF else g }
      exec (.icClaim n) s = .next (s.after ((w.setReg (srcReg n id) (putBit (w.reg (srcReg n id)) 31 false)).emit
        (.value (Reg.IC_CP_CLAIM n) (w64 id))))) ∧
    ((W.srcIds.find? fun id => s.w.srcUp n id && s.w.runPri n == some (s.w.srcPrio n id)) = none →
      exec (.icClaim n) s = .next (s.after (s.w.emit (.value (Reg.IC_CP_CLAIM n) 0x3FF)))) ∧
    (∀ id, id < 576 → exec (.sourceTrigger n id) s
      = .next (s.after (if id < 64 then s.w.pendPriv n id else s.w.pend id))) ∧
    (∀ v : Word, exec (.softwareInterrupt n v) s
      = .next (s.after ((setBitsBelow 16 v.toNat).foldl (fun w i => w.pendPriv n i) s.w))) ∧
    exec (.cpTimer n) s = .next (s.after (s.w.pendPriv n 16)) ∧
    (∀ m, 1 ≤ m → m ≤ 7 → exec (.moderationTimeout n m) s
      = .next { s with chip := { s.chip with modRun := s.chip.modRun.filter (· ≠ 8 * n + m) } }) ∧
    (n ≠ 0 →
      (s.w.flag (Reg.IC_CP_CTL n) F.IC_CP_CTL_RUN = false →
        let w := (s.w.cpReset n).setFlag (Reg.IC_CP_CTL n) F.IC_CP_CTL_RUN true
        exec (.cpRelease n) s
          = .next (s.after (w.setHpc (.cp n) (bits (w.reg (Reg.IC_CP_VBASE n)) 18 10 * 1024 + 0x400)))) ∧
      (s.w.flag (Reg.IC_CP_CTL n) F.IC_CP_CTL_RUN = true → exec (.cpHold n) s
        = .next (s.after ((s.w.cpReset n).setFlag (Reg.IC_CP_CTL n) F.IC_CP_CTL_RUN false)))) ∧
    (∀ period, exec (.cpWdEnable n period) s = .next (s.after (((s.w.setFlag (Reg.CP_WD n) F.CP_WD_EN true).setFld
      (Reg.CP_WD n) F.CP_WD_PERIOD period).setKick n))) ∧
    exec (.cpWdKick n) s = .next (s.after (s.w.setKick n)) ∧
    (s.w.flag (Reg.CP_WD n) F.CP_WD_EN = true → s.chip.resets = [] → s.chip.warmWait = none →
      Tbl.get (fun _ => 0) s.chip.kicks n + max 1 (s.w.fld (Reg.CP_WD n) F.CP_WD_PERIOD) * 1000000 ≤ s.w.uptime →
      exec (.cpWdExpiry n) s = .next (s.after ((s.w.rstRecord 0xB n 5 0).selfWarm 3)))

/-- Fences and spares: a fenced gallery stops issuing; its fence is lifted only after a gallery reset and a passing test;
the reload of a spare that succeeds ends the remap with its record, one that fails costs the spare.

Completes: galFenceSet, galUnfence, spareReloadDone. -/
def Obligations.FencesAndSpares : Prop :=
  ∀ (s : State) (p : Nat), s.live = true → p < 312 →
    exec (.galFenceSet p) s = .next (s.after (s.w.fenceIsland p)) ∧
    (s.w.fenceIsland p).galRuns p = false ∧
    (∀ requester, (p ∈ s.chip.wasReset → s.w.passedAt p ≠ 0 → exec (.galUnfence p requester) s
        = .next (s.after (s.w.liftFence p))) ∧
      (p ∉ s.chip.wasReset ∨ s.w.passedAt p = 0 → exec (.galUnfence p requester) s
        = .next (s.after (s.w.recordAccess 2 (Reg.GAL_FENCE p) requester)))) ∧
    (∀ r rest, s.chip.seq.remaps = r :: rest → r.spare ≠ 0x1FF →
      (let w := (s.w.reloadSpare r.g r.spare).setPstate r.spare 0
       let w := w.setSeq { w.c.seq with remaps := rest, placed := r :: w.c.seq.placed }
       let w := ((w.count Reg.FLT_REMAPS 1).capRecord 1 (r.spare + r.attempt % 8 * 512) r.old none).saveMap
       exec (.spareReloadDone 0) s = .next (s.after w.writeDistances.remap)) ∧
      (∀ cause, cause ≠ 0 → exec (.spareReloadDone cause) s = .next (s.after (((s.w.setSeq
        { s.chip.seq with remaps := { r with spare := 0x1FF } :: rest }).spareFails r.spare cause).remap))))

/-! ### Resets and recovery (16) -/

/-- Resets: one that is ordered with none in its way begins, and takes effect when it completes, with a record of its time;
one that runs over isolates its unit; a half reset leaves the half's ports DISABLED and its router empty; a warm reset
ordered in service starts, one ordered before READY is refused; a switch that does not open resets the half.

Completes: coreReset, galleryReset, lndReset, halfReset, deviceWarmReset, isolationSwitchTimeout, resetComplete,
resetTimeout. -/
def Obligations.ResetsBeginAndEnd : Prop :=
  ∀ (s : State) (p : Nat), s.live = true → p < 312 →
    (s.chip.resets = [] →
      (∀ a, a < 16 → s.w.flag (Reg.GAL_FENCE p) F.GAL_FENCE_FENCED = true → ∀ requester,
        exec (.coreReset p (2 ^ a) requester) s = .next (s.after ((s.w.setResets []).startReset (.core p a)))) ∧
      exec (.galleryReset p) s = .next (s.after (((s.w.setResets []).startReset (.gallery p)).dropReceiver p)) ∧
      exec (.lndReset p) s = .next (s.after ((s.w.setResets []).startReset (.landing p))) ∧
      (∀ h, h < 2 → ∃ t, exec (.halfReset h) s = .next t ∧ t.w.router h = {} ∧
        ∀ i < 32, t.w.portState (32 * h + i) = 0) ∧
      (∀ requester, (∀ cause ∈ [2, 5], exec (.deviceWarmReset cause requester) s = .next (s.after (s.w.startWarm cause))) ∧
        (s.w.fld Reg.BOOT_STATUS F.BOOT_STATUS_STATE ∈ [1, 2, 3] →
          exec (.deviceWarmReset 1 requester) s = .next (s.after (s.w.startWarm 1))) ∧
        (s.w.fld Reg.BOOT_STATUS F.BOOT_STATUS_STATE ∈ [0, 4, 5] →
          exec (.deviceWarmReset 1 requester) s = .next (s.after (s.w.recordAccess 2 Reg.RST_CTL requester)))) ∧
      (p ∈ s.chip.lndOff → exec (.isolationSwitchTimeout p true) s = .next (s.after (s.w.doHalfReset (halfOf p))))) ∧
    (∀ k r, s.chip.resets[k]? = some r →
      let w := s.w.setResets (s.chip.resets.eraseIdx k)
      let aux := w64 (s.w.uptime - r.start)
      (∀ v,
        (∀ a, r.dom = .core p a → exec (.resetComplete k v) s = .next (s.after ((w.resetCore p a).rstRecord 1 p 0 aux))) ∧
        (r.dom = .gallery p → exec (.resetComplete k v) s = .next (s.after ((w.resetIsland p).rstRecord 2 p 0 aux))) ∧
        (r.dom = .landing p → v.boot.links = [] →
          exec (.resetComplete k v) s = .next (s.after ((w.resetLanding p).rstRecord 3 p 0 aux))) ∧
        (∀ h, r.dom = .half h → exec (.resetComplete k v) s = .next (s.after ((w.halfDone h v.boot).rstRecord 4 h 0 aux))) ∧
        (∀ m pc, r.dom = .hbm m pc → (m, pc) ∉ v.boot.channels →
          exec (.resetComplete k v) s = .next (s.after ((w.channelRetrained m pc).rstRecord 6 (64 * m + pc) 0 aux))) ∧
        (∀ q, r.dom = .port q → exec (.resetComplete k v) s = .next (s.after ((w.portTrain q).rstRecord 5 q 0 aux)))) ∧
      (r.dom = .gallery p → exec (.resetTimeout k) s = .next (s.after ((w.rstRecord 9 p 3 aux).isolateGallery p))) ∧
      (∀ q, r.dom = .port q → exec (.resetTimeout k) s = .next (s.after ((w.rstRecord 9 q 3 aux).isolatePort q))) ∧
      (r.dom = .warm →
        let w := (w.setFlag Reg.RST_STATUS F.RST_STATUS_COLD_REQ true).rstRecord 0xD 0 5 aux
        exec (.resetTimeout k) s = .next (s.after { w with c := { w.c with held := true } })))

/-- Snapshots and dumps: an enabled source latches the state, or counts as missed while one is held; REARM lets go of it; a
dump starts, notes blocks that do not answer, and ends in the crash area when it has no address; a warm reset that waited
for it goes on when it is late.

Completes: snapTrigger, snapRearm, dumpGo, snapLatchAtT, dumpReadTimeout, dumpComplete, dumpWaitTimeout. -/
def Obligations.SnapshotsAndDumps : Prop :=
  ∀ s : State, s.aux = true →
    (s.w.flag Reg.SNAP_CFG F.SNAP_CFG_CMD = true →
      (s.w.flag Reg.SNAP_STATUS F.SNAP_STATUS_HELD = true → exec (.snapTrigger 2) s = .next (s.after (s.w.setFld
        Reg.SNAP_STATUS F.SNAP_STATUS_MISSED (min 0xFF (s.w.fld Reg.SNAP_STATUS F.SNAP_STATUS_MISSED + 1))))) ∧
      (s.w.flag Reg.SNAP_STATUS F.SNAP_STATUS_HELD = false → ∃ t, exec (.snapTrigger 2) s = .next t ∧
        t.chip.snap = some { source := 2, esn := 0, uptime := (s.w.reg Reg.RST_UPTIME).toNat,
                             step := (s.w.reg Reg.SEQ_STEP).toNat, resets := s.chip.resets,
                             remaps := s.chip.seq.remaps, tests := s.chip.test.tests, descs := s.chip.host.descs,
                             dimms := s.chip.dimms, regs := s.chip.regs, agents := s.chip.agents, cps := s.chip.cps } ∧
        t.w.flag Reg.SNAP_STATUS F.SNAP_STATUS_HELD = true)) ∧
    (s.chip.dump = none →
      exec .snapRearm s = .next (s.after
        (({ s.w with c := { s.chip with snap := none } } : W).setReg Reg.SNAP_STATUS 0)) ∧
      exec .dumpGo s = .next (s.after (({ s.w with c := { s.chip with dump := some {} } } : W).setReg Reg.DUMP_STATUS 1))) ∧
    (∀ t, s.chip.snapAt = some t → t ≤ s.chip.time → exec .snapLatchAtT s = .next (s.after
      (({ s.w with c := { s.chip with snapAt := none } } : W).snapLatch 4 0 false))) ∧
    (∀ d, s.chip.dump = some d →
      (∀ k, k ∉ d.noAnswer → exec (.dumpReadTimeout k) s = .next (s.after
        (({ s.w with c := { s.chip with dump := some { d with noAnswer := d.noAnswer ++ [k] } } } : W).setFld Reg.DUMP_STATUS
          F.DUMP_STATUS_NOANSWER (min 0xFFFF (d.noAnswer.length + 1))))) ∧
      (s.w.reg Reg.DUMP_ADDR = 0 → s.chip.warmWait = none →
        let b := s.w.dumpBytes d
        let w : W := { b.2 with c := { b.2.c with dump := none } }
        let w := (w.setFlag Reg.DUMP_STATUS F.DUMP_STATUS_BUSY false).setFlag Reg.DUMP_STATUS F.DUMP_STATUS_IN_FLASH true
        let w := w.setFlash { w.c.flash with crash := b.1 }
        exec .dumpComplete s = .next (s.after ((w.rstRecord 0xC 0 0 (w.reg Reg.DUMP_STATUS)).pend 295)))) ∧
    (∀ cause, s.chip.warmWait = some cause → exec .dumpWaitTimeout s = .next (s.after
      (({ s.w with c := { s.chip with warmWait := none } } : W).startWarm cause)))

/-! ### Bring-up (17) -/

/-- A loss of power holds the part and turns its lasers off, a loss of the reference clock also drives COLD_REQ_L; a cold
sequence that is too slow ends in safe state; the ready actions make the part READY; boot pages are checked, stored and
acknowledged by an armed gallery, which is armed, disarmed and asked to report.

Completes: powerLoss, refclkLoss, coldReset, coldSequenceTimeout, readyActions, bootPage, gbootArm, gbootDisarm,
gbootReport. -/
def Obligations.PowerAndBringUp : Prop :=
  (∀ s : State,
    exec .powerLoss s = .next (s.after s.w.powerLoss) ∧
    exec .refclkLoss s = .next (s.after (s.w.powerLoss.setFlag Reg.RST_STATUS F.RST_STATUS_COLD_REQ true)) ∧
    s.w.powerLoss.c.powered = false ∧ s.w.powerLoss.c.power.engines = List.range 9) ∧
  (∀ (s : State) (b : BootView), let w := s.w.powerGood.setStage 2
    let w1 := (w.powerOnElem b.fails false 0x24 0).2
    let w2 := (w1.powerOnElem b.fails false 0x22 0).2
    let r := w2.readFlash.chooseSlot
    (W.foundResult b.fails 0x24 0 ∈ [1, 2] → exec (.coldReset b) s = .next (s.after (w1.safeState 2))) ∧
    (W.foundResult b.fails 0x24 0 ∉ [1, 2] → W.foundResult b.fails 0x22 0 ∉ [1, 2] →
      W.foundResult b.fails 0x20 0 ∉ [1, 2] → W.foundResult b.fails 0x21 0 ∉ [1, 2] → b.late = none →
      let w := (((r.2.setStage 3).mapStates.assignRoles.setStage 4).latchesSeen b.lifted).startPhy
      let w := ((w.powerOnElem b.fails false 0x20 0).2.powerOnElem b.fails false 0x21 0).2.startMessage
      let w := (List.range 312).foldl (fun w p => w.galleryPowerOn b.fails p) (w.setStage 5)
      let w := (List.range 312).foldl (fun w l => w.landingPowerOn b.fails l) w
      let rows := w.stairPowerOn b.fails
      let w := rows.2.edgePowerOn b.fails
      exec (.coldReset b) s = .next (s.after (if r.1 = false then r.2
        else match badFuses r.2.c.fuses with
        | some k => ((r.2.setStage 3).record { cls := 0x13, kind := 0, sev := 5, info := w64 k }).safeState 3
        | none => if 4 < rows.1.length ∨ ∃ x ∈ rows.1, x ∈ [4, 5, 6, 7] then w.safeState 5 else w.coldTail b)))) ∧
  (∀ s : State, s.live = true → s.w.fld Reg.BOOT_STATUS F.BOOT_STATUS_STATE = 0 →
    (s.w.fld Reg.BOOT_STATUS F.BOOT_STATUS_STAGE ≠ 0 →
      let w := s.w.rstRecord 0xD 0 5 0
      exec .coldSequenceTimeout s = .next (s.after (w.safeState (w.fld Reg.BOOT_STATUS F.BOOT_STATUS_STAGE)))) ∧
    (s.w.fld Reg.BOOT_STATUS F.BOOT_STATUS_STAGE = 9 → s.w.lanesFinal = true →
      let w := s.w.firstRegion.writeDistances.enterAll.loadTables
      let w := (w.setFlag Reg.ST_CFG F.ST_CFG_ROT_W true).setFlag Reg.ST_CFG F.ST_CFG_ROT_E true
      let w := (w.idleHalf 0).idleHalf 1
      let w := (w.setFlag Reg.SEQ_CFG F.SEQ_CFG_EN true).setReg Reg.BOOT_READY (w.reg Reg.RST_UPTIME)
      let state := if w.sclUp = false then 3 else if w.degraded = true then 2 else 1
      let w := (w.setBootState state).showFabric
      exec .readyActions s
        = .next (s.after ((if state = 3 then w else w.raiseFloor).record { cls := 0x12, kind := 8, sev := 0 })))) ∧
  (∀ (s : State) (p : Nat) (t : Packet), s.live = true → p < 312 →
    let k := Reg.GBOOT_STATUS p
    let i := bits t.arg 10 0
    let m := Reg.GBOOT_RXMAP p (i / 64)
    (t.typ = 3 → bit t.arg 31 = true →
      (s.w.flag k F.GBOOT_STATUS_ARMED = false → exec (.bootPage p t) s
        = .next (s.after (s.w.count (Reg.LND_DISCARD p) 1))) ∧
      (s.w.flag k F.GBOOT_STATUS_ARMED = true → t.poison = false → t.len = 4096 → bits t.addr 22 0 + 4096 ≤ windowTop →
        (bits t.arg 63 32 ≠ crc32c (t.data.take 4096) → exec (.bootPage p t) s = .next (s.after
          (s.w.setFld k F.GBOOT_STATUS_CRC_ERR (min 0xFFFF (s.w.fld k F.GBOOT_STATUS_CRC_ERR + 1))))) ∧
        (bits t.arg 63 32 = crc32c (t.data.take 4096) →
          let w := s.w.wrBytes (galKey p (bits t.addr 22 0)) (t.data.take 4096)
          let w1 := w.setReg m (putBit (w.reg m) (i % 64) true)
          let w2 := if bit (w.reg m) (i % 64) = true then w1 else w1.setFld k F.GBOOT_STATUS_RECEIVED
            (min 0x7FF (w1.fld k F.GBOOT_STATUS_RECEIVED + 1))
          exec (.bootPage p t) s = .next (s.after ((w2.showComplete p).wrAck p t false))))) ∧
    exec (.gbootArm p) s = .next (s.after (((s.w.resetRegs (Reg.GBOOT_RXMAP p 0) (Reg.GBOOT_RXMAP p 32)).setGboot p
      {}).setReg k (w64 (2 ^ 31)))) ∧
    exec (.gbootDisarm p) s = .next (s.after ((s.w.setFlag k F.GBOOT_STATUS_ARMED false).setGboot p {})) ∧
    (∀ n r, exec (.gbootReport p n r) s
      = .next (s.after (((s.w.setGboot p { pages := n, round := r }).showComplete p).bootWindow p))))

/-! ### Security (18) -/

/-- The mailbox takes one operation at a time; its end answers a report, the certificate or the verdict on a token, which
sets the debug level; RELOCK clears it; SEC_FLOOR is written at debug level 2 only; a flash operation that ends has its
effect or its failure.

Completes: attest, getCert, unlock, mailboxOpDone, relock, secFloorWrite, idKeyReady, flashOpDone. -/
def Obligations.SecurityOperations : Prop :=
  ∀ s : State, s.aux = true →
    (∀ op len requester i, MailboxCommand op len requester i →
      (s.w.flag Reg.SEC_MB_STATUS F.SEC_MB_STATUS_BUSY = true → exec i s
        = .next (s.after (s.w.recordAccess 2 Reg.SEC_MB_CTL requester))) ∧
      (s.w.flag Reg.SEC_MB_STATUS F.SEC_MB_STATUS_BUSY = false →
        let w := (s.w.setFld Reg.SEC_MB_CTL F.SEC_MB_CTL_OP op).setFld Reg.SEC_MB_CTL F.SEC_MB_CTL_LEN len
        let w := w.setFlag Reg.SEC_MB_STATUS F.SEC_MB_STATUS_BUSY true
        let w : W := { w with c := { w.c with mailbox := some (op, len, w.requestBytes len) } }
        exec i s = .next (s.after (w.sampleAttest.pend 283)))) ∧
    (∀ bs, s.chip.mailbox = some (1, 128, bs) → bs.length = 512 → exec .mailboxOpDone s
      = .next (s.after (s.w.mailboxEnds 0 (bs ++ fit 49856 (Config.slhSign identitySeed bs))))) ∧
    (∀ len bs, s.chip.mailbox = some (2, len, bs) → exec .mailboxOpDone s
      = .next (s.after (s.w.mailboxEnds 0 (s.chip.flash.cert.take 32768)))) ∧
    (∀ len bs, s.chip.mailbox = some (3, len, bs) → len ≤ 524288 →
      let r := s.w.tokenStatus bs
      exec .mailboxOpDone s = .next (s.after (if r.1 = 0 then
        (((s.w.setFld Reg.SEC_STATUS F.SEC_STATUS_DEBUG r.2).secRecord 3 r.2 0).newNonce).mailboxEnds 0 []
        else ((s.w.secRecord 4 r.2 0).newNonce).mailboxEnds r.1 []))) ∧
    exec .relock s = .next (s.after (s.w.setFld Reg.SEC_STATUS F.SEC_STATUS_DEBUG 0).newNonce) ∧
    (∀ v requester, (s.w.fld Reg.SEC_STATUS F.SEC_STATUS_DEBUG = 2 → exec (.secFloorWrite v requester) s = .next (s.after
        ((s.w.setReg Reg.SEC_FLOOR (w64 (bits v 31 0))).flashPut (.floor (bits v 31 0))))) ∧
      (s.w.fld Reg.SEC_STATUS F.SEC_STATUS_DEBUG ≠ 2 → exec (.secFloorWrite v requester) s
        = .next (s.after (s.w.recordAccess 2 Reg.SEC_FLOOR requester)))) ∧
    exec .idKeyReady s = .next (s.after (s.w.setFlag Reg.SEC_STATUS F.SEC_STATUS_ID_READY true).sampleAttest) ∧
    (∀ op rest, s.chip.flashQ = op :: rest →
      let w : W := { s.w with c := { s.chip with flashQ := rest } }
      exec (.flashOpDone true) s = .next (s.after ((w.flashWritten op).pend 297)) ∧
      exec (.flashOpDone false) s = .next (s.after ((w.flashFailed op).pend 297)))

/-! ### Power and thermal (19) -/

/-- Power: an interval at or below the cap, with nothing throttling, is metered and lowers nothing; the fast clamp takes two
points off every island under control; a low rail takes its half to point 0 until it recovers; a cool reading is kept, a
sensor below range is recorded as faulty once, a second reading of 115 °C trips the part.

Completes: powerInterval, fastClamp, railUndervoltage, railRecovered, thermalSample. -/
def Obligations.PowerAndHeat : Prop :=
  ∀ s : State, s.live = true →
    (∀ mw islands energy,
      let w := s.w.addEnergy energy islands
      let h := w.hottest
      let w := ((w.setFld Reg.PWR_NOW F.PWR_NOW_P (min 0xFFFF (mw / 1000))).setFld Reg.PWR_NOW F.PWR_NOW_TJ
        (min 255 h.1)).setFld Reg.PWR_NOW F.PWR_NOW_HOT h.2
      w.flag Reg.PWR_STATUS F.PWR_STATUS_TJMAX = false → s.chip.power.throttling = [] →
      let c := w.throttleStep.capLoop mw islands
      mw ≤ c.2.capW * 1000 →
      let w := c.2.setPower { c.2.c.power with uncapped := min 1000 (c.2.c.power.uncapped + 1) }
      let w := (w.setFlag Reg.PWR_STATUS F.PWR_STATUS_CAPPED c.1).setFlag Reg.PWR_STATUS F.PWR_STATUS_CLAMP
        w.c.power.clamped
      let w := w.setPower { w.c.power with clamped := false }
      exec (.powerInterval mw islands energy) s = .next (s.after
        ((w.setFlag Reg.PWR_STATUS F.PWR_STATUS_THERM (!w.c.power.throttling.isEmpty)).showFloor.showPoints.pend 290))) ∧
    (let w := s.w.ctlIslands.foldl (fun w p => w.setPoint p (w.point p - 2)) s.w
      let w := (w.setPower { w.c.power with clamped := true }).count Reg.PWR_CLAMPS 1
      exec .fastClamp s = .next (s.after (w.pwrRecord 2 0 0 ((w.ctlIslands.map w.point).foldl min 8) 0 false))) ∧
    (∀ h, h < 2 →
      (h ∉ s.chip.power.railLow →
        let w := (s.w.setPower { s.chip.power with railLow := h :: s.chip.power.railLow }).pointZero fun x => x == h
        exec (.railUndervoltage h) s = .next (s.after ((w.pwrRecord 9 3 h 0 0 false).pend 291))) ∧
      exec (.railRecovered h) s = .next (s.after (s.w.setPower
        { s.chip.power with railLow := s.chip.power.railLow.filter (· ≠ h) }))) ∧
    (∀ (i : Nat) (x : Int), -40 ≤ x → x ≤ 150 →
      let q := { s.chip.power with faulty := s.chip.power.faulty.filter (· ≠ i) }
      (i < 314 → x < s.w.throt → exec (.thermalSample i (some x)) s = .next (s.after (s.w.setPower
        { q with sensors := Tbl.set (fun _ => 0) q.sensors i (x + 1000).toNat,
                 hot := Tbl.set (fun _ => 0) q.hot i 0 }).tjEnds)) ∧
      (i < 327 → 115 ≤ x → 1 ≤ Tbl.get (fun _ => 0) q.hot i → exec (.thermalSample i (some x)) s = .next (s.after
        (s.w.setPower { q with sensors := Tbl.set (fun _ => 0) q.sensors i (x + 1000).toNat,
                               hot := Tbl.set (fun _ => 0) q.hot i (Tbl.get (fun _ => 0) q.hot i + 1) }).thermTrip)))

/-! ### Register writes -/

/-! ### Management and service (21) -/

/-- Requests of the management path in good order: each counts and is answered with its STATUS: INFO with the part's
identity, register and memory accesses with what they read or whether they were taken, orders as they are staged and
submitted, firmware as it is put and committed, a dump as it was saved; REC_ACK moves its path on.

Completes: info, regRead, regWrite, memRead, memWrite, orderPut, orderSubmit, recAck, fwPut, fwCommit, dumpRead. -/
def Obligations.ManagementRequests : Prop :=
  ∀ (s : State) (typ : Nat) (m : MgmtMsg), Requested s typ m →
    let w := s.w.received m
    (typ = 0x01 → exec (.info m) s = .next (s.after (w.answer m 0 w.infoBytes))) ∧
    (typ = 0x02 → m.body.length = 10 → 1 ≤ field m.body 8 2 → field m.body 8 2 ≤ 256 → ∀ bs w',
      w.regWordsRead (field m.body 0 8) (field m.body 8 2) [] = (some bs, w') →
      exec (.regRead m) s = .next (s.after (w'.answer m 0 (m.body ++ bs)))) ∧
    (typ = 0x03 → 1 ≤ field m.body 8 2 → field m.body 8 2 ≤ 256 → m.body.length = 10 + 4 * field m.body 8 2 →
      let r := w.regWordsWrite (field m.body 0 8) ((List.range (field m.body 8 2)).map fun i => field m.body (10 + 4 * i) 4)
      exec (.regWrite m) s = .next (s.after (r.2.answer m (if r.1 then 0 else 2) []))) ∧
    (typ = 0x04 → W.memArgsOk m.body = true → m.body.length = 10 → ∀ bs w',
      w.farRead none W.mgmtReq (w.loc (w64 (field m.body 0 8))) (field m.body 8 2) = ((bs, none), w') →
      exec (.memRead m) s = .next (s.after (w'.answer m 0 (m.body ++ bs)))) ∧
    (typ = 0x05 → W.memArgsOk m.body = true → m.body.length = 10 + field m.body 8 2 → ∀ w',
      w.farWrite none W.mgmtReq (w.loc (w64 (field m.body 0 8))) (m.body.drop 10) = (none, w') →
      exec (.memWrite m) s = .next (s.after (w'.answer m 0 []).flushBus)) ∧
    (typ = 0x06 → 4 ≤ m.body.length → m.body.length ≤ 1396 → field m.body 0 4 + (m.body.length - 4) ≤ 524288 →
      ∀ old : List Byte, (s.chip.mgmt.staging = none ∧ old = []) ∨ s.chip.mgmt.staging = some (W.sourceOf m, old) →
      let r := w.stagePut old (field m.body 0 4) (m.body.drop 4)
      exec (.orderPut m) s = .next (s.after ((r.2.setMgmt
        { r.2.c.mgmt with staging := some (W.sourceOf m, r.1) }).answer m 0 []))) ∧
    (typ = 0x07 → m.body.length = 4 → ∀ old, w.c.mgmt.staging = some (W.sourceOf m, old) → field m.body 0 4 ≤ old.length →
      let w := w.setMgmt { w.c.mgmt with staging := none }
      let bs := old.take (field m.body 0 4)
      W.orderLayout bs = true → orderNo bs ≠ (w.reg Reg.FAB_ORDER_NO).toNat →
      exec (.orderSubmit m) s = .next (s.after (if w.orderValid 2 bs = true then (w.orderEnact bs).answer m 0 []
        else (w.orderReject 2 (orderNo bs)).answer m 5 []))) ∧
    (typ = 0x09 → m.body.length = 4 →
      let path := m.mctp.toNat
      ∀ a, (w.recPath path).acked = some a → serialLater 32 (field m.body 0 4) a = true → w.c.mgmt.recs = [] →
      let w := w.setRecPath path { w.recPath path with acked := some (field m.body 0 4) }
      exec (.recAck m) s = .next (s.after (((w.setMgmt { w.c.mgmt with recs := [] }).showOutstanding).streamPath path))) ∧
    (typ = 0x0A → 8 ≤ m.body.length →
      let r := w.fwPut (field m.body 0 4) (m.body.drop 8)
      exec (.fwPut m) s = .next (s.after (r.2.answer m r.1 []))) ∧
    (typ = 0x0B → m.body.length = 4 →
      let r := w.fwCommit (field m.body 0 4)
      exec (.fwCommit m) s = .next (s.after (r.2.answer m r.1 []))) ∧
    (typ = 0x0C → m.body.length = 10 → field m.body 0 1 = 0 → 64 ≤ field m.body 8 2 → field m.body 8 2 ≤ 1024 →
      let a := (w.reg Reg.DUMP_ADDR).toNat
      a ≠ 0 → ∀ bs w', w.farRead none W.mgmtReq (w.loc (w64 (a + field m.body 4 4))) (field m.body 8 2) = ((bs, none), w') →
      exec (.dumpRead m) s = .next (s.after (w'.answer m 0 (m.body ++ bs))))

/-- The other standards on the management paths: MCTP and PLDM are answered, a firmware update is a put or a commit, echo
requests, ARP and neighbour discovery for the part's addresses are answered, ENTDAA gives the part its address; records not
acknowledged are sent again; a staged order that waits too long is dropped.

Completes: mctpControl, pldmDiscovery, pldmPlatform, pldmFirmwareUpdate, icmpEcho, arpRequest, neighbourDiscovery,
i3cEntdaa, recResendTimeout, orderStagingTimeout. -/
def Obligations.ManagementStandards : Prop :=
  ∀ s : State, s.aux = true →
    (s.w.mgmtServed true = true → ∀ body : List Byte,
      let w := s.w.mgmtArrive true
      (field body 1 1 = 1 → exec (.mctpControl body) s
        = .next (s.after ((w.setFlag Reg.MGMT_STATUS F.MGMT_STATUS_I3C_UP true).freeAnswer 1))) ∧
      exec (.pldmDiscovery body) s = .next (s.after (w.freeAnswer 3)) ∧
      (field body 2 1 = 0x11 → let v := w.sensorValue (field body 3 2);
        exec (.pldmPlatform body) s = .next (s.after (w.emit (.wire 4 (leBytes 2 (field body 3 2) ++
          [byte v.isSome.toNat] ++ leBytes 8 (((v.getD 0) % (2 ^ 64 : Int)).toNat)))))) ∧
      (∀ off total, body ≠ [] → let r := w.fwPut off body;
        exec (.pldmFirmwareUpdate off total body) s = .next (s.after (r.2.emit (.wire 5 (leBytes 1 r.1)))))) ∧
    (s.w.mgmtServed false = true → ∀ station : Nat,
      let w := s.w.mgmtArrive false
      (∀ body, exec (.icmpEcho true station body) s
        = .next (s.after (w.emit (.wire 8 (leBytes 16 station ++ body))))) ∧
      (bit (w.reg Reg.MGMT_IP4) 63 = true → exec (.arpRequest station (bits (w.reg Reg.MGMT_IP4) 31 0)) s
        = .next (s.after (w.emit (.wire 9 (leBytes 16 station ++ leBytes 6 (w.reg Reg.MGMT_MAC).toNat))))) ∧
      exec (.neighbourDiscovery station s.w.linkLocal) s
        = .next (s.after (w.emit (.wire 9 (leBytes 16 station ++ leBytes 6 (w.reg Reg.MGMT_MAC).toNat))))) ∧
    (∀ addr, let pid := 0x2B5 * 2 ^ 33 + s.chip.fuses.part % 2 ^ 16 * 2 ^ 16 + s.chip.fuses.serial.toNat % 2 ^ 16
      exec (.i3cEntdaa addr) s = .next (s.after ((s.w.setMgmt { s.chip.mgmt with i3c := some (addr % 128) }).emit
        (.wire 7 ((leBytes 6 pid).reverse ++ [byte 0x06, byte 0x00]))))) ∧
    (∀ path l, s.w.pathOn path = true → (s.w.recPath path).last = some l → exec (.recResendTimeout path) s
      = .next (s.after (s.w.streamOut path 13
          (((s.w.unacked path).take 256).filter fun r => !serialLater 32 (recEsn r.2) l)))) ∧
    exec .orderStagingTimeout s = .next (s.after (s.w.setMgmt { s.chip.mgmt with staging := none }))

/-- Service signals: ATTN_L stops a running schedule and shows DRAINED at once without one, a drain that takes too long is
shown, ATTN_CLR ends it; the LED chain is refreshed; management settings are saved.
A register write is carried out, and what it sets off, before the command ends; a register block that does not answer is
recorded with its requester.

Completes: attnPress, attnTimeout, attnClr, ledChainRefresh, mgmtSave, registerWrite, backStairTimeout. -/
def Obligations.ServiceSignalsAndRegisterWrites : Prop :=
  (∀ s : State, s.aux = true →
    (s.w.fld Reg.SVC_STATUS F.SVC_STATUS_ATTN_STATE ≠ 1 →
      let w := s.w.pend 287
      (s.w.seqState = stIdle → exec .attnPress s = .next (s.after ((w.setAttn 2).doSnapTrigger 3))) ∧
      (s.w.seqState = stRun → exec .attnPress s = .next (s.after (((w.setAttn 1).doSeqStop).doSnapTrigger 3)))) ∧
    (s.w.fld Reg.SVC_STATUS F.SVC_STATUS_ATTN_STATE = 1 → exec .attnTimeout s = .next (s.after (s.w.setAttn 3))) ∧
    exec .attnClr s = .next (s.after (s.w.setAttn 0)) ∧
    (let n := (s.w.chainBits.zipIdx.map fun (b, i) => if b then 2 ^ i else 0).foldl (fun (a : Nat) x => a + x) 0;
      exec .ledChainRefresh s = .next (s.after (s.w.emit (.wire 10 (leBytes 19 n ++ leBytes 1 s.w.identOn.toNat))))) ∧
    exec .mgmtSave s = .next (s.after s.w.mgmtSave)) ∧
  (∀ (s : State) (k size : Nat) (v requester : Word), s.aux = true →
    exec (.registerWrite k size v requester) s = .next (s.after (s.w.setupWrite k size v.toNat requester).2.flushBus) ∧
    exec (.backStairTimeout k requester) s = .next (s.after (s.w.recordAccess 2 k requester)))
end

