-- ==== Sys2Proof/Laws/Tbl.lean ====
section
/-! SUPPORT. Laws of tables and of memory: a read after a write, other places unchanged, and the canonical form kept. -/

namespace Sys2Proof.Machine

variable {α : Type}

/-! ### Reading -/

theorem Tbl.get_erase_self (d : Nat → α) (t : Tbl α) (k : Nat) : Tbl.get d (Tbl.erase t k) k = d k := by
  induction t with
  | nil => rfl
  | cons e t ih =>
    by_cases h : e.1 = k
    · simpa [Tbl.erase, h] using ih
    · have : Tbl.erase (e :: t) k = e :: Tbl.erase t k := by simp [Tbl.erase, h]
      rw [this]; simp only [Tbl.get]; rw [if_neg (Ne.symm h)]; exact ih

theorem Tbl.get_erase_ne (d : Nat → α) (t : Tbl α) {k j : Nat} (h : j ≠ k) :
    Tbl.get d (Tbl.erase t k) j = Tbl.get d t j := by
  induction t with
  | nil => rfl
  | cons e t ih =>
    by_cases hk : e.1 = k
    · have : Tbl.erase (e :: t) k = Tbl.erase t k := by simp [Tbl.erase, hk]
      rw [this, ih]; simp only [Tbl.get]; rw [if_neg (by rw [hk]; exact h)]
    · have : Tbl.erase (e :: t) k = e :: Tbl.erase t k := by simp [Tbl.erase, hk]
      rw [this]; simp only [Tbl.get]; rw [ih]

theorem Tbl.get_insert_self (d : Nat → α) (t : Tbl α) (k : Nat) (v : α) : Tbl.get d (Tbl.insert t k v) k = v := by
  induction t with
  | nil => simp [Tbl.insert, Tbl.get]
  | cons e t ih =>
    simp only [Tbl.insert]
    split
    · simp [Tbl.get]
    · split
      · simp [Tbl.get]
      · rename_i h; simp only [Tbl.get]; rw [if_neg h]; exact ih

theorem Tbl.get_insert_ne (d : Nat → α) (t : Tbl α) {k j : Nat} (v : α) (h : j ≠ k) :
    Tbl.get d (Tbl.insert t k v) j = Tbl.get d t j := by
  induction t with
  | nil => simp [Tbl.insert, Tbl.get, h]
  | cons e t ih =>
    simp only [Tbl.insert]
    split
    · simp [Tbl.get, h]
    · split
      · rename_i hk; subst hk; simp [Tbl.get, h]
      · simp only [Tbl.get]; rw [ih]

/-- A key that was set reads as it was set. -/
@[simp] theorem Tbl.get_set_self [DecidableEq α] (d : Nat → α) (t : Tbl α) (k : Nat) (v : α) :
    Tbl.get d (Tbl.set d t k v) k = v := by
  unfold Tbl.set
  split
  · rename_i h; rw [Tbl.get_erase_self, h]
  · exact Tbl.get_insert_self d t k v

/-- Every other key reads as before. -/
@[simp] theorem Tbl.get_set_ne [DecidableEq α] (d : Nat → α) (t : Tbl α) {k j : Nat} (v : α) (h : j ≠ k) :
    Tbl.get d (Tbl.set d t k v) j = Tbl.get d t j := by
  unfold Tbl.set
  split
  · exact Tbl.get_erase_ne d t h
  · exact Tbl.get_insert_ne d t v h

/-- A key in a cleared range reads as its default, any other as before. -/
theorem Tbl.get_clearRange (d : Nat → α) (t : Tbl α) (lo hi k : Nat) :
    Tbl.get d (Tbl.clearRange t lo hi) k = if lo ≤ k ∧ k < hi then d k else Tbl.get d t k := by
  induction t with
  | nil => simp [Tbl.clearRange, Tbl.get]
  | cons e t ih =>
    by_cases he : e.1 < lo ∨ hi ≤ e.1
    · have : Tbl.clearRange (e :: t) lo hi = e :: Tbl.clearRange t lo hi := by
        simp [Tbl.clearRange, he]
      rw [this]; simp only [Tbl.get]; rw [ih]
      by_cases hk : k = e.1
      · subst hk; rw [if_pos rfl, if_pos rfl, if_neg]; omega
      · rw [if_neg hk, if_neg hk]
    · have : Tbl.clearRange (e :: t) lo hi = Tbl.clearRange t lo hi := by
        simp only [Tbl.clearRange]
        rw [List.filter_cons_of_neg]
        simp; omega
      rw [this, ih]; simp only [Tbl.get]
      by_cases hk : k = e.1
      · subst hk; rw [if_pos (by omega), if_pos (by omega)]
      · rw [if_neg hk]

/-! ### Order -/

theorem Tbl.sorted_cons (e : Nat × α) (t : Tbl α) :
    Tbl.sorted (e :: t) = true ↔ (∀ x ∈ t, e.1 < x.1) ∧ Tbl.sorted t = true := by
  induction t generalizing e with
  | nil => simp [Tbl.sorted]
  | cons f t ih =>
    obtain ⟨k, v⟩ := e
    obtain ⟨k', v'⟩ := f
    simp only [Tbl.sorted, Bool.and_eq_true, decide_eq_true_eq, List.mem_cons, forall_eq_or_imp]
    rw [ih]
    constructor
    · rintro ⟨h, h2, h3⟩; exact ⟨⟨h, fun x hx => lt_trans h (h2 x hx)⟩, h2, h3⟩
    · rintro ⟨⟨h, _⟩, h2, h3⟩; exact ⟨h, h2, h3⟩

theorem Tbl.mem_insert {t : Tbl α} {k : Nat} {v : α} {x : Nat × α} (h : x ∈ Tbl.insert t k v) :
    x = (k, v) ∨ x ∈ t := by
  induction t with
  | nil => simpa [Tbl.insert] using h
  | cons e t ih =>
    simp only [Tbl.insert] at h
    split at h
    · rw [List.mem_cons] at h; exact h
    · split at h
      · rw [List.mem_cons] at h; rcases h with h | h
        · exact .inl h
        · exact .inr (List.mem_cons_of_mem _ h)
      · rw [List.mem_cons] at h; rcases h with h | h
        · exact .inr (h ▸ List.mem_cons_self)
        · rcases ih h with h | h
          · exact .inl h
          · exact .inr (List.mem_cons_of_mem _ h)

theorem Tbl.sorted_insert (t : Tbl α) (k : Nat) (v : α) (h : Tbl.sorted t = true) :
    Tbl.sorted (Tbl.insert t k v) = true := by
  induction t with
  | nil => rfl
  | cons e t ih =>
    rw [Tbl.sorted_cons] at h
    simp only [Tbl.insert]
    split
    · rename_i hk
      rw [Tbl.sorted_cons]
      refine ⟨fun x hx => ?_, by rw [Tbl.sorted_cons]; exact h⟩
      rcases List.mem_cons.1 hx with rfl | hx
      · exact hk
      · exact lt_trans hk (h.1 x hx)
    · split
      · rename_i hk; rw [Tbl.sorted_cons]; exact ⟨fun x hx => by rw [hk]; exact h.1 x hx, h.2⟩
      · rw [Tbl.sorted_cons]
        refine ⟨fun x hx => ?_, ih h.2⟩
        rcases Tbl.mem_insert hx with rfl | hx
        · show e.1 < k; omega
        · exact h.1 x hx

theorem Tbl.sorted_filter (t : Tbl α) (p : Nat × α → Bool) (h : Tbl.sorted t = true) :
    Tbl.sorted (t.filter p) = true := by
  induction t with
  | nil => rfl
  | cons e t ih =>
    rw [Tbl.sorted_cons] at h
    by_cases hp : p e = true
    · rw [List.filter_cons_of_pos hp, Tbl.sorted_cons]
      exact ⟨fun x hx => h.1 x (List.mem_of_mem_filter hx), ih h.2⟩
    · rw [List.filter_cons_of_neg hp]; exact ih h.2

/-! ### The canonical form is kept -/

theorem Tbl.wf_filter [DecidableEq α] (d : Nat → α) (t : Tbl α) (p : Nat × α → Bool) (h : Tbl.wf d t = true) :
    Tbl.wf d (t.filter p) = true := by
  simp only [Tbl.wf, Bool.and_eq_true, List.all_eq_true] at h ⊢
  exact ⟨Tbl.sorted_filter t p h.1, fun x hx => h.2 x (List.mem_of_mem_filter hx)⟩

theorem Tbl.wf_insert [DecidableEq α] (d : Nat → α) (t : Tbl α) (k : Nat) (v : α) (hv : v ≠ d k)
    (h : Tbl.wf d t = true) : Tbl.wf d (Tbl.insert t k v) = true := by
  simp only [Tbl.wf, Bool.and_eq_true, List.all_eq_true] at h ⊢
  refine ⟨Tbl.sorted_insert t k v h.1, fun x hx => ?_⟩
  rcases Tbl.mem_insert hx with rfl | hx
  · simpa using hv
  · exact h.2 x hx

/-- Setting a key keeps the canonical form. -/
theorem Tbl.wf_set [DecidableEq α] (d : Nat → α) (t : Tbl α) (k : Nat) (v : α) (h : Tbl.wf d t = true) :
    Tbl.wf d (Tbl.set d t k v) = true := by
  unfold Tbl.set
  split
  · exact Tbl.wf_filter d t _ h
  · rename_i hv; exact Tbl.wf_insert d t k v hv h

/-- Clearing a range keeps the canonical form. -/
theorem Tbl.wf_clearRange [DecidableEq α] (d : Nat → α) (t : Tbl α) (lo hi : Nat) (h : Tbl.wf d t = true) :
    Tbl.wf d (Tbl.clearRange t lo hi) = true := Tbl.wf_filter d t _ h

/-- Copying the entries of a table into another keeps the canonical form of the other. -/
theorem Memory.wf_copies (es : Memory) (f : Nat → Nat) (t : Memory) (he : ∀ e ∈ es, e.2 ≠ 0) (h : t.wf = true) :
    Memory.wf (es.foldl (fun (t : Memory) e => Tbl.insert t (f e.1) e.2) t) = true := by
  induction es generalizing t with
  | nil => exact h
  | cons e es ih =>
    refine ih _ (fun x hx => he x (List.mem_cons_of_mem _ hx)) ?_
    exact Tbl.wf_insert memDefault t _ _ (he e List.mem_cons_self) h

/-- One change of memory keeps the canonical form. -/
theorem Memory.wf_apply (m : Memory) (op : MemOp) (h : m.wf = true) : (m.apply op).wf = true := by
  cases op with
  | put k v => exact Tbl.wf_set memDefault m k v h
  | clear lo hi => exact Tbl.wf_clearRange memDefault m lo hi h
  | copy lo hi dst =>
    refine Memory.wf_copies _ (fun k => k - lo + dst) _ (fun e he => ?_) (Tbl.wf_clearRange memDefault m _ _ h)
    have hm := List.mem_of_mem_filter he
    simp only [Memory.wf, Tbl.wf, Bool.and_eq_true, List.all_eq_true] at h
    simpa [memDefault] using of_decide_eq_true (h.2 e hm)

/-- A list of changes keeps the canonical form. -/
theorem Memory.wf_applyAll (m : Memory) (log : List MemOp) (h : m.wf = true) : (m.applyAll log).wf = true := by
  induction log with
  | nil => exact h
  | cons op log ih => exact Memory.wf_apply _ op ih

/-- A byte just stored reads as it was stored. -/
@[simp] theorem Memory.get_put_self (m : Memory) (k : Nat) (v : Byte) : Memory.get (m.apply (.put k v)) k = v :=
  Tbl.get_set_self memDefault m k v

/-- A store leaves every other byte alone. -/
@[simp] theorem Memory.get_put_ne (m : Memory) {k j : Nat} (v : Byte) (h : j ≠ k) :
    Memory.get (m.apply (.put k v)) j = Memory.get m j := Tbl.get_set_ne memDefault m v h

end Sys2Proof.Machine
end

