-- ==== Sys2Proof/Laws/Exec.lean ====
section
/-! SUPPORT. What every command can do: run on the part, leaving the queue alone and changing memory by a list of changes, or
name a unit the part does not have. -/

namespace Sys2Proof.Machine

/-- An outcome of a command at `s`: carried out or gated by a condition, or no such unit. -/
def Runs (s : State) (o : Host.Outcome State Fault Refusal) : Prop :=
  (∃ on f, o = runIf on s f) ∨ o = .fault .noSuchUnit

theorem runs_if (on : Bool) (s : State) (f : W → W) : Runs s (runIf on s f) := .inl ⟨on, f, rfl⟩

theorem runs_run (s : State) (f : W → W) : Runs s (run s f) := .inl ⟨_, f, rfl⟩

theorem runs_aux (s : State) (f : W → W) : Runs s (runAux s f) := .inl ⟨_, f, rfl⟩

theorem runs_on (ok : Bool) (s : State) (f : W → W) : Runs s (runOn ok s f) := by
  unfold runOn; split
  · exact runs_run s f
  · exact .inr rfl

theorem runs_ite (p : Prop) [Decidable p] (s : State) (o : Host.Outcome State Fault Refusal) (h : Runs s o) :
    Runs s (if p then o else .fault .noSuchUnit) := by
  split
  · exact h
  · exact .inr rfl

theorem runs_sExec (h : Hart) (op : Nat) (fn : Option Nat) (u : CoreUpset) (s : State) (f : SIns → W → W) :
    Runs s (sExec h op fn u s f) := runs_ite _ _ _ (runs_if _ _ _)

theorem runs_vInstr (p n op : Nat) (u : CoreUpset) (s : State) (f : VIns → MReg → W → W) :
    Runs s (vInstr p n op u s f) := runs_on _ _ _

theorem runs_fab (h ptype : Nat) (t : FabPkt) (atom : Option (AtomOp × Word)) (s : State) :
    Runs s (fabRun h ptype t atom s) := runs_on _ _ _

theorem runs_ctx (h code : Nat) (t : FabPkt) (s : State) (f : W → W) : Runs s (ctxRun h code t s f) := runs_on _ _ _

theorem runs_chExec (h : Hart) (fn : Nat) (u : CoreUpset) (s : State) (f : Nat → Nat → SIns → W → W) :
    Runs s (chExec h fn u s f) := runs_sExec _ _ _ _ _ _

theorem runs_cpExec (h : Hart) (fn : Nat) (u : CoreUpset) (s : State) (f : Nat → SIns → W → W) :
    Runs s (cpExec h fn u s f) := runs_sExec _ _ _ _ _ _

/-- Every command runs, or names a unit the part does not have. -/
theorem exec_runs (i : Instr) (s : State) : Runs s (exec i s) := by
  cases i
  case registerWrite | timeSync | orderExpel | orderPeerLost | orderPeerMap | orderReadmit | orderReturn | orderKeyset
    | extest | idcode | samplePreload | clamp | highz | stResult | bypass | deviceWarmReset | resetComplete
    | resetTimeout | snapTrigger | snapRearm | snapLatchAtT | dumpGo | dumpReadTimeout | dumpComplete | dumpWaitTimeout
    | rstCntClr | coldSequenceTimeout | attest | getCert | unlock | mailboxOpDone | relock | secFloorWrite | idKeyReady
    | flashOpDone | info | regRead | regWrite | memRead | memWrite | orderPut | orderSubmit | recAck | recResendTimeout
    | orderStagingTimeout | fwPut | fwCommit | dumpRead | mctpControl | pldmDiscovery | pldmPlatform | pldmFirmwareUpdate
    | icmpEcho | arpRequest | neighbourDiscovery | i3cEntdaa | attnPress | attnTimeout | attnClr | ledChainRefresh
    | mgmtSave | mgmtCntClr | backStairTimeout | testLogicReset =>
    simp only [exec, execRegisterWrite, execTimeSync, execOrderExpel, execOrderPeerLost, execOrderPeerMap, execOrderReadmit,
      execOrderReturn, execOrderKeyset, execExtest, execIdcode, execSamplePreload, execClamp, execHighz,
      execStResult, execBypass, execDeviceWarmReset, execResetComplete, execResetTimeout, execSnapTrigger,
      execSnapRearm, execSnapLatchAtT, execDumpGo, execDumpReadTimeout, execDumpComplete, execDumpWaitTimeout,
      execRstCntClr, execColdSequenceTimeout, execAttest, execGetCert, execUnlock, execMailboxOpDone,
      execRelock, execSecFloorWrite, execIdKeyReady, execFlashOpDone, execInfo, execRegRead, execRegWrite,
      execMemRead, execMemWrite, execOrderPut, execOrderSubmit, execRecAck, execRecResendTimeout,
      execOrderStagingTimeout, execFwPut, execFwCommit, execDumpRead, execMctpControl, execPldmDiscovery,
      execPldmPlatform, execPldmFirmwareUpdate, execIcmpEcho, execArpRequest, execNeighbourDiscovery,
      execI3cEntdaa, execAttnPress, execAttnTimeout, execAttnClr, execLedChainRefresh, execMgmtSave,
      execMgmtCntClr, execBackStairTimeout, execTestLogicReset]
    exact runs_aux _ _
  case mma | mcDeferredCmdFault | mcNullToken | mcBlockClose | mcDrain | mcInjectArm | mcCntClr | vcKernel
    | vcNullCommand | vcCompletionToken | vcErrRsp | vcInjectArm | vcCntClr | scLoadReturn | scLoadTimeout | scEnable
    | scDisable | scInjectArm | scCntClr | hallRead | hallWrite | hallAtomic | poisonedResponse | dmCopy | dmMcast
    | dmFill | dmAtomic | dmNullToken | dmDescriptorStart | dmCompletion | dmTimeout | suSwitch | suMerge | suDistribute
    | suCollect | suWatchdog | hallCntClr | lndHeadFlit | rdRsp | wrAck | atRsp | mcPrune | errRsp | fltArrive
    | fltRelease | faultFlag | tblFlip | lndFltArrive | lndTblSelFlip | lndStallTimeout | lndCntClr | tokenData
    | tokenNull | tokenConnect | tokenClose | tokenRingMsg | tokenRingPad | tokenReserve | creditReturn | grant | refuse
    | closeAck | creditBatchTimeout | connectTimeout | mcDataSend | reserveTimeout | sendStallWatchdog | qDrainClear
    | qCntClr | warmEntry | coldEntry | gstepAbort | scanGo | scanDone | drainScanTimeout | migrationStart | memcRead
    | memcWrite | memcAtomic | patrolScrub | refresh | dramTempRead | memIrgnWrite | memcCntClr | linkDataFrame | linkNak
    | ctrlIdle | ctrlTrain | ctrlPromote | ctrlPromoteAck | ctrlPromoteNak | ctrlDown | ctrlDownAck | linkReplayTimeout
    | nakRepeatTimeout | lossOfLight | lossOfLock | qualWindowEnd | laneLock | timePacket | trainingPhaseTimeout | soakEnd | portUp
    | portDown | portEnable | portDisable | lightReturn | latchLift | linkDrainTimeout | laserOffTimeout | latchClose
    | fabPortCntClr | erMeshIngress | fabricPacketForward | fabricDwellTimeout | fabWrite | tack | tackDelayTimeout
    | retransmitTimeout | connectionIdleTimeout | fabReserveTimeout | barrierArrive | barrierRelease
    | barrierArriveResend | barrierActionAtT | orderPacket | erCntClr | sclCmdDb | sclCplDb | descriptorAccept
    | cplModerationTimeout | gndSnap | rotationTick | rotationMove | galFenceSet | galUnfence | coreReset | galleryReset
    | lndReset | halfReset | bootPage | gbootArm | gbootDisarm | gbootReport | railUndervoltage | railRecovered
    | thermalSample | icClaim | sourceTrigger | softwareInterrupt | cpTimer | moderationTimeout | cpRelease | cpHold
    | writeMessageClose =>
    simp only [exec, execMma, execMcDeferredCmdFault, execMcNullToken, execMcBlockClose, execMcDrain, execMcInjectArm,
      execMcCntClr, execVcKernel, execVcNullCommand, execVcCompletionToken, execVcErrRsp, execVcInjectArm,
      execVcCntClr, execScLoadReturn, execScLoadTimeout, execScEnable, execScDisable, execScInjectArm,
      execScCntClr, execHallRead, execHallWrite, execHallAtomic, execPoisonedResponse, execDmCopy, execDmMcast,
      execDmFill, execDmAtomic, execDmNullToken, execDmDescriptorStart, execDmCompletion, execDmTimeout,
      execSuSwitch, execSuMerge, execSuDistribute, execSuCollect, execSuWatchdog, execHallCntClr,
      execLndHeadFlit, execRdRsp, execWrAck, execAtRsp, execMcPrune, execErrRsp, execFltArrive, execFltRelease,
      execFaultFlag, execTblFlip, execLndFltArrive, execLndTblSelFlip, execLndStallTimeout, execLndCntClr,
      execTokenData, execTokenNull, execTokenConnect, execTokenClose, execTokenRingMsg, execTokenRingPad,
      execTokenReserve, execCreditReturn, execGrant, execRefuse, execCloseAck, execCreditBatchTimeout,
      execConnectTimeout, execMcDataSend, execReserveTimeout, execSendStallWatchdog, execQDrainClear,
      execQCntClr, execWarmEntry, execColdEntry, execGstepAbort, execScanGo, execScanDone,
      execDrainScanTimeout, execMigrationStart, execMemcRead, execMemcWrite, execMemcAtomic, execPatrolScrub,
      execRefresh, execDramTempRead, execMemIrgnWrite, execMemcCntClr, execLinkDataFrame, execLinkNak,
      execCtrlIdle, execCtrlTrain, execCtrlPromote, execCtrlPromoteAck, execCtrlPromoteNak, execCtrlDown,
      execCtrlDownAck, execLinkReplayTimeout, execNakRepeatTimeout, execLossOfLight, execLossOfLock,
      execQualWindowEnd, execLaneLock, execTrainingPhaseTimeout, execSoakEnd, execPortUp, execPortDown,
      execPortEnable, execPortDisable, execLightReturn, execLatchLift, execLinkDrainTimeout,
      execLaserOffTimeout, execLatchClose, execFabPortCntClr, execTimePacket, execErMeshIngress, execFabricPacketForward,
      execFabricDwellTimeout, execFabWrite, execTack, execTackDelayTimeout, execRetransmitTimeout,
      execConnectionIdleTimeout, execFabReserveTimeout, execBarrierArrive, execBarrierRelease,
      execBarrierArriveResend, execBarrierActionAtT, execOrderPacket, execErCntClr, execSclCmdDb, execSclCplDb,
      execDescriptorAccept, execCplModerationTimeout, execGndSnap, execRotationTick, execRotationMove,
      execGalFenceSet, execGalUnfence, execCoreReset, execGalleryReset, execLndReset, execHalfReset,
      execBootPage, execGbootArm, execGbootDisarm, execGbootReport, execRailUndervoltage, execRailRecovered,
      execThermalSample, execIcClaim, execSourceTrigger, execSoftwareInterrupt, execCpTimer,
      execModerationTimeout, execCpRelease, execCpHold, execWriteMessageClose]
    exact runs_on _ _ _
  case vfma | vadd | vmul | vsub | vmin | vmax | vcmp | vsel | vcvt | vredsum | vredmax | vscale | vgetexp | vgetmant
    | vand | vor | vxor | vshl | vshr | vld | vst | vldh | vsth | vrng | xaddi | xloop | xli | qrecv | qsend | vend =>
    simp only [exec, execVfma, execVadd, execVmul, execVsub, execVmin, execVmax, execVcmp, execVsel, execVcvt, execVredsum,
      execVredmax, execVscale, execVgetexp, execVgetmant, execVand, execVor, execVxor, execVshl, execVshr,
      execVld, execVst, execVldh, execVsth, execVrng, execXaddi, execXloop, execXli, execQrecv, execQsend,
      execVend]
    exact runs_vInstr _ _ _ _ _ _
  case add | sub | and | or | xor | shl | shr | sra | slt | sltu | mul | mulhu | min | max | minu | maxu | addi | andi
    | ori | xori | slti | lui | ld8 | ld16 | ld32 | ld64 | st8 | st16 | st32 | st64 | beq | bne | blt | bge | bltu | bgeu
    | jal | jalr | ycg | fence | halt | time =>
    simp only [exec, execAdd, execSub, execAnd, execOr, execXor, execShl, execShr, execSra, execSlt, execSltu, execMul,
      execMulhu, execMin, execMax, execMinu, execMaxu, execAddi, execAndi, execOri, execXori, execSlti,
      execLui, execLd8, execLd16, execLd32, execLd64, execSt8, execSt16, execSt32, execSt64, execBeq, execBne,
      execBlt, execBge, execBltu, execBgeu, execJal, execJalr, execYcg, execFence, execHalt, execTime]
    exact runs_sExec _ _ _ _ _ _
  case connect | send | recv | close | stepwait | step | sendPlace | sendPost | sendNull | sendRetry | recvReleaseOnly
    | connectMulticast =>
    simp only [exec, execConnect, execSend, execRecv, execClose, execStepwait, execStep, execSendPlace, execSendPost,
      execSendNull, execSendRetry, execRecvReleaseOnly, execConnectMulticast]
    exact runs_chExec _ _ _ _ _
  case wfi | iret | ien | idis | cinv =>
    simp only [exec, execWfi, execIret, execIen, execIdis, execCinv]
    exact runs_cpExec _ _ _ _ _
  case seqStepStart | commitRelease | commitRecordAck | guardCopyAck | stepWatchdog | quietEnd | rollbackRestart
    | seqCtlStop | seqCtlResume | seqCtlUnload | seqCtlAbort | fabricBarrierTimeout | programDigestDone | seqCntClr
    | memDdrIlvWrite | barrierTrigger | orderAssemblyTimeout | sclLinkFail | sclDownTimeout | hrd | hwr
    | flush | snpInv | sclData | sclCmp | sclErr | nop | load | replace | steps | copyIn | copyOut | stop | resume
    | unload | abort | drain | descFence | result | digest | digestDone | remap | defects | sclCntClr | stElementDone
    | stElementTimeout | testGallery | testGalleryNow | testLanding | testStairLink | testEdgeRouter | testDevice
    | testHbmStack | testDdr5Channel | stCmd | stCntClr | spareReloadDone | fltCntClr | readyActions | powerInterval
    | fastClamp | pwrCntClr | icCntClr | fabTopoWrite | sclLinkEnable =>
    simp only [exec, execSeqStepStart, execCommitRelease, execCommitRecordAck, execGuardCopyAck, execStepWatchdog,
      execQuietEnd, execRollbackRestart, execSeqCtlStop, execSeqCtlResume, execSeqCtlUnload, execSeqCtlAbort,
      execFabricBarrierTimeout, execProgramDigestDone, execSeqCntClr, execMemDdrIlvWrite, execBarrierTrigger,
      execOrderAssemblyTimeout, execSclLinkFail, execSclDownTimeout, execHrd, execHwr,
      execFlush, execSnpInv, execSclData, execSclCmp, execSclErr, execNop, execLoad, execReplace, execSteps,
      execCopyIn, execCopyOut, execStop, execResume, execUnload, execAbort, execDrain, execDescFence,
      execResult, execDigest, execDigestDone, execRemap, execDefects, execSclCntClr, execStElementDone,
      execStElementTimeout, execTestGallery, execTestGalleryNow, execTestLanding, execTestStairLink,
      execTestEdgeRouter, execTestDevice, execTestHbmStack, execTestDdr5Channel, execStCmd, execStCntClr,
      execSpareReloadDone, execFltCntClr, execReadyActions, execPowerInterval, execFastClamp, execPwrCntClr,
      execIcCntClr, execFabTopoWrite, execSclLinkEnable]
    exact runs_run _ _
  case dimmPresenceChange =>
    simp only [exec, execDimmPresenceChange]
    exact runs_ite _ _ _ (runs_if _ _ _)
  case fabRead | fabAtomic | fabToken | fabReserve | fabReadRsp | fabAtomicRsp | rsvAns =>
    simp only [exec, execFabRead, execFabAtomic, execFabToken, execFabReserve, execFabReadRsp, execFabAtomicRsp, execRsvAns]
    exact runs_fab _ _ _ _ _
  case ctxOpen | ctxOpenAck | ctxClose | ctxCloseAck | ctxNoctx =>
    simp only [exec, execCtxOpen, execCtxOpenAck, execCtxClose, execCtxCloseAck, execCtxNoctx]
    exact runs_ctx _ _ _ _ _
  case interruptDelivery | isolationSwitchTimeout | cpWdEnable | cpWdKick | cpWdExpiry =>
    simp only [exec, execInterruptDelivery, execIsolationSwitchTimeout, execCpWdEnable, execCpWdKick, execCpWdExpiry]
    exact runs_ite _ _ _ (runs_aux _ _)
  case coldReset | powerLoss | refclkLoss =>
    simp only [exec, execColdReset, execPowerLoss, execRefclkLoss]
    exact runs_if _ _ _

/-- The next state of a command: the state itself, or what its operations leave. -/
theorem exec_next {i : Instr} {s t : State} (h : exec i s = .next t) : t = s ∨ ∃ f : W → W, t = s.after (f s.w) := by
  rcases exec_runs i s with ⟨on, f, hf⟩ | hf
  · rw [hf] at h
    cases on with
    | false => left; simpa [runIf] using h.symm
    | true => right; exact ⟨f, by simpa [runIf] using h.symm⟩
  · rw [hf] at h; cases h

/-- A command leaves the queue alone. -/
theorem exec_pending {i : Instr} {s t : State} (h : exec i s = .next t) : t.pending = s.pending := by
  rcases exec_next h with rfl | ⟨f, rfl⟩ <;> rfl

/-- A command changes memory by a list of changes. -/
theorem exec_mem {i : Instr} {s t : State} (h : exec i s = .next t) : ∃ log, t.mem = s.mem.applyAll log := by
  rcases exec_next h with rfl | ⟨f, rfl⟩
  · exact ⟨[], rfl⟩
  · exact ⟨_, rfl⟩

/-- A command keeps memory canonical. -/
theorem exec_mem_wf {i : Instr} {s t : State} (h : exec i s = .next t) (hm : s.mem.wf = true) : t.mem.wf = true := by
  obtain ⟨log, hl⟩ := exec_mem h
  rw [hl]; exact Memory.wf_applyAll _ _ hm

end Sys2Proof.Machine
end

