-- ==== Sys2Proof/Laws/State.lean ====
section
/-! SUPPORT. The small laws of State and of a command in progress: what each update changes and what it leaves alone, one
law per update and reading, all of them true by computing. -/

namespace Sys2Proof.Machine

/-! ### A command's beginning and end -/

@[simp] theorem State.w_c (s : State) : s.w.c = s.chip := rfl
@[simp] theorem State.w_mem (s : State) : s.w.mem = s.mem := rfl
@[simp] theorem State.w_log (s : State) : s.w.log = [] := rfl
@[simp] theorem State.w_bad (s : State) : s.w.bad = s.badPar := rfl
@[simp] theorem State.after_chip (s : State) (w : W) : (s.after w).chip = w.c := rfl
@[simp] theorem State.after_pending (s : State) (w : W) : (s.after w).pending = s.pending := rfl
@[simp] theorem State.after_mem (s : State) (w : W) : (s.after w).mem = s.mem.applyAll w.log := rfl
@[simp] theorem State.after_badPar (s : State) (w : W) : (s.after w).badPar = w.bad := rfl
@[simp] theorem State.after_w (s : State) : s.after s.w = s := rfl

namespace W

/-! ### setReg -/

@[simp] theorem setReg_c (w : W) (k : Nat) (v : Word) : (w.setReg k v).c = { w.c with regs := Tbl.set (regReset w.c.fuses) w.c.regs k v } := rfl
@[simp] theorem setReg_mem (w : W) (k : Nat) (v : Word) : (w.setReg k v).mem = w.mem := rfl
@[simp] theorem setReg_log (w : W) (k : Nat) (v : Word) : (w.setReg k v).log = w.log := rfl
@[simp] theorem setReg_bad (w : W) (k : Nat) (v : Word) : (w.setReg k v).bad = w.bad := rfl
@[simp] theorem setReg_mc (w : W) (k : Nat) (v : Word) (a b : Nat) : (w.setReg k v).mc a b = w.mc a b := rfl
@[simp] theorem setReg_vc (w : W) (k : Nat) (v : Word) (a b : Nat) : (w.setReg k v).vc a b = w.vc a b := rfl
@[simp] theorem setReg_sc (w : W) (k : Nat) (v : Word) (a b : Nat) : (w.setReg k v).sc a b = w.sc a b := rfl
@[simp] theorem setReg_cp (w : W) (k : Nat) (v : Word) (a : Nat) : (w.setReg k v).cp a = w.cp a := rfl
@[simp] theorem setReg_hall (w : W) (k : Nat) (v : Word) (a : Nat) : (w.setReg k v).hall a = w.hall a := rfl
@[simp] theorem setReg_dm (w : W) (k : Nat) (v : Word) (a : Nat) : (w.setReg k v).dm a = w.dm a := rfl
@[simp] theorem setReg_su (w : W) (k : Nat) (v : Word) (a : Nat) : (w.setReg k v).su a = w.su a := rfl
@[simp] theorem setReg_landing (w : W) (k : Nat) (v : Word) (a : Nat) : (w.setReg k v).landing a = w.landing a := rfl
@[simp] theorem setReg_memc (w : W) (k : Nat) (v : Word) (a : Nat) : (w.setReg k v).memc a = w.memc a := rfl
@[simp] theorem setReg_agent (w : W) (k : Nat) (v : Word) (a b : Nat) : (w.setReg k v).agent a b = w.agent a b := rfl
@[simp] theorem setReg_port (w : W) (k : Nat) (v : Word) (a : Nat) : (w.setReg k v).port a = w.port a := rfl
@[simp] theorem setReg_router (w : W) (k : Nat) (v : Word) (a : Nat) : (w.setReg k v).router a = w.router a := rfl
@[simp] theorem setReg_bar (w : W) (k : Nat) (v : Word) (a : Nat) : (w.setReg k v).bar a = w.bar a := rfl
@[simp] theorem setReg_rd (w : W) (k : Nat) (v : Word) (a : Nat) : (w.setReg k v).rd a = w.rd a := rfl
@[simp] theorem setReg_rdBytes (w : W) (k : Nat) (v : Word) (a b : Nat) : (w.setReg k v).rdBytes a b = w.rdBytes a b := rfl

/-! ### setMc -/

@[simp] theorem setMc_c (w : W) (p n : Nat) (x : MCore) : (w.setMc p n x).c = { w.c with mcs := Tbl.set (fun _ => {}) w.c.mcs (8 * p + n) x } := rfl
@[simp] theorem setMc_mem (w : W) (p n : Nat) (x : MCore) : (w.setMc p n x).mem = w.mem := rfl
@[simp] theorem setMc_log (w : W) (p n : Nat) (x : MCore) : (w.setMc p n x).log = w.log := rfl
@[simp] theorem setMc_bad (w : W) (p n : Nat) (x : MCore) : (w.setMc p n x).bad = w.bad := rfl
@[simp] theorem setMc_reg (w : W) (p n : Nat) (x : MCore) (j : Nat) : (w.setMc p n x).reg j = w.reg j := rfl
@[simp] theorem setMc_fld (w : W) (p n : Nat) (x : MCore) (j : Nat) (f : Fld) : (w.setMc p n x).fld j f = w.fld j f := rfl
@[simp] theorem setMc_flag (w : W) (p n : Nat) (x : MCore) (j : Nat) (f : Fld) : (w.setMc p n x).flag j f = w.flag j f := rfl
@[simp] theorem setMc_vc (w : W) (p n : Nat) (x : MCore) (a b : Nat) : (w.setMc p n x).vc a b = w.vc a b := rfl
@[simp] theorem setMc_sc (w : W) (p n : Nat) (x : MCore) (a b : Nat) : (w.setMc p n x).sc a b = w.sc a b := rfl
@[simp] theorem setMc_cp (w : W) (p n : Nat) (x : MCore) (a : Nat) : (w.setMc p n x).cp a = w.cp a := rfl
@[simp] theorem setMc_hall (w : W) (p n : Nat) (x : MCore) (a : Nat) : (w.setMc p n x).hall a = w.hall a := rfl
@[simp] theorem setMc_dm (w : W) (p n : Nat) (x : MCore) (a : Nat) : (w.setMc p n x).dm a = w.dm a := rfl
@[simp] theorem setMc_su (w : W) (p n : Nat) (x : MCore) (a : Nat) : (w.setMc p n x).su a = w.su a := rfl
@[simp] theorem setMc_landing (w : W) (p n : Nat) (x : MCore) (a : Nat) : (w.setMc p n x).landing a = w.landing a := rfl
@[simp] theorem setMc_memc (w : W) (p n : Nat) (x : MCore) (a : Nat) : (w.setMc p n x).memc a = w.memc a := rfl
@[simp] theorem setMc_agent (w : W) (p n : Nat) (x : MCore) (a b : Nat) : (w.setMc p n x).agent a b = w.agent a b := rfl
@[simp] theorem setMc_port (w : W) (p n : Nat) (x : MCore) (a : Nat) : (w.setMc p n x).port a = w.port a := rfl
@[simp] theorem setMc_router (w : W) (p n : Nat) (x : MCore) (a : Nat) : (w.setMc p n x).router a = w.router a := rfl
@[simp] theorem setMc_bar (w : W) (p n : Nat) (x : MCore) (a : Nat) : (w.setMc p n x).bar a = w.bar a := rfl
@[simp] theorem setMc_rd (w : W) (p n : Nat) (x : MCore) (a : Nat) : (w.setMc p n x).rd a = w.rd a := rfl
@[simp] theorem setMc_rdBytes (w : W) (p n : Nat) (x : MCore) (a b : Nat) : (w.setMc p n x).rdBytes a b = w.rdBytes a b := rfl

/-! ### setVc -/

@[simp] theorem setVc_c (w : W) (p n : Nat) (x : VCore) : (w.setVc p n x).c = { w.c with vcs := Tbl.set (fun _ => {}) w.c.vcs (4 * p + n) x } := rfl
@[simp] theorem setVc_mem (w : W) (p n : Nat) (x : VCore) : (w.setVc p n x).mem = w.mem := rfl
@[simp] theorem setVc_log (w : W) (p n : Nat) (x : VCore) : (w.setVc p n x).log = w.log := rfl
@[simp] theorem setVc_bad (w : W) (p n : Nat) (x : VCore) : (w.setVc p n x).bad = w.bad := rfl
@[simp] theorem setVc_reg (w : W) (p n : Nat) (x : VCore) (j : Nat) : (w.setVc p n x).reg j = w.reg j := rfl
@[simp] theorem setVc_fld (w : W) (p n : Nat) (x : VCore) (j : Nat) (f : Fld) : (w.setVc p n x).fld j f = w.fld j f := rfl
@[simp] theorem setVc_flag (w : W) (p n : Nat) (x : VCore) (j : Nat) (f : Fld) : (w.setVc p n x).flag j f = w.flag j f := rfl
@[simp] theorem setVc_mc (w : W) (p n : Nat) (x : VCore) (a b : Nat) : (w.setVc p n x).mc a b = w.mc a b := rfl
@[simp] theorem setVc_sc (w : W) (p n : Nat) (x : VCore) (a b : Nat) : (w.setVc p n x).sc a b = w.sc a b := rfl
@[simp] theorem setVc_cp (w : W) (p n : Nat) (x : VCore) (a : Nat) : (w.setVc p n x).cp a = w.cp a := rfl
@[simp] theorem setVc_hall (w : W) (p n : Nat) (x : VCore) (a : Nat) : (w.setVc p n x).hall a = w.hall a := rfl
@[simp] theorem setVc_dm (w : W) (p n : Nat) (x : VCore) (a : Nat) : (w.setVc p n x).dm a = w.dm a := rfl
@[simp] theorem setVc_su (w : W) (p n : Nat) (x : VCore) (a : Nat) : (w.setVc p n x).su a = w.su a := rfl
@[simp] theorem setVc_landing (w : W) (p n : Nat) (x : VCore) (a : Nat) : (w.setVc p n x).landing a = w.landing a := rfl
@[simp] theorem setVc_memc (w : W) (p n : Nat) (x : VCore) (a : Nat) : (w.setVc p n x).memc a = w.memc a := rfl
@[simp] theorem setVc_agent (w : W) (p n : Nat) (x : VCore) (a b : Nat) : (w.setVc p n x).agent a b = w.agent a b := rfl
@[simp] theorem setVc_port (w : W) (p n : Nat) (x : VCore) (a : Nat) : (w.setVc p n x).port a = w.port a := rfl
@[simp] theorem setVc_router (w : W) (p n : Nat) (x : VCore) (a : Nat) : (w.setVc p n x).router a = w.router a := rfl
@[simp] theorem setVc_bar (w : W) (p n : Nat) (x : VCore) (a : Nat) : (w.setVc p n x).bar a = w.bar a := rfl
@[simp] theorem setVc_rd (w : W) (p n : Nat) (x : VCore) (a : Nat) : (w.setVc p n x).rd a = w.rd a := rfl
@[simp] theorem setVc_rdBytes (w : W) (p n : Nat) (x : VCore) (a b : Nat) : (w.setVc p n x).rdBytes a b = w.rdBytes a b := rfl

/-! ### setSc -/

@[simp] theorem setSc_c (w : W) (p n : Nat) (x : SCore) : (w.setSc p n x).c = { w.c with scs := Tbl.set (fun _ => {}) w.c.scs (2 * p + n) x } := rfl
@[simp] theorem setSc_mem (w : W) (p n : Nat) (x : SCore) : (w.setSc p n x).mem = w.mem := rfl
@[simp] theorem setSc_log (w : W) (p n : Nat) (x : SCore) : (w.setSc p n x).log = w.log := rfl
@[simp] theorem setSc_bad (w : W) (p n : Nat) (x : SCore) : (w.setSc p n x).bad = w.bad := rfl
@[simp] theorem setSc_reg (w : W) (p n : Nat) (x : SCore) (j : Nat) : (w.setSc p n x).reg j = w.reg j := rfl
@[simp] theorem setSc_fld (w : W) (p n : Nat) (x : SCore) (j : Nat) (f : Fld) : (w.setSc p n x).fld j f = w.fld j f := rfl
@[simp] theorem setSc_flag (w : W) (p n : Nat) (x : SCore) (j : Nat) (f : Fld) : (w.setSc p n x).flag j f = w.flag j f := rfl
@[simp] theorem setSc_mc (w : W) (p n : Nat) (x : SCore) (a b : Nat) : (w.setSc p n x).mc a b = w.mc a b := rfl
@[simp] theorem setSc_vc (w : W) (p n : Nat) (x : SCore) (a b : Nat) : (w.setSc p n x).vc a b = w.vc a b := rfl
@[simp] theorem setSc_cp (w : W) (p n : Nat) (x : SCore) (a : Nat) : (w.setSc p n x).cp a = w.cp a := rfl
@[simp] theorem setSc_hall (w : W) (p n : Nat) (x : SCore) (a : Nat) : (w.setSc p n x).hall a = w.hall a := rfl
@[simp] theorem setSc_dm (w : W) (p n : Nat) (x : SCore) (a : Nat) : (w.setSc p n x).dm a = w.dm a := rfl
@[simp] theorem setSc_su (w : W) (p n : Nat) (x : SCore) (a : Nat) : (w.setSc p n x).su a = w.su a := rfl
@[simp] theorem setSc_landing (w : W) (p n : Nat) (x : SCore) (a : Nat) : (w.setSc p n x).landing a = w.landing a := rfl
@[simp] theorem setSc_memc (w : W) (p n : Nat) (x : SCore) (a : Nat) : (w.setSc p n x).memc a = w.memc a := rfl
@[simp] theorem setSc_agent (w : W) (p n : Nat) (x : SCore) (a b : Nat) : (w.setSc p n x).agent a b = w.agent a b := rfl
@[simp] theorem setSc_port (w : W) (p n : Nat) (x : SCore) (a : Nat) : (w.setSc p n x).port a = w.port a := rfl
@[simp] theorem setSc_router (w : W) (p n : Nat) (x : SCore) (a : Nat) : (w.setSc p n x).router a = w.router a := rfl
@[simp] theorem setSc_bar (w : W) (p n : Nat) (x : SCore) (a : Nat) : (w.setSc p n x).bar a = w.bar a := rfl
@[simp] theorem setSc_rd (w : W) (p n : Nat) (x : SCore) (a : Nat) : (w.setSc p n x).rd a = w.rd a := rfl
@[simp] theorem setSc_rdBytes (w : W) (p n : Nat) (x : SCore) (a b : Nat) : (w.setSc p n x).rdBytes a b = w.rdBytes a b := rfl

/-! ### setCp -/

@[simp] theorem setCp_c (w : W) (p : Nat) (x : SCore) : (w.setCp p x).c = { w.c with cps := Tbl.set (fun _ => {}) w.c.cps p x } := rfl
@[simp] theorem setCp_mem (w : W) (p : Nat) (x : SCore) : (w.setCp p x).mem = w.mem := rfl
@[simp] theorem setCp_log (w : W) (p : Nat) (x : SCore) : (w.setCp p x).log = w.log := rfl
@[simp] theorem setCp_bad (w : W) (p : Nat) (x : SCore) : (w.setCp p x).bad = w.bad := rfl
@[simp] theorem setCp_reg (w : W) (p : Nat) (x : SCore) (j : Nat) : (w.setCp p x).reg j = w.reg j := rfl
@[simp] theorem setCp_fld (w : W) (p : Nat) (x : SCore) (j : Nat) (f : Fld) : (w.setCp p x).fld j f = w.fld j f := rfl
@[simp] theorem setCp_flag (w : W) (p : Nat) (x : SCore) (j : Nat) (f : Fld) : (w.setCp p x).flag j f = w.flag j f := rfl
@[simp] theorem setCp_mc (w : W) (p : Nat) (x : SCore) (a b : Nat) : (w.setCp p x).mc a b = w.mc a b := rfl
@[simp] theorem setCp_vc (w : W) (p : Nat) (x : SCore) (a b : Nat) : (w.setCp p x).vc a b = w.vc a b := rfl
@[simp] theorem setCp_sc (w : W) (p : Nat) (x : SCore) (a b : Nat) : (w.setCp p x).sc a b = w.sc a b := rfl
@[simp] theorem setCp_hall (w : W) (p : Nat) (x : SCore) (a : Nat) : (w.setCp p x).hall a = w.hall a := rfl
@[simp] theorem setCp_dm (w : W) (p : Nat) (x : SCore) (a : Nat) : (w.setCp p x).dm a = w.dm a := rfl
@[simp] theorem setCp_su (w : W) (p : Nat) (x : SCore) (a : Nat) : (w.setCp p x).su a = w.su a := rfl
@[simp] theorem setCp_landing (w : W) (p : Nat) (x : SCore) (a : Nat) : (w.setCp p x).landing a = w.landing a := rfl
@[simp] theorem setCp_memc (w : W) (p : Nat) (x : SCore) (a : Nat) : (w.setCp p x).memc a = w.memc a := rfl
@[simp] theorem setCp_agent (w : W) (p : Nat) (x : SCore) (a b : Nat) : (w.setCp p x).agent a b = w.agent a b := rfl
@[simp] theorem setCp_port (w : W) (p : Nat) (x : SCore) (a : Nat) : (w.setCp p x).port a = w.port a := rfl
@[simp] theorem setCp_router (w : W) (p : Nat) (x : SCore) (a : Nat) : (w.setCp p x).router a = w.router a := rfl
@[simp] theorem setCp_bar (w : W) (p : Nat) (x : SCore) (a : Nat) : (w.setCp p x).bar a = w.bar a := rfl
@[simp] theorem setCp_rd (w : W) (p : Nat) (x : SCore) (a : Nat) : (w.setCp p x).rd a = w.rd a := rfl
@[simp] theorem setCp_rdBytes (w : W) (p : Nat) (x : SCore) (a b : Nat) : (w.setCp p x).rdBytes a b = w.rdBytes a b := rfl

/-! ### setHall -/

@[simp] theorem setHall_c (w : W) (p : Nat) (x : Hall) : (w.setHall p x).c = { w.c with halls := Tbl.set (fun _ => {}) w.c.halls p x } := rfl
@[simp] theorem setHall_mem (w : W) (p : Nat) (x : Hall) : (w.setHall p x).mem = w.mem := rfl
@[simp] theorem setHall_log (w : W) (p : Nat) (x : Hall) : (w.setHall p x).log = w.log := rfl
@[simp] theorem setHall_bad (w : W) (p : Nat) (x : Hall) : (w.setHall p x).bad = w.bad := rfl
@[simp] theorem setHall_reg (w : W) (p : Nat) (x : Hall) (j : Nat) : (w.setHall p x).reg j = w.reg j := rfl
@[simp] theorem setHall_fld (w : W) (p : Nat) (x : Hall) (j : Nat) (f : Fld) : (w.setHall p x).fld j f = w.fld j f := rfl
@[simp] theorem setHall_flag (w : W) (p : Nat) (x : Hall) (j : Nat) (f : Fld) : (w.setHall p x).flag j f = w.flag j f := rfl
@[simp] theorem setHall_mc (w : W) (p : Nat) (x : Hall) (a b : Nat) : (w.setHall p x).mc a b = w.mc a b := rfl
@[simp] theorem setHall_vc (w : W) (p : Nat) (x : Hall) (a b : Nat) : (w.setHall p x).vc a b = w.vc a b := rfl
@[simp] theorem setHall_sc (w : W) (p : Nat) (x : Hall) (a b : Nat) : (w.setHall p x).sc a b = w.sc a b := rfl
@[simp] theorem setHall_cp (w : W) (p : Nat) (x : Hall) (a : Nat) : (w.setHall p x).cp a = w.cp a := rfl
@[simp] theorem setHall_dm (w : W) (p : Nat) (x : Hall) (a : Nat) : (w.setHall p x).dm a = w.dm a := rfl
@[simp] theorem setHall_su (w : W) (p : Nat) (x : Hall) (a : Nat) : (w.setHall p x).su a = w.su a := rfl
@[simp] theorem setHall_landing (w : W) (p : Nat) (x : Hall) (a : Nat) : (w.setHall p x).landing a = w.landing a := rfl
@[simp] theorem setHall_memc (w : W) (p : Nat) (x : Hall) (a : Nat) : (w.setHall p x).memc a = w.memc a := rfl
@[simp] theorem setHall_agent (w : W) (p : Nat) (x : Hall) (a b : Nat) : (w.setHall p x).agent a b = w.agent a b := rfl
@[simp] theorem setHall_port (w : W) (p : Nat) (x : Hall) (a : Nat) : (w.setHall p x).port a = w.port a := rfl
@[simp] theorem setHall_router (w : W) (p : Nat) (x : Hall) (a : Nat) : (w.setHall p x).router a = w.router a := rfl
@[simp] theorem setHall_bar (w : W) (p : Nat) (x : Hall) (a : Nat) : (w.setHall p x).bar a = w.bar a := rfl
@[simp] theorem setHall_rd (w : W) (p : Nat) (x : Hall) (a : Nat) : (w.setHall p x).rd a = w.rd a := rfl
@[simp] theorem setHall_rdBytes (w : W) (p : Nat) (x : Hall) (a b : Nat) : (w.setHall p x).rdBytes a b = w.rdBytes a b := rfl

/-! ### setDm -/

@[simp] theorem setDm_c (w : W) (p : Nat) (x : DataMover) : (w.setDm p x).c = { w.c with dms := Tbl.set (fun _ => {}) w.c.dms p x } := rfl
@[simp] theorem setDm_mem (w : W) (p : Nat) (x : DataMover) : (w.setDm p x).mem = w.mem := rfl
@[simp] theorem setDm_log (w : W) (p : Nat) (x : DataMover) : (w.setDm p x).log = w.log := rfl
@[simp] theorem setDm_bad (w : W) (p : Nat) (x : DataMover) : (w.setDm p x).bad = w.bad := rfl
@[simp] theorem setDm_reg (w : W) (p : Nat) (x : DataMover) (j : Nat) : (w.setDm p x).reg j = w.reg j := rfl
@[simp] theorem setDm_fld (w : W) (p : Nat) (x : DataMover) (j : Nat) (f : Fld) : (w.setDm p x).fld j f = w.fld j f := rfl
@[simp] theorem setDm_flag (w : W) (p : Nat) (x : DataMover) (j : Nat) (f : Fld) : (w.setDm p x).flag j f = w.flag j f := rfl
@[simp] theorem setDm_mc (w : W) (p : Nat) (x : DataMover) (a b : Nat) : (w.setDm p x).mc a b = w.mc a b := rfl
@[simp] theorem setDm_vc (w : W) (p : Nat) (x : DataMover) (a b : Nat) : (w.setDm p x).vc a b = w.vc a b := rfl
@[simp] theorem setDm_sc (w : W) (p : Nat) (x : DataMover) (a b : Nat) : (w.setDm p x).sc a b = w.sc a b := rfl
@[simp] theorem setDm_cp (w : W) (p : Nat) (x : DataMover) (a : Nat) : (w.setDm p x).cp a = w.cp a := rfl
@[simp] theorem setDm_hall (w : W) (p : Nat) (x : DataMover) (a : Nat) : (w.setDm p x).hall a = w.hall a := rfl
@[simp] theorem setDm_su (w : W) (p : Nat) (x : DataMover) (a : Nat) : (w.setDm p x).su a = w.su a := rfl
@[simp] theorem setDm_landing (w : W) (p : Nat) (x : DataMover) (a : Nat) : (w.setDm p x).landing a = w.landing a := rfl
@[simp] theorem setDm_memc (w : W) (p : Nat) (x : DataMover) (a : Nat) : (w.setDm p x).memc a = w.memc a := rfl
@[simp] theorem setDm_agent (w : W) (p : Nat) (x : DataMover) (a b : Nat) : (w.setDm p x).agent a b = w.agent a b := rfl
@[simp] theorem setDm_port (w : W) (p : Nat) (x : DataMover) (a : Nat) : (w.setDm p x).port a = w.port a := rfl
@[simp] theorem setDm_router (w : W) (p : Nat) (x : DataMover) (a : Nat) : (w.setDm p x).router a = w.router a := rfl
@[simp] theorem setDm_bar (w : W) (p : Nat) (x : DataMover) (a : Nat) : (w.setDm p x).bar a = w.bar a := rfl
@[simp] theorem setDm_rd (w : W) (p : Nat) (x : DataMover) (a : Nat) : (w.setDm p x).rd a = w.rd a := rfl
@[simp] theorem setDm_rdBytes (w : W) (p : Nat) (x : DataMover) (a b : Nat) : (w.setDm p x).rdBytes a b = w.rdBytes a b := rfl

/-! ### setSu -/

@[simp] theorem setSu_c (w : W) (p : Nat) (x : Steer) : (w.setSu p x).c = { w.c with sus := Tbl.set (fun _ => {}) w.c.sus p x } := rfl
@[simp] theorem setSu_mem (w : W) (p : Nat) (x : Steer) : (w.setSu p x).mem = w.mem := rfl
@[simp] theorem setSu_log (w : W) (p : Nat) (x : Steer) : (w.setSu p x).log = w.log := rfl
@[simp] theorem setSu_bad (w : W) (p : Nat) (x : Steer) : (w.setSu p x).bad = w.bad := rfl
@[simp] theorem setSu_reg (w : W) (p : Nat) (x : Steer) (j : Nat) : (w.setSu p x).reg j = w.reg j := rfl
@[simp] theorem setSu_fld (w : W) (p : Nat) (x : Steer) (j : Nat) (f : Fld) : (w.setSu p x).fld j f = w.fld j f := rfl
@[simp] theorem setSu_flag (w : W) (p : Nat) (x : Steer) (j : Nat) (f : Fld) : (w.setSu p x).flag j f = w.flag j f := rfl
@[simp] theorem setSu_mc (w : W) (p : Nat) (x : Steer) (a b : Nat) : (w.setSu p x).mc a b = w.mc a b := rfl
@[simp] theorem setSu_vc (w : W) (p : Nat) (x : Steer) (a b : Nat) : (w.setSu p x).vc a b = w.vc a b := rfl
@[simp] theorem setSu_sc (w : W) (p : Nat) (x : Steer) (a b : Nat) : (w.setSu p x).sc a b = w.sc a b := rfl
@[simp] theorem setSu_cp (w : W) (p : Nat) (x : Steer) (a : Nat) : (w.setSu p x).cp a = w.cp a := rfl
@[simp] theorem setSu_hall (w : W) (p : Nat) (x : Steer) (a : Nat) : (w.setSu p x).hall a = w.hall a := rfl
@[simp] theorem setSu_dm (w : W) (p : Nat) (x : Steer) (a : Nat) : (w.setSu p x).dm a = w.dm a := rfl
@[simp] theorem setSu_landing (w : W) (p : Nat) (x : Steer) (a : Nat) : (w.setSu p x).landing a = w.landing a := rfl
@[simp] theorem setSu_memc (w : W) (p : Nat) (x : Steer) (a : Nat) : (w.setSu p x).memc a = w.memc a := rfl
@[simp] theorem setSu_agent (w : W) (p : Nat) (x : Steer) (a b : Nat) : (w.setSu p x).agent a b = w.agent a b := rfl
@[simp] theorem setSu_port (w : W) (p : Nat) (x : Steer) (a : Nat) : (w.setSu p x).port a = w.port a := rfl
@[simp] theorem setSu_router (w : W) (p : Nat) (x : Steer) (a : Nat) : (w.setSu p x).router a = w.router a := rfl
@[simp] theorem setSu_bar (w : W) (p : Nat) (x : Steer) (a : Nat) : (w.setSu p x).bar a = w.bar a := rfl
@[simp] theorem setSu_rd (w : W) (p : Nat) (x : Steer) (a : Nat) : (w.setSu p x).rd a = w.rd a := rfl
@[simp] theorem setSu_rdBytes (w : W) (p : Nat) (x : Steer) (a b : Nat) : (w.setSu p x).rdBytes a b = w.rdBytes a b := rfl

/-! ### setLanding -/

@[simp] theorem setLanding_c (w : W) (p : Nat) (x : Landing) : (w.setLanding p x).c = { w.c with landings := Tbl.set (fun _ => {}) w.c.landings p x } := rfl
@[simp] theorem setLanding_mem (w : W) (p : Nat) (x : Landing) : (w.setLanding p x).mem = w.mem := rfl
@[simp] theorem setLanding_log (w : W) (p : Nat) (x : Landing) : (w.setLanding p x).log = w.log := rfl
@[simp] theorem setLanding_bad (w : W) (p : Nat) (x : Landing) : (w.setLanding p x).bad = w.bad := rfl
@[simp] theorem setLanding_reg (w : W) (p : Nat) (x : Landing) (j : Nat) : (w.setLanding p x).reg j = w.reg j := rfl
@[simp] theorem setLanding_fld (w : W) (p : Nat) (x : Landing) (j : Nat) (f : Fld) : (w.setLanding p x).fld j f = w.fld j f := rfl
@[simp] theorem setLanding_flag (w : W) (p : Nat) (x : Landing) (j : Nat) (f : Fld) : (w.setLanding p x).flag j f = w.flag j f := rfl
@[simp] theorem setLanding_mc (w : W) (p : Nat) (x : Landing) (a b : Nat) : (w.setLanding p x).mc a b = w.mc a b := rfl
@[simp] theorem setLanding_vc (w : W) (p : Nat) (x : Landing) (a b : Nat) : (w.setLanding p x).vc a b = w.vc a b := rfl
@[simp] theorem setLanding_sc (w : W) (p : Nat) (x : Landing) (a b : Nat) : (w.setLanding p x).sc a b = w.sc a b := rfl
@[simp] theorem setLanding_cp (w : W) (p : Nat) (x : Landing) (a : Nat) : (w.setLanding p x).cp a = w.cp a := rfl
@[simp] theorem setLanding_hall (w : W) (p : Nat) (x : Landing) (a : Nat) : (w.setLanding p x).hall a = w.hall a := rfl
@[simp] theorem setLanding_dm (w : W) (p : Nat) (x : Landing) (a : Nat) : (w.setLanding p x).dm a = w.dm a := rfl
@[simp] theorem setLanding_su (w : W) (p : Nat) (x : Landing) (a : Nat) : (w.setLanding p x).su a = w.su a := rfl
@[simp] theorem setLanding_memc (w : W) (p : Nat) (x : Landing) (a : Nat) : (w.setLanding p x).memc a = w.memc a := rfl
@[simp] theorem setLanding_agent (w : W) (p : Nat) (x : Landing) (a b : Nat) : (w.setLanding p x).agent a b = w.agent a b := rfl
@[simp] theorem setLanding_port (w : W) (p : Nat) (x : Landing) (a : Nat) : (w.setLanding p x).port a = w.port a := rfl
@[simp] theorem setLanding_router (w : W) (p : Nat) (x : Landing) (a : Nat) : (w.setLanding p x).router a = w.router a := rfl
@[simp] theorem setLanding_bar (w : W) (p : Nat) (x : Landing) (a : Nat) : (w.setLanding p x).bar a = w.bar a := rfl
@[simp] theorem setLanding_rd (w : W) (p : Nat) (x : Landing) (a : Nat) : (w.setLanding p x).rd a = w.rd a := rfl
@[simp] theorem setLanding_rdBytes (w : W) (p : Nat) (x : Landing) (a b : Nat) : (w.setLanding p x).rdBytes a b = w.rdBytes a b := rfl

/-! ### setMemc -/

@[simp] theorem setMemc_c (w : W) (p : Nat) (x : MemCtl) : (w.setMemc p x).c = { w.c with mctl := Tbl.set (fun _ => {}) w.c.mctl p x } := rfl
@[simp] theorem setMemc_mem (w : W) (p : Nat) (x : MemCtl) : (w.setMemc p x).mem = w.mem := rfl
@[simp] theorem setMemc_log (w : W) (p : Nat) (x : MemCtl) : (w.setMemc p x).log = w.log := rfl
@[simp] theorem setMemc_bad (w : W) (p : Nat) (x : MemCtl) : (w.setMemc p x).bad = w.bad := rfl
@[simp] theorem setMemc_reg (w : W) (p : Nat) (x : MemCtl) (j : Nat) : (w.setMemc p x).reg j = w.reg j := rfl
@[simp] theorem setMemc_fld (w : W) (p : Nat) (x : MemCtl) (j : Nat) (f : Fld) : (w.setMemc p x).fld j f = w.fld j f := rfl
@[simp] theorem setMemc_flag (w : W) (p : Nat) (x : MemCtl) (j : Nat) (f : Fld) : (w.setMemc p x).flag j f = w.flag j f := rfl
@[simp] theorem setMemc_mc (w : W) (p : Nat) (x : MemCtl) (a b : Nat) : (w.setMemc p x).mc a b = w.mc a b := rfl
@[simp] theorem setMemc_vc (w : W) (p : Nat) (x : MemCtl) (a b : Nat) : (w.setMemc p x).vc a b = w.vc a b := rfl
@[simp] theorem setMemc_sc (w : W) (p : Nat) (x : MemCtl) (a b : Nat) : (w.setMemc p x).sc a b = w.sc a b := rfl
@[simp] theorem setMemc_cp (w : W) (p : Nat) (x : MemCtl) (a : Nat) : (w.setMemc p x).cp a = w.cp a := rfl
@[simp] theorem setMemc_hall (w : W) (p : Nat) (x : MemCtl) (a : Nat) : (w.setMemc p x).hall a = w.hall a := rfl
@[simp] theorem setMemc_dm (w : W) (p : Nat) (x : MemCtl) (a : Nat) : (w.setMemc p x).dm a = w.dm a := rfl
@[simp] theorem setMemc_su (w : W) (p : Nat) (x : MemCtl) (a : Nat) : (w.setMemc p x).su a = w.su a := rfl
@[simp] theorem setMemc_landing (w : W) (p : Nat) (x : MemCtl) (a : Nat) : (w.setMemc p x).landing a = w.landing a := rfl
@[simp] theorem setMemc_agent (w : W) (p : Nat) (x : MemCtl) (a b : Nat) : (w.setMemc p x).agent a b = w.agent a b := rfl
@[simp] theorem setMemc_port (w : W) (p : Nat) (x : MemCtl) (a : Nat) : (w.setMemc p x).port a = w.port a := rfl
@[simp] theorem setMemc_router (w : W) (p : Nat) (x : MemCtl) (a : Nat) : (w.setMemc p x).router a = w.router a := rfl
@[simp] theorem setMemc_bar (w : W) (p : Nat) (x : MemCtl) (a : Nat) : (w.setMemc p x).bar a = w.bar a := rfl
@[simp] theorem setMemc_rd (w : W) (p : Nat) (x : MemCtl) (a : Nat) : (w.setMemc p x).rd a = w.rd a := rfl
@[simp] theorem setMemc_rdBytes (w : W) (p : Nat) (x : MemCtl) (a b : Nat) : (w.setMemc p x).rdBytes a b = w.rdBytes a b := rfl

/-! ### setAgent -/

@[simp] theorem setAgent_c (w : W) (p n : Nat) (x : Agent) : (w.setAgent p n x).c = { w.c with agents := Tbl.set (fun _ => {}) w.c.agents (16 * p + n) x } := rfl
@[simp] theorem setAgent_mem (w : W) (p n : Nat) (x : Agent) : (w.setAgent p n x).mem = w.mem := rfl
@[simp] theorem setAgent_log (w : W) (p n : Nat) (x : Agent) : (w.setAgent p n x).log = w.log := rfl
@[simp] theorem setAgent_bad (w : W) (p n : Nat) (x : Agent) : (w.setAgent p n x).bad = w.bad := rfl
@[simp] theorem setAgent_reg (w : W) (p n : Nat) (x : Agent) (j : Nat) : (w.setAgent p n x).reg j = w.reg j := rfl
@[simp] theorem setAgent_fld (w : W) (p n : Nat) (x : Agent) (j : Nat) (f : Fld) : (w.setAgent p n x).fld j f = w.fld j f := rfl
@[simp] theorem setAgent_flag (w : W) (p n : Nat) (x : Agent) (j : Nat) (f : Fld) : (w.setAgent p n x).flag j f = w.flag j f := rfl
@[simp] theorem setAgent_mc (w : W) (p n : Nat) (x : Agent) (a b : Nat) : (w.setAgent p n x).mc a b = w.mc a b := rfl
@[simp] theorem setAgent_vc (w : W) (p n : Nat) (x : Agent) (a b : Nat) : (w.setAgent p n x).vc a b = w.vc a b := rfl
@[simp] theorem setAgent_sc (w : W) (p n : Nat) (x : Agent) (a b : Nat) : (w.setAgent p n x).sc a b = w.sc a b := rfl
@[simp] theorem setAgent_cp (w : W) (p n : Nat) (x : Agent) (a : Nat) : (w.setAgent p n x).cp a = w.cp a := rfl
@[simp] theorem setAgent_hall (w : W) (p n : Nat) (x : Agent) (a : Nat) : (w.setAgent p n x).hall a = w.hall a := rfl
@[simp] theorem setAgent_dm (w : W) (p n : Nat) (x : Agent) (a : Nat) : (w.setAgent p n x).dm a = w.dm a := rfl
@[simp] theorem setAgent_su (w : W) (p n : Nat) (x : Agent) (a : Nat) : (w.setAgent p n x).su a = w.su a := rfl
@[simp] theorem setAgent_landing (w : W) (p n : Nat) (x : Agent) (a : Nat) : (w.setAgent p n x).landing a = w.landing a := rfl
@[simp] theorem setAgent_memc (w : W) (p n : Nat) (x : Agent) (a : Nat) : (w.setAgent p n x).memc a = w.memc a := rfl
@[simp] theorem setAgent_port (w : W) (p n : Nat) (x : Agent) (a : Nat) : (w.setAgent p n x).port a = w.port a := rfl
@[simp] theorem setAgent_router (w : W) (p n : Nat) (x : Agent) (a : Nat) : (w.setAgent p n x).router a = w.router a := rfl
@[simp] theorem setAgent_bar (w : W) (p n : Nat) (x : Agent) (a : Nat) : (w.setAgent p n x).bar a = w.bar a := rfl
@[simp] theorem setAgent_rd (w : W) (p n : Nat) (x : Agent) (a : Nat) : (w.setAgent p n x).rd a = w.rd a := rfl
@[simp] theorem setAgent_rdBytes (w : W) (p n : Nat) (x : Agent) (a b : Nat) : (w.setAgent p n x).rdBytes a b = w.rdBytes a b := rfl

/-! ### setPort -/

@[simp] theorem setPort_c (w : W) (p : Nat) (x : Port) : (w.setPort p x).c = { w.c with ports := Tbl.set (fun _ => {}) w.c.ports p x } := rfl
@[simp] theorem setPort_mem (w : W) (p : Nat) (x : Port) : (w.setPort p x).mem = w.mem := rfl
@[simp] theorem setPort_log (w : W) (p : Nat) (x : Port) : (w.setPort p x).log = w.log := rfl
@[simp] theorem setPort_bad (w : W) (p : Nat) (x : Port) : (w.setPort p x).bad = w.bad := rfl
@[simp] theorem setPort_reg (w : W) (p : Nat) (x : Port) (j : Nat) : (w.setPort p x).reg j = w.reg j := rfl
@[simp] theorem setPort_fld (w : W) (p : Nat) (x : Port) (j : Nat) (f : Fld) : (w.setPort p x).fld j f = w.fld j f := rfl
@[simp] theorem setPort_flag (w : W) (p : Nat) (x : Port) (j : Nat) (f : Fld) : (w.setPort p x).flag j f = w.flag j f := rfl
@[simp] theorem setPort_mc (w : W) (p : Nat) (x : Port) (a b : Nat) : (w.setPort p x).mc a b = w.mc a b := rfl
@[simp] theorem setPort_vc (w : W) (p : Nat) (x : Port) (a b : Nat) : (w.setPort p x).vc a b = w.vc a b := rfl
@[simp] theorem setPort_sc (w : W) (p : Nat) (x : Port) (a b : Nat) : (w.setPort p x).sc a b = w.sc a b := rfl
@[simp] theorem setPort_cp (w : W) (p : Nat) (x : Port) (a : Nat) : (w.setPort p x).cp a = w.cp a := rfl
@[simp] theorem setPort_hall (w : W) (p : Nat) (x : Port) (a : Nat) : (w.setPort p x).hall a = w.hall a := rfl
@[simp] theorem setPort_dm (w : W) (p : Nat) (x : Port) (a : Nat) : (w.setPort p x).dm a = w.dm a := rfl
@[simp] theorem setPort_su (w : W) (p : Nat) (x : Port) (a : Nat) : (w.setPort p x).su a = w.su a := rfl
@[simp] theorem setPort_landing (w : W) (p : Nat) (x : Port) (a : Nat) : (w.setPort p x).landing a = w.landing a := rfl
@[simp] theorem setPort_memc (w : W) (p : Nat) (x : Port) (a : Nat) : (w.setPort p x).memc a = w.memc a := rfl
@[simp] theorem setPort_agent (w : W) (p : Nat) (x : Port) (a b : Nat) : (w.setPort p x).agent a b = w.agent a b := rfl
@[simp] theorem setPort_router (w : W) (p : Nat) (x : Port) (a : Nat) : (w.setPort p x).router a = w.router a := rfl
@[simp] theorem setPort_bar (w : W) (p : Nat) (x : Port) (a : Nat) : (w.setPort p x).bar a = w.bar a := rfl
@[simp] theorem setPort_rd (w : W) (p : Nat) (x : Port) (a : Nat) : (w.setPort p x).rd a = w.rd a := rfl
@[simp] theorem setPort_rdBytes (w : W) (p : Nat) (x : Port) (a b : Nat) : (w.setPort p x).rdBytes a b = w.rdBytes a b := rfl

/-! ### setRouter -/

@[simp] theorem setRouter_c (w : W) (p : Nat) (x : Router) : (w.setRouter p x).c = { w.c with routers := Tbl.set (fun _ => {}) w.c.routers p x } := rfl
@[simp] theorem setRouter_mem (w : W) (p : Nat) (x : Router) : (w.setRouter p x).mem = w.mem := rfl
@[simp] theorem setRouter_log (w : W) (p : Nat) (x : Router) : (w.setRouter p x).log = w.log := rfl
@[simp] theorem setRouter_bad (w : W) (p : Nat) (x : Router) : (w.setRouter p x).bad = w.bad := rfl
@[simp] theorem setRouter_reg (w : W) (p : Nat) (x : Router) (j : Nat) : (w.setRouter p x).reg j = w.reg j := rfl
@[simp] theorem setRouter_fld (w : W) (p : Nat) (x : Router) (j : Nat) (f : Fld) : (w.setRouter p x).fld j f = w.fld j f := rfl
@[simp] theorem setRouter_flag (w : W) (p : Nat) (x : Router) (j : Nat) (f : Fld) : (w.setRouter p x).flag j f = w.flag j f := rfl
@[simp] theorem setRouter_mc (w : W) (p : Nat) (x : Router) (a b : Nat) : (w.setRouter p x).mc a b = w.mc a b := rfl
@[simp] theorem setRouter_vc (w : W) (p : Nat) (x : Router) (a b : Nat) : (w.setRouter p x).vc a b = w.vc a b := rfl
@[simp] theorem setRouter_sc (w : W) (p : Nat) (x : Router) (a b : Nat) : (w.setRouter p x).sc a b = w.sc a b := rfl
@[simp] theorem setRouter_cp (w : W) (p : Nat) (x : Router) (a : Nat) : (w.setRouter p x).cp a = w.cp a := rfl
@[simp] theorem setRouter_hall (w : W) (p : Nat) (x : Router) (a : Nat) : (w.setRouter p x).hall a = w.hall a := rfl
@[simp] theorem setRouter_dm (w : W) (p : Nat) (x : Router) (a : Nat) : (w.setRouter p x).dm a = w.dm a := rfl
@[simp] theorem setRouter_su (w : W) (p : Nat) (x : Router) (a : Nat) : (w.setRouter p x).su a = w.su a := rfl
@[simp] theorem setRouter_landing (w : W) (p : Nat) (x : Router) (a : Nat) : (w.setRouter p x).landing a = w.landing a := rfl
@[simp] theorem setRouter_memc (w : W) (p : Nat) (x : Router) (a : Nat) : (w.setRouter p x).memc a = w.memc a := rfl
@[simp] theorem setRouter_agent (w : W) (p : Nat) (x : Router) (a b : Nat) : (w.setRouter p x).agent a b = w.agent a b := rfl
@[simp] theorem setRouter_port (w : W) (p : Nat) (x : Router) (a : Nat) : (w.setRouter p x).port a = w.port a := rfl
@[simp] theorem setRouter_bar (w : W) (p : Nat) (x : Router) (a : Nat) : (w.setRouter p x).bar a = w.bar a := rfl
@[simp] theorem setRouter_rd (w : W) (p : Nat) (x : Router) (a : Nat) : (w.setRouter p x).rd a = w.rd a := rfl
@[simp] theorem setRouter_rdBytes (w : W) (p : Nat) (x : Router) (a b : Nat) : (w.setRouter p x).rdBytes a b = w.rdBytes a b := rfl

/-! ### setBar -/

@[simp] theorem setBar_c (w : W) (p : Nat) (x : Bar) : (w.setBar p x).c = { w.c with bars := Tbl.set (fun _ => {}) w.c.bars p x } := rfl
@[simp] theorem setBar_mem (w : W) (p : Nat) (x : Bar) : (w.setBar p x).mem = w.mem := rfl
@[simp] theorem setBar_log (w : W) (p : Nat) (x : Bar) : (w.setBar p x).log = w.log := rfl
@[simp] theorem setBar_bad (w : W) (p : Nat) (x : Bar) : (w.setBar p x).bad = w.bad := rfl
@[simp] theorem setBar_reg (w : W) (p : Nat) (x : Bar) (j : Nat) : (w.setBar p x).reg j = w.reg j := rfl
@[simp] theorem setBar_fld (w : W) (p : Nat) (x : Bar) (j : Nat) (f : Fld) : (w.setBar p x).fld j f = w.fld j f := rfl
@[simp] theorem setBar_flag (w : W) (p : Nat) (x : Bar) (j : Nat) (f : Fld) : (w.setBar p x).flag j f = w.flag j f := rfl
@[simp] theorem setBar_mc (w : W) (p : Nat) (x : Bar) (a b : Nat) : (w.setBar p x).mc a b = w.mc a b := rfl
@[simp] theorem setBar_vc (w : W) (p : Nat) (x : Bar) (a b : Nat) : (w.setBar p x).vc a b = w.vc a b := rfl
@[simp] theorem setBar_sc (w : W) (p : Nat) (x : Bar) (a b : Nat) : (w.setBar p x).sc a b = w.sc a b := rfl
@[simp] theorem setBar_cp (w : W) (p : Nat) (x : Bar) (a : Nat) : (w.setBar p x).cp a = w.cp a := rfl
@[simp] theorem setBar_hall (w : W) (p : Nat) (x : Bar) (a : Nat) : (w.setBar p x).hall a = w.hall a := rfl
@[simp] theorem setBar_dm (w : W) (p : Nat) (x : Bar) (a : Nat) : (w.setBar p x).dm a = w.dm a := rfl
@[simp] theorem setBar_su (w : W) (p : Nat) (x : Bar) (a : Nat) : (w.setBar p x).su a = w.su a := rfl
@[simp] theorem setBar_landing (w : W) (p : Nat) (x : Bar) (a : Nat) : (w.setBar p x).landing a = w.landing a := rfl
@[simp] theorem setBar_memc (w : W) (p : Nat) (x : Bar) (a : Nat) : (w.setBar p x).memc a = w.memc a := rfl
@[simp] theorem setBar_agent (w : W) (p : Nat) (x : Bar) (a b : Nat) : (w.setBar p x).agent a b = w.agent a b := rfl
@[simp] theorem setBar_port (w : W) (p : Nat) (x : Bar) (a : Nat) : (w.setBar p x).port a = w.port a := rfl
@[simp] theorem setBar_router (w : W) (p : Nat) (x : Bar) (a : Nat) : (w.setBar p x).router a = w.router a := rfl
@[simp] theorem setBar_rd (w : W) (p : Nat) (x : Bar) (a : Nat) : (w.setBar p x).rd a = w.rd a := rfl
@[simp] theorem setBar_rdBytes (w : W) (p : Nat) (x : Bar) (a b : Nat) : (w.setBar p x).rdBytes a b = w.rdBytes a b := rfl

/-! ### setSeq -/

@[simp] theorem setSeq_c (w : W) (x : Seq) : (w.setSeq x).c = { w.c with seq := x } := rfl
@[simp] theorem setSeq_mem (w : W) (x : Seq) : (w.setSeq x).mem = w.mem := rfl
@[simp] theorem setSeq_log (w : W) (x : Seq) : (w.setSeq x).log = w.log := rfl
@[simp] theorem setSeq_bad (w : W) (x : Seq) : (w.setSeq x).bad = w.bad := rfl
@[simp] theorem setSeq_reg (w : W) (x : Seq) (j : Nat) : (w.setSeq x).reg j = w.reg j := rfl
@[simp] theorem setSeq_fld (w : W) (x : Seq) (j : Nat) (f : Fld) : (w.setSeq x).fld j f = w.fld j f := rfl
@[simp] theorem setSeq_flag (w : W) (x : Seq) (j : Nat) (f : Fld) : (w.setSeq x).flag j f = w.flag j f := rfl
@[simp] theorem setSeq_mc (w : W) (x : Seq) (a b : Nat) : (w.setSeq x).mc a b = w.mc a b := rfl
@[simp] theorem setSeq_vc (w : W) (x : Seq) (a b : Nat) : (w.setSeq x).vc a b = w.vc a b := rfl
@[simp] theorem setSeq_sc (w : W) (x : Seq) (a b : Nat) : (w.setSeq x).sc a b = w.sc a b := rfl
@[simp] theorem setSeq_cp (w : W) (x : Seq) (a : Nat) : (w.setSeq x).cp a = w.cp a := rfl
@[simp] theorem setSeq_hall (w : W) (x : Seq) (a : Nat) : (w.setSeq x).hall a = w.hall a := rfl
@[simp] theorem setSeq_dm (w : W) (x : Seq) (a : Nat) : (w.setSeq x).dm a = w.dm a := rfl
@[simp] theorem setSeq_su (w : W) (x : Seq) (a : Nat) : (w.setSeq x).su a = w.su a := rfl
@[simp] theorem setSeq_landing (w : W) (x : Seq) (a : Nat) : (w.setSeq x).landing a = w.landing a := rfl
@[simp] theorem setSeq_memc (w : W) (x : Seq) (a : Nat) : (w.setSeq x).memc a = w.memc a := rfl
@[simp] theorem setSeq_agent (w : W) (x : Seq) (a b : Nat) : (w.setSeq x).agent a b = w.agent a b := rfl
@[simp] theorem setSeq_port (w : W) (x : Seq) (a : Nat) : (w.setSeq x).port a = w.port a := rfl
@[simp] theorem setSeq_router (w : W) (x : Seq) (a : Nat) : (w.setSeq x).router a = w.router a := rfl
@[simp] theorem setSeq_bar (w : W) (x : Seq) (a : Nat) : (w.setSeq x).bar a = w.bar a := rfl
@[simp] theorem setSeq_rd (w : W) (x : Seq) (a : Nat) : (w.setSeq x).rd a = w.rd a := rfl
@[simp] theorem setSeq_rdBytes (w : W) (x : Seq) (a b : Nat) : (w.setSeq x).rdBytes a b = w.rdBytes a b := rfl

/-! ### setHost -/

@[simp] theorem setHost_c (w : W) (x : HostLink) : (w.setHost x).c = { w.c with host := x } := rfl
@[simp] theorem setHost_mem (w : W) (x : HostLink) : (w.setHost x).mem = w.mem := rfl
@[simp] theorem setHost_log (w : W) (x : HostLink) : (w.setHost x).log = w.log := rfl
@[simp] theorem setHost_bad (w : W) (x : HostLink) : (w.setHost x).bad = w.bad := rfl
@[simp] theorem setHost_reg (w : W) (x : HostLink) (j : Nat) : (w.setHost x).reg j = w.reg j := rfl
@[simp] theorem setHost_fld (w : W) (x : HostLink) (j : Nat) (f : Fld) : (w.setHost x).fld j f = w.fld j f := rfl
@[simp] theorem setHost_flag (w : W) (x : HostLink) (j : Nat) (f : Fld) : (w.setHost x).flag j f = w.flag j f := rfl
@[simp] theorem setHost_mc (w : W) (x : HostLink) (a b : Nat) : (w.setHost x).mc a b = w.mc a b := rfl
@[simp] theorem setHost_vc (w : W) (x : HostLink) (a b : Nat) : (w.setHost x).vc a b = w.vc a b := rfl
@[simp] theorem setHost_sc (w : W) (x : HostLink) (a b : Nat) : (w.setHost x).sc a b = w.sc a b := rfl
@[simp] theorem setHost_cp (w : W) (x : HostLink) (a : Nat) : (w.setHost x).cp a = w.cp a := rfl
@[simp] theorem setHost_hall (w : W) (x : HostLink) (a : Nat) : (w.setHost x).hall a = w.hall a := rfl
@[simp] theorem setHost_dm (w : W) (x : HostLink) (a : Nat) : (w.setHost x).dm a = w.dm a := rfl
@[simp] theorem setHost_su (w : W) (x : HostLink) (a : Nat) : (w.setHost x).su a = w.su a := rfl
@[simp] theorem setHost_landing (w : W) (x : HostLink) (a : Nat) : (w.setHost x).landing a = w.landing a := rfl
@[simp] theorem setHost_memc (w : W) (x : HostLink) (a : Nat) : (w.setHost x).memc a = w.memc a := rfl
@[simp] theorem setHost_agent (w : W) (x : HostLink) (a b : Nat) : (w.setHost x).agent a b = w.agent a b := rfl
@[simp] theorem setHost_port (w : W) (x : HostLink) (a : Nat) : (w.setHost x).port a = w.port a := rfl
@[simp] theorem setHost_router (w : W) (x : HostLink) (a : Nat) : (w.setHost x).router a = w.router a := rfl
@[simp] theorem setHost_bar (w : W) (x : HostLink) (a : Nat) : (w.setHost x).bar a = w.bar a := rfl
@[simp] theorem setHost_rd (w : W) (x : HostLink) (a : Nat) : (w.setHost x).rd a = w.rd a := rfl
@[simp] theorem setHost_rdBytes (w : W) (x : HostLink) (a b : Nat) : (w.setHost x).rdBytes a b = w.rdBytes a b := rfl

/-! ### setPower -/

@[simp] theorem setPower_c (w : W) (x : Power) : (w.setPower x).c = { w.c with power := x } := rfl
@[simp] theorem setPower_mem (w : W) (x : Power) : (w.setPower x).mem = w.mem := rfl
@[simp] theorem setPower_log (w : W) (x : Power) : (w.setPower x).log = w.log := rfl
@[simp] theorem setPower_bad (w : W) (x : Power) : (w.setPower x).bad = w.bad := rfl
@[simp] theorem setPower_reg (w : W) (x : Power) (j : Nat) : (w.setPower x).reg j = w.reg j := rfl
@[simp] theorem setPower_fld (w : W) (x : Power) (j : Nat) (f : Fld) : (w.setPower x).fld j f = w.fld j f := rfl
@[simp] theorem setPower_flag (w : W) (x : Power) (j : Nat) (f : Fld) : (w.setPower x).flag j f = w.flag j f := rfl
@[simp] theorem setPower_mc (w : W) (x : Power) (a b : Nat) : (w.setPower x).mc a b = w.mc a b := rfl
@[simp] theorem setPower_vc (w : W) (x : Power) (a b : Nat) : (w.setPower x).vc a b = w.vc a b := rfl
@[simp] theorem setPower_sc (w : W) (x : Power) (a b : Nat) : (w.setPower x).sc a b = w.sc a b := rfl
@[simp] theorem setPower_cp (w : W) (x : Power) (a : Nat) : (w.setPower x).cp a = w.cp a := rfl
@[simp] theorem setPower_hall (w : W) (x : Power) (a : Nat) : (w.setPower x).hall a = w.hall a := rfl
@[simp] theorem setPower_dm (w : W) (x : Power) (a : Nat) : (w.setPower x).dm a = w.dm a := rfl
@[simp] theorem setPower_su (w : W) (x : Power) (a : Nat) : (w.setPower x).su a = w.su a := rfl
@[simp] theorem setPower_landing (w : W) (x : Power) (a : Nat) : (w.setPower x).landing a = w.landing a := rfl
@[simp] theorem setPower_memc (w : W) (x : Power) (a : Nat) : (w.setPower x).memc a = w.memc a := rfl
@[simp] theorem setPower_agent (w : W) (x : Power) (a b : Nat) : (w.setPower x).agent a b = w.agent a b := rfl
@[simp] theorem setPower_port (w : W) (x : Power) (a : Nat) : (w.setPower x).port a = w.port a := rfl
@[simp] theorem setPower_router (w : W) (x : Power) (a : Nat) : (w.setPower x).router a = w.router a := rfl
@[simp] theorem setPower_bar (w : W) (x : Power) (a : Nat) : (w.setPower x).bar a = w.bar a := rfl
@[simp] theorem setPower_rd (w : W) (x : Power) (a : Nat) : (w.setPower x).rd a = w.rd a := rfl
@[simp] theorem setPower_rdBytes (w : W) (x : Power) (a b : Nat) : (w.setPower x).rdBytes a b = w.rdBytes a b := rfl

/-! ### setMgmt -/

@[simp] theorem setMgmt_c (w : W) (x : Mgmt) : (w.setMgmt x).c = { w.c with mgmt := x } := rfl
@[simp] theorem setMgmt_mem (w : W) (x : Mgmt) : (w.setMgmt x).mem = w.mem := rfl
@[simp] theorem setMgmt_log (w : W) (x : Mgmt) : (w.setMgmt x).log = w.log := rfl
@[simp] theorem setMgmt_bad (w : W) (x : Mgmt) : (w.setMgmt x).bad = w.bad := rfl
@[simp] theorem setMgmt_reg (w : W) (x : Mgmt) (j : Nat) : (w.setMgmt x).reg j = w.reg j := rfl
@[simp] theorem setMgmt_fld (w : W) (x : Mgmt) (j : Nat) (f : Fld) : (w.setMgmt x).fld j f = w.fld j f := rfl
@[simp] theorem setMgmt_flag (w : W) (x : Mgmt) (j : Nat) (f : Fld) : (w.setMgmt x).flag j f = w.flag j f := rfl
@[simp] theorem setMgmt_mc (w : W) (x : Mgmt) (a b : Nat) : (w.setMgmt x).mc a b = w.mc a b := rfl
@[simp] theorem setMgmt_vc (w : W) (x : Mgmt) (a b : Nat) : (w.setMgmt x).vc a b = w.vc a b := rfl
@[simp] theorem setMgmt_sc (w : W) (x : Mgmt) (a b : Nat) : (w.setMgmt x).sc a b = w.sc a b := rfl
@[simp] theorem setMgmt_cp (w : W) (x : Mgmt) (a : Nat) : (w.setMgmt x).cp a = w.cp a := rfl
@[simp] theorem setMgmt_hall (w : W) (x : Mgmt) (a : Nat) : (w.setMgmt x).hall a = w.hall a := rfl
@[simp] theorem setMgmt_dm (w : W) (x : Mgmt) (a : Nat) : (w.setMgmt x).dm a = w.dm a := rfl
@[simp] theorem setMgmt_su (w : W) (x : Mgmt) (a : Nat) : (w.setMgmt x).su a = w.su a := rfl
@[simp] theorem setMgmt_landing (w : W) (x : Mgmt) (a : Nat) : (w.setMgmt x).landing a = w.landing a := rfl
@[simp] theorem setMgmt_memc (w : W) (x : Mgmt) (a : Nat) : (w.setMgmt x).memc a = w.memc a := rfl
@[simp] theorem setMgmt_agent (w : W) (x : Mgmt) (a b : Nat) : (w.setMgmt x).agent a b = w.agent a b := rfl
@[simp] theorem setMgmt_port (w : W) (x : Mgmt) (a : Nat) : (w.setMgmt x).port a = w.port a := rfl
@[simp] theorem setMgmt_router (w : W) (x : Mgmt) (a : Nat) : (w.setMgmt x).router a = w.router a := rfl
@[simp] theorem setMgmt_bar (w : W) (x : Mgmt) (a : Nat) : (w.setMgmt x).bar a = w.bar a := rfl
@[simp] theorem setMgmt_rd (w : W) (x : Mgmt) (a : Nat) : (w.setMgmt x).rd a = w.rd a := rfl
@[simp] theorem setMgmt_rdBytes (w : W) (x : Mgmt) (a b : Nat) : (w.setMgmt x).rdBytes a b = w.rdBytes a b := rfl

/-! ### setTest -/

@[simp] theorem setTest_c (w : W) (x : SelfTest) : (w.setTest x).c = { w.c with test := x } := rfl
@[simp] theorem setTest_mem (w : W) (x : SelfTest) : (w.setTest x).mem = w.mem := rfl
@[simp] theorem setTest_log (w : W) (x : SelfTest) : (w.setTest x).log = w.log := rfl
@[simp] theorem setTest_bad (w : W) (x : SelfTest) : (w.setTest x).bad = w.bad := rfl
@[simp] theorem setTest_reg (w : W) (x : SelfTest) (j : Nat) : (w.setTest x).reg j = w.reg j := rfl
@[simp] theorem setTest_fld (w : W) (x : SelfTest) (j : Nat) (f : Fld) : (w.setTest x).fld j f = w.fld j f := rfl
@[simp] theorem setTest_flag (w : W) (x : SelfTest) (j : Nat) (f : Fld) : (w.setTest x).flag j f = w.flag j f := rfl
@[simp] theorem setTest_mc (w : W) (x : SelfTest) (a b : Nat) : (w.setTest x).mc a b = w.mc a b := rfl
@[simp] theorem setTest_vc (w : W) (x : SelfTest) (a b : Nat) : (w.setTest x).vc a b = w.vc a b := rfl
@[simp] theorem setTest_sc (w : W) (x : SelfTest) (a b : Nat) : (w.setTest x).sc a b = w.sc a b := rfl
@[simp] theorem setTest_cp (w : W) (x : SelfTest) (a : Nat) : (w.setTest x).cp a = w.cp a := rfl
@[simp] theorem setTest_hall (w : W) (x : SelfTest) (a : Nat) : (w.setTest x).hall a = w.hall a := rfl
@[simp] theorem setTest_dm (w : W) (x : SelfTest) (a : Nat) : (w.setTest x).dm a = w.dm a := rfl
@[simp] theorem setTest_su (w : W) (x : SelfTest) (a : Nat) : (w.setTest x).su a = w.su a := rfl
@[simp] theorem setTest_landing (w : W) (x : SelfTest) (a : Nat) : (w.setTest x).landing a = w.landing a := rfl
@[simp] theorem setTest_memc (w : W) (x : SelfTest) (a : Nat) : (w.setTest x).memc a = w.memc a := rfl
@[simp] theorem setTest_agent (w : W) (x : SelfTest) (a b : Nat) : (w.setTest x).agent a b = w.agent a b := rfl
@[simp] theorem setTest_port (w : W) (x : SelfTest) (a : Nat) : (w.setTest x).port a = w.port a := rfl
@[simp] theorem setTest_router (w : W) (x : SelfTest) (a : Nat) : (w.setTest x).router a = w.router a := rfl
@[simp] theorem setTest_bar (w : W) (x : SelfTest) (a : Nat) : (w.setTest x).bar a = w.bar a := rfl
@[simp] theorem setTest_rd (w : W) (x : SelfTest) (a : Nat) : (w.setTest x).rd a = w.rd a := rfl
@[simp] theorem setTest_rdBytes (w : W) (x : SelfTest) (a b : Nat) : (w.setTest x).rdBytes a b = w.rdBytes a b := rfl

/-! ### setFlash -/

@[simp] theorem setFlash_c (w : W) (x : Flash) : (w.setFlash x).c = { w.c with flash := x } := rfl
@[simp] theorem setFlash_mem (w : W) (x : Flash) : (w.setFlash x).mem = w.mem := rfl
@[simp] theorem setFlash_log (w : W) (x : Flash) : (w.setFlash x).log = w.log := rfl
@[simp] theorem setFlash_bad (w : W) (x : Flash) : (w.setFlash x).bad = w.bad := rfl
@[simp] theorem setFlash_reg (w : W) (x : Flash) (j : Nat) : (w.setFlash x).reg j = w.reg j := rfl
@[simp] theorem setFlash_fld (w : W) (x : Flash) (j : Nat) (f : Fld) : (w.setFlash x).fld j f = w.fld j f := rfl
@[simp] theorem setFlash_flag (w : W) (x : Flash) (j : Nat) (f : Fld) : (w.setFlash x).flag j f = w.flag j f := rfl
@[simp] theorem setFlash_mc (w : W) (x : Flash) (a b : Nat) : (w.setFlash x).mc a b = w.mc a b := rfl
@[simp] theorem setFlash_vc (w : W) (x : Flash) (a b : Nat) : (w.setFlash x).vc a b = w.vc a b := rfl
@[simp] theorem setFlash_sc (w : W) (x : Flash) (a b : Nat) : (w.setFlash x).sc a b = w.sc a b := rfl
@[simp] theorem setFlash_cp (w : W) (x : Flash) (a : Nat) : (w.setFlash x).cp a = w.cp a := rfl
@[simp] theorem setFlash_hall (w : W) (x : Flash) (a : Nat) : (w.setFlash x).hall a = w.hall a := rfl
@[simp] theorem setFlash_dm (w : W) (x : Flash) (a : Nat) : (w.setFlash x).dm a = w.dm a := rfl
@[simp] theorem setFlash_su (w : W) (x : Flash) (a : Nat) : (w.setFlash x).su a = w.su a := rfl
@[simp] theorem setFlash_landing (w : W) (x : Flash) (a : Nat) : (w.setFlash x).landing a = w.landing a := rfl
@[simp] theorem setFlash_memc (w : W) (x : Flash) (a : Nat) : (w.setFlash x).memc a = w.memc a := rfl
@[simp] theorem setFlash_agent (w : W) (x : Flash) (a b : Nat) : (w.setFlash x).agent a b = w.agent a b := rfl
@[simp] theorem setFlash_port (w : W) (x : Flash) (a : Nat) : (w.setFlash x).port a = w.port a := rfl
@[simp] theorem setFlash_router (w : W) (x : Flash) (a : Nat) : (w.setFlash x).router a = w.router a := rfl
@[simp] theorem setFlash_bar (w : W) (x : Flash) (a : Nat) : (w.setFlash x).bar a = w.bar a := rfl
@[simp] theorem setFlash_rd (w : W) (x : Flash) (a : Nat) : (w.setFlash x).rd a = w.rd a := rfl
@[simp] theorem setFlash_rdBytes (w : W) (x : Flash) (a b : Nat) : (w.setFlash x).rdBytes a b = w.rdBytes a b := rfl

/-! ### setResets -/

@[simp] theorem setResets_c (w : W) (x : List ResetRun) : (w.setResets x).c = { w.c with resets := x } := rfl
@[simp] theorem setResets_mem (w : W) (x : List ResetRun) : (w.setResets x).mem = w.mem := rfl
@[simp] theorem setResets_log (w : W) (x : List ResetRun) : (w.setResets x).log = w.log := rfl
@[simp] theorem setResets_bad (w : W) (x : List ResetRun) : (w.setResets x).bad = w.bad := rfl
@[simp] theorem setResets_reg (w : W) (x : List ResetRun) (j : Nat) : (w.setResets x).reg j = w.reg j := rfl
@[simp] theorem setResets_fld (w : W) (x : List ResetRun) (j : Nat) (f : Fld) : (w.setResets x).fld j f = w.fld j f := rfl
@[simp] theorem setResets_flag (w : W) (x : List ResetRun) (j : Nat) (f : Fld) : (w.setResets x).flag j f = w.flag j f := rfl
@[simp] theorem setResets_mc (w : W) (x : List ResetRun) (a b : Nat) : (w.setResets x).mc a b = w.mc a b := rfl
@[simp] theorem setResets_vc (w : W) (x : List ResetRun) (a b : Nat) : (w.setResets x).vc a b = w.vc a b := rfl
@[simp] theorem setResets_sc (w : W) (x : List ResetRun) (a b : Nat) : (w.setResets x).sc a b = w.sc a b := rfl
@[simp] theorem setResets_cp (w : W) (x : List ResetRun) (a : Nat) : (w.setResets x).cp a = w.cp a := rfl
@[simp] theorem setResets_hall (w : W) (x : List ResetRun) (a : Nat) : (w.setResets x).hall a = w.hall a := rfl
@[simp] theorem setResets_dm (w : W) (x : List ResetRun) (a : Nat) : (w.setResets x).dm a = w.dm a := rfl
@[simp] theorem setResets_su (w : W) (x : List ResetRun) (a : Nat) : (w.setResets x).su a = w.su a := rfl
@[simp] theorem setResets_landing (w : W) (x : List ResetRun) (a : Nat) : (w.setResets x).landing a = w.landing a := rfl
@[simp] theorem setResets_memc (w : W) (x : List ResetRun) (a : Nat) : (w.setResets x).memc a = w.memc a := rfl
@[simp] theorem setResets_agent (w : W) (x : List ResetRun) (a b : Nat) : (w.setResets x).agent a b = w.agent a b := rfl
@[simp] theorem setResets_port (w : W) (x : List ResetRun) (a : Nat) : (w.setResets x).port a = w.port a := rfl
@[simp] theorem setResets_router (w : W) (x : List ResetRun) (a : Nat) : (w.setResets x).router a = w.router a := rfl
@[simp] theorem setResets_bar (w : W) (x : List ResetRun) (a : Nat) : (w.setResets x).bar a = w.bar a := rfl
@[simp] theorem setResets_rd (w : W) (x : List ResetRun) (a : Nat) : (w.setResets x).rd a = w.rd a := rfl
@[simp] theorem setResets_rdBytes (w : W) (x : List ResetRun) (a b : Nat) : (w.setResets x).rdBytes a b = w.rdBytes a b := rfl

/-! ### emit -/

@[simp] theorem emit_c (w : W) (x : Out) : (w.emit x).c = { w.c with out := x :: w.c.out } := rfl
@[simp] theorem emit_mem (w : W) (x : Out) : (w.emit x).mem = w.mem := rfl
@[simp] theorem emit_log (w : W) (x : Out) : (w.emit x).log = w.log := rfl
@[simp] theorem emit_bad (w : W) (x : Out) : (w.emit x).bad = w.bad := rfl
@[simp] theorem emit_reg (w : W) (x : Out) (j : Nat) : (w.emit x).reg j = w.reg j := rfl
@[simp] theorem emit_fld (w : W) (x : Out) (j : Nat) (f : Fld) : (w.emit x).fld j f = w.fld j f := rfl
@[simp] theorem emit_flag (w : W) (x : Out) (j : Nat) (f : Fld) : (w.emit x).flag j f = w.flag j f := rfl
@[simp] theorem emit_mc (w : W) (x : Out) (a b : Nat) : (w.emit x).mc a b = w.mc a b := rfl
@[simp] theorem emit_vc (w : W) (x : Out) (a b : Nat) : (w.emit x).vc a b = w.vc a b := rfl
@[simp] theorem emit_sc (w : W) (x : Out) (a b : Nat) : (w.emit x).sc a b = w.sc a b := rfl
@[simp] theorem emit_cp (w : W) (x : Out) (a : Nat) : (w.emit x).cp a = w.cp a := rfl
@[simp] theorem emit_hall (w : W) (x : Out) (a : Nat) : (w.emit x).hall a = w.hall a := rfl
@[simp] theorem emit_dm (w : W) (x : Out) (a : Nat) : (w.emit x).dm a = w.dm a := rfl
@[simp] theorem emit_su (w : W) (x : Out) (a : Nat) : (w.emit x).su a = w.su a := rfl
@[simp] theorem emit_landing (w : W) (x : Out) (a : Nat) : (w.emit x).landing a = w.landing a := rfl
@[simp] theorem emit_memc (w : W) (x : Out) (a : Nat) : (w.emit x).memc a = w.memc a := rfl
@[simp] theorem emit_agent (w : W) (x : Out) (a b : Nat) : (w.emit x).agent a b = w.agent a b := rfl
@[simp] theorem emit_port (w : W) (x : Out) (a : Nat) : (w.emit x).port a = w.port a := rfl
@[simp] theorem emit_router (w : W) (x : Out) (a : Nat) : (w.emit x).router a = w.router a := rfl
@[simp] theorem emit_bar (w : W) (x : Out) (a : Nat) : (w.emit x).bar a = w.bar a := rfl
@[simp] theorem emit_rd (w : W) (x : Out) (a : Nat) : (w.emit x).rd a = w.rd a := rfl
@[simp] theorem emit_rdBytes (w : W) (x : Out) (a b : Nat) : (w.emit x).rdBytes a b = w.rdBytes a b := rfl

/-! ### wr -/

@[simp] theorem wr_bad (w : W) (k : Nat) (b : Byte) : (w.wr k b).bad = w.bad.filter (· ≠ k) := rfl
@[simp] theorem wr_c (w : W) (k : Nat) (b : Byte) : (w.wr k b).c = w.c := rfl
@[simp] theorem wr_mem (w : W) (k : Nat) (b : Byte) : (w.wr k b).mem = w.mem := rfl
@[simp] theorem wr_log (w : W) (k : Nat) (b : Byte) : (w.wr k b).log = .put k b :: w.log := rfl
@[simp] theorem wr_rd (w : W) (k j : Nat) (b : Byte) : (w.wr k b).rd j = if j = k then b else w.rd j := by
  simp only [rd, wr, Memory.peek]

@[simp] theorem zero_c (w : W) (lo hi : Nat) : (w.zero lo hi).c = w.c := rfl

@[simp] theorem wrBytes_c (w : W) (k : Nat) (bs : List Byte) : (w.wrBytes k bs).c = w.c := by
  induction bs generalizing w k with
  | nil => rfl
  | cons b bs ih => exact ih _ _
@[simp] theorem wrBytes_mem (w : W) (k : Nat) (bs : List Byte) : (w.wrBytes k bs).mem = w.mem := by
  induction bs generalizing w k with
  | nil => rfl
  | cons b bs ih => exact ih _ _

@[simp] theorem wr_reg (w : W) (k : Nat) (x : Byte) (j : Nat) : (w.wr k x).reg j = w.reg j := rfl
@[simp] theorem wr_fld (w : W) (k : Nat) (x : Byte) (j : Nat) (f : Fld) : (w.wr k x).fld j f = w.fld j f := rfl
@[simp] theorem wr_flag (w : W) (k : Nat) (x : Byte) (j : Nat) (f : Fld) : (w.wr k x).flag j f = w.flag j f := rfl
@[simp] theorem wr_mc (w : W) (k : Nat) (x : Byte) (a b : Nat) : (w.wr k x).mc a b = w.mc a b := rfl
@[simp] theorem wr_vc (w : W) (k : Nat) (x : Byte) (a b : Nat) : (w.wr k x).vc a b = w.vc a b := rfl
@[simp] theorem wr_sc (w : W) (k : Nat) (x : Byte) (a b : Nat) : (w.wr k x).sc a b = w.sc a b := rfl
@[simp] theorem wr_cp (w : W) (k : Nat) (x : Byte) (a : Nat) : (w.wr k x).cp a = w.cp a := rfl
@[simp] theorem wr_hall (w : W) (k : Nat) (x : Byte) (a : Nat) : (w.wr k x).hall a = w.hall a := rfl
@[simp] theorem wr_dm (w : W) (k : Nat) (x : Byte) (a : Nat) : (w.wr k x).dm a = w.dm a := rfl
@[simp] theorem wr_su (w : W) (k : Nat) (x : Byte) (a : Nat) : (w.wr k x).su a = w.su a := rfl
@[simp] theorem wr_landing (w : W) (k : Nat) (x : Byte) (a : Nat) : (w.wr k x).landing a = w.landing a := rfl
@[simp] theorem wr_memc (w : W) (k : Nat) (x : Byte) (a : Nat) : (w.wr k x).memc a = w.memc a := rfl
@[simp] theorem wr_agent (w : W) (k : Nat) (x : Byte) (a b : Nat) : (w.wr k x).agent a b = w.agent a b := rfl
@[simp] theorem wr_port (w : W) (k : Nat) (x : Byte) (a : Nat) : (w.wr k x).port a = w.port a := rfl
@[simp] theorem wr_router (w : W) (k : Nat) (x : Byte) (a : Nat) : (w.wr k x).router a = w.router a := rfl
@[simp] theorem wr_bar (w : W) (k : Nat) (x : Byte) (a : Nat) : (w.wr k x).bar a = w.bar a := rfl
@[simp] theorem zero_reg (w : W) (k x : Nat) (j : Nat) : (w.zero k x).reg j = w.reg j := rfl
@[simp] theorem zero_fld (w : W) (k x : Nat) (j : Nat) (f : Fld) : (w.zero k x).fld j f = w.fld j f := rfl
@[simp] theorem zero_flag (w : W) (k x : Nat) (j : Nat) (f : Fld) : (w.zero k x).flag j f = w.flag j f := rfl
@[simp] theorem zero_mc (w : W) (k x : Nat) (a b : Nat) : (w.zero k x).mc a b = w.mc a b := rfl
@[simp] theorem zero_vc (w : W) (k x : Nat) (a b : Nat) : (w.zero k x).vc a b = w.vc a b := rfl
@[simp] theorem zero_sc (w : W) (k x : Nat) (a b : Nat) : (w.zero k x).sc a b = w.sc a b := rfl
@[simp] theorem zero_cp (w : W) (k x : Nat) (a : Nat) : (w.zero k x).cp a = w.cp a := rfl
@[simp] theorem zero_hall (w : W) (k x : Nat) (a : Nat) : (w.zero k x).hall a = w.hall a := rfl
@[simp] theorem zero_dm (w : W) (k x : Nat) (a : Nat) : (w.zero k x).dm a = w.dm a := rfl
@[simp] theorem zero_su (w : W) (k x : Nat) (a : Nat) : (w.zero k x).su a = w.su a := rfl
@[simp] theorem zero_landing (w : W) (k x : Nat) (a : Nat) : (w.zero k x).landing a = w.landing a := rfl
@[simp] theorem zero_memc (w : W) (k x : Nat) (a : Nat) : (w.zero k x).memc a = w.memc a := rfl
@[simp] theorem zero_agent (w : W) (k x : Nat) (a b : Nat) : (w.zero k x).agent a b = w.agent a b := rfl
@[simp] theorem zero_port (w : W) (k x : Nat) (a : Nat) : (w.zero k x).port a = w.port a := rfl
@[simp] theorem zero_router (w : W) (k x : Nat) (a : Nat) : (w.zero k x).router a = w.router a := rfl
@[simp] theorem zero_bar (w : W) (k x : Nat) (a : Nat) : (w.zero k x).bar a = w.bar a := rfl

@[simp] theorem wrBytes_reg (w : W) (k : Nat) (bs : List Byte) (j : Nat) : (w.wrBytes k bs).reg j = w.reg j := by
  simp only [reg, wrBytes_c]
@[simp] theorem wrBytes_fld (w : W) (k : Nat) (bs : List Byte) (j : Nat) (f : Fld) : (w.wrBytes k bs).fld j f = w.fld j f := by
  simp only [fld, reg, wrBytes_c]
@[simp] theorem wrBytes_flag (w : W) (k : Nat) (bs : List Byte) (j : Nat) (f : Fld) : (w.wrBytes k bs).flag j f = w.flag j f := by
  simp only [flag, fld, reg, wrBytes_c]
@[simp] theorem wrBytes_mc (w : W) (k : Nat) (bs : List Byte) (a b : Nat) : (w.wrBytes k bs).mc a b = w.mc a b := by
  simp only [mc, wrBytes_c]
@[simp] theorem wrBytes_vc (w : W) (k : Nat) (bs : List Byte) (a b : Nat) : (w.wrBytes k bs).vc a b = w.vc a b := by
  simp only [vc, wrBytes_c]
@[simp] theorem wrBytes_sc (w : W) (k : Nat) (bs : List Byte) (a b : Nat) : (w.wrBytes k bs).sc a b = w.sc a b := by
  simp only [sc, wrBytes_c]
@[simp] theorem wrBytes_cp (w : W) (k : Nat) (bs : List Byte) (a : Nat) : (w.wrBytes k bs).cp a = w.cp a := by
  simp only [cp, wrBytes_c]
@[simp] theorem wrBytes_hall (w : W) (k : Nat) (bs : List Byte) (a : Nat) : (w.wrBytes k bs).hall a = w.hall a := by
  simp only [hall, wrBytes_c]
@[simp] theorem wrBytes_dm (w : W) (k : Nat) (bs : List Byte) (a : Nat) : (w.wrBytes k bs).dm a = w.dm a := by
  simp only [dm, wrBytes_c]
@[simp] theorem wrBytes_su (w : W) (k : Nat) (bs : List Byte) (a : Nat) : (w.wrBytes k bs).su a = w.su a := by
  simp only [su, wrBytes_c]
@[simp] theorem wrBytes_landing (w : W) (k : Nat) (bs : List Byte) (a : Nat) : (w.wrBytes k bs).landing a = w.landing a := by
  simp only [landing, wrBytes_c]
@[simp] theorem wrBytes_memc (w : W) (k : Nat) (bs : List Byte) (a : Nat) : (w.wrBytes k bs).memc a = w.memc a := by
  simp only [memc, wrBytes_c]
@[simp] theorem wrBytes_agent (w : W) (k : Nat) (bs : List Byte) (a b : Nat) : (w.wrBytes k bs).agent a b = w.agent a b := by
  simp only [agent, wrBytes_c]
@[simp] theorem wrBytes_port (w : W) (k : Nat) (bs : List Byte) (a : Nat) : (w.wrBytes k bs).port a = w.port a := by
  simp only [port, wrBytes_c]
@[simp] theorem wrBytes_router (w : W) (k : Nat) (bs : List Byte) (a : Nat) : (w.wrBytes k bs).router a = w.router a := by
  simp only [router, wrBytes_c]
@[simp] theorem wrBytes_bar (w : W) (k : Nat) (bs : List Byte) (a : Nat) : (w.wrBytes k bs).bar a = w.bar a := by
  simp only [bar, wrBytes_c]

/-! ### What is set reads back -/

@[simp] theorem reg_setReg_self (w : W) (k : Nat) (v : Word) : (w.setReg k v).reg k = v := Tbl.get_set_self _ _ _ _
@[simp] theorem reg_setReg_ne (w : W) {k j : Nat} (v : Word) (h : j ≠ k) : (w.setReg k v).reg j = w.reg j :=
  Tbl.get_set_ne _ _ _ h

@[simp] theorem mc_setMc_self (w : W) (p n : Nat) (x : MCore) : (w.setMc p n x).mc p n = x := Tbl.get_set_self _ _ _ _
theorem mc_setMc_ne (w : W) {p q n m : Nat} (x : MCore) (h : 8 * q + m ≠ 8 * p + n) :
    (w.setMc p n x).mc q m = w.mc q m := Tbl.get_set_ne _ _ _ h
@[simp] theorem vc_setVc_self (w : W) (p n : Nat) (x : VCore) : (w.setVc p n x).vc p n = x := Tbl.get_set_self _ _ _ _
theorem vc_setVc_ne (w : W) {p q n m : Nat} (x : VCore) (h : 4 * q + m ≠ 4 * p + n) :
    (w.setVc p n x).vc q m = w.vc q m := Tbl.get_set_ne _ _ _ h
@[simp] theorem sc_setSc_self (w : W) (p n : Nat) (x : SCore) : (w.setSc p n x).sc p n = x := Tbl.get_set_self _ _ _ _
theorem sc_setSc_ne (w : W) {p q n m : Nat} (x : SCore) (h : 2 * q + m ≠ 2 * p + n) :
    (w.setSc p n x).sc q m = w.sc q m := Tbl.get_set_ne _ _ _ h
@[simp] theorem cp_setCp_self (w : W) (p : Nat) (x : SCore) : (w.setCp p x).cp p = x := Tbl.get_set_self _ _ _ _
theorem cp_setCp_ne (w : W) {p q : Nat} (x : SCore) (h : q ≠ p) : (w.setCp p x).cp q = w.cp q := Tbl.get_set_ne _ _ _ h
@[simp] theorem hall_setHall_self (w : W) (p : Nat) (x : Hall) : (w.setHall p x).hall p = x := Tbl.get_set_self _ _ _ _
theorem hall_setHall_ne (w : W) {p q : Nat} (x : Hall) (h : q ≠ p) : (w.setHall p x).hall q = w.hall q := Tbl.get_set_ne _ _ _ h
@[simp] theorem dm_setDm_self (w : W) (p : Nat) (x : DataMover) : (w.setDm p x).dm p = x := Tbl.get_set_self _ _ _ _
theorem dm_setDm_ne (w : W) {p q : Nat} (x : DataMover) (h : q ≠ p) : (w.setDm p x).dm q = w.dm q := Tbl.get_set_ne _ _ _ h
@[simp] theorem su_setSu_self (w : W) (p : Nat) (x : Steer) : (w.setSu p x).su p = x := Tbl.get_set_self _ _ _ _
theorem su_setSu_ne (w : W) {p q : Nat} (x : Steer) (h : q ≠ p) : (w.setSu p x).su q = w.su q := Tbl.get_set_ne _ _ _ h
@[simp] theorem landing_setLanding_self (w : W) (p : Nat) (x : Landing) : (w.setLanding p x).landing p = x := Tbl.get_set_self _ _ _ _
theorem landing_setLanding_ne (w : W) {p q : Nat} (x : Landing) (h : q ≠ p) : (w.setLanding p x).landing q = w.landing q := Tbl.get_set_ne _ _ _ h
@[simp] theorem memc_setMemc_self (w : W) (p : Nat) (x : MemCtl) : (w.setMemc p x).memc p = x := Tbl.get_set_self _ _ _ _
theorem memc_setMemc_ne (w : W) {p q : Nat} (x : MemCtl) (h : q ≠ p) : (w.setMemc p x).memc q = w.memc q := Tbl.get_set_ne _ _ _ h
@[simp] theorem agent_setAgent_self (w : W) (p n : Nat) (x : Agent) : (w.setAgent p n x).agent p n = x := Tbl.get_set_self _ _ _ _
theorem agent_setAgent_ne (w : W) {p q n m : Nat} (x : Agent) (h : 16 * q + m ≠ 16 * p + n) :
    (w.setAgent p n x).agent q m = w.agent q m := Tbl.get_set_ne _ _ _ h
@[simp] theorem port_setPort_self (w : W) (p : Nat) (x : Port) : (w.setPort p x).port p = x := Tbl.get_set_self _ _ _ _
theorem port_setPort_ne (w : W) {p q : Nat} (x : Port) (h : q ≠ p) : (w.setPort p x).port q = w.port q := Tbl.get_set_ne _ _ _ h
@[simp] theorem router_setRouter_self (w : W) (p : Nat) (x : Router) : (w.setRouter p x).router p = x := Tbl.get_set_self _ _ _ _
theorem router_setRouter_ne (w : W) {p q : Nat} (x : Router) (h : q ≠ p) : (w.setRouter p x).router q = w.router q := Tbl.get_set_ne _ _ _ h
@[simp] theorem bar_setBar_self (w : W) (p : Nat) (x : Bar) : (w.setBar p x).bar p = x := Tbl.get_set_self _ _ _ _
theorem bar_setBar_ne (w : W) {p q : Nat} (x : Bar) (h : q ≠ p) : (w.setBar p x).bar q = w.bar q := Tbl.get_set_ne _ _ _ h

end W

end Sys2Proof.Machine
end

