-- ==== Sys2Proof/Laws/Ops.lean ====
section
/-! SUPPORT. What the shared operations can do: carrying a command out, counting, fields, pending a source, the issue of a
vector or scalar instruction, a management request. -/

namespace Sys2Proof.Machine

/-! ### Carrying a command out -/

theorem run_live {s : State} (h : s.live = true) (f : W → W) : run s f = .next (s.after (f s.w)) := by
  simp only [run, runIf, h, if_true]

theorem runOn_live {s : State} (h : s.live = true) {ok : Bool} (hk : ok = true) (f : W → W) :
    runOn ok s f = .next (s.after (f s.w)) := by
  simp only [runOn, hk, if_true, run_live h]

theorem runAux_aux {s : State} (h : s.aux = true) (f : W → W) : runAux s f = .next (s.after (f s.w)) := by
  simp only [runAux, runIf, h, if_true]

theorem aux_of_live {s : State} (h : s.live = true) : s.aux = true := by
  simp only [State.live, Bool.and_eq_true] at h; exact h.1

theorem galOk_of {p : Nat} (h : p < 312) : galOk p = true := decide_eq_true h

theorem mcOk_of {p n : Nat} (h : p < 312) (hn : n < 8) : mcOk p n = true := by simp [mcOk, galOk, h, hn]

theorem vcOk_of {p n : Nat} (h : p < 312) (hn : n < 4) : vcOk p n = true := by simp [vcOk, galOk, h, hn]

theorem agentOk_of {p a : Nat} (h : p < 312) (ha : a < 16) : agentOk p a = true := by simp [agentOk, galOk, h, ha]

namespace W

/-! ### Fields -/

theorem reg_setFld (w : W) (k j : Nat) (f : Fld) (v : Nat) :
    (w.setFld k f v).reg j = if j = k then putBits (w.reg k) f.hi f.lo v else w.reg j := by
  unfold setFld
  split
  · subst_vars; exact reg_setReg_self _ _ _
  · exact reg_setReg_ne _ _ ‹_›

theorem reg_setFlag (w : W) (k j : Nat) (f : Fld) (b : Bool) :
    (w.setFlag k f b).reg j = if j = k then putBits (w.reg k) f.hi f.lo b.toNat else w.reg j := reg_setFld _ _ _ _ _

theorem reg_setFld_ne (w : W) {k j : Nat} (f : Fld) (v : Nat) (h : j ≠ k) : (w.setFld k f v).reg j = w.reg j := by
  rw [reg_setFld, if_neg h]

theorem reg_setFlag_ne (w : W) {k j : Nat} (f : Fld) (b : Bool) (h : j ≠ k) : (w.setFlag k f b).reg j = w.reg j := by
  rw [reg_setFlag, if_neg h]

/-! ### Counting -/

/-- Counting writes its register, and may send the overflow event: whatever neither of these changes is as before. -/
theorem countW_keeps {α : Type} (P : W → α) (hr : ∀ w k v, P (w.setReg k v) = P w) (ho : ∀ w o, P (w.emit o) = P w)
    (w : W) (k width n : Nat) : P (w.countW k width n) = P w := by
  unfold countW
  dsimp only
  split
  · exact hr _ _ _
  · split
    · exact hr _ _ _
    · exact (ho _ (.overflow k)).trans (hr _ _ _)

theorem countW_reg_ne (w : W) {k j : Nat} (width n : Nat) (h : j ≠ k) : (w.countW k width n).reg j = w.reg j := by
  unfold countW
  dsimp only
  split
  · exact reg_setReg_ne _ _ h
  · split
    · exact reg_setReg_ne _ _ h
    · exact (emit_reg _ (.overflow k) j).trans (reg_setReg_ne _ _ h)

theorem count_reg_ne (w : W) {k j : Nat} (n : Nat) (h : j ≠ k) : (w.count k n).reg j = w.reg j := countW_reg_ne _ _ _ h

theorem countErr_reg_ne (w : W) {k j : Nat} (h : j ≠ k) : (w.countErr k).reg j = w.reg j := countW_reg_ne _ _ _ h

@[simp] theorem count_mc (w : W) (k n : Nat) (a b : Nat) : (w.count k n).mc a b = w.mc a b :=
  countW_keeps (fun w => w.mc a b) (fun _ _ _ => rfl) (fun _ _ => rfl) _ _ _ _
@[simp] theorem countErr_mc (w : W) (k : Nat) (a b : Nat) : (w.countErr k).mc a b = w.mc a b :=
  countW_keeps (fun w => w.mc a b) (fun _ _ _ => rfl) (fun _ _ => rfl) _ _ _ _
@[simp] theorem count_vc (w : W) (k n : Nat) (a b : Nat) : (w.count k n).vc a b = w.vc a b :=
  countW_keeps (fun w => w.vc a b) (fun _ _ _ => rfl) (fun _ _ => rfl) _ _ _ _
@[simp] theorem countErr_vc (w : W) (k : Nat) (a b : Nat) : (w.countErr k).vc a b = w.vc a b :=
  countW_keeps (fun w => w.vc a b) (fun _ _ _ => rfl) (fun _ _ => rfl) _ _ _ _
@[simp] theorem count_sc (w : W) (k n : Nat) (a b : Nat) : (w.count k n).sc a b = w.sc a b :=
  countW_keeps (fun w => w.sc a b) (fun _ _ _ => rfl) (fun _ _ => rfl) _ _ _ _
@[simp] theorem countErr_sc (w : W) (k : Nat) (a b : Nat) : (w.countErr k).sc a b = w.sc a b :=
  countW_keeps (fun w => w.sc a b) (fun _ _ _ => rfl) (fun _ _ => rfl) _ _ _ _
@[simp] theorem count_cp (w : W) (k n : Nat) (a : Nat) : (w.count k n).cp a = w.cp a :=
  countW_keeps (fun w => w.cp a) (fun _ _ _ => rfl) (fun _ _ => rfl) _ _ _ _
@[simp] theorem countErr_cp (w : W) (k : Nat) (a : Nat) : (w.countErr k).cp a = w.cp a :=
  countW_keeps (fun w => w.cp a) (fun _ _ _ => rfl) (fun _ _ => rfl) _ _ _ _
@[simp] theorem count_hall (w : W) (k n : Nat) (a : Nat) : (w.count k n).hall a = w.hall a :=
  countW_keeps (fun w => w.hall a) (fun _ _ _ => rfl) (fun _ _ => rfl) _ _ _ _
@[simp] theorem countErr_hall (w : W) (k : Nat) (a : Nat) : (w.countErr k).hall a = w.hall a :=
  countW_keeps (fun w => w.hall a) (fun _ _ _ => rfl) (fun _ _ => rfl) _ _ _ _
@[simp] theorem count_dm (w : W) (k n : Nat) (a : Nat) : (w.count k n).dm a = w.dm a :=
  countW_keeps (fun w => w.dm a) (fun _ _ _ => rfl) (fun _ _ => rfl) _ _ _ _
@[simp] theorem countErr_dm (w : W) (k : Nat) (a : Nat) : (w.countErr k).dm a = w.dm a :=
  countW_keeps (fun w => w.dm a) (fun _ _ _ => rfl) (fun _ _ => rfl) _ _ _ _
@[simp] theorem count_su (w : W) (k n : Nat) (a : Nat) : (w.count k n).su a = w.su a :=
  countW_keeps (fun w => w.su a) (fun _ _ _ => rfl) (fun _ _ => rfl) _ _ _ _
@[simp] theorem countErr_su (w : W) (k : Nat) (a : Nat) : (w.countErr k).su a = w.su a :=
  countW_keeps (fun w => w.su a) (fun _ _ _ => rfl) (fun _ _ => rfl) _ _ _ _
@[simp] theorem count_landing (w : W) (k n : Nat) (a : Nat) : (w.count k n).landing a = w.landing a :=
  countW_keeps (fun w => w.landing a) (fun _ _ _ => rfl) (fun _ _ => rfl) _ _ _ _
@[simp] theorem countErr_landing (w : W) (k : Nat) (a : Nat) : (w.countErr k).landing a = w.landing a :=
  countW_keeps (fun w => w.landing a) (fun _ _ _ => rfl) (fun _ _ => rfl) _ _ _ _
@[simp] theorem count_memc (w : W) (k n : Nat) (a : Nat) : (w.count k n).memc a = w.memc a :=
  countW_keeps (fun w => w.memc a) (fun _ _ _ => rfl) (fun _ _ => rfl) _ _ _ _
@[simp] theorem countErr_memc (w : W) (k : Nat) (a : Nat) : (w.countErr k).memc a = w.memc a :=
  countW_keeps (fun w => w.memc a) (fun _ _ _ => rfl) (fun _ _ => rfl) _ _ _ _
@[simp] theorem count_agent (w : W) (k n : Nat) (a b : Nat) : (w.count k n).agent a b = w.agent a b :=
  countW_keeps (fun w => w.agent a b) (fun _ _ _ => rfl) (fun _ _ => rfl) _ _ _ _
@[simp] theorem countErr_agent (w : W) (k : Nat) (a b : Nat) : (w.countErr k).agent a b = w.agent a b :=
  countW_keeps (fun w => w.agent a b) (fun _ _ _ => rfl) (fun _ _ => rfl) _ _ _ _
@[simp] theorem count_port (w : W) (k n : Nat) (a : Nat) : (w.count k n).port a = w.port a :=
  countW_keeps (fun w => w.port a) (fun _ _ _ => rfl) (fun _ _ => rfl) _ _ _ _
@[simp] theorem countErr_port (w : W) (k : Nat) (a : Nat) : (w.countErr k).port a = w.port a :=
  countW_keeps (fun w => w.port a) (fun _ _ _ => rfl) (fun _ _ => rfl) _ _ _ _
@[simp] theorem count_router (w : W) (k n : Nat) (a : Nat) : (w.count k n).router a = w.router a :=
  countW_keeps (fun w => w.router a) (fun _ _ _ => rfl) (fun _ _ => rfl) _ _ _ _
@[simp] theorem countErr_router (w : W) (k : Nat) (a : Nat) : (w.countErr k).router a = w.router a :=
  countW_keeps (fun w => w.router a) (fun _ _ _ => rfl) (fun _ _ => rfl) _ _ _ _
@[simp] theorem count_bar (w : W) (k n : Nat) (a : Nat) : (w.count k n).bar a = w.bar a :=
  countW_keeps (fun w => w.bar a) (fun _ _ _ => rfl) (fun _ _ => rfl) _ _ _ _
@[simp] theorem countErr_bar (w : W) (k : Nat) (a : Nat) : (w.countErr k).bar a = w.bar a :=
  countW_keeps (fun w => w.bar a) (fun _ _ _ => rfl) (fun _ _ => rfl) _ _ _ _
@[simp] theorem count_mem (w : W) (k n : Nat) : (w.count k n).mem = w.mem :=
  countW_keeps (fun w => w.mem) (fun _ _ _ => rfl) (fun _ _ => rfl) _ _ _ _
@[simp] theorem countErr_mem (w : W) (k : Nat) : (w.countErr k).mem = w.mem :=
  countW_keeps (fun w => w.mem) (fun _ _ _ => rfl) (fun _ _ => rfl) _ _ _ _
@[simp] theorem count_log (w : W) (k n : Nat) : (w.count k n).log = w.log :=
  countW_keeps (fun w => w.log) (fun _ _ _ => rfl) (fun _ _ => rfl) _ _ _ _
@[simp] theorem countErr_log (w : W) (k : Nat) : (w.countErr k).log = w.log :=
  countW_keeps (fun w => w.log) (fun _ _ _ => rfl) (fun _ _ => rfl) _ _ _ _
@[simp] theorem count_c_seq (w : W) (k n : Nat) : (w.count k n).c.seq = w.c.seq :=
  countW_keeps (fun w => w.c.seq) (fun _ _ _ => rfl) (fun _ _ => rfl) _ _ _ _
@[simp] theorem countErr_c_seq (w : W) (k : Nat) : (w.countErr k).c.seq = w.c.seq :=
  countW_keeps (fun w => w.c.seq) (fun _ _ _ => rfl) (fun _ _ => rfl) _ _ _ _
@[simp] theorem count_c_host (w : W) (k n : Nat) : (w.count k n).c.host = w.c.host :=
  countW_keeps (fun w => w.c.host) (fun _ _ _ => rfl) (fun _ _ => rfl) _ _ _ _
@[simp] theorem countErr_c_host (w : W) (k : Nat) : (w.countErr k).c.host = w.c.host :=
  countW_keeps (fun w => w.c.host) (fun _ _ _ => rfl) (fun _ _ => rfl) _ _ _ _
@[simp] theorem count_c_power (w : W) (k n : Nat) : (w.count k n).c.power = w.c.power :=
  countW_keeps (fun w => w.c.power) (fun _ _ _ => rfl) (fun _ _ => rfl) _ _ _ _
@[simp] theorem countErr_c_power (w : W) (k : Nat) : (w.countErr k).c.power = w.c.power :=
  countW_keeps (fun w => w.c.power) (fun _ _ _ => rfl) (fun _ _ => rfl) _ _ _ _
@[simp] theorem count_c_mgmt (w : W) (k n : Nat) : (w.count k n).c.mgmt = w.c.mgmt :=
  countW_keeps (fun w => w.c.mgmt) (fun _ _ _ => rfl) (fun _ _ => rfl) _ _ _ _
@[simp] theorem countErr_c_mgmt (w : W) (k : Nat) : (w.countErr k).c.mgmt = w.c.mgmt :=
  countW_keeps (fun w => w.c.mgmt) (fun _ _ _ => rfl) (fun _ _ => rfl) _ _ _ _
@[simp] theorem count_c_test (w : W) (k n : Nat) : (w.count k n).c.test = w.c.test :=
  countW_keeps (fun w => w.c.test) (fun _ _ _ => rfl) (fun _ _ => rfl) _ _ _ _
@[simp] theorem countErr_c_test (w : W) (k : Nat) : (w.countErr k).c.test = w.c.test :=
  countW_keeps (fun w => w.c.test) (fun _ _ _ => rfl) (fun _ _ => rfl) _ _ _ _
@[simp] theorem count_c_flash (w : W) (k n : Nat) : (w.count k n).c.flash = w.c.flash :=
  countW_keeps (fun w => w.c.flash) (fun _ _ _ => rfl) (fun _ _ => rfl) _ _ _ _
@[simp] theorem countErr_c_flash (w : W) (k : Nat) : (w.countErr k).c.flash = w.c.flash :=
  countW_keeps (fun w => w.c.flash) (fun _ _ _ => rfl) (fun _ _ => rfl) _ _ _ _
@[simp] theorem count_c_snap (w : W) (k n : Nat) : (w.count k n).c.snap = w.c.snap :=
  countW_keeps (fun w => w.c.snap) (fun _ _ _ => rfl) (fun _ _ => rfl) _ _ _ _
@[simp] theorem countErr_c_snap (w : W) (k : Nat) : (w.countErr k).c.snap = w.c.snap :=
  countW_keeps (fun w => w.c.snap) (fun _ _ _ => rfl) (fun _ _ => rfl) _ _ _ _
@[simp] theorem count_c_dump (w : W) (k n : Nat) : (w.count k n).c.dump = w.c.dump :=
  countW_keeps (fun w => w.c.dump) (fun _ _ _ => rfl) (fun _ _ => rfl) _ _ _ _
@[simp] theorem countErr_c_dump (w : W) (k : Nat) : (w.countErr k).c.dump = w.c.dump :=
  countW_keeps (fun w => w.c.dump) (fun _ _ _ => rfl) (fun _ _ => rfl) _ _ _ _
@[simp] theorem count_c_peers (w : W) (k n : Nat) : (w.count k n).c.peers = w.c.peers :=
  countW_keeps (fun w => w.c.peers) (fun _ _ _ => rfl) (fun _ _ => rfl) _ _ _ _
@[simp] theorem countErr_c_peers (w : W) (k : Nat) : (w.countErr k).c.peers = w.c.peers :=
  countW_keeps (fun w => w.c.peers) (fun _ _ _ => rfl) (fun _ _ => rfl) _ _ _ _
@[simp] theorem count_c_bus (w : W) (k n : Nat) : (w.count k n).c.bus = w.c.bus :=
  countW_keeps (fun w => w.c.bus) (fun _ _ _ => rfl) (fun _ _ => rfl) _ _ _ _
@[simp] theorem countErr_c_bus (w : W) (k : Nat) : (w.countErr k).c.bus = w.c.bus :=
  countW_keeps (fun w => w.c.bus) (fun _ _ _ => rfl) (fun _ _ => rfl) _ _ _ _
@[simp] theorem count_c_time (w : W) (k n : Nat) : (w.count k n).c.time = w.c.time :=
  countW_keeps (fun w => w.c.time) (fun _ _ _ => rfl) (fun _ _ => rfl) _ _ _ _
@[simp] theorem countErr_c_time (w : W) (k : Nat) : (w.countErr k).c.time = w.c.time :=
  countW_keeps (fun w => w.c.time) (fun _ _ _ => rfl) (fun _ _ => rfl) _ _ _ _
@[simp] theorem count_rd (w : W) (k n a : Nat) : (w.count k n).rd a = w.rd a := by simp [rd]
@[simp] theorem count_rdBytes (w : W) (k n a l : Nat) : (w.count k n).rdBytes a l = w.rdBytes a l := by simp [rdBytes]

/-! ### Sources -/

theorem pend_cases (w : W) (id : Nat) : w.pend id = w ∨ w.pend id = w.count Reg.IC_MERGED 1 ∨
    w.pend id = w.setFlag (Reg.IC_SRC (id - 64)) F.IC_SRC_PEND true := by
  unfold pend
  dsimp only
  split
  · exact .inl rfl
  · split
    · exact .inr (.inl rfl)
    · exact .inr (.inr rfl)

theorem pendPriv_cases (w : W) (n s : Nat) : w.pendPriv n s = w ∨ w.pendPriv n s = w.count Reg.IC_MERGED 1 ∨
    w.pendPriv n s = w.setFlag (Reg.IC_SRC_PRIV n s) F.IC_SRC_PEND true := by
  unfold pendPriv
  dsimp only
  split
  · exact .inl rfl
  · split
    · exact .inr (.inl rfl)
    · exact .inr (.inr rfl)

/-- With no register write waiting, the end of a command does nothing more. -/
theorem flushBus_nil (w : W) (h : w.c.bus = []) : w.flushBus = w := by
  simp only [flushBus, h, List.foldl_nil]
  rw [← h]

end W

/-! ### Instructions -/

/-- Where no byte holds a parity error, no run of bytes does. -/
theorem badRun_none {s : State} (h : s.badPar = []) (k n : Nat) : s.w.badRun k n = none := by
  simp [W.badRun, State.w, h]

/-- A well-formed vector word is fetched without a parity error. -/
theorem vcMemBad_none {s : State} {p n : Nat} {i : VIns} (h : VecRuns s p n i) (a len : Nat) :
    s.w.vcMemBad p n a len .none = (false, s.w) := by
  simp [W.vcMemBad, W.vcArmed, h.unarmed, badRun_none h.intact]

/-- Nothing goes wrong in a vector instruction that is carried out. -/
theorem vcTrouble_none {s : State} {p n : Nat} {i : VIns} (h : VecRuns s p n i) (j : VIns) (m : MReg) :
    s.w.vcTrouble p n j m .none = (none, s.w) := by
  simp [W.vcTrouble, W.vcArmed, h.unarmed]

/-- A scalar word is fetched without a parity error. -/
theorem scMemBad_none {s : State} {h : Hart} {op : Nat} {fn : Option Nat} {i : SIns} (hr : HartRuns s h op fn i)
    (a len : Nat) : s.w.scMemBad h a len .none = (false, s.w) := by
  have : s.w.scArmed h 2 = false := by
    cases h with
    | cp k => rfl
    | sc p n => simp [W.scArmed, hr.unarmed p n rfl]
  simp [W.scMemBad, this, badRun_none hr.intact]

/-- Nothing goes wrong in a scalar instruction that is carried out. -/
theorem scTrouble_none {s : State} {h : Hart} {op : Nat} {fn : Option Nat} {i : SIns} (hr : HartRuns s h op fn i)
    (j : SIns) : s.w.scTrouble h j .none = (none, s.w) := by
  cases h with
  | cp k => simp [W.scTrouble, W.scArmed]
  | sc p n => simp [W.scTrouble, W.scArmed, hr.unarmed p n rfl]

/-- A vector instruction that is carried out: its cycles are counted, then it has its effect. -/
theorem vInstr_runs {s : State} {p n : Nat} {i : VIns} (h : VecRuns s p n i) {op : Nat} (ho : i.op = op)
    (f : VIns → MReg → W → W) :
    vInstr p n op .none s f = .next (s.after (f i ((s.w.vc p n).mreg i.mask) (s.w.vecBusy p n i))) := by
  have h1 := h.ready
  have h2 := h.inside
  rw [vInstr, runOn_live h.live (vcOk_of h.gal h.core)]
  simp [W.vcInstr, h.running, h1, h.up, h.allowed, ← h.word, ho, vcMemBad_none h, vcTrouble_none h, h.ok, W.vecBusy]
  rw [if_neg (by omega)]

/-- A scalar instruction that is carried out has its effect. -/
theorem sExec_runs {s : State} {h : Hart} {op : Nat} {fn : Option Nat} {i : SIns} (hr : HartRuns s h op fn i)
    (f : SIns → W → W) : sExec h op fn .none s f = .next (s.after (f i s.w)) := by
  have hl := hr.live
  have ha : s.aux = true := aux_of_live hl
  have hon : (if h = .cp 0 ∨ h = .cp 3 then s.aux else s.live) = true := by split <;> assumption
  simp only [sExec, hr.unit, if_true, runIf, hon]
  congr 2
  have hm : ((i.op == op) && (fn.isNone || fn == some i.fn)) = true := by
    rcases hr.function with h | h <;> simp [hr.opcode, h]
  have hin := Nat.not_lt.2 hr.inside
  simp [W.sInstr, hr.ready, hr.aligned, hin, ← hr.word, hm, hr.known, scMemBad_none hr, scTrouble_none hr]
  intro x hx h1 h2 h3
  have := hr.free
  simp at this
  have := this x hx h1 h2
  grind

/-- A request in good order is counted, and served. -/
theorem onMessage_served {s : State} {typ : Nat} {m : MgmtMsg} (h : Requested s typ m) (f : W → W) :
    s.w.onMessage typ m f = f (s.w.received m) := by
  unfold W.onMessage
  rw [if_neg (by simp [h.served])]
  extract_lets w1
  rw [if_neg (by rw [h.crc, h.version]; simp [h.mtype]), if_neg (by rw [h.mtype, h.tag, h.request]; simp [h.short])]
  rfl

end Sys2Proof.Machine
end

