-- ==== Sys2Proof/Tests/Slice0.lean ====
section
/-! SUPPORT. Tests: ill-formed commands are refused; for each statement a state and operands that meet its hypotheses,
clause by clause; results worked out by hand from the manual's rules. -/

namespace Sys2Proof.Tests

open Sys2Proof Sys2Proof.Machine

set_option Elab.async false

/-- The state after reset with some of it set. -/
def start (f : W → W) : State := State.reset.after (f State.reset.w)

/-- A gallery with its fence lifted. -/
def unfenced (w : W) (p : Nat) : W := w.setReg (Reg.GAL_FENCE p) 0

/-- Queue `q` of an agent holding `ts`. -/
def queued (w : W) (p a q : Nat) (ts : List Packet) : W := w.setAgent p a ((w.agent p a).setQueue q ts)

/-- A token whose payload is these words. -/
def token (ws : List Word) : Packet := { len := 8 * ws.length, data := wordBytes ws }

/-- A null token. -/
def nullToken : Packet := { arg := w64 (2 ^ 60) }

/-- Gallery 311 carries logical gallery 0, its landing knows it, and its fence is lifted. -/
def placed0 (w : W) : W :=
  ((unfenced w 311).setMapEntry 0 (2 ^ 15 + 311)).setReg (Reg.LMAP 311 0 0) (2 ^ 15 + 311)

/-! ### Ill-formed commands -/

/-- One past the last unit of each kind: galleries, cores, masters, agents, controllers, ports, routers, rings, processors,
sensors, sources, landing ports. -/
theorem test_ill_formed_refused : ([.mma 312 0 .none, .mcDrain 0 8 .none, .vfma 0 4 .none, .vend 312 0 .none, .add (.sc 0 2) .none, .add (.sc 312 0) .none,
   .wfi (.cp 4) .none, .scEnable 0 2, .hallRead 0 15 {} 0 0 [] .none, .poisonedResponse 0 16, .dmCopy 312 .none,
   .suSwitch 312 0 false, .lndHeadFlit 0 9 {} 0 .none, .fltArrive 0 0 0, .fltArrive 0 6 0, .fltRelease 312 0,
   .migrationStart 0 312, .memcRead 16 {} 0 0 .none, .memIrgnWrite 16 0 0 0, .memIrgnWrite 0 2 0 0,
   .dimmPresenceChange 8 0 true, .dimmPresenceChange 0 2 true, .linkDataFrame 65 {} .none, .portUp 64, .latchLift 8,
   .fabWrite 2 {}, .barrierArriveResend 32, .sclCmdDb 64 0, .sclCplDb 64 0, .rotationTick 2, .icClaim 4,
   .thermalSample 327 none, .sourceTrigger 0 576, .moderationTimeout 0 8, .moderationTimeout 0 0, .suSwitch 0 256 false] : List Instr).all
    (fun i => !i.wf) = true := by decide +kernel

theorem test_ill_formed_faults : exec (.mma 312 0 .none) State.reset = .fault .noSuchUnit ∧
    exec (.icClaim 4) State.reset = .fault .noSuchUnit := ⟨rfl, rfl⟩

/-- The last unit of each kind. -/
theorem test_well_formed : ([.mma 311 7 .none, .vend 311 3 .none, .add (.sc 311 1) .none, .wfi (.cp 3) .none,
    .hallRead 311 14 {} 0 0 [] .none, .poisonedResponse 311 15, .lndHeadFlit 311 8 {} 0 .none, .fltArrive 311 5 0,
    .memcRead 15 {} 0 0 .none, .memIrgnWrite 15 1 0 0, .dimmPresenceChange 7 1 true, .linkDataFrame 64 {} .none, .portUp 63,
    .latchLift 7, .fabWrite 1 {}, .barrierArriveResend 31, .sclCmdDb 63 0, .rotationTick 1, .icClaim 3,
    .thermalSample 326 none, .sourceTrigger 3 575, .moderationTimeout 3 7, .suSwitch 311 255 false] : List Instr).all
    Instr.wf = true := by decide +kernel

/-! ### The machine -/

/-- The table gives no row bits: no word spells a command. -/
theorem test_no_word_spells_a_command : decodeTableWord 32 0x12345678 = none ∧
    State.reset.withFetchWord 32 0x12345678 = State.reset := by decide +kernel

theorem witness_StepRunsTheOldestCommand :
    ({ State.reset with pending := [.relock, .attnClr] } : State).pending = .relock :: [.attnClr] := rfl

theorem witness_StepKeepsMemoryCanonical :
    State.reset.mem.wf = true ∧ ∃ t, step { State.reset with pending := [.relock] } = .next t := ⟨by decide, _, rfl⟩

theorem witness_SafeRunsNeverStop : ({ State.reset with pending := [.relock] } : State).safe = true := by decide +kernel

theorem witness_IdleAndUnpoweredParts :
    State.reset.pending = [] ∧ State.reset.chip.powered = true ∧
    ({ State.reset with chip := { powered := false } } : State).aux = false ∧ Instr.wf .relock = true ∧
    (∀ found, Instr.relock ≠ .coldReset found) ∧ Instr.relock ≠ .powerLoss ∧ Instr.relock ≠ .refclkLoss ∧
    (∀ c d b, Instr.relock ≠ .dimmPresenceChange c d b) := by
  refine ⟨by decide, by decide, by decide, by decide, ?_, ?_, ?_, ?_⟩ <;> intros <;> simp

/-- Nothing owed; a microsecond owed either way. -/
theorem witness_IdleAndUnpoweredParts_owed :
    let at' := fun (o : Int) => start fun w => { w with c := { w.c with timeKeep := { w.c.timeKeep with owed := o } } }
    (at' 999).pending = [] ∧ (at' 999).chip.powered = true ∧ (at' 999).chip.timeKeep.owed < 1000 ∧
    -1000 < (at' (-999)).chip.timeKeep.owed ∧ 1000 ≤ (at' 1000).chip.timeKeep.owed ∧
    (at' (-1000)).chip.timeKeep.owed ≤ -1000 := by decide +kernel

/-- One nanosecond and one count of RST_UPTIME. -/
theorem test_idle_step : ∃ t, step State.reset = .next t ∧ t.chip.time = 1 ∧ t.w.reg Reg.RST_UPTIME = 1 :=
  ⟨_, rfl, by decide +kernel, by decide +kernel⟩

/-- R6: two bytes, and eight bytes at an address that is a multiple of four only. -/
theorem witness_RegisterAccessesMustBeAligned : ((2 ≠ 4 ∧ 2 ≠ 8) ∨ 0x10000 % 2 ≠ 0) ∧ 0x10004 % 8 ≠ 0 ∧
    State.reset.aux = true ∧ State.reset.chip.bus = [] ∧ State.reset.w.fld Reg.FLT_CFG F.FLT_CFG_RATE ≠ 0 ∧
    (start fun w => w.setReg Reg.FLT_CFG 0).w.fld Reg.FLT_CFG F.FLT_CFG_RATE = 0 := by decide +kernel

/-- The power limit, written whole and in its upper half; every condition of the second clause. -/
theorem witness_RegisterAccessesMustBeAligned_write :
    State.reset.aux = true ∧ State.reset.chip.bus = [] ∧ ([(0, 8), (0, 4), (4, 4)] : List (Nat × Nat)).all (fun x =>
      (regAt (Reg.PWR_CAP + x.1)).any (fun y => y.2.2 == x.1 && y.2.1 == Reg.PWR_CAP && y.1.bytes == 8 &&
        y.1.maskOf (fun a => a == .w1c || a == .w1s) == 0) && (Reg.PWR_CAP + x.1) % x.2 == 0) = true ∧
    0xE00000 ≤ Reg.PWR_CAP ∧ Reg.PWR_CAP < 0xF00000 ∧ Reg.PWR_CAP ≠ Reg.PWR_CNT_CLR := by decide +kernel

theorem witness_CountersStickAndClear :
    ([.mcCntClr 311 7 0x1FF, .vcCntClr 311 3 1, .scCntClr 311 1 1, .hallCntClr 0 0x200, .lndCntClr 311 0x40, .memcCntClr 15 1,
   .fabPortCntClr 63 1, .erCntClr 1 1, .sclCntClr 1, .seqCntClr 3, .fltCntClr 1, .rstCntClr 1, .pwrCntClr 1, .icCntClr 1,
   .mgmtCntClr 1, .stCntClr 1, .qCntClr 311 15 15, .qCntClr 0 0 0x10000, .qCntClr 0 0 0x20004] : List Instr).all
      (fun i => (counterClear i).isSome && i.wf) = true ∧ State.reset.live = true ∧
    bits (State.reset.w.reg (Reg.MC_TILES 0 0)) 47 0 < 2 ^ 48 - 1 ∧
    bits ((start fun w => w.setReg (Reg.MC_TILES 0 0) (w64 (2 ^ 48 - 1))).w.reg (Reg.MC_TILES 0 0)) 47 0 = 2 ^ 48 - 1 := by
  decide +kernel

/-- Bit 4 of MC_CNT_CLR is MC_TILES: it clears, MC_BUSY_CYCLES stays. -/
theorem test_cnt_clr : (match exec (.mcCntClr 0 0 0x10)
      (start fun w => (w.setReg (Reg.MC_TILES 0 0) 7).setReg (Reg.MC_BUSY_CYCLES 0 0) 9) with
    | .next t => (t.w.reg (Reg.MC_TILES 0 0), t.w.reg (Reg.MC_BUSY_CYCLES 0 0))
    | _ => (1, 1)) = (0, 9) := by decide +kernel

/-! ### The matrix core -/

/-- A 32-byte INT8 command: K 32, C at 0x10000 with pitch 256, A at 0 and B at 0x8000 with pitch 128. -/
def int8Words : List Word :=
  [w64 (0x1234 * 2 ^ 48 + 0x40 * 2 ^ 24 + 0x41 * 2 ^ 16 + 0x41 * 2 ^ 8 + 1), w64 (0x10000 * 2 ^ 36 + 0x8000 * 2 ^ 18), 0,
   w64 (2 ^ 48 + 256 * 2 ^ 32 + 128 * 2 ^ 16 + 128)]

/-- Core 7 of gallery 311 with the command at the head of queue 0. -/
def mcWaits (t : Packet) (f : W → W) : State :=
  start fun w => f (((queued (unfenced w 311) 311 7 0 [t]).setReg (Reg.MC_CFG 311 7) 1))

theorem witness_MatrixCommands_mma (s : State) (hs : s = mcWaits (token int8Words) id) :
    s.live = true ∧ s.w.mcRuns 311 7 = true ∧ s.w.flag (Reg.MC_CFG 311 7) F.MC_CFG_EN = true ∧ s.w.mcHalted 311 7 = false ∧
    (s.w.mc 311 7).ahead = none ∧ (s.w.head 311 7 0).any (fun t => !isNull t) = true ∧
    (s.w.pop 311 7 0).any (fun x => (x.2.mc 311 7).tile.isNone &&
      mcCmdOk x.1.len ((List.range 4).map (payWord x.1.data)) (x.2.mcOpened 311 7)) = true ∧
    (s.w.mc 311 7).cmd = none ∧ (McCmd.ofWords int8Words).init = false ∧
    [(McCmd.ofWords int8Words).fmtA, (McCmd.ofWords int8Words).fmtB, (McCmd.ofWords int8Words).fmtOut].all
      (fun c => (Fmt.ofCode c).isSome) = true := by
  subst hs; decide +kernel

theorem witness_MatrixCommands_ahead (s : State) (hs : s = mcWaits (token int8Words) fun w =>
      w.setMc 311 7 { cmd := some int8Words }) :
    s.w.mcRuns 311 7 = true ∧ (s.w.mc 311 7).ahead = none ∧ (s.w.mc 311 7).cmd ≠ none ∧
    (s.w.pop 311 7 0).any (fun x => mcCmdOk x.1.len ((List.range 4).map (payWord x.1.data)) (x.2.mcOpened 311 7)) = true := by
  subst hs; decide +kernel

theorem witness_MatrixCommands_deferred (s : State) (hs : s = start fun w => ((unfenced w 311).setReg (Reg.MC_CFG 311 7) 1).setMc 311 7
      { ahead := some (int8Words, true) }) :
    s.live = true ∧ s.w.mcRuns 311 7 = true ∧ s.w.mcHalted 311 7 = false ∧
    s.w.flag (Reg.MC_CFG 311 7) F.MC_CFG_EN = true ∧
    (s.w.mc 311 7).ahead = some (int8Words, true) ∧ (s.w.mc 311 7).cmd = none ∧ (s.w.mc 311 7).draining = none := by
  subst hs; decide +kernel

theorem witness_MatrixCommands_null (s : State) (hs : s = mcWaits nullToken id) :
    s.w.mcRuns 311 7 = true ∧ s.w.flag (Reg.MC_CFG 311 7) F.MC_CFG_EN = true ∧ (s.w.head 311 7 0).any isNull = true ∧
    (s.w.pop 311 7 0).any (fun x => (x.2.mc 311 7).cmd.isNone && (x.2.mc 311 7).draining.isNone) = true := by
  subst hs; decide +kernel

theorem witness_MatrixCommands_inject :
    State.reset.live = true ∧ (start fun w => w.setPstate 311 2).w.pstate 311 = 2 ∧ State.reset.w.pstate 311 ≠ 2 ∧
    State.reset.w.flag Reg.SEC_STATUS F.SEC_STATUS_DEBUG = false := by decide +kernel

/-- K 64 for the commands that go on; formats as the operands are. -/
def goesOn (f : Fmt) (code : Nat) : State :=
  start fun w => (unfenced w 311).setMc 311 7
    { tile := some (openTile f f .fp32 0 none),
      cmd := some [w64 (2 ^ 32 + 0x02 * 2 ^ 24 + code * 2 ^ 16 + code * 2 ^ 8 + 1), w64 (0x10000 * 2 ^ 36 + 0x8000 * 2 ^ 18),
        w64 (0x6000 * 2 ^ 36 + 0x7000 * 2 ^ 18), w64 (2 ^ 48 + 256 * 2 ^ 32 + 128 * 2 ^ 16 + 128)] }

theorem witness_TilesAdvanceAndDrain (s : State) (hs : s ∈ [goesOn .int8 0x41, goesOn .bf16 0x03, goesOn .fp16 0x04,
      goesOn .mxfp4 0x80]) :
    s.live = true ∧ s.badPar = [] ∧ s.w.mcRuns 311 7 = true ∧ s.w.mcHalted 311 7 = false ∧
    s.w.flag (Reg.MC_INJECT 311 7) F.MC_INJECT_ARM = false ∧ (s.w.mc 311 7).tile.isSome = true ∧
    (s.w.mc 311 7).cmd.any (fun ws => decide (32 * ((s.w.mc 311 7).blk + 1) < (McCmd.ofWords ws).k)) = true := by
  simp only [List.mem_cons, List.not_mem_nil, or_false] at hs
  obtain rfl | rfl | rfl | rfl := hs <;> decide +kernel

theorem witness_TilesAdvanceAndDrain_drain (s : State) (hs : s = start fun w => (unfenced w 311).setMc 311 7
      { draining := some (openTile .mxfp8a .mxfp8a .fp32 9 none) }) :
    s.live = true ∧ s.w.mcRuns 311 7 = true ∧ (s.w.mc 311 7).draining.any (fun t => t.fmtA.isMx) = true := by
  subst hs; decide +kernel


/-! ### The vector core -/

/-- The instruction at VC_PC of core `n` of gallery `p`. -/
def vecIns (s : State) (p n : Nat) : VIns := VIns.of (w64 (s.w.rdNat (galKey p (vcBuf n + s.w.vpc p n)) 8))

/-- The conditions of `VecRuns`, as a computation. -/
def vecReady (s : State) (p n : Nat) : Bool :=
  s.live && decide (p < 312) && decide (n < 4) && (s.w.vc p n).running && decide ((s.w.vc p n).wait = .run) &&
    !s.w.vcHalted p n && s.w.agentRuns p (8 + n) && decide (s.w.vpc p n + 8 ≤ 2 ^ 17) && vInsOk (vecIns s p n) &&
    decide (s.badPar = []) && !s.w.flag (Reg.VC_INJECT p n) F.VC_INJECT_ARM

theorem vecRuns_of {s : State} {p n : Nat} (h : vecReady s p n = true) : VecRuns s p n (vecIns s p n) := by
  simp only [vecReady, Bool.and_eq_true, decide_eq_true_eq, Bool.not_eq_true'] at h
  obtain ⟨⟨⟨⟨⟨⟨⟨⟨⟨⟨h1, h2⟩, h3⟩, h4⟩, h5⟩, h6⟩, h7⟩, h8⟩, h9⟩, h10⟩, h11⟩ := h
  exact ⟨h1, h2, h3, h4, h5, h6, h7, h8, rfl, h9, h10, h11⟩

/-- Core 3 of gallery 311 about to run `x`, the last instruction of its memory, with m1 zero, m2 lane 127, x1 as given. -/
def vecAt (x : Nat) (x1 : Word) (f : W → W) : State :=
  start fun w => f ((((unfenced w 311).setReg (Reg.VC_PC 311 3) (w64 (2 ^ 17 - 8))).setVc 311 3
    { running := true, m := [(2, w64 0 |>.setWidth 128 |>.or (BitVec.ofNat 128 (2 ^ 127)))], x := [(1, x1)] }).wrNat
    (galKey 311 (vcBuf 3 + 2 ^ 17 - 8)) 8 x)

/-- An instruction word: opcode, mask, format, EXT; VD, VA, VB, VC 1 to 4. -/
def vecWord (op mask fmt ext : Nat) : Nat :=
  op * 2 ^ 56 + 1 * 2 ^ 51 + 2 * 2 ^ 46 + 3 * 2 ^ 41 + 4 * 2 ^ 36 + mask * 2 ^ 33 + fmt * 2 ^ 25 + ext

theorem witness_VectorLanesAndElements : (127 : Nat) < 128 ∧ 64 ∈ ([8, 16, 32, 64] : List Nat) ∧ 64 * 64 ≤ 4096 ∧
    63 < 4096 / 64 := by decide

/-- FP32 where the instruction has it, INT32 for the bitwise ones. -/
theorem witness_ElementwiseInstructions : ∀ e ∈ vecElementwise, ∃ s i fm, VecRuns s 311 3 i ∧ i.op = e.1 ∧
    Fmt.ofCode i.fmt = some fm := by
  have h : vecElementwise.all (fun e =>
      let s := vecAt (vecWord e.1 2 (if 0x10 ≤ e.1 then 0x40 else 0x02) 0) 0 id
      vecReady s 311 3 && (vecIns s 311 3).op == e.1 && (Fmt.ofCode (vecIns s 311 3).fmt).isSome) = true := by
    decide +kernel
  intro e he
  have := List.all_eq_true.mp h e he
  simp only [Bool.and_eq_true, beq_iff_eq, Option.isSome_iff_exists] at this
  obtain ⟨⟨h1, h2⟩, fm, h3⟩ := this
  exact ⟨_, _, fm, vecRuns_of h1, h2, h3⟩

theorem witness_VectorConversionsAndReductions :
    ([(0x08, 0, 0x02, 0), (0x0C, 2, 0x03, 0), (0x09, 2, 0x03, 0x02), (0x09, 0, 0x83, 0x02), (0x1C, 0, 0x02, 0x8000),
      (0x07, 2, 0x02, 3), (0x0A, 2, 0x02, 0), (0x0B, 0, 0x40, 0), (0x0A, 1, 0x40, 0), (0x0B, 1, 0x02, 0)] :
      List (Nat × Nat × Nat × Nat)).all (fun x =>
        let s := vecAt (vecWord x.1 x.2.1 x.2.2.1 x.2.2.2) 0 id
        let i := vecIns s 311 3
        vecReady s 311 3 && i.op == x.1 && (Fmt.ofCode i.fmt).isSome && (x.1 != 9 || (Fmt.ofCode (i.ex 7 0)).isSome) &&
          (x.1 != 7 || (Fmt.ofCode i.fmt).any (fun f => f.width != 64)) &&
          ((s.w.vc 311 3).mreg i.mask == 0) == (x.2.1 == 1)) = true := by decide +kernel

/-- The last 512 bytes of local memory and of the window. -/
theorem witness_VectorMemoryAndQueues_memory :
    ([0x18, 0x19] : List Nat).all (fun op =>
      let s := vecAt (vecWord op 2 0x02 1) (w64 (2 ^ 17 - 512)) id
      vecReady s 311 3 && (vecIns s 311 3).op == op && s.w.vcAddr 311 3 (vecIns s 311 3) 32 + 512 == 2 ^ 17) = true ∧
    ([0x1A, 0x1B] : List Nat).all (fun op =>
      let s := vecAt (vecWord op 2 0x02 1) (w64 (windowTop - 512)) id
      vecReady s 311 3 && (vecIns s 311 3).op == op && s.w.vcAddr 311 3 (vecIns s 311 3) 128 + 512 == windowTop) = true := by
  decide +kernel

/-- A load of the hall's last four lines, its opposite numbers idle; a load beyond the hall. -/
theorem witness_VectorMemoryAndQueues_hall :
    ([0x3FFE00, 0x400000] : List Nat).all (fun a =>
      let s := vecAt (vecWord 0x1A 2 0x02 1) (w64 a) placed0
      let i := vecIns s 311 3
      vecReady s 311 3 && i.op == 0x1A && s.w.vcAddr 311 3 i 128 == a && decide (a + 512 ≤ windowTop) &&
        !((s.w.vecBusy 311 3 i).getLines 311 11 a 512 0x1FF).1.2) = true := by decide +kernel

theorem witness_VectorMemoryAndQueues_qrecv :
    ([nullToken, { len := 512, data := List.replicate 512 7 }] : List Packet).all (fun t =>
      let s := vecAt (vecWord 0x28 0 0x02 (15 + 3 * 16)) 0 fun w => queued w 311 11 15 [t]
      let i := vecIns s 311 3
      vecReady s 311 3 && i.op == 0x28 && ((s.w.vecBusy 311 3 i).pop 311 11 (i.ex 3 0)).any (fun x =>
        !x.1.poison && (isNull x.1 || x.1.data.length == 512))) = true := by decide +kernel

theorem witness_VectorMemoryAndQueues_qsend (s : State) (hs : s = vecAt (vecWord 0x29 0 0x02 1) 15 fun w =>
      w.setAgent 311 11 ((w.agent 311 11).setSlot 15 { state := 2, slots := 8, grantSlots := 8 })) :
    let i := vecIns s 311 3
    let w := s.w.vecBusy 311 3 i
    let slot := ((s.w.vc 311 3).xreg (i.ex 3 0)).toNat
    vecReady s 311 3 = true ∧ i.op = 0x29 ∧ slot = 15 ∧ ((w.agent 311 11).slot slot).state = 2 ∧
    8 ≤ ((w.agent 311 11).slot slot).grantSlots ∧ ((w.agent 311 11).slot slot).waitq = [] ∧
    w.canSend 311 11 slot 0 512 = true := by subst hs; decide +kernel

theorem witness_VectorKernels_kernel :
    ([token [w64 (0x77 * 2 ^ 48 + 2 ^ 32 + 0x1FFF8 * 2 ^ 8 + 2), 1, 2, 3], nullToken] : List Packet).all (fun t =>
      let s := start fun w => (queued (unfenced w 311) 311 11 0 [t]).setReg (Reg.VC_CFG 311 3) 1
      s.live && s.w.vcIdle 311 3 && (s.w.head 311 11 0).isSome && (s.w.pop 311 11 0).any (fun x =>
        let w0 := payWord x.1.data 0
        !x.1.poison && (isNull x.1 || (x.1.len == 32 && bits w0 7 0 == 2 && bits w0 39 32 == 1 && bits w0 24 8 % 8 == 0)))) = true := by
  decide +kernel

theorem witness_VectorKernels_waits : ([.ended, .answer] : List VWait).all (fun x =>
    let s := start fun w => w.setVc 311 3 { running := true, wait := x }
    s.live && (s.w.vc 311 3).running && decide ((s.w.vc 311 3).wait = x)) = true := by decide +kernel

theorem witness_VectorIndices : ([(0x20, 0), (0x21, 1), (0x21, 5), (0x22, 0), (0x3F, 0)] :
    List (Nat × Nat)).all (fun x =>
      let s := vecAt (vecWord x.1 0 0x02 1) (w64 x.2) id
      let i := vecIns s 311 3
      vecReady s 311 3 && i.op == x.1 && (s.w.vc 311 3).xreg (i.ex 3 0) == w64 x.2) = true := by decide +kernel

/-- R78: 1.0 + 2.0 is 3.0, −1.0 max 2.0 is 2.0; a NaN made of opposite infinities counts. -/
theorem test_vector_elements : addRes .fp32 0x3F800000 0x40000000 = (0x40400000, {}) ∧
    maxRes .fp32 0xBF800000 0x40000000 = 0x40000000 ∧
    (addRes .fp32 0x7F800000 0xFF800000).2 = { nangen := 1 } := by decide +kernel

/-! ### Scalar cores and control processors -/

/-- The conditions of `HartRuns` but those on the opcode, as a computation. -/
def hartReady (s : State) (h : Hart) : Bool :=
  let i := s.w.hFetch h
  s.live && hartOk h && s.w.hReady h && s.w.hpc h % 4 == 0 && decide (s.w.hpc h + 4 ≤ hartMem h) && sOpKnown h i &&
    decide (s.badPar = []) && !((s.w.hart h).outs.any fun a => a.isLoad && a.dst != 0 && (a.dst == i.sd || a.dst ∈ sReads i)) &&
    (match h with | .sc p n => !s.w.flag (Reg.SC_INJECT p n) F.SC_INJECT_ARM | .cp _ => true)

theorem hartRuns_of {s : State} {h : Hart} (hr : hartReady s h = true) :
    HartRuns s h (s.w.hFetch h).op none (s.w.hFetch h) ∧
    HartRuns s h (s.w.hFetch h).op (some (s.w.hFetch h).fn) (s.w.hFetch h) := by
  simp only [hartReady, Bool.and_eq_true, decide_eq_true_eq, Bool.not_eq_true', beq_iff_eq] at hr
  obtain ⟨⟨⟨⟨⟨⟨⟨⟨h1, h2⟩, h3⟩, h4⟩, h5⟩, h6⟩, h10⟩, h7⟩, h8⟩ := hr
  have h9 : ∀ p n, h = .sc p n → s.w.flag (Reg.SC_INJECT p n) F.SC_INJECT_ARM = false := by
    intro p n e; subst e; simpa using h8
  exact ⟨⟨h1, h2, h3, h4, h5, rfl, rfl, .inl rfl, h6, h10, h7, h9⟩, ⟨h1, h2, h3, h4, h5, rfl, rfl, .inr rfl, h6, h10, h7, h9⟩⟩

/-- Core `h` about to run `x`, the last word of its memory, with these registers. -/
def hartAt (h : Hart) (x : Nat) (rs : List (Nat × Word)) (f : W → W) : State :=
  start fun w =>
    let w := match h with
      | .sc p n => (unfenced w p).setReg (Reg.SC_CFG p n) 1
      | .cp k => w.setFlag (Reg.IC_CP_CTL k) F.IC_CP_CTL_RUN true
    let w := rs.foldl (fun w r => w.setSreg h r.1 r.2) ((w.setHpc h (hartMem h - 4)).wrNat (hartKey h (hartMem h - 4)) 4 x)
    f w

/-- Forms A and B: opcode, SD, SA, then SB and function, or IMM16. -/
def wordA (op sd sa sb fn : Nat) : Nat := op * 2 ^ 26 + sd * 2 ^ 21 + sa * 2 ^ 16 + sb * 2 ^ 11 + fn
def wordB (op sd sa imm : Nat) : Nat := op * 2 ^ 26 + sd * 2 ^ 21 + sa * 2 ^ 16 + imm

/-- Word `x` runs on `h` and is of opcode `op` and, in the register forms, function `fn`. -/
def runsWord (h : Hart) (x op fn : Nat) : Bool :=
  let s := hartAt h x [] id
  hartReady s h && (s.w.hFetch h).op == op && (fn == 0xFFFF || (s.w.hFetch h).fn == fn)

/-- Scalar core 1 of gallery 311 and control processor 3. -/
def harts : List Hart := [.sc 311 1, .cp 3]

theorem witness_WritingARegister : hartOk (.sc 311 1) = true ∧ hartOk (.cp 3) = true ∧
    State.reset.w.hpc (.sc 311 1) + 4 < 2 ^ 32 ∧ State.reset.w.hpc (.cp 3) + 4 < 2 ^ 32 := by decide +kernel

theorem witness_ScalarArithmeticAndImmediates :
    harts.all (fun h => aluInstructions.all fun e => runsWord h (wordA 0 31 1 2 e.1) 0 e.1) = true ∧
    harts.all (fun h => immInstructions.all fun e => runsWord h (wordB e.1 31 1 0x8000) e.1 0xFFFF) = true := by decide +kernel

theorem witness_BranchesAndJumps :
    harts.all (fun h => branches.all fun e => runsWord h (wordB e.1 1 2 0xFFFF) e.1 0xFFFF) = true ∧
    harts.all (fun h => ([0x16, 0x17] : List Nat).all fun op => runsWord h (wordB op 1 2 0) op 0xFFFF) = true := by
  decide +kernel

/-- The last aligned address of local memory, and one byte above it for the sizes that can be misaligned. -/
theorem witness_LocalLoadsAndStores : harts.all (fun h => (scalarLoads ++ scalarStores).all fun e =>
    let s := hartAt h (wordB e.1 5 2 0) [(2, w64 (hartMem h - 8))] id
    let t := hartAt h (wordB e.1 5 2 1) [(2, w64 (hartMem h - 8))] id
    let a := (s.w.sAddr h (s.w.hFetch h)).toNat
    let b := (t.w.sAddr h (t.w.hFetch h)).toNat
    hartReady s h && (s.w.hFetch h).op == e.1 && a % e.2.2 == 0 && decide (a + e.2.2 ≤ hartMem h) &&
      s.chip.bus == [] && s.mem.wf && hartReady t h && (t.w.hFetch h).op == e.1 && (e.2.2 == 1 || b % e.2.2 != 0)) = true := by
  decide +kernel

theorem witness_SystemInstructions :
    harts.all (fun h => ([0x106, 0x107, 0x108, 0x109] : List Nat).all fun fn => runsWord h (wordA 0x18 3 1 2 fn) 0x18 fn) =
      true ∧
    (let h := Hart.sc 311 1
     let s := hartAt h (wordA 0x18 0 0 0 0x107) [] fun w => w.setHart h { w.hart h with outs := [{ isLoad := true, dst := 5, addr := 0, size := 8, pc := 0 }] }
     hartReady s h && (s.w.hFetch h).fn == 0x107 && (s.w.hart h).outs != []) = true ∧
    ([0x200, 0x201, 0x202, 0x203, 0x204] : List Nat).all (fun fn =>
      let h := Hart.cp 3
      let s := hartAt h (wordA 0x18 3 1 2 fn) [] fun w => (w.setCp 3 { w.cp 3 with stack := [(0x400, 8)] }).setFlag
        (Reg.IC_CP_STATUS 3) F.IC_CP_STATUS_IE true
      hartReady s h && (s.w.hFetch h).fn == fn && (s.w.cp 3).stack != [] &&
        s.w.flag (Reg.IC_CP_STATUS 3) F.IC_CP_STATUS_IE) = true := by decide +kernel

/-- The core and slot state of a channel instruction, logical gallery 0 on physical gallery 0: SA and SB in s1 and s2, send slot 15 and multicast slot 3. -/
def chanAt (fn : Nat) (sa sb : Word) (x : SendSlot) (m : McSlot) (ts : List Packet) : State :=
  hartAt (.sc 311 1) (wordA 0x18 3 1 2 fn) [(1, sa), (2, sb)] fun w =>
    (queued (w.setAgent 311 13 (((w.agent 311 13).setSlot 15 x).setMcSlot 3 m)) 311 13 15 ts).setMapEntry 0 (2 ^ 15)

theorem witness_ChannelInstructions_connect :
    (let s := chanAt 0x100 0 0x10020 {} {} []
     hartReady s (.sc 311 1) && (s.w.hFetch (.sc 311 1)).fn == 0x100 && !bit (s.w.sreg (.sc 311 1) 1) 38 &&
      ((List.range 16).find? fun k => (s.w.scSlot 311 1 k).state == 0).isSome) = true ∧
    (let s := chanAt 0x100 (w64 (2 ^ 38)) 0x10020 {} {} []
     hartReady s (.sc 311 1) && (s.w.hFetch (.sc 311 1)).fn == 0x100 && bit (s.w.sreg (.sc 311 1) 1) 38 &&
      ((List.range 16).find? fun k => ((s.w.agent 311 13).slot k).state == 0).isSome &&
      ((List.range 4).find? fun m => !((s.w.agent 311 13).mcSlot m).inUse).isSome) = true := by decide +kernel

theorem witness_ChannelInstructions_send :
    (let s := chanAt 0x101 15 (w64 (512 * 2 ^ 48 + 0xFE00)) { state := 2, slots := 8, grantSlots := 8 } {} []
     hartReady s (.sc 311 1) && (s.w.hFetch (.sc 311 1)).fn == 0x101 && bits (s.w.sreg (.sc 311 1) 1) 11 8 == 0 &&
      (s.w.scSlot 311 1 15).state == 2 && !(s.w.scSlot 311 1 15).mc && !(s.w.scSlot 311 1 15).ring &&
      (s.w.sendPayload 311 1 (s.w.sreg (.sc 311 1) 2)).any (fun d => decide (slotsOf d.length ≤ 8) &&
        s.w.canSend 311 13 15 0 d.length)) = true ∧
    (let s := chanAt 0x101 0x10F 0 { state := 2, slots := 1 } {} []
     hartReady s (.sc 311 1) && bits (s.w.sreg (.sc 311 1) 1) 11 8 == 1 && (s.w.scSlot 311 1 15).state == 2 &&
      s.w.canSend 311 13 15 1 0) = true ∧
    (let s := chanAt 0x101 0x80F 0 { state := 2, mc := true, mcs := 3 } { late := maskOf 311 } []
     hartReady s (.sc 311 1) && bits (s.w.sreg (.sc 311 1) 1) 11 8 == 8 && (s.w.scSlot 311 1 15).mc &&
      (s.w.sendPayload 311 1 0).isSome && decide (((s.w.agent 311 13).mcSlot 3).late ≠ 0)) = true := by decide +kernel

/-- A plain and a null SEND on a multicast slot, with no target late. -/
theorem witness_ChannelInstructions_multicast : ([0x00F, 0x10F] : List Nat).all (fun sa =>
    let s := chanAt 0x101 (w64 sa) 0 { state := 2, mc := true, mcs := 3 } {} []
    hartReady s (.sc 311 1) && (s.w.hFetch (.sc 311 1)).fn == 0x101 && bits (s.w.sreg (.sc 311 1) 1) 11 8 == sa / 256 &&
      (s.w.scSlot 311 1 15).state == 2 && (s.w.scSlot 311 1 15).mc && (s.w.sendPayload 311 1 0).isSome &&
      ((s.w.agent 311 13).mcSlot 3).late == 0) = true := by decide +kernel

theorem witness_ChannelInstructions_receive :
    (let s := chanAt 0x102 15 0xFFF8 {} {} [token [5]]
     hartReady s (.sc 311 1) && !bit (s.w.sreg (.sc 311 1) 1) 5 && (s.w.pop 311 13 15).any (fun x => !x.1.poison &&
       !isNull x.1 && bits (s.w.sreg (.sc 311 1) 2) 31 0 + x.1.data.length == 2 ^ 16)) = true ∧
    (let s := chanAt 0x102 15 0 {} {} [nullToken]
     hartReady s (.sc 311 1) && (s.w.pop 311 13 15).any (fun x => !x.1.poison && isNull x.1)) = true ∧
    (let s := chanAt 0x102 0x2F 0 {} {} []
     hartReady s (.sc 311 1) && bit (s.w.sreg (.sc 311 1) 1) 5) = true := by decide +kernel

theorem witness_ChannelInstructions_close :
    (let s := chanAt 0x103 15 0 { state := 2, mc := true, mcs := 3 } {} []
     hartReady s (.sc 311 1) && (s.w.scSlot 311 1 15).state == 2 && (s.w.scSlot 311 1 15).mc) = true ∧
    (let s := chanAt 0x103 15 0 { state := 2, slots := 1 } {} []
     hartReady s (.sc 311 1) && !(s.w.scSlot 311 1 15).mc && s.w.canSend 311 13 15 3 0) = true ∧
    (let s := chanAt 0x104 0 0 {} {} []
     hartReady s (.sc 311 1) && (s.w.hFetch (.sc 311 1)).fn == 0x104 &&
       s.w.fld (Reg.GSTEP_STATE 311) F.GSTEP_STATE_STATE != 2) = true ∧
    runsWord (.sc 311 1) (wordA 0x18 3 0 0 0x105) 0x18 0x105 = true := by decide +kernel

/-- A ring of 16 lines at queue 15 of agent 13 of logical gallery 0. -/
def ringSlot : SendSlot :=
  { state := 2, ring := true, slots := 1, lines := 16, grantLines := 16, name := w64 (2 ^ 39 + 13 * 16 + 15) }

theorem witness_RingSendsAndCoreEvents_ring :
    (let s := chanAt 0x101 0x20F 112 ringSlot {} []
     let x := s.w.scSlot 311 1 15
     hartReady s (.sc 311 1) && bits (s.w.sreg (.sc 311 1) 1) 11 8 == 2 && x.state == 2 && x.ring && x.placed.isNone &&
       (s.w.ringBase x.name).isSome && decide (ceilDiv (16 + 112) 128 ≤ (2048 - x.prod % 2048) / 128 ∧ 1 ≤ x.lines) &&
       s.w.canSend 311 13 15 4 16) = true ∧
    (let s := chanAt 0x101 0x40F 0 { ringSlot with placed := some 112 } {} []
     let x := s.w.scSlot 311 1 15
     let w := (s.w.setAgent 311 13 ((s.w.agent 311 13).setSlot 15 { x with hdr := true })).writeHeader 311 1 15
       (x.prod % 2048) (W.ringHeader 1 112 x.seq 1)
     hartReady s (.sc 311 1) && bits (s.w.sreg (.sc 311 1) 1) 11 8 == 4 && !x.hdr && x.placed == some 112 &&
       !w.ringBusy 311 1 15 2048 && w.canSend 311 13 15 4 16) = true := by decide +kernel

/-- A POST while the agent's own write into the ring is still out. -/
theorem witness_RingSendsAndCoreEvents_busy :
    let c := chanAt 0x101 0x40F 0 { ringSlot with placed := some 112 } {} []
    let s := c.after (c.w.setHart (.sc 311 1) { c.w.hart (.sc 311 1) with
      outs := [{ isLoad := false, dst := 0, addr := w64 0x7F0000000000, size := 8, pc := 0 }] })
    let x := s.w.scSlot 311 1 15
    hartReady s (.sc 311 1) = true ∧ bits (s.w.sreg (.sc 311 1) 1) 11 8 = 4 ∧ (s.w.hart (.sc 311 1)).outs.length < 8 ∧
    ((s.w.setAgent 311 13 ((s.w.agent 311 13).setSlot 15 { x with hdr := true })).writeHeader 311 1 15
       (x.prod % 2048) (W.ringHeader 1 112 x.seq 1)).ringBusy 311 1 15 2048 = true := by decide +kernel

theorem witness_RingSendsAndCoreEvents_load (s : State) (hs : s = start fun w => (placed0 w).setSc 311 1
      { outs := [{ isLoad := true, dst := 5, addr := w64 0x7F0000000000, size := 8, pc := 0 }] }) :
    let h := Hart.sc 311 1
    s.live = true ∧ hartOk h = true ∧ ((s.w.hart h).outs[0]?).any (fun a => a.isLoad &&
      a.data.isNone && !((s.w.hart h).outs.take 0).any (fun o => W.sameWord o.addr a.addr) &&
      (match ((s.w.setHart h { s.w.hart h with outs := (s.w.hart h).outs.eraseIdx 0 }).farLoad (some 311) a.addr a.size
        (w64 311)).1 with
        | .ok _ p => !p
        | _ => false)) = true := by subst hs; decide +kernel

theorem witness_RingSendsAndCoreEvents_enable :
    State.reset.w.flag (Reg.SC_CFG 311 1) F.SC_CFG_EN = false ∧
    State.reset.w.flag (Reg.SC_STATUS 311 1) F.SC_STATUS_HALTED = false ∧ (State.reset.w.sc 311 1).wait ≠ .halted ∧
    (start fun w => w.setReg (Reg.SC_CFG 311 1) 1).w.flag (Reg.SC_CFG 311 1) F.SC_CFG_EN = true := by decide +kernel

/-- R86: an ADD word written out: OP 0, SD 3, SA 1, SB 2, function 0. -/
theorem test_scalar_word : (SIns.of 0x00611000).op = 0 ∧ (SIns.of 0x00611000).sd = 3 ∧ (SIns.of 0x00611000).sa = 1 ∧
    (SIns.of 0x00611000).sb = 2 ∧ (SIns.of 0x0440FFFF).imm = -1 := by decide +kernel

/-! ### Hall, data mover, steering unit, responses -/

/-- A request for `n` bytes at offset `off` of the window of logical gallery 0. -/
def reqAt (off n : Nat) : Packet := { addr := w64 (0x7F0000000000 + off), len := n }

/-- The last line of the hall, read by the last master at its port and by the landing, alone. -/
theorem witness_HallRequestsAndResponses_read :
    ([13, 14] : List Nat).all (fun m =>
      let s := start placed0
      s.live && decide (s.badPar = []) && s.w.hallTarget 311 m (reqAt 0x3FFF80 64) == (some 0x3FFF80, true) &&
        !(Tbl.get (fun _ => {}) (s.w.hall 311).latch (W.hallBank 0x3FFF80)).live &&
        (s.w.grantOf 311 (W.hallBank 0x3FFF80) m (reqAt 0x3FFF80 64) 0 []).isSome) = true := by decide +kernel

theorem witness_HallRequestsAndResponses_merge (s : State) (hs : s = start fun w => (placed0 w).setHall 311
      { latch := [(W.hallBank 0x3FFF80, { live := true, line := 0x3FFF80 / 128, cycle := 5, window := 8, master := 3 })] }) :
    let la := Tbl.get (fun _ => {}) (s.w.hall 311).latch (W.hallBank 0x3FFF80)
    s.w.hallTarget 311 13 (reqAt 0x3FFF80 64) = (some 0x3FFF80, true) ∧ la.live = true ∧ la.line = 0x3FFF80 / 128 ∧
    la.master ≠ 13 ∧ la.cycle ≤ 13 ∧ 13 ≤ la.cycle + la.window ∧ s.w.portTurn 311 13 (reqAt 0x3FFF80 64) [] = true := by
  subst hs; decide +kernel

/-- Of two masters equally old one is not granted; a master alone writes, and updates a word. -/
theorem witness_HallRequestsAndResponses_write :
    let s := start placed0
    let la := Tbl.get (fun _ => {}) (s.w.hall 311).latch (W.hallBank 0x3FFF80)
    let b := W.hallBank 0x3FFF80
    s.w.hallTarget 311 13 (reqAt 0x3FFF80 8) = (some 0x3FFF80, true) ∧
    (s.w.grantOf 311 b 13 (reqAt 0x3FFF80 8) 0 []).isSome = true ∧
    la.line ≠ 0x3FFF80 / 128 ∧ (reqAt 0x3FFF80 8).poison = false ∧ 0x3FFF80 % 8 = 0 ∧
    (track (s.w.hall 311).tracker (s.w.hall 311).evicted 0x3FFF80 13).2.2 = false ∧
    (s.w.grantOf 311 b 0 (reqAt 0x3FFF80 8) 0 [(1, 9)]).isNone = true ∧ la.live = false := by decide +kernel

/-- The first byte of matrix core 0's memory in the window, and the last line of it: no access of the core's own rivals. -/
theorem witness_HallRequestsAndResponses_core : ([0x400000, windowTop - 128] : List Nat).all (fun off =>
    let s := start placed0
    s.w.hallTarget 311 13 (reqAt off 64) == (some off, true) && (s.w.coreGrant 311 off 13 (reqAt off 64) 0 []).isSome) =
      true ∧ W.ownerOf 0x400000 < 8 := by decide +kernel

/-- Hall region 7 over the last 4 KiB of the hall; region 6 disabled. -/
theorem witness_HallRequestsAndResponses_regions :
    let w := (start fun w => ((w.setFlag (Reg.HALL_REGION 311 7) F.HALL_REGION_EN true).setFld (Reg.HALL_REGION 311 7)
      F.HALL_REGION_BASE 1023).setFld (Reg.HALL_REGION 311 7) F.HALL_REGION_MERGE_W 3).w
    w.flag (Reg.HALL_REGION 311 7) F.HALL_REGION_EN = true ∧ w.fld (Reg.HALL_REGION 311 7) F.HALL_REGION_BASE * 4096 ≤ 0x3FFFFF ∧
    0x3FFFFF < (w.fld (Reg.HALL_REGION 311 7) F.HALL_REGION_BASE + w.fld (Reg.HALL_REGION 311 7) F.HALL_REGION_SIZE + 1) * 4096 ∧
    (∀ n, n < 7 → w.flag (Reg.HALL_REGION 311 n) F.HALL_REGION_EN = false) ∧ w.mergeW 311 0x3FFFFF = 3 := by decide +kernel

theorem witness_HallRequestsAndResponses_answers :
    let t : Packet := { rtag := 13 * 64, addr := 8, arg := 3 }
    let ld := start fun w => w.setSc 311 1 { outs := [{ isLoad := true, dst := 5, addr := 8, size := 8, pc := 0 }] }
    let st := start fun w => w.setSc 311 1 { outs := [{ isLoad := false, dst := 0, addr := 8, size := 8, pc := 0 }] }
    t.exit = 0 ∧ credAgent t = 13 ∧ ld.live = true ∧ ld.w.outIndex (.sc 311 1) true t.addr = some 0 ∧
    st.w.outIndex (.sc 311 1) false t.addr = some 0 ∧ t.poison = false ∧
    (((ld.w.hart (.sc 311 1)).outs.findIdx? fun o => o.addr == t.addr) = some 0) ∧ bits t.arg 3 0 = 3 ∧
    credAgent { rtag := 15 * 64 } = 15 ∧
    (start fun w => { w with c := { w.c with flip := some { bank := 1, targets := maskOf 5 } } }).chip.flip.isSome = true := by
  decide +kernel

/-- A descriptor: opcode, FP32, source 0x1000 and destination 0x2000 of logical gallery 0, one row of 8 bytes. -/
def dmWords (op : Nat) : List Word :=
  [w64 (2 ^ 40 + 0x02 * 2 ^ 32 + op), w64 0x7F0000001000, w64 0x7F0000002000, w64 (2 ^ 32 + 8), 0, 5]

theorem witness_DataMoverDescriptors_take :
    ([0x10, 0x11, 0x12, 0x13] : List Nat).all (fun op => ([[], [{ words := dmWords 0x10, state := .moving }]] : List (List DmJob)).all fun js =>
      let s := start fun w => ((queued (placed0 w) 311 15 0 [token (dmWords op)]).setReg (Reg.DM_CFG 311) 1).setDm 311
        { jobs := js }
      let x := DmCmd.ofWords (dmWords op)
      s.live && s.w.dmRuns 311 && s.w.flag (Reg.DM_CFG 311) ⟨0, 0⟩ && decide ((s.w.dm 311).jobs.length < 4) &&
        (s.w.head 311 15 0).any (fun t => !isNull t && !t.poison && t.len == 48) && !x.bad && x.opcode == op &&
        (s.w.pop 311 15 0).any (fun y => ((List.range 6).map (payWord y.1.data)) == dmWords op &&
          ((y.2.setDm 311 { y.2.dm 311 with jobs := (y.2.dm 311).jobs ++ [{ words := dmWords op }] }).dmClear 311
            (y.2.dm 311).jobs.length x == (js.isEmpty || op == 0x11)))) = true := by decide +kernel

theorem witness_DataMoverDescriptors_fill :
    let s := start fun w => (placed0 w).setDm 311 { jobs := [{ words := dmWords 0x12 }] }
    let x := DmCmd.ofWords (dmWords 0x12)
    (s.w.dm 311).jobs[0]? = some { words := dmWords 0x12 } ∧ x.opcode = 0x12 ∧ x.dim1 = 1 ∧
    linePieces x.dst.toNat x.dim0 = [(0, x.dim0)] ∧
    (match (s.w.farPut (some 311) (w64 311) x.dst (x.fillBytes x.dim0)).1 with | .ok _ p => p | _ => true) = false := by
  decide +kernel

theorem witness_DataMoverDescriptors_rest :
    let nul := start fun w => (queued (unfenced w 311) 311 15 0 [nullToken]).setReg (Reg.DM_CFG 311) 1
    let job := fun (j : DmJob) => start fun w => ((unfenced w 311).setReg (Reg.DM_CFG 311) 1).setDm 311 { jobs := [j] }
    nul.w.dmRuns 311 = true ∧ (nul.w.head 311 15 0).any isNull = true ∧ (nul.w.pop 311 15 0).isSome = true ∧
    (job {}).w.dmRuns 311 = true ∧ ({} : DmJob).state = .waiting ∧ (job {}).w.flag (Reg.DM_CFG 311) ⟨0, 0⟩ = true ∧ ((job {}).w.dm 311).jobs = [{}] ∧
    ((job { state := .done }).w.dm 311).jobs = [{ state := .done }] ∧ ((job { state := .done }).w.dm 311).halted = false ∧
    ((job { outs := [⟨1, 8, 0, 8⟩] }).w.dm 311).jobs = [{ outs := [⟨1, 8, 0, 8⟩] }] := by decide +kernel

/-- Entry 255 of the steering table: operation, input queue 14 (and 15), NFAN 1, its list at 4095, CAP 1. -/
def suAt (op : Nat) (ts us : List Packet) : State :=
  start fun w =>
    let w := (((unfenced w 311).setReg (Reg.SU_CFG 311) 1).setReg (Reg.SU_TABLE 311 511)
      (w64 (op * 2 ^ 56 + 14 * 2 ^ 52 + 2 ^ 47 + 2 ^ 44 + 4095 * 2 ^ 32 + 2 ^ 16 + 1))).setReg (Reg.SU_CLIST 311 511) (w64 (2 ^ 56))
    queued (queued w 311 14 14 ts) 311 14 15 us

theorem witness_SteeringOperations :
    ([suAt 1 [token [7]] [], suAt 2 [token [6]] [token [7]], suAt 3 [token [7]] [], suAt 4 [] [token [7]]] : List State).all
      (fun s =>
        let x := s.w.suEntry 311 255
        let v := s.w.suByte 311 x.clist
        let q := if x.op = 4 then x.inq + v else x.inq
        s.live && s.w.suReady 311 255 x.op && x.csrc == 1 && (Tbl.get (fun _ => {}) (s.w.su 311).runs 255).ctrl.isNone &&
          x.clist == 4095 && v == 1 && x.nfan == 1 && decide (0 < x.cap) &&
          (s.w.head 311 14 q).any (fun t => !t.poison && !isNull t && t.seq == 0) && ((s.w.suFires 311 255).pop 311 14 q).any (fun y => !isNull y.1) &&
          (x.op != 2 || ((x.inputs.filterMap fun q => s.w.head 311 14 q).length == 2 &&
            (((x.inputs.filterMap fun q => s.w.head 311 14 q)[v]?).map isNull == some false)))) = true ∧
    (let s := suAt 2 [token [6]] []
     (s.w.suEntry 311 255).op == 2 && !(s.w.su 311).stopped && s.w.flag (Reg.SU_CFG 311) ⟨0, 0⟩ && s.w.agentRuns 311 14 &&
      ((s.w.suEntry 311 255).inputs.any fun q => (s.w.head 311 14 q).isSome) &&
      ((s.w.suEntry 311 255).inputs.find? fun q => (s.w.head 311 14 q).isNone) == some 15) = true := by decide +kernel

/-- R101: ADD64 on a word of all ones wraps; CAS swaps only on a match. -/
theorem test_atomics : atomNew .add64 (BitVec.allOnes 64) 2 0 = 1 ∧ atomNew .cas 5 9 5 = 9 ∧ atomNew .cas 5 9 6 = 5 := by
  decide +kernel

/-! ### Mesh, flights, tables -/

/-- Landing 299, a corner with MEM, OUTER and the stair, every port on; route table entry 0 names port 5. -/
def meshAt (f : W → W) : State :=
  start fun w => f (((unfenced w 299).setReg (Reg.LND_CFG 299) (BitVec.allOnes 64)).setReg (Reg.RT 299 0 0) 5)

/-- Injected by LOCAL, MEM and OUTER; on its way by the last mesh port to each port; malformed. -/
theorem witness_PacketsAreRouted :
    let s := meshAt id
    s.live = true ∧ s.w.flag (Reg.LND_CFG 299) F.LND_CFG_EN = true ∧ ([0, 5, 6, 7] : List Nat).all (portHere 299) = true ∧
    ([{ typ := 1, dst := 299 }, { typ := 1, dst := 299, exit := 1 }, { typ := 1, dst := 299, exit := 2 }, { typ := 1 }] :
      List Packet).all (fun t => !headBad t && !t.mc && !t.via && s.w.portOn 299 (if t.dst = 299 then
        (if t.exit = 0 then 0 else if t.exit = 1 then 6 else 7) else s.w.rt 299 t.dst)) = true ∧
    headBad { typ := 1, version := 0 } = true ∧ isResponse { typ := 1, version := 0 } = false := by decide +kernel

/-- Flight 63: from port 5 alone to parent port 1, and from ports 2 and 5. -/
theorem witness_FlightsCombineAndTablesFlip_arrive :
    ([2 ^ 4, 2 ^ 4 + 2] : List Nat).all (fun ms =>
      let s := meshAt fun w => w.setReg (Reg.FT 299 0 63) (w64 (2 ^ 63 + 2 ^ 56 + ms * 2 ^ 48))
      let x := flightWord 63 0 0 7
      let e := s.w.ft 299 63
      let pt : Partial := Tbl.get (fun _ => {}) (s.w.landing 299).parts 63
      s.live && bits x 63 58 == 63 && bit e 63 && bit e 52 && bits x 57 42 == s.w.fltGen 299 63 && !pt.srcs.testBit 5 &&
        !(W.combine (bits e 62 60) pt.value (bits x 31 0) (pt.srcs == 0)).2 && bits e 59 56 == 1 &&
        ((pt.srcs + 2 ^ 5 == bits e 47 47 + 2 * bits e 52 48) == (ms == 16))) = true := by decide +kernel

theorem witness_FlightsCombineAndTablesFlip_release :
    let s := meshAt fun w => w.setReg (Reg.FT 299 0 62) (w64 (2 ^ 63 + 2 ^ 56))
    let e := s.w.ft 299 62
    bits (flightWord 62 0 0 0) 63 58 = 62 ∧ bit e 63 = true ∧ bits e 52 48 = 0 ∧ bit e 47 = false ∧ bits e 59 56 ≠ 0xF := by
  decide +kernel

theorem witness_FlightsCombineAndTablesFlip_tables :
    let s := start fun w => ((w.setReg (Reg.LND_CFG 247) (BitVec.allOnes 64)).setReg (Reg.FLAG_DST 247 0) 247)
    bit (2 : Word) 1 = true ∧ bit (2 : Word) 2 = false ∧ (s.w.landing 247).flag = none ∧
    bits (s.w.reg (Reg.FLAG_DST 247 (s.w.bank 247))) 8 0 = 247 ∧ dropOf 247 = some 3 ∧ s.w.portOn 247 8 = true ∧
    ((s.w.setFlag (Reg.LND_STATUS 247) F.LND_STATUS_STALL true).setLanding 247 { s.w.landing 247 with stalled := [5] }).flag
      (Reg.LND_FAULT_INFO 247) F.LND_FAULT_INFO_VALID = false := by decide +kernel

/-! ### Channels and queues -/

/-- A token of kind `k` for agent 15 on connection 63, and the agent with that connection open on queue 15. -/
def tokTo (k : Nat) (t : Packet) : Packet := { t with arg := w64 (k * 2 ^ 60 + 15 * 2 ^ 52), conn := 63 }
def connAt (f : W → W) : State :=
  start fun w => f (w.setAgent 311 15 ((w.agent 311 15).setConn 63 { isOpen := true, queue := 15 }))

theorem witness_TokensArrive :
    ([0, 1, 3] : List Nat).all (fun k =>
      let s := connAt id
      let t := tokTo k {}
      s.live && tokAgent t == 15 && tkind t == k && t.epoch == s.w.epoch 311 15 && t.conn != 0xFFFE &&
        (s.w.agent 311 15).lookup t.conn == some 63 && t.seq == ((s.w.agent 311 15).conn 63).expSeq &&
        (tokTo k { epoch := 1 }).epoch != s.w.epoch 311 15) = true ∧
    ([(4, 1), (5, 2)] : List (Nat × Nat)).all (fun x =>
      let s := connAt fun w => w.wrBytes (galKey 311 0) (W.ringHeader x.2 112 0 1)
      let t := tokTo x.1 (token [w64 (112 * 2 ^ 32), 0])
      tkind t == x.1 && t.epoch == s.w.epoch 311 15 && (s.w.agent 311 15).lookup t.conn == some 63 &&
        s.w.ringAgrees 311 15 15 t x.2) = true := by decide +kernel

/-- CONNECT for queue 15 of agent 15 asking 4 slots; the queue enabled with room. -/
theorem witness_ConnectionsOpen :
    let t : Packet := { arg := w64 (2 * 2 ^ 60 + 15 * 2 ^ 56 + 15 * 2 ^ 52 + 4) }
    let s := start fun w => (w.setFlag (Reg.Q_CFG 311 15 15) F.Q_CFG_EN true).setFld (Reg.Q_CFG 311 15 15) F.Q_CFG_SIZE 4
    let r : Packet := { t with arg := w64 (6 * 2 ^ 60 + 15 * 2 ^ 56 + 15 * 2 ^ 52 + 4) }
    let s' := start fun w => (w.setFlag (Reg.Q_CFG 311 15 15) F.Q_CFG_EN true).setFlag (Reg.Q_CFG 311 15 15) F.Q_CFG_MCQ true
    s.live = true ∧ tokAgent t = 15 ∧ tkind t = 2 ∧ bits t.arg 59 56 = 15 ∧ t.epoch = s.w.epoch 311 15 ∧
    ((List.range 64).find? fun i => !((s.w.agent 311 15).conn i).isOpen) = some 0 ∧
    s.w.qcfg 311 15 15 F.Q_CFG_EN = 1 ∧ s.w.qcfg 311 15 15 F.Q_CFG_FLIGHTQ = 0 ∧ s.w.qcfg 311 15 15 F.Q_CFG_MCQ = 0 ∧
    s.w.qcfg 311 15 15 F.Q_CFG_RAW = bits t.arg 51 51 ∧ s.w.qcfg 311 15 15 F.Q_CFG_RING = 0 ∧
    bits t.arg 15 0 ≤ s.w.qcfg 311 15 15 F.Q_CFG_SIZE - (s.w.agent 311 15).assigned 15 ∧
    ({ t with epoch := 1 } : Packet).epoch = (s.w.epoch 311 15 + 1) % 16 ∧ (s.w.agent 311 15).early.length < 16 ∧
    tkind r = 6 ∧ s'.w.mcTakes 311 15 15 r = true ∧
    (start fun w => w.setAgent 311 15 { reserves := [⟨15, 4, 0, 0, false, {}⟩] }).w.agent 311 15 =
      { reserves := [⟨15, 4, 0, 0, false, {}⟩] } := by decide +kernel

theorem witness_CreditsAndMulticasts_credits :
    ([(0, 2), (1, 1), (2, 1), (3, 3)] : List (Nat × Nat)).all (fun x =>
      let t : Packet := { rtag := 15 * 64 + 15, arg := w64 (x.1 * 2 ^ 60) }
      let s := start fun w => w.setAgent 311 15 ((w.agent 311 15).setSlot 15 { state := x.2 })
      s.live && credAgent t == 15 && credSlot t == 15 && ckind t == x.1 && t.epoch == s.w.epoch 311 15 &&
        ((s.w.agent 311 15).slot 15).state == x.2 && bits t.arg 47 32 == ((s.w.agent 311 15).slot 15).conn &&
        !((s.w.agent 311 15).slot 15).table) = true ∧
    (let g := ((start fun w => w.setAgent 311 15 ((w.agent 311 15).setConn 63 { isOpen := true, freedSlots := 1 })).w.agent 311 15)
     (g.conn 63).isOpen = true ∧ 0 < (g.conn 63).freedSlots) := by decide +kernel

theorem witness_CreditsAndMulticasts_multicast (s : State) (hs : s = start fun w => w.setAgent 311 15
      (((w.agent 311 15).setSlot 15 { state := 2, mc := true, mcs := 3, waiting := true }).setMcSlot 3
        { inUse := true, phase := 1, released := true, target := maskOf 5 ||| maskOf 6, acked := maskOf 5, pruned := maskOf 6,
          reserved := maskOf 5 })) :
    let c := (s.w.agent 311 15).mcSlot 3
    s.live = true ∧ s.w.mcOwner 311 15 3 = some 15 ∧ c.phase = 1 ∧ c.released = true ∧
    (c.acked ||| c.pruned) &&& c.target = c.target ∧ c.reserved ≠ 0 ∧ ((s.w.agent 311 15).slot 15).state = 2 ∧ ((s.w.agent 311 15).slot 15).waiting = true ∧
    (s.w.setAgent 311 15 ((s.w.agent 311 15).setSlot 15 { state := 4 })).flag (Reg.Q_HANG_INFO 311 15) F.Q_HANG_INFO_VALID =
      false := by subst hs; decide +kernel

/-! ### Schedules and steps, memory -/

/-- A loaded image of one device whose one placement uses logical gallery 0, with commit flight 62. -/
def placed1 : ImgPlacement := { uses := [0], code := [], cfgs := [], flights := [], commit := 62, nd := 61, epoch := 60 }
def image : Img :=
  { addr := 0, stks := 1, devices := 0, nseeds := 1, ncfg := 1, digest := imageDigest [], commitBase := 0, drainBase := 0,
    seeds := [], seedBlock := 0, regions := [],
    view := { placements := [placed1], malformed := none, steerSec := 0, queueSec := 0, flightSec := 0,
              fab := [], commitBar := 15, startBar := 0, inlog := (0, 0) } }

/-- The sequencer in STATE `st` with that image, logical gallery 0 on gallery 311, and these settings of its own. -/
def seqAt (st : Nat) (q : Seq) (f : W → W) : State :=
  start fun w => f ((((placed0 w).setFld Reg.SEQ_STATUS F.SEQ_STATUS_STATE st).setFld Reg.SEQ_STATUS F.SEQ_STATUS_PLACE 0).setSeq
    { q with img := some image })

theorem witness_StepsStart :
    ([true, false] : List Bool).all (fun cold =>
      let s := seqAt stRun { phase := .ready cold, flipped := true, runLimit := 5 } id
      s.live && decide (s.chip.seq.phase = .ready cold) && s.w.seqState == stRun && s.w.mayStart && s.chip.seq.flipped &&
        !s.chip.seq.startBar && s.chip.seq.onStart == [] && !s.chip.seq.abortNext && !s.chip.seq.drainNext) = true ∧
    (start fun w => unfenced w 311).w.flag (Reg.GAL_FENCE 311) F.GAL_FENCE_FENCED = false ∧
    ((start fun w => unfenced w 311).w.sc 311 0).wait ≠ .step ∧ ((start fun w => unfenced w 311).w.sc 311 1).wait ≠ .step := by
  decide +kernel

theorem witness_StepsCommit_arrive (s : State) (hs : s = seqAt stRun {} fun w =>
      (w.setReg (Reg.FT 311 0 62) (w64 (2 ^ 63 + 2 ^ 56 + 2 ^ 48 + 2 ^ 47))).setFld (Reg.GSTEP_STATE 311) F.GSTEP_STATE_STATE 1) :
    let x := flightWord 62 0 0 1
    s.live = true ∧ s.w.placement = some placed1 ∧ placed1.commit = bits x 63 58 ∧ bit (s.w.ft 311 62) 63 = true ∧
    bit (s.w.ft 311 62) 47 = true ∧ bits x 57 42 = s.w.fltGen 311 62 ∧
    (Tbl.get (fun _ => {}) (s.w.landing 311).parts 62).srcs.testBit 0 = false ∧
    (s.w.contribute 311 0 x).fld (Reg.GSTEP_STATE 311) F.GSTEP_STATE_STATE = 1 := by subst hs; decide +kernel

/-- A copy of the step that is not done holds the commit. -/
theorem witness_StepsCommit_release :
    let s := seqAt stRun { phase := .run } id
    let t := seqAt stRun { phase := .run } fun w => w.setHost { w.c.host with
      descs := [{ jsn := 0, ring := 0, index := 0, cpr := 0, cslot := 0, words := [5], bound := true, start := w.stepNo,
                  target := 0, dcrc := 0, left := 1, phase := .acting }] }
    s.live = true ∧ s.w.seqState = stRun ∧ s.chip.seq.phase = .run ∧
    (s.w.setSeq { s.chip.seq with release := some 1 }).copiesDone s.w.stepNo = true ∧ s.w.devices = 0 ∧
    (t.w.setSeq { t.chip.seq with release := some 1 }).copiesDone t.w.stepNo = false ∧
    (seqAt stRun { phase := .record true } id).chip.seq.phase = .record true ∧
    (seqAt stCommitting { phase := .record false } id).chip.seq.phase = .record false ∧
    (seqAt stCommitting { phase := .record false } id).chip.seq.img.isSome = true := by decide +kernel

theorem witness_StepsCommit_guards : ([true, false] : List Bool).all (fun stop =>
    let s := seqAt stCommitting { phase := .guards, stopReq := stop } id
    let n := s.w.stepNo
    let nd := ((List.range 16).map fun m => (s.w.memc m).ndSince).sum
    let w := ((List.range 16).foldl (fun (w : W) m => w.setMemc m { w.memc m with ndSince := 0 }) s.w).addNd nd n
    let w := (w.setReg Reg.SEQ_COMMITTED (w64 n)).pend 281
    let w := ((w.setFld Reg.SEQ_STATUS F.SEQ_STATUS_REEXEC 0).setFlag Reg.SEQ_STATUS F.SEQ_STATUS_PREPARED false).commitDone n
    let w := w.dropReserves fun _ => true
    let w := ({ w with c := { w.c with fabLog := {} } } : W).setReg Reg.SEQ_STEP (w64 (n + 1))
    s.live && decide (s.chip.seq.phase = .guards) && w.c.seq.stopReq == stop &&
      ((w.setSeq { w.c.seq with phase := .ready false }).setSeqState stRun).c.seq.moves.isEmpty) = true := by decide +kernel

theorem witness_StepsRollBack :
    (let s := seqAt stRun { phase := .run } id
     s.live = true ∧ s.w.seqState = stRun ∧ s.chip.seq.phase = .run ∧ s.chip.seq.release = none) ∧
    (let s := seqAt stRollback { phase := .quiet } id
     s.w.seqState = stRollback ∧ s.chip.seq.phase = .quiet ∧ s.chip.seq.draining = [] ∧ s.chip.seq.stopRoll = false) ∧
    (let s := seqAt stRollback { phase := .restart, flipped := true } fun w => w.setFld Reg.SEQ_CFG F.SEQ_CFG_MAX_REEXEC 1
     s.w.seqState = stRollback ∧ s.chip.seq.phase = .restart ∧ s.chip.seq.remaps = [] ∧ s.chip.flip = none ∧
     s.chip.resets = [] ∧ s.chip.host.descs = [] ∧ s.chip.host.ops = [] ∧ s.chip.seq.flipped = true ∧
     s.w.fld Reg.SEQ_STATUS F.SEQ_STATUS_REEXEC + 1 ≤ s.w.fld Reg.SEQ_CFG F.SEQ_CFG_MAX_REEXEC) ∧
    (let s := seqAt stRollback { phase := .restart, flipped := true } fun w => w.setFld Reg.SEQ_CFG F.SEQ_CFG_MAX_REEXEC 0
     s.w.fld Reg.SEQ_CFG F.SEQ_CFG_MAX_REEXEC < s.w.fld Reg.SEQ_STATUS F.SEQ_STATUS_REEXEC + 1) ∧
    (seqAt stCommitting { phase := .fabric } id).chip.seq.phase = .fabric := by decide +kernel

theorem witness_SequencerControl :
    (seqAt stRun { phase := .run } id).live = true ∧ (seqAt stRun { phase := .run } id).w.seqState = stRun ∧
    (seqAt stRun { phase := .run } id).w.pastCommit = false ∧ (seqAt stStopped {} id).w.mayResume = true ∧
    (seqAt stStopped {} id).w.seqState = stStopped ∧
    (let s := seqAt stStopped {} id
     (((s.w.setSeqState stIdle).setSeq {}).setFld Reg.SEQ_STATUS F.SEQ_STATUS_PLACE 0xFF).c.host.descs = []) := by
  decide +kernel

theorem witness_SequencerControl_digest (s : State) (hs : s = seqAt stLoading
      { phase := .digest, load := some ⟨0, 0, 0, 0, 0⟩ } id) :
    s.chip.seq.phase = .digest ∧ s.chip.seq.img = some image ∧ s.chip.seq.load = some ⟨0, 0, 0, 0, 0⟩ ∧
    imageDigest (s.w.devRead image.addr 0).1 = image.digest ∧ badSection (s.w.devRead image.addr 0).1 = none ∧
    badReduce (s.w.devRead image.addr 0).1 = none := by
  have h : (s.w.devRead image.addr 0).1 = [] := by subst hs; decide +kernel
  rw [h]
  subst hs
  exact ⟨rfl, rfl, rfl, rfl, by decide +kernel, by decide +kernel⟩

theorem witness_ScansAndMoves :
    ([2, 3, 4] : List Nat).all (fun st => (start fun w => w.setFld (Reg.GSTEP_STATE 311) F.GSTEP_STATE_STATE st).w.fld
      (Reg.GSTEP_STATE 311) F.GSTEP_STATE_STATE == st) = true ∧
    (let s := start fun w => w.setReg (Reg.GSTEP_SCAN 311) 0
     bit (3 : Word) 0 = true ∧ bits (3 : Word) 2 1 < 2 ∧ s.live = true) ∧
    (let s := start fun w => w.setSeq { draining := [311] }
     311 ∈ s.chip.seq.draining) ∧
    (let k := Reg.GSTEP_SCAN 310
     let s := start fun w => (w.setFlag k F.GSTEP_SCAN_BUSY true).setFlag k F.GSTEP_SCAN_TO_MEM true
     s.w.flag k F.GSTEP_SCAN_BUSY = true ∧ s.w.flag k F.GSTEP_SCAN_TO_MEM = true ∧ s.chip.seq.draining = [] ∧
     s.chip.seq.moves = []) ∧
    (let s := seqAt stRun { phase := .run } fun w => (w.setPstate 310 1).setTest
       { w.c.test with tests := [{ scope := 1, unit := 311, origin := 1, elems := [], phase := .moving }] }
     s.w.physOf 0 = some 311 ∧ halfOf 311 = halfOf 310 ∧ s.w.pstate 310 = 1 ∧ s.chip.seq.moves = [] ∧ s.chip.seq.remaps = [] ∧
     s.w.seqState = stRun ∧ s.chip.seq.phase = .run ∧ s.w.testMoving 311 = true) := by decide +kernel

/-- Interleave region 15 on stack 7 with read combining `comb`, the controllers on, DDR5 channels populated with 64 GiB. -/
def memAt (comb : Nat) (f : W → W) : State :=
  start fun w =>
    let w := (w.setReg (Reg.MEM_IRGN_LO 15) (w64 (2 ^ 63 + comb * 2 ^ 57 + 2 ^ 56))).setReg (Reg.MEMC_CFG 7) 1
    let w := ((w.setReg (Reg.MEMC_CFG 15) 1).setFld Reg.MEM_DDR F.MEM_DDR_POP 255).setFld Reg.MEM_DDR F.MEM_DDR_SIZE_GIB 64
    f w

theorem witness_MemoryControllers_hbm :
    ([0, 15] : List Nat).all (fun comb =>
      let s := memAt comb fun w => w.setMemc 7 { rcb := [{ line := hbmKey 7 0xF80 / 128, last := 9 }] }
      s.live && s.w.memTakes 7 && (match s.w.place none 0xF80 with
        | .mem m pc i key => m == 7 && i == 15 && !s.w.memFenced 7 pc && key == hbmKey 7 0xF80 && (s.w.irgn i).comb == comb &&
          ((s.w.memc 7).rcb.find? fun e => decide (12 ≤ e.last + 3) && e.line == key / 128 && !e.closed).isSome
        | _ => false) && s.w.guardAllows 7 0xF80 8) = true := by decide +kernel

/-- The last line of DDR5; and a write the guard turns away in a RUN step: a region of kind 1. -/
theorem witness_MemoryControllers_ddr :
    (let s := memAt 0 id
     s.w.memTakes 15 && (match s.w.place none (w64 (0x10000000000 + 2 ^ 39 - 128)) with
       | .mem m pc i _ => decide (8 ≤ m) && i == 15 && !s.w.memFenced m pc
       | _ => false)) = true ∧
    (let s := memAt 0 fun w => (w.setFld Reg.SEQ_STATUS F.SEQ_STATUS_STATE 2).setRegWords (Reg.MEMC_GUARD 7 0)
       [0, 4096, 0, w64 (2 ^ 56)]
     s.w.guardAllows 7 0xF80 8 = false) := by decide +kernel

theorem witness_MemoryControllers_upkeep :
    let s := memAt 0 fun w => w.setFld (Reg.MEMC_CFG 7) F.MEMC_CFG_SCRUB_H 24
    s.live = true ∧ s.w.fld (Reg.MEMC_CFG 7) F.MEMC_CFG_SCRUB_H ≠ 0 ∧
    (match s.w.place none 0xF80 with | .mem m _ _ _ => m == 7 | _ => false) = true ∧
    min 105 (max 70 (s.w.fld (Reg.MEMC_CFG 7) F.MEMC_CFG_TTHROT)) = 70 ∧ 64 + 5 < 70 ∧ 79 < 70 + 10 ∧
    s.chip.dimms.testBit (2 * 7 + 1) ≠ true := by decide +kernel

/-! ### Links -/

/-- Port 63 in STATE `st`, with these settings of its own. -/
def portAt (st : Nat) (x : Port) (f : W → W) : State :=
  start fun w => f ((w.setFld (Reg.FAB_PORT_STATUS 63) F.FAB_PORT_STATUS_STATE st).setPort 63 x)

/-- A full DATA frame in order; NAKs of a held frame and of none; each CTRL subtype; a frame with a flipped bit. -/
theorem witness_LinkFrames :
    (let s := portAt 5 { expect := 9, replay := [{ lseq := 3 }], missing := true, downSent := true } id
     let f : LinkFrame := { ftype := 1, lseq := 9, data := List.replicate 496 1, fpkt := 495 }
     let k : LinkFrame := { ftype := 3, ack := 3, counts := List.replicate 8 0 }
     let c : LinkFrame := { ftype := 2, subtype := 6, ack := 3, counts := List.replicate 8 0 }
     s.live = true ∧ s.w.portLive 63 = true ∧
     ([f, k, { k with ack := 4 }, c] : List LinkFrame).all (fun f => decide (clipFrame f = f) && frameForm f) = true ∧
     f.lseq = (((s.w.count (Reg.LNK_RX_FRAMES 63) 1).takeAck 63 f).port 63).expect ∧
     (s.w.port 63).replay = [{ lseq := 3 }] ∧ (s.w.port 63).missing = true ∧
     (((s.w.count (Reg.LNK_RX_FRAMES 63) 1).takeAck 63 c).port 63).downSent = true ∧
     (s.w.port 63).tries < max 1 (s.w.fld (Reg.FAB_PORT_CFG 63) F.FAB_PORT_CFG_RETRY_MAX) ∧
     ([0, 1, 2, 3, 4, 5, 6] : List Nat).all (fun n =>
       let g := clipFrame { c with subtype := n }
       frameForm g && decide (clipFrame g = g) && g.ftype == 2 && g.subtype == n) = true) ∧
    (let s := portAt 1 { replay := [{ lseq := 3 }], tries := 255 } id
     s.w.portLive 63 = true ∧ max 1 (s.w.fld (Reg.FAB_PORT_CFG 63) F.FAB_PORT_CFG_RETRY_MAX) ≤ (s.w.port 63).tries) := by
  decide +kernel

/-- FTYPE of the frame that bytes hold. -/
theorem frame_type {bs : List Byte} {g : LinkFrame} (hg : frameOfBytes bs = some g) :
    g.ftype = natBits (leNat (bs.take 8)) 63 60 := by
  simp only [frameOfBytes, Option.ite_none_left_eq_some, Option.some.injEq] at hg
  rw [← hg.2]

/-- A frame whose FTYPE reads 0 is not let through, whatever its CRC. -/
theorem not_received {f : LinkFrame} {ps : List Nat}
    (h : natBits (leNat ((flipBytes (frameBytes f) ps).take 8)) 63 60 = 0) : receivedFrame f (.flips ps) = none := by
  unfold receivedFrame
  cases hg : frameOfBytes (flipBytes (frameBytes f) ps) with
  | none => simp [hg]
  | some g =>
    have : frameForm g = false := by simp [frameForm, frame_type hg, h]
    simp [hg, this]

/-- A DATA frame with bit 60 of its header flipped. -/
theorem witness_LinkFrames_flips : receivedFrame { ftype := 1, data := [1], fpkt := 0 } (.flips [60]) = none := by
  apply not_received
  decide +kernel

/-- A torus of 2 × 1 × 1, this device 0: port 63 looks in direction 0 for device 1. -/
def torusAt (f : W → W) : State := start fun w => f (w.setReg Reg.FAB_TOPO (w64 (2 ^ 48 + 1)))

theorem witness_PortsTrainAndLeave_train :
    (let s := portAt 1 { train := .lock } id
     s.live = true ∧ s.w.portState 63 = 1 ∧ (s.w.port 63).train = .lock ∧ (s.w.port 63).missed = false ∧
     lanesAgree 4 ((List.range 4).map fun l => (laneWord 4 l 255, 40 * (l % 2))) = true) ∧
    (let s := portAt 2 { train := .soak, dir := 6 } id
     s.w.portState 63 = 2 ∧ (s.w.port 63).train = .soak ∧ (∀ n ∈ [2125000], n ≤ 2125000) ∧ (s.w.port 63).dir < 7 ∧
     (s.w.port 63).replaced = false) ∧
    (let w := (torusAt fun w => w.setPort 63 { train := .identity, dir := 0, ord := 2 }).w
     (w.port 63).train = .identity ∧ w.identityOk 63 1 1 2 1 = true) ∧
    (let s := portAt 7 {} fun w => w.setFlag (Reg.FAB_PORT_CFG 63) F.FAB_PORT_CFG_EN true
     s.w.portState 63 = 7 ∧ s.w.flag (Reg.FAB_PORT_CFG 63) F.FAB_PORT_CFG_EN = true ∧ s.w.expelled = false ∧
     s.w.portDead 63 = false ∧ (portAt 6 {} fun w => w.setFlag (Reg.FAB_PORT_CFG 63) F.FAB_PORT_CFG_EN true).w.portState 63 = 6) ∧
    (∀ i < 64, State.reset.w.portState i = 0) ∧ bits (w64 (63 * 2 ^ 32 + 63)) 47 32 < bits (w64 (63 * 2 ^ 32 + 63)) 5 0 + 1 ∧
    (portAt 3 {} id).w.portState 63 ≠ 0 := by decide +kernel

theorem witness_PortsTrainAndLeave_leave :
    (portAt 4 {} id).live = true ∧ (portAt 4 {} id).w.portState 63 = 4 ∧ (portAt 4 {} id).w.lifted 63 = false ∧
    (portAt 1 {} id).w.portState 63 = 1 ∧ (portAt 1 {} id).w.lifted 63 = false ∧ State.reset.w.engineOn 56 = true ∧
    (portAt 5 {} id).w.portState 63 = 5 ∧ State.reset.w.fld Reg.FAB_QUAL F.FAB_QUAL_FAIL_K * 1024 < 2 ^ 64 ∧
    ((start fun w => w.setFlag Reg.FAB_LATCH ⟨7, 7⟩ true).w.fld Reg.FAB_LATCH F.FAB_LATCH_LIFTED).testBit 7 = true := by
  decide +kernel

/-! ### Fabric network and transport -/

theorem witness_PacketsCrossTheFabric :
    (let bad : FabPkt := { version := 2, ptype := 1 }
     let mine : FabPkt := { ptype := 1 }
     let away : FabPkt := { ptype := 1, dst := 1 }
     let ctl : FabPkt := { ptype := 0xD, dst := 1 }
     let s := torusAt fun w => ((w.setFld (Reg.FAB_PORT_STATUS 63) F.FAB_PORT_STATUS_STATE 3).setPort 63
       { dir := 0, ord := w.perDir 0, shares := [64, 0, 0, 0, 0, 0, 8, 8] }).setRouter 1
       { queue := [{ pkt := bad }, { pkt := mine }, { pkt := away }, { pkt := ctl }] }
     s.live && ((s.w.router 1).queue[0]?).isSome && s.w.fabBad bad && !s.w.fabBad mine && mine.dst == s.w.selfDev &&
       !mine.ecrcBad && !s.w.fabBad away && away.dst != s.w.selfDev && fabClass away == some 0 &&
       !s.w.flag Reg.FAB_RT_CFG F.FAB_RT_CFG_DOR && (s.w.adaptivePort 1 0 1).isSome &&
       !s.w.fabBad ctl && fabClass ctl == some 2 && (s.w.escapePort 1 ctl).any (fun x =>
         s.w.laneCredit x.1 (6 + ((s.w.dlAfter ctl x.2).testBit (2 - x.2 / 2)).toNat) != 0)) = true ∧
    (let s := start fun w => { w with c := { w.c with peers := [1] } }
     ([1, 5] : List Nat).all (fun typ => (bits ({ typ := typ, addr := w64 (2 ^ 48) } : Packet).addr 63 48) ∈ s.chip.peers) ∧
     bits ({ typ := 7 } : Packet).addr 63 48 ∉ s.chip.peers) := by decide +kernel

/-- Device 1 is a peer; router 1 has a receiving connection to it, EPSN 5, PSN 6 in. -/
def rxAt (f : W → W) : State :=
  torusAt fun w => f ({ w with c := { w.c with peers := [1] } }.setRx 1 { dev := 1, epsn := 5, marks := [6] })

theorem witness_SequencedPacketsArrive :
    ((∀ e ∈ sequencedPackets, ∃ t : FabPkt, e.1 = t.ptype) ∧ (0 : Nat) ∉ (rxAt id).chip.peers ∧ 1 ∈ (rxAt id).chip.peers ∧
      (rxAt id).w.rxConn 0 1 = none ∧ (rxAt id).live = true) ∧
    ((rxAt id).w.rxConn 1 1).any (fun c => c.isOpen && serialLater 32 c.epsn 4 && c.marks.contains 6 &&
      !serialLater 32 c.epsn 5 && !c.marks.contains 5 && !serialLater 32 c.epsn 1028 && !c.marks.contains 1028 &&
      !serialLater 32 c.epsn 1029 && 1024 == (1029 + 2 ^ 32 - c.epsn) % 2 ^ 32 && decide ((1028 + 2 ^ 32 - c.epsn) % 2 ^ 32 < 1024)) =
        true := by
  refine ⟨⟨fun e _ => ⟨{ ptype := e.1 }, rfl⟩, ?_⟩, ?_⟩ <;> decide +kernel

theorem witness_FabricConnections :
    let s := fun (x : TxConn) => start fun w => w.setTx 1 x
    State.reset.live = true ∧ State.reset.w.rxConn 1 1 = none ∧
    ((State.reset.w.router 1).rx.filter fun c => c.isOpen).length < 4096 ∧
    leNat (({ ptype := 7, src := 1, data := [3] } : FabPkt).data.take 1) % 16 = 3 ∧
    ((s { dev := 1, state := .opening }).w.txConn 1 1).state = .opening ∧
    ((s { dev := 1, state := .closing }).w.txConn 1 1).state = .closing ∧
    ((s { dev := 1, state := .opened }).w.txConn 1 1).state = .opened ∧ ((s { dev := 1, state := .opened }).w.txConn 1 1).msgs = [] ∧
    (∀ p ∈ ((s { dev := 1, state := .opened, pkts := [{ pkt := { psn := 4 } }] }).w.txConn 1 1).pkts,
      serialLater 32 5 p.pkt.psn = true) ∧
    ((start fun w => w.setRx 1 { dev := 1, since := 1 }).w.rxConn 1 1).any (fun c => decide (0 < c.since)) = true ∧
    (let t := start fun w => (w.setTx 1 { dev := 1, state := .opened, pkts := [{ pkt := {}, sent := 1 }] }).setReg Reg.FAB_TP_CFG
       (w64 (2 ^ 64 - 1))
     let u := t.w.setFld Reg.FAB_TP_CFG F.FAB_TP_CFG_RTX_PLANE 0
     ((u.txConn 1 1).pkts[0]?).any (fun p => p.sent != 0 && !p.sacked && decide (p.sent < max 1 (u.fld Reg.FAB_TP_CFG
       F.FAB_TP_CFG_RTX_MAX))) = true ∧ u.fld Reg.FAB_TP_CFG F.FAB_TP_CFG_RTX_PLANE = 0 ∧
     u.fld Reg.FAB_TP_CFG F.FAB_TP_CFG_IDLE ≠ 0) ∧
    ((start fun w => w.setGroup 1 { group := 9, gen := 0, data := false, asked := 1, waits := [2] }).w.findGroup 1 9 false).isSome = true := by decide +kernel

theorem witness_BarriersAndTime :
    let arrive : FabPkt := { ptype := 0xB, src := 7, addr := w64 (2 ^ 60 + 15 * 2 ^ 56) }
    let bar := fun (f : W → W) => start fun w => f ((w.setReg (Reg.FAB_BAR 1 15 0) (w64 (2 ^ 63 + 2 ^ 58 + 7 * 2 ^ 32))).setReg
      (Reg.FAB_BAR 1 15 1) 7)
    State.reset.live = true ∧ barBop arrive = 1 ∧ barNum arrive = 15 ∧ bit (State.reset.w.barWord 31 0) 63 = false ∧
    bit ((bar id).w.barWord 31 0) 63 = true ∧ (((bar id).w.barChildren 31).findIdx? fun d => d == 7) = some 0 ∧
    barPktGen arrive = (bar id).w.barGen 31 ∧ ((bar id).w.bar 31).got.testBit 1 = false ∧
    (let s := bar fun w => w.setTimeState 2
     let r : FabPkt := { ptype := 0xB, src := 7, addr := w64 (2 * 2 ^ 60 + 15 * 2 ^ 56), data := leBytes 8 5 }
     barBop r = 2 ∧ barPktGen r = s.w.barGen 31 ∧ r.src = bits (s.w.barWord 31 0) 47 32 ∧
     s.chip.time ≤ (payWord r.data 0).toNat ∧ s.w.timeLocked = true) ∧
    (let s := start fun w => (w.setTimeState 2).setFlag Reg.SNAP_CFG F.SNAP_CFG_FAB_IN true
     s.w.flag Reg.SNAP_CFG F.SNAP_CFG_FAB_IN = true ∧ s.chip.time ≤ 1000000000 ∧ 1000000000 ≤ s.chip.time + 1000000000 ∧
     s.w.timeLocked = true ∧ barBop { addr := w64 (3 * 2 ^ 60) } = 3) ∧
    ((bar fun w => w.setBar 31 { sent := true, due := some 5 }).w.bar 31).sent = true ∧
    (let s := seqAt stCommitting { phase := .fabric } fun w =>
       let w := w.setBar 15 { due := some 5 }
       { w with c := { w.c with time := 5 } }
     (s.w.bar 15).due = some 5 ∧ 5 ≤ s.chip.time ∧ image.view.commitBar = 15 ∧ s.chip.seq.phase = .fabric ∧ s.chip.seq.img.isSome = true) ∧
    (let s := fun (k : TimeKeep) => portAt 3 { dir := 0, ord := 0 } fun w =>
       let w := ((w.setFlag Reg.FAB_TIME_CFG F.FAB_TIME_CFG_GM false).setFld Reg.FAB_TIME_CFG F.FAB_TIME_CFG_PARENT_DIR 0).setFld
         Reg.FAB_TIME_CFG F.FAB_TIME_CFG_PARENT_ORD 0
       { w.setTimeState 1 with c := { (w.setTimeState 1).c with timeKeep := k } }
     let answer : FabPkt := { ptype := 0xC, data := [1] }
     (s {}).w.flag Reg.FAB_TIME_CFG F.FAB_TIME_CFG_GM = false ∧ (s {}).w.fld Reg.FAB_TIME_CFG F.FAB_TIME_CFG_PARENT_DIR ≠ 7 ∧
     (s {}).w.parentPort = some 63 ∧ (s {}).w.portState 63 = 3 ∧ (s {}).chip.timeKeep.waiting = false ∧
     (s {}).chip.timeKeep.missed < 4 ∧ (s {}).w.timeState ≠ 0 ∧ (s { waiting := true }).w.parentPort = some 63 ∧
     (s { waiting := true }).chip.timeKeep.waiting = true ∧ answer.data.headD 0 ≠ 0 ∧
     ({ ptype := 0xC, data := [0] } : FabPkt).data.headD 0 = 0) ∧
    (start fun w => w.setFlag Reg.FAB_TIME_CFG F.FAB_TIME_CFG_GM true).w.flag Reg.FAB_TIME_CFG F.FAB_TIME_CFG_GM = true := by
  decide +kernel

/-- An order of TYPE `typ` and ORDER_NO 1, by its first 16 bytes; whether its signatures verify is open. -/
def orderOf (typ : Nat) : List Byte := [0x44, 0x4F, 1, byte typ, 0, 0, 1, 0, 1, 0, 0, 0, 0, 0, 0, 0]

theorem witness_SignedOrders :
    (let t : FabPkt := { ptype := 0xD, dst := 0, len := 16, mlen := 16, data := orderOf 1 }
     State.reset.live = true ∧ t.dst = State.reset.w.selfDev ∧ t.mlen ≤ 524288 ∧ State.reset.chip.orderAsm = [] ∧ t.off = 0 ∧
     t.data.length = t.mlen ∧ ({ t with dst := 1 } : FabPkt).dst ≠ State.reset.w.selfDev) ∧
    (start fun w => { w with c := { w.c with orderAsm := [⟨1, 2, 3, 4, []⟩] } }).chip.orderAsm[0]? = some ⟨1, 2, 3, 4, []⟩ ∧
    ([1, 2, 3, 4, 5, 6] : List Nat).all (fun typ =>
      let s := start fun w => { w with c := { w.c with orders := [(orderOf typ, 1)] } }
      s.live && (s.chip.orders.find? fun o => orderType o.1 == typ) == some (orderOf typ, 1) &&
        orderNo (orderOf typ) != (s.w.reg Reg.FAB_ORDER_NO).toNat) = true := by decide +kernel

/-! ### Host link and rings -/

theorem witness_HostLinkComesAndGoes :
    State.reset.live = true ∧ (start fun w => w.setFlag Reg.SCL_CFG F.SCL_CFG_EN false).w.flag Reg.SCL_CFG F.SCL_CFG_EN = false ∧
    (start fun w => w.setSclState 3).w.sclState = 3 ∧ (4 : Nat) ≠ 5 ∧
    (let s := start fun w => (((w.setFlag Reg.SCL_CFG F.SCL_CFG_EN true).setFlag Reg.SCL_FAULT_INFO F.SCL_FAULT_INFO_VALID
       true).setFld Reg.SCL_FAULT_INFO F.SCL_FAULT_INFO_KIND 7).setBootState 2
     s.w.sclUp = false ∧ s.w.flag Reg.SCL_CFG F.SCL_CFG_EN = true ∧
     s.w.flag Reg.SCL_FAULT_INFO F.SCL_FAULT_INFO_VALID = true ∧ s.w.fld Reg.SCL_FAULT_INFO F.SCL_FAULT_INFO_KIND < 8 ∧
     s.w.fld Reg.BOOT_STATUS F.BOOT_STATUS_STATE ∈ [1, 2] ∧ s.chip.resets = []) ∧
    (let s := start fun w => (w.setCplRing 63 { since := 1 }).setFld (Reg.SCL_CPR_CFG 63) F.SCL_CPR_CFG_MOD_US 1
     (s.w.cplRing 63).since ≠ 0 ∧ s.w.fld (Reg.SCL_CPR_CFG 63) F.SCL_CPR_CFG_MOD_US ≠ 0) := by decide +kernel

/-- Sixteen lanes lock; the identity's answer comes while it is waited for; a soak. -/
theorem witness_HostLinkComesAndGoes_train :
    let at' := fun (p : Train) => start fun w => (w.setHost { w.c.host with train := p }).setSclState 1
    let g := clipFrame { ftype := 2, subtype := 1, args := .train 1 0 0xFF 0 1 (List.replicate 8 8) 256 }
    (at' .lock).live = true ∧ (at' .lock).chip.host.train = .lock ∧
    lanesAgree 16 ((List.range 16).map fun l => (laneWord 16 l 255, 40 * (l % 2))) = true ∧
    (at' .identity).chip.host.train = .identity ∧ (at' .identity).w.sclState = 1 ∧
    receivedFrame g .none = some g ∧ g.ftype = 2 ∧ g.args = .train 1 0 0xFF 0 1 (List.replicate 8 8) 256 ∧
    (at' .soak).chip.host.train = .soak ∧ (∀ n ∈ [2125000], n ≤ 2125000) := by decide +kernel

/-- A message about the first line of the window of logical gallery 0. -/
def sclTo (typ : Nat) (data : List Byte) : SclMsg := { mtype := typ, line := w64 0x7F0000000000, tag := 4095, data := data }

theorem witness_HostMessagesAreServed_memory :
    let s := start placed0
    let d := List.replicate 64 (9 : Byte)
    s.live = true ∧ msgOk 0x11 (sclTo 0x11 []) = true ∧ bits (sclTo 0x11 []).line 63 48 = 0 ∧
    (match (s.w.farLine none (w64 0x1FF) (s.w.loc ((sclTo 0x11 []).line + w64 0)) 64).1 with | .ok _ p => p | _ => true) = false ∧
    msgOk 0x12 (sclTo 0x12 d) = true ∧ (sclTo 0x12 d).masked = false ∧
    (match (s.w.farPut none (w64 0x1FF) (s.w.loc ((sclTo 0x12 d).line + w64 0)) d).1 with | .ok _ _ => true | _ => false) = true ∧
    (match (s.w.farLine none (w64 0x1FF) (s.w.loc ((sclTo 0x11 []).line + w64 8)) 8).1 with | .ok _ p => p | _ => true) = false ∧
    msgOk 0x13 (sclTo 0x13 []) = true ∧ msgOk 0x21 (sclTo 0x21 []) = true := by decide +kernel

theorem witness_HostMessagesAreServed_answers :
    let ops := fun (o : SclOp) => start fun w => (placed0 w).setHost { w.c.host with
      ops := [(4095, o)], descs := [{ jsn := 7, ring := 0, index := 0, cpr := 0, cslot := 0, bound := true, start := 1,
                                      words := [5, 0, w64 0x7F0000000000, 64], target := 0, dcrc := 0 }] }
    let d := List.replicate 64 (9 : Byte)
    msgOk 0x31 (sclTo 0x31 d) = true ∧ msgOk 0x32 (sclTo 0x32 []) = true ∧ msgOk 0x33 (sclTo 0x33 []) = true ∧
    ([.shared 64, .dmaIn 7 0, .accept 7, .completion 7, .finish 7, .failRec 7, .errRec 0, .dmaOut 7 0] : List SclOp).all (fun o =>
      ((ops o).w.takeOp 4095).1 == some o && (((ops o).w.takeOp 4095).2.desc 7).isSome &&
        !(ops o).chip.host.snooped.contains 4095) = true ∧
    (let w := ((ops (.dmaIn 7 0)).w.takeOp 4095).2
     (w.desc 7).any (fun x => match (w.farPut none (w64 0x1FF) (w.loc (x.devAddr + w64 0)) d).1 with
       | .ok _ p => !p
       | _ => false)) = true := by decide +kernel

/-- A ring of 64 slots: a doorbell of 64 fills it, one of 65 is outside. -/
theorem witness_HostMessagesAreServed_doorbell :
    let w := State.reset.w
    w.crLog 63 = 6 ∧ (w.cmdRing 63).prod = 0 ∧ (w.cmdRing 63).next = 0 ∧ serialLater 32 0 64 = false ∧
    ¬ 2 ^ w.crLog 63 < (64 + 2 ^ 32 - 0) % 2 ^ 32 ∧ 2 ^ w.crLog 63 < (65 + 2 ^ 32 - 0) % 2 ^ 32 := by decide +kernel

/-- A descriptor accepted on ring 63, JSN 7, alone. -/
def descAt (op : Nat) (ws : List Word) (d : Desc) (f : W → W) : State :=
  start fun w => f (w.setHost { w.c.host with descs := [{ d with words := w64 op :: ws }] })
def desc0 : Desc :=
  { jsn := 7, ring := 63, index := 0, cpr := 0, cslot := 0, words := [], bound := false, start := 0, target := 0, dcrc := 0,
    phase := .accepted }

theorem witness_DescriptorsAct_plain :
    ([1, 2, 3, 7, 8, 9, 0xA, 0xB, 0xC, 0x20, 0x21] : List Nat).all (fun op =>
      let s := descAt op [] desc0 id
      s.live && (s.w.mayAct 7 op).any (fun d => d.status == 0) && s.chip.host.descs.all (fun e => decide (7 ≤ e.jsn)) &&
        s.w.seqState == stIdle) = true ∧
    (let s := seqAt stStopped {} fun w => w.setHost { w.c.host with descs := [{ desc0 with words := [8] }] }
     (s.w.mayAct 7 8).isSome ∧ s.w.mayResume = true ∧ s.w.seqState = stStopped ∧ s.chip.seq.img.isSome = true) ∧
    (seqAt stRun {} fun w => w.setHost { w.c.host with descs := [{ desc0 with words := [0xA] }] }).w.seqState = stRun := by
  decide +kernel

theorem witness_DescriptorsAct_bound :
    (let s := descAt 4 [3] desc0 id
     s.live = true ∧ (s.w.desc 7).any (fun d => d.status == 0 && d.phase == .accepted && d.opcode == 4) = true ∧
     s.chip.host.descs.all (fun e => e.opcode != 4 || decide (7 ≤ e.jsn)) = true) ∧
    ([5, 6] : List Nat).all (fun op =>
      let s := seqAt stRun { phase := .run } fun w => w.setHost { w.c.host with
        descs := [{ desc0 with words := [w64 op], bound := true, start := w.stepNo }] }
      (s.w.desc 7).any (fun d => d.opcode == op && d.bound && d.start == s.w.stepNo && d.phase == .accepted) &&
        decide (s.chip.seq.phase = .run) && s.w.seqState == stRun) = true ∧
    (let s := descAt 0x18 [] { desc0 with step := 1 } id
     (s.w.desc 7).any (fun d => d.opcode == 0x18 && d.step != 0) = true) ∧
    (let s := descAt 0x19 [] desc0 id
     (s.w.desc 7).any (fun d => s.w.digestReady d) = true ∧
     s.chip.host.descs.all (fun e => e.opcode != 0x19 || (e.phase != .acting && decide (7 ≤ e.jsn))) = true) ∧
    (let s := descAt 0x19 [w64 0x7F0000000000, 128, 0] { desc0 with phase := .acting } placed0
     (s.chip.host.descs.find? fun d => d.opcode == 0x19 && d.phase == .acting && d.buf == []).any (fun d => !d.bound) = true ∧
     (s.w.digestRead [0x7F0000000000]).1.2.1.isNone = true ∧ (s.w.digestRead [0x7F0000000000]).1.2.2 = false) := by
  decide +kernel

/-- A 272-byte image with an empty section, in the window of logical gallery 0. -/
def headerBytes : List Byte :=
  (leBytes 2 0x5349 ++ [1, 1] ++ leBytes 4 256 ++ leBytes 8 272 ++ leBytes 2 1 ++ [0, 1] ++ leBytes 2 0 ++ [1, 1] ++
    leBytes 4 1 ++ leBytes 4 1 ++ List.replicate 224 0) ++ leBytes 8 1 ++ leBytes 8 272

theorem witness_DescriptorsAct_load (s : State) (hs : s = descAt 2 [w64 0x7F0000000000, 5, 0] desc0 fun w =>
      ((placed0 w).setFlag Reg.SEQ_CFG F.SEQ_CFG_EN true).wrBytes (galKey 311 0) headerBytes) :
    s.live = true ∧ (s.w.mayAct 7 2).isSome = true ∧ s.w.seqState = stIdle ∧ s.w.flag Reg.SEQ_CFG F.SEQ_CFG_EN = true ∧
    (s.w.mayAct 7 2).any (fun d => d.status == 0 && !bit (d.words.getD 3 0) 8 &&
      (let w := s.w.setDesc { d with phase := .acting }
       let hd := w.devRead (d.words.getD 1 0) 16
       headerOk (hd.2.devRead (d.words.getD 1 0) (max 256 (leNat ((hd.1.drop 8).take 8)))).1)) = true := by
  subst hs; decide +kernel

/-- A command ring 63 with one slot filled, completing on ring 63; the first descriptor of a ring has phase 1. -/
theorem witness_DescriptorsAreAccepted (s : State) (hs : s = start fun w =>
      (((((w.setSclState 3).setFlag Reg.SCL_JRNL_CFG F.SCL_JRNL_CFG_EN true).setFlag (Reg.SCL_CR_CFG 63) F.SCL_CR_CFG_EN
        true).setFld (Reg.SCL_CR_CFG 63) F.SCL_CR_CFG_CPR 63).setFlag (Reg.SCL_CPR_CFG 63) F.SCL_CPR_CFG_EN true).setCmdRing 63
        { prod := 1 }) :
    let cr := s.w.cmdRing 63
    let ring := s.w.cplRing (s.w.fld (Reg.SCL_CR_CFG 63) F.SCL_CR_CFG_CPR)
    s.live = true ∧ s.w.sclUp = true ∧ s.w.flag Reg.SCL_JRNL_CFG F.SCL_JRNL_CFG_EN = true ∧
    s.w.flag (Reg.SCL_CR_CFG 63) F.SCL_CR_CFG_EN = true ∧ cr.armed = true ∧ ring.armed = true ∧
    s.w.fld (Reg.SCL_CR_CFG 63) F.SCL_CR_CFG_CPR = 63 ∧ s.w.flag (Reg.SCL_CPR_CFG 63) F.SCL_CPR_CFG_EN = true ∧
    cr.next ≠ cr.prod ∧ s.chip.host.descs = [] ∧ s.w.jrnlRoom = true ∧ s.w.sclTag.isSome = true ∧
    (ring.next + 2 ^ 32 - ring.ci) % 2 ^ 32 < 2 ^ s.w.cprLog 63 ∧
    bits (payWord (leBytes 8 1) 0) 16 16 ≠ phaseBit (s.w.crLog 63) cr.next ∧
    bits (payWord (leBytes 8 (2 ^ 16 + 1)) 0) 16 16 = phaseBit (s.w.crLog 63) cr.next := by subst hs; decide +kernel

/-! ### Self-test, interrupts, fences -/

theorem witness_SelfTests_tick : ([0, 1] : List Nat).all (fun h =>
    let s := start fun w => ((w.setFlag Reg.ST_CFG F.ST_CFG_ROT_W true).setFlag Reg.ST_CFG F.ST_CFG_ROT_E true).idleHalf h
    let w := s.w.pend 293
    s.live && s.w.rotating h && (w.halfTest h).isNone && w.fld (Reg.ST_HALF h) F.ST_HALF_STATE == 1) = true := by decide +kernel

theorem witness_SelfTests_descriptor : ([1, 2, 3, 4, 5, 6, 7, 8] : List Nat).all (fun scope =>
    let s := descAt 0x10 [w64 scope, 64, 0, 0, 0] desc0 id
    (s.w.mayAct 7 0x10).any (fun d => d.status == 0 && bits (d.words.getD 1 0) 7 0 == scope &&
      (d.words.getD 2 0).toNat % 64 == 0)) = true ∧ TestCommand 8 7 (.testDdr5Channel 7) ∧ isMarch 0 = false := by
  refine ⟨by decide +kernel, .inr (.inr (.inr (.inr (.inr (.inr (.inr ⟨rfl, rfl⟩)))))), by decide⟩

theorem witness_SelfTests_port :
    let s := start fun w => w.setFld Reg.ST_LOG_HEAD ⟨31, 0⟩ 1
    s.w.tapOpen = true ∧ max s.chip.test.tapRead (s.w.fld Reg.ST_LOG_HEAD ⟨31, 0⟩ - 8192) <
      s.w.fld Reg.ST_LOG_HEAD ⟨31, 0⟩ := by decide +kernel

/-- A part locked for production whose debug is not unlocked. -/
theorem witness_SelfTests_closed :
    let s := start fun w => { w with c := { w.c with fuses := { w.c.fuses with prodLock := true } } }
    s.live = true ∧ s.w.tapOpen = false := by decide +kernel

/-- Source 16 of CP3 pending, enabled, at PRIO 5; a handler of the same priority runs, or none. -/
def srcAt (running : Nat) (ie : Bool) : State :=
  start fun w =>
    let w := (w.setReg (srcReg 3 16) (w64 (2 ^ 31 + 2 ^ 28 + 3 * 2 ^ 26 + 5 * 2 ^ 19))).setFlag (Reg.IC_CP_CTL 3) F.IC_CP_CTL_RUN true
    (w.setFld (Reg.IC_CP_STATUS 3) F.IC_CP_STATUS_RUNPRI running).setFlag (Reg.IC_CP_STATUS 3) F.IC_CP_STATUS_IE ie

theorem witness_InterruptsAreDelivered :
    ([true, false] : List Bool).all (fun ie => let s := srcAt 0x1F ie
      s.live && s.w.cpTakes 3 && decide ((s.w.cp 3).wait = .run) && s.w.bestSource 3 == some 16 &&
        s.w.flag (Reg.IC_CP_STATUS 3) F.IC_CP_STATUS_IE == ie) = true ∧
    (let s := srcAt 5 true
     (W.srcIds.find? fun id => s.w.srcUp 3 id && s.w.runPri 3 == some (s.w.srcPrio 3 id)) = some 16) ∧
    State.reset.w.flag (Reg.IC_CP_CTL 3) F.IC_CP_CTL_RUN = false ∧
    (srcAt 5 true).w.flag (Reg.IC_CP_CTL 3) F.IC_CP_CTL_RUN = true ∧
    (let s := start fun w => ((w.setFlag (Reg.CP_WD 3) F.CP_WD_EN true).setFld (Reg.CP_WD 3) F.CP_WD_PERIOD 1).setReg Reg.RST_UPTIME
       1000000
     s.w.flag (Reg.CP_WD 3) F.CP_WD_EN = true ∧ s.chip.resets = [] ∧ s.chip.warmWait = none ∧
     Tbl.get (fun _ => 0) s.chip.kicks 3 + max 1 (s.w.fld (Reg.CP_WD 3) F.CP_WD_PERIOD) * 1000000 ≤ s.w.uptime) := by
  decide +kernel

theorem witness_FencesAndSpares :
    (let s := start fun w => { w with c := { w.c with wasReset := [311], passAt := [(311, 1)] } }
     s.live = true ∧ 311 ∈ s.chip.wasReset ∧ s.w.passedAt 311 ≠ 0) ∧ 311 ∉ State.reset.chip.wasReset ∧
    (let s := start fun w => w.setSeq { remaps := [⟨0, 5, 7, 1⟩] }
     s.chip.seq.remaps = [⟨0, 5, 7, 1⟩]) := by decide +kernel

/-! ### Resets, snapshots, bring-up, security, power -/

theorem witness_ResetsBeginAndEnd :
    (let s := start fun w => { w with c := { w.c with lndOff := [311] } }
     s.live = true ∧ s.chip.resets = [] ∧ s.w.flag (Reg.GAL_FENCE 311) F.GAL_FENCE_FENCED = true ∧ 311 ∈ s.chip.lndOff ∧
     s.w.fld Reg.BOOT_STATUS F.BOOT_STATUS_STATE ∈ [0, 4, 5]) ∧
    (start fun w => w.setBootState 3).w.fld Reg.BOOT_STATUS F.BOOT_STATUS_STATE ∈ [1, 2, 3] ∧
    ([.core 311 15, .gallery 311, .landing 311, .half 1, .hbm 7 31, .port 63, .warm] : List Domain).all (fun d =>
      ((start fun w => { w with c := { w.c with resets := [⟨d, 5⟩] } }).chip.resets[0]?) == some ⟨d, 5⟩) = true ∧
    ({} : WarmView).boot.links = [] ∧ (7, 31) ∉ ({} : WarmView).boot.channels := by
  decide +kernel

theorem witness_SnapshotsAndDumps :
    (let s := start fun w => (w.setFlag Reg.SNAP_CFG F.SNAP_CFG_CMD true).setFlag Reg.SNAP_STATUS F.SNAP_STATUS_HELD true
     s.aux = true ∧ s.w.flag Reg.SNAP_CFG F.SNAP_CFG_CMD = true ∧ s.w.flag Reg.SNAP_STATUS F.SNAP_STATUS_HELD = true) ∧
    State.reset.w.flag Reg.SNAP_STATUS F.SNAP_STATUS_HELD = false ∧ State.reset.chip.dump = none ∧
    (let s := start fun w => { w with c := { w.c with snapAt := some 5, time := 5, dump := some {}, warmWait := some 2 } }
     s.chip.snapAt = some 5 ∧ 5 ≤ s.chip.time ∧ s.chip.dump = some {} ∧ 5 ∉ ({} : Dump).noAnswer ∧ s.w.reg Reg.DUMP_ADDR = 0 ∧
     s.chip.warmWait = some 2) ∧ State.reset.chip.warmWait = none := by decide +kernel

theorem witness_PowerAndBringUp_cold :
    let b : BootView := { fails := [(0x24, 0, 1)] }
    W.foundResult b.fails 0x24 0 ∈ [1, 2] ∧ W.foundResult [] 0x24 0 ∉ [1, 2] ∧ W.foundResult [] 0x22 0 ∉ [1, 2] ∧
    W.foundResult [] 0x20 0 ∉ [1, 2] ∧ W.foundResult [] 0x21 0 ∉ [1, 2] ∧
    ({} : BootView).late = none := by decide +kernel

theorem witness_PowerAndBringUp_ready :
    let s := start fun w => w.setStage 9
    s.live = true ∧ s.w.fld Reg.BOOT_STATUS F.BOOT_STATUS_STATE = 0 ∧ s.w.fld Reg.BOOT_STATUS F.BOOT_STATUS_STAGE = 9 ∧
    s.w.lanesFinal = true := by decide +kernel

/-- Page 2047 of an image at the last page of the window, of 4096 zeros: with its CRC, and with another one. -/
def page (crc : Nat) : Packet :=
  { typ := 3, arg := w64 (crc % 2 ^ 32 * 2 ^ 32 + 2 ^ 31 + 2047), addr := w64 (windowTop - 4096), len := 4096,
    data := List.replicate 4096 0 }

theorem page_crc (x : Nat) : bits (w64 (x % 2 ^ 32 * 2 ^ 32 + 2 ^ 31 + 2047)) 63 32 = x % 2 ^ 32 := by
  have h : x % 2 ^ 32 < 2 ^ 32 := Nat.mod_lt _ (by decide)
  simp only [bits, w64, natBits, BitVec.toNat_ofNat, Nat.shiftRight_eq_div_pow]
  omega

theorem witness_PowerAndBringUp_pages (crc : Nat) (h : crc = crc32c ((page 0).data.take 4096) % 2 ^ 32) :
    let s := start fun w => (w.setFlag (Reg.GBOOT_STATUS 311) F.GBOOT_STATUS_ARMED true).setReg (Reg.GBOOT_RXMAP 311 31) (w64 (2 ^ 63))
    (page crc).typ = 3 ∧ bit (page 5).arg 31 = true ∧ State.reset.w.flag (Reg.GBOOT_STATUS 311) F.GBOOT_STATUS_ARMED = false ∧
    s.w.flag (Reg.GBOOT_STATUS 311) F.GBOOT_STATUS_ARMED = true ∧ (page crc).poison = false ∧ (page crc).len = 4096 ∧
    bits (page crc).addr 22 0 + 4096 ≤ windowTop ∧ bits (page crc).arg 63 32 = crc ∧
    bits (page (crc + 1)).arg 63 32 ≠ crc ∧ bits (page 5).arg 10 0 = 2047 ∧ bit (s.w.reg (Reg.GBOOT_RXMAP 311 31)) 63 = true := by
  have h1 : crc % 2 ^ 32 = crc := by omega
  refine ⟨rfl, by decide +kernel, by decide +kernel, by decide +kernel, rfl, rfl, ?_, ?_, ?_, by decide +kernel,
    by decide +kernel⟩
  · show bits (w64 (windowTop - 4096)) 22 0 + 4096 ≤ windowTop
    decide +kernel
  · simp only [page]; rw [page_crc, h1]
  · simp only [page]; rw [page_crc]; omega

theorem witness_SecurityOperations :
    (let s := start fun w => w.setFlag Reg.SEC_MB_STATUS F.SEC_MB_STATUS_BUSY true
     s.aux = true ∧ s.w.flag Reg.SEC_MB_STATUS F.SEC_MB_STATUS_BUSY = true) ∧
    State.reset.w.flag Reg.SEC_MB_STATUS F.SEC_MB_STATUS_BUSY = false ∧ MailboxCommand 3 5 0 (.unlock 5 0) ∧
    ([(1, 128), (2, 0), (3, 524288)] : List (Nat × Nat)).all (fun x =>
      (start fun w => { w with c := { w.c with mailbox := some (x.1, x.2, List.replicate 512 0) } }).chip.mailbox ==
        some (x.1, x.2, List.replicate 512 0)) = true ∧ (List.replicate 512 (0 : Byte)).length = 512 ∧
    (start fun w => w.setFld Reg.SEC_STATUS F.SEC_STATUS_DEBUG 2).w.fld Reg.SEC_STATUS F.SEC_STATUS_DEBUG = 2 ∧
    State.reset.w.fld Reg.SEC_STATUS F.SEC_STATUS_DEBUG ≠ 2 ∧
    (start fun w => { w with c := { w.c with flashQ := [.defmap] } }).chip.flashQ = [.defmap] := by
  refine ⟨?_, ?_, .inr (.inr ⟨rfl, rfl⟩), ?_, ?_, ?_, ?_, ?_⟩ <;> decide +kernel

theorem witness_PowerAndHeat_interval :
    let w := State.reset.w.addEnergy [] []
    let h := w.hottest
    let w := ((w.setFld Reg.PWR_NOW F.PWR_NOW_P (min 0xFFFF (400000 / 1000))).setFld Reg.PWR_NOW F.PWR_NOW_TJ
        (min 255 h.1)).setFld Reg.PWR_NOW F.PWR_NOW_HOT h.2
    State.reset.live = true ∧ w.flag Reg.PWR_STATUS F.PWR_STATUS_TJMAX = false ∧ State.reset.chip.power.throttling = [] ∧
    400000 ≤ (w.throttleStep.capLoop 400000 []).2.capW * 1000 := by decide +kernel

theorem witness_PowerAndHeat_sensors :
    1 ∉ State.reset.chip.power.railLow ∧ (-40 : Int) ≤ 84 ∧ (84 : Int) < State.reset.w.throt ∧
    (let s := start fun w => w.setPower { w.c.power with hot := [(326, 1)] }
     (115 : Int) ≤ 150 ∧ 1 ≤ Tbl.get (fun _ => 0) s.chip.power.hot 326) := by decide +kernel

/-! ### Management, service, registers -/

/-- A message over MCTP with its CRC right. -/
def mctp (typ : Nat) (body : List Byte) : MgmtMsg :=
  { mctp := true, mtype := typ, body := body, crc := W.mgmtCrc { mctp := true, mtype := typ, body := body } }

theorem requested (s : State) (typ : Nat) (body : List Byte) (h1 : s.aux = true) (h2 : s.w.mgmtServed true = true)
    (h3 : body.length ≤ 1400) : Requested s typ (mctp typ body) := ⟨h1, h2, rfl, rfl, rfl, rfl, rfl, h3⟩

/-- DEV_PART read and the watermark of a register word written; a line of the window of logical gallery 0. -/
theorem witness_ManagementRequests_access (s : State) (hs : s = start placed0) :
    let rd := leBytes 8 (0x7FF000000000 + Reg.DEV_PART) ++ leBytes 2 1
    let wr := leBytes 8 (0x7FF000000000 + Reg.DEV_PART) ++ leBytes 2 1 ++ leBytes 4 0
    let mr := leBytes 8 0x7F0000000000 ++ leBytes 2 64
    let mw := mr ++ List.replicate 64 7
    Requested s 2 (mctp 2 rd) ∧ Requested s 3 (mctp 3 wr) ∧ Requested s 4 (mctp 4 mr) ∧ Requested s 5 (mctp 5 mw) ∧
    rd.length = 10 ∧ field rd 8 2 = 1 ∧ wr.length = 10 + 4 * field wr 8 2 ∧ W.memArgsOk mr = true ∧ mr.length = 10 ∧
    W.memArgsOk mw = true ∧ mw.length = 10 + field mw 8 2 ∧
    (((s.w.received (mctp 2 rd)).regWordsRead (field rd 0 8) 1 []).1).isSome = true ∧
    (((s.w.received (mctp 4 mr)).farRead none W.mgmtReq (s.w.loc (w64 (field mr 0 8))) 64).1.2).isNone = true ∧
    (((s.w.received (mctp 5 mw)).farWrite none W.mgmtReq (s.w.loc (w64 (field mw 0 8))) (mw.drop 10)).1).isNone = true := by
  subst hs
  refine ⟨requested _ _ _ (by decide +kernel) (by decide +kernel) (by decide +kernel), requested _ _ _ (by decide +kernel)
    (by decide +kernel) (by decide +kernel), requested _ _ _ (by decide +kernel) (by decide +kernel) (by decide +kernel),
    requested _ _ _ (by decide +kernel) (by decide +kernel) (by decide +kernel), ?_⟩
  decide +kernel

/-- An order of one signature, ORDER_NO 1: 32 + 4 + 29,792 bytes. -/
def staged : List Byte := [0x44, 0x4F, 1, 1, 0, 0, 1, 0, 1, 0, 0, 0, 0, 0, 0, 0] ++ List.replicate 29812 0

theorem staged_length : staged.length = 29828 := by
  rw [staged, List.length_append, List.length_replicate]; rfl

theorem staged_field (o n : Nat) (h : o + n ≤ 16) :
    leNat ((staged.drop o).take n) = leNat (((staged.take 16).drop o).take n) := by
  rw [List.drop_take, List.take_take, Nat.min_eq_left (by omega)]

theorem staged_layout : W.orderLayout staged = true ∧ orderNo staged = 1 := by
  have h : staged.take 16 = [0x44, 0x4F, 1, 1, 0, 0, 1, 0, 1, 0, 0, 0, 0, 0, 0, 0] := rfl
  constructor
  · simp only [W.orderLayout, staged_length, staged_field 0 2 (by decide), staged_field 2 1 (by decide),
      staged_field 3 1 (by decide), staged_field 6 1 (by decide), staged_field 4 2 (by decide), h]
    decide
  · simp only [orderNo, field, staged_field 8 8 (by decide), h]
    decide

theorem witness_ManagementRequests_orders :
    let put := leBytes 4 0 ++ [7]
    let s := start fun w => w.setMgmt { w.c.mgmt with staging := some (W.sourceOf (mctp 7 (leBytes 4 29828)), staged) }
    Requested State.reset 6 (mctp 6 put) ∧ 5 ≤ put.length ∧ put.length ≤ 1396 ∧ State.reset.chip.mgmt.staging = none ∧
    Requested s 7 (mctp 7 (leBytes 4 29828)) ∧ field (leBytes 4 29828) 0 4 ≤ staged.length ∧
    W.orderLayout (staged.take (field (leBytes 4 29828) 0 4)) = true ∧
    orderNo (staged.take (field (leBytes 4 29828) 0 4)) ≠ (s.w.reg Reg.FAB_ORDER_NO).toNat := by
  have f : field (leBytes 4 29828) 0 4 = 29828 := by decide
  have t : staged.take 29828 = staged := List.take_of_length_le (by rw [staged_length])
  refine ⟨requested _ _ _ (by decide +kernel) (by decide +kernel) (by decide), by decide, by decide, rfl,
    requested _ _ _ rfl rfl (by decide), ?_, ?_, ?_⟩
  · rw [f, staged_length]
  · rw [f, t]; exact staged_layout.1
  · rw [f, t, staged_layout.2]; decide

theorem witness_ManagementRequests_rest :
    (let s := start fun w => w.setRecPath 1 { acked := some 5 }
     let w := s.w.received (mctp 9 (leBytes 4 6))
     (w.recPath (mctp 9 (leBytes 4 6)).mctp.toNat).acked = some 5 ∧ serialLater 32 (field (leBytes 4 6) 0 4) 5 = true ∧
     w.c.mgmt.recs = []) ∧ Requested State.reset 9 (mctp 9 (leBytes 4 6)) ∧
    Requested State.reset 0x0A (mctp 0x0A (leBytes 8 0)) ∧ Requested State.reset 0x0B (mctp 0x0B (leBytes 4 0)) ∧
    Requested State.reset 1 (mctp 1 []) ∧
    (let b := leBytes 8 0 ++ leBytes 2 64
     let s := start fun w => (placed0 w).setReg Reg.DUMP_ADDR (w64 0x7F0000000000)
     Requested State.reset 0x0C (mctp 0x0C b) ∧ b.length = 10 ∧ field b 0 1 = 0 ∧ field b 8 2 = 64 ∧
     s.w.reg Reg.DUMP_ADDR ≠ 0 ∧ (((s.w.received (mctp 0x0C b)).farRead none W.mgmtReq (s.w.loc (w64 0x7F0000000000))
       64).1.2).isNone = true) := by
  have r : ∀ typ body, body.length ≤ 1400 → Requested State.reset typ (mctp typ body) := fun typ body h =>
    requested _ _ _ (by decide +kernel) (by decide +kernel) h
  refine ⟨by decide +kernel, r _ _ (by decide), r _ _ (by decide), r _ _ (by decide), r _ _ (by decide), r _ _ (by decide), ?_⟩
  decide +kernel

theorem witness_ManagementStandards :
    State.reset.aux = true ∧ State.reset.w.mgmtServed true = true ∧ field [0, 1] 1 1 = 1 ∧ field [0, 0, 0x11, 1, 0] 2 1 = 0x11 ∧
    (let s := start fun w => (w.setFlag Reg.MGMT_CFG F.MGMT_CFG_EN true).setReg Reg.MGMT_IP4 (w64 (2 ^ 63 + 5))
     s.w.mgmtServed false = true ∧ bit (s.w.reg Reg.MGMT_IP4) 63 = true) ∧
    (let s := start fun w => (w.setFld Reg.MGMT_CFG F.MGMT_CFG_REC_PATH 1).setRecPath 1 { last := some 5 }
     s.w.pathOn 1 = true ∧ (s.w.recPath 1).last = some 5) := by decide +kernel

theorem witness_ServiceSignalsAndRegisterWrites :
    State.reset.aux = true ∧ State.reset.w.fld Reg.SVC_STATUS F.SVC_STATUS_ATTN_STATE ≠ 1 ∧
    (State.reset.w.pend 287).seqState = stIdle ∧ ((seqAt stRun {} id).w.pend 287).seqState = stRun ∧
    (start fun w => w.setAttn 1).w.fld Reg.SVC_STATUS F.SVC_STATUS_ATTN_STATE = 1 := by decide +kernel

end Sys2Proof.Tests
end

section
/-! ### What is written reads back (O7)

The one change of memory that `Laws/Tbl.lean` does not yet read back is the copy of a range: it places the entries of the
range, one after the other, in a table whose target range has been cleared. -/

namespace Sys2Proof.Machine

/-- Dropping the entries of other keys does not change what key `k` reads as. -/
theorem Tbl.get_filter_of_pos {α : Type} (d : Nat → α) (t : Tbl α) (p : Nat → Bool) {k : Nat} (h : p k = true) :
    Tbl.get d (t.filter fun e => p e.1) k = Tbl.get d t k := by
  induction t with
  | nil => rfl
  | cons e t ih =>
    by_cases he : p e.1 = true
    · rw [List.filter_cons, if_pos he]; simp only [Tbl.get, ih]
    · have hk : k ≠ e.1 := fun hk => he (hk ▸ h)
      rw [List.filter_cons, if_neg he, ih]; simp only [Tbl.get, if_neg hk]

/-- A key the table does not list reads as its default. -/
theorem Tbl.get_of_forall_ne {α : Type} (d : Nat → α) (t : Tbl α) {k : Nat} (h : ∀ e ∈ t, e.1 ≠ k) :
    Tbl.get d t k = d k := by
  induction t with
  | nil => rfl
  | cons e t ih =>
    rw [List.forall_mem_cons] at h
    simp only [Tbl.get, if_neg (Ne.symm h.1), ih h.2]

/-- The table with the entries `es` stored at the places `f` sends their keys to. -/
def Tbl.place {α : Type} (f : Nat → Nat) (es t : Tbl α) : Tbl α := es.foldl (fun t e => Tbl.insert t (f e.1) e.2) t

/-- A place no entry is sent to reads as before. -/
theorem Tbl.get_place_of_forall_ne {α : Type} (d : Nat → α) (f : Nat → Nat) (es t : Tbl α) {x : Nat}
    (h : ∀ e ∈ es, f e.1 ≠ x) : Tbl.get d (Tbl.place f es t) x = Tbl.get d t x := by
  induction es generalizing t with
  | nil => rfl
  | cons e es ih =>
    rw [List.forall_mem_cons] at h
    exact (ih _ h.2).trans (Tbl.get_insert_ne d t e.2 (Ne.symm h.1))

/-- The place that only key `k` is sent to reads as the entry of `k`, and as before where `k` has none. -/
theorem Tbl.get_place {α : Type} (d : Nat → α) (f : Nat → Nat) (es t : Tbl α) (k : Nat) (hs : Tbl.sorted es = true)
    (hf : ∀ e ∈ es, f e.1 = f k → e.1 = k) :
    Tbl.get d (Tbl.place f es t) (f k) = Tbl.get (fun _ => Tbl.get d t (f k)) es k := by
  induction es generalizing t with
  | nil => rfl
  | cons e es ih =>
    rw [Tbl.sorted_cons] at hs
    obtain ⟨hlt, hs⟩ := hs
    rw [List.forall_mem_cons] at hf
    obtain ⟨hfe, hf⟩ := hf
    refine (ih (Tbl.insert t (f e.1) e.2) hs hf).trans ?_
    by_cases hk : k = e.1
    · subst hk
      rw [Tbl.get_of_forall_ne _ _ fun x hx => (hlt x hx).ne', Tbl.get_insert_self]
      simp only [Tbl.get, if_true]
    · rw [Tbl.get_insert_ne d t e.2 fun h => hk (hfe h.symm).symm]
      simp only [Tbl.get, if_neg hk]

/-- A copy places the entries of its range where the target range was cleared. -/
theorem Memory.apply_copy (m : Memory) (lo hi dst : Nat) : m.apply (.copy lo hi dst) =
    Tbl.place (fun k => k - lo + dst) (m.filter fun e => decide (lo ≤ e.1) && decide (e.1 < hi))
      (Tbl.clearRange m dst (dst + (hi - lo))) := rfl

/-- A byte of the range copied to reads as its source did, any other as before. -/
theorem Memory.get_copy (m : Memory) (hm : m.wf = true) (lo hi dst k : Nat) :
    Memory.get (m.apply (.copy lo hi dst)) k =
      if dst ≤ k ∧ k < dst + (hi - lo) then Memory.get m (k - dst + lo) else Memory.get m k := by
  have hin : ∀ e ∈ m.filter fun e => decide (lo ≤ e.1) && decide (e.1 < hi), lo ≤ e.1 ∧ e.1 < hi :=
    fun e he => by simpa using (List.mem_filter.1 he).2
  have hsorted : Tbl.sorted m = true := (Bool.and_eq_true_iff.1 hm).1
  rw [Memory.apply_copy]
  split
  case isTrue h =>
    obtain ⟨j, hlo, hhi, rfl⟩ : ∃ j, lo ≤ j ∧ j < hi ∧ k = j - lo + dst := ⟨k - dst + lo, by omega⟩
    rw [show j - lo + dst - dst + lo = j by omega]
    refine (Tbl.get_place memDefault (fun k => k - lo + dst) _ _ j (Tbl.sorted_filter _ _ hsorted) fun e he hj => ?_).trans ?_
    · have := hin e he; omega
    · rw [Tbl.get_clearRange, if_pos h]
      exact Tbl.get_filter_of_pos _ m (fun a => decide (lo ≤ a) && decide (a < hi)) (by simp [hlo, hhi])
  case isFalse h =>
    refine (Tbl.get_place_of_forall_ne _ _ _ _ fun e he => ?_).trans ?_
    · have := hin e he; omega
    · rw [Tbl.get_clearRange, if_neg h]; rfl

/-- Memory with a list of changes made reads as the changes show it. -/
theorem Memory.get_applyAll (m : Memory) (hm : m.wf = true) (log : List MemOp) (k : Nat) :
    Memory.get (m.applyAll log) k = Memory.peek m log k := by
  induction log generalizing k with
  | nil => rfl
  | cons op older ih =>
    cases op with
    | put j v =>
      simp only [Memory.applyAll, Memory.peek]
      split
      · subst_vars; exact Memory.get_put_self _ _ _
      · rw [Memory.get_put_ne _ _ ‹_›, ih]
    | clear lo hi =>
      simp only [Memory.applyAll, Memory.peek, ← ih]
      exact Tbl.get_clearRange memDefault _ lo hi k
    | copy lo hi dst =>
      simp only [Memory.applyAll, Memory.peek, ← ih]
      exact Memory.get_copy _ (Memory.wf_applyAll m older hm) lo hi dst k

theorem W.reg_setReg (w : W) (k j : Nat) (v : Word) : (w.setReg k v).reg j = if j = k then v else w.reg j := by
  split
  · subst_vars; exact W.reg_setReg_self _ _ _
  · exact W.reg_setReg_ne _ _ ‹_›

/-- Settles O7: a register by the law of `setReg`, memory by induction on the changes of the command. -/
theorem whatIsWrittenReadsBack : Obligations.WhatIsWrittenReadsBack := by
  unfold Obligations.WhatIsWrittenReadsBack
  exact ⟨W.reg_setReg, fun s w k hm => Memory.get_applyAll s.mem hm w.log k⟩

end Sys2Proof.Machine
end

section
/-! ### Counters (O9)

Every *_CNT_CLR write clears, one after the other, the registers its mask names: `zeroed` of `namedRegs`. -/

namespace Sys2Proof.Machine

/-! #### The registers a clear mask names -/

/-- The registers of a list whose places in it are set in a mask. -/
def namedRegs (ks : List Nat) (mask : Word) : List Nat := (ks.zipIdx.filter fun e => bit mask e.2).map (·.1)

theorem mem_namedRegs (ks : List Nat) (mask : Word) (k : Nat) :
    k ∈ namedRegs ks mask ↔ (ks.zipIdx.any fun e => e.1 == k && bit mask e.2) = true := by
  simp only [namedRegs, List.mem_map, List.mem_filter, List.any_eq_true, Bool.and_eq_true, beq_iff_eq]
  exact exists_congr fun e => ⟨fun ⟨⟨hm, hb⟩, hk⟩ => ⟨hm, hk, hb⟩, fun ⟨hm, hk, hb⟩ => ⟨⟨hm, hb⟩, hk⟩⟩

theorem mem_of_mem_namedRegs {ks : List Nat} {mask : Word} {k : Nat} (h : k ∈ namedRegs ks mask) : k ∈ ks := by
  obtain ⟨e, he, rfl⟩ := List.mem_map.1 h
  exact List.fst_mem_of_mem_zipIdx (List.mem_of_mem_filter he)

/-- Only the mask's bits below the length of the list count. -/
theorem namedRegs_congr {ks : List Nat} {m m' : Word} (h : ∀ i < ks.length, bit m i = bit m' i) :
    namedRegs ks m = namedRegs ks m' := by
  unfold namedRegs
  rw [List.filter_congr fun e he => h e.2 (by simpa using List.snd_lt_add_of_mem_zipIdx he)]

/-- A mask that is set at every place of the list names the whole list. -/
theorem namedRegs_of_forall_bit {ks : List Nat} {m : Word} (h : ∀ i < ks.length, bit m i = true) :
    namedRegs ks m = ks := by
  rw [namedRegs, List.filter_eq_self.2 fun e he => h e.2 (by simpa using List.snd_lt_add_of_mem_zipIdx he)]
  exact List.zipIdx_map_fst 0 ks

theorem namedRegs_allOnes {ks : List Nat} (h : ks.length ≤ 64) : namedRegs ks (BitVec.allOnes 64) = ks :=
  namedRegs_of_forall_bit fun i hi => by
    rw [bit, BitVec.toNat_allOnes, Nat.testBit_two_pow_sub_one]
    exact decide_eq_true (by omega)

theorem bit_ushiftRight (m : Word) (n i : Nat) : bit (m >>> n) i = bit m (n + i) := by
  simp only [bit, BitVec.toNat_ushiftRight, Nat.testBit_shiftRight]

/-- The places of a second list follow those of the first. -/
theorem namedRegs_append (ks ks' : List Nat) (m : Word) :
    namedRegs (ks ++ ks') m = namedRegs ks m ++ namedRegs ks' (m >>> ks.length) := by
  simp only [namedRegs, List.zipIdx_append, List.filter_append, List.map_append, bit_ushiftRight]
  rw [List.zipIdx_eq_map_add (i := 0 + ks.length)]
  simp only [List.filter_map, List.map_map, Function.comp_def, Nat.add_zero, Nat.add_comm]

/-- A block's counters by bit number: `n` registers from `base`. -/
def counterRow (base n : Nat) : List Nat := (List.range n).map fun i => base + 8 * i

theorem zipIdx_counterRow (base n : Nat) :
    (counterRow base n).zipIdx = (List.range n).map fun i => (base + 8 * i, i) := by
  refine List.ext_getElem ?_ fun i _ _ => ?_ <;> simp [counterRow]

namespace W

/-! #### Clearing a list of registers -/

/-- The registers of a list cleared, one after the other. -/
def zeroed (w : W) (l : List Nat) : W := l.foldl (fun w k => w.setReg k 0) w

theorem reg_zeroed (w : W) (l : List Nat) (k : Nat) : (w.zeroed l).reg k = if k ∈ l then 0 else w.reg k := by
  induction l generalizing w with
  | nil => simp [zeroed]
  | cons j l ih =>
    refine (ih (w.setReg j 0)).trans ?_
    by_cases hk : k = j <;> simp [hk]

/-- Only the registers change. -/
theorem zeroed_eq (w : W) (l : List Nat) : w.zeroed l = { w with c := { w.c with regs := (w.zeroed l).c.regs } } := by
  induction l generalizing w with
  | nil => rfl
  | cons j l ih => exact ih (w.setReg j 0)

theorem zeroed_append (w : W) (l l' : List Nat) : w.zeroed (l ++ l') = (w.zeroed l).zeroed l' := List.foldl_append

theorem clearListed_eq_zeroed (w : W) (ks : List Nat) (mask : Word) :
    w.clearListed ks mask = w.zeroed (namedRegs ks mask) := by
  simp only [clearListed, zeroed, namedRegs, List.foldl_map, List.foldl_filter]

theorem clearCounters_eq_zeroed (w : W) (base n : Nat) (mask : Word) :
    w.clearCounters base n mask = w.zeroed (namedRegs (counterRow base n) mask) := by
  simp only [clearCounters, setBitsBelow, zeroed, namedRegs, zipIdx_counterRow, List.filter_map, List.foldl_map, bit,
    Function.comp_def]

end W

/-! #### The clear commands -/

/-- A command that clears the registers its mask names, and no more. -/
theorem clears_of_zeroed {i : Instr} {s : State} {mask : Word} {ks : List Nat}
    (h : exec i s = .next (s.after (s.w.zeroed (namedRegs ks mask)))) : Clears i s mask ks := by
  have hreg : ∀ k, (s.after (s.w.zeroed (namedRegs ks mask))).w.reg k =
      if ks.zipIdx.any (fun e => e.1 == k && bit mask e.2) then 0 else s.w.reg k := fun k => by
    simp only [← mem_namedRegs]; exact W.reg_zeroed s.w _ k
  refine ⟨_, h, ⟨?_, fun k hk => ?_⟩, hreg⟩
  · rw [W.zeroed_eq]; rfl
  · rw [hreg, if_neg fun hn => hk (mem_of_mem_namedRegs ((mem_namedRegs ks mask k).2 hn))]

theorem clears_of_clearCounters {i : Instr} {s : State} {mask : Word} {ks : List Nat} {base n : Nat}
    (h : exec i s = .next (s.after (s.w.clearCounters base n mask))) (hk : ks = counterRow base n) :
    Clears i s mask ks :=
  clears_of_zeroed (by rw [h, W.clearCounters_eq_zeroed, hk])

theorem clears_of_runOn {i : Instr} {s : State} {mask : Word} {ks : List Nat} {base n : Nat} {ok : Bool}
    (hl : s.live = true) (hok : ok = true) (h : exec i s = runOn ok s fun w => w.clearCounters base n mask)
    (hk : ks = counterRow base n) : Clears i s mask ks :=
  clears_of_clearCounters (h.trans (runOn_live hl hok _)) hk

theorem clears_of_run {i : Instr} {s : State} {mask : Word} {ks : List Nat} {base n : Nat}
    (hl : s.live = true) (h : exec i s = run s fun w => w.clearCounters base n mask)
    (hk : ks = counterRow base n) : Clears i s mask ks :=
  clears_of_clearCounters (h.trans (run_live hl _)) hk

theorem clears_of_runAux {i : Instr} {s : State} {mask : Word} {ks : List Nat} {base n : Nat}
    (hl : s.live = true) (h : exec i s = runAux s fun w => w.clearCounters base n mask)
    (hk : ks = counterRow base n) : Clears i s mask ks :=
  clears_of_clearCounters (h.trans (runAux_aux (aux_of_live hl) _)) hk

/-- The mask of ST_CNT_CLR (R352): bits 0 to 5 name the counters of the west half, bits 8 to 13 those of the east half. -/
theorem bit_stMask (v : Word) (i : Nat) :
    bit (putBits (v >>> 2) 5 0 (bits v 5 0)) i = if i < 6 then bit v i else bit v (2 + i) := by
  have h : (putBits (v >>> 2) 5 0 (bits v 5 0)).toNat = 2 ^ 6 * (v.toNat / 2 ^ 8) + v.toNat % 2 ^ 6 := by
    have := v.isLt
    simp only [putBits, natPut, bits, natBits, w64, BitVec.toNat_ofNat, BitVec.toNat_ushiftRight,
      Nat.shiftRight_eq_div_pow]
    omega
  simp only [bit, h, Nat.testBit_two_pow_mul_add _ (Nat.mod_lt v.toNat (Nat.two_pow_pos 6))]
  split
  next hi => rw [Nat.testBit_mod_two_pow, decide_eq_true hi, Bool.true_and]
  next => rw [Nat.testBit_div_two_pow]; congr 1; omega

theorem clears_stCntClr {s : State} (hl : s.live = true) (v : Word) :
    Clears (.stCntClr v) s (putBits (v >>> 2) 5 0 (bits v 5 0))
      (counterRow Reg.ST_MOVES0 6 ++ counterRow Reg.ST_MOVES1 6) := by
  have hx : exec (.stCntClr v) s =
      .next (s.after ((s.w.clearCounters Reg.ST_MOVES0 6 v).clearCounters Reg.ST_MOVES1 6 (v >>> 8))) :=
    run_live hl fun w => (w.clearCounters Reg.ST_MOVES0 6 v).clearCounters Reg.ST_MOVES1 6 (v >>> 8)
  refine clears_of_zeroed ?_
  have hw : namedRegs (counterRow Reg.ST_MOVES0 6) (putBits (v >>> 2) 5 0 (bits v 5 0)) =
      namedRegs (counterRow Reg.ST_MOVES0 6) v :=
    namedRegs_congr fun i hi => by rw [bit_stMask, if_pos (by simpa [counterRow] using hi)]
  have he : namedRegs (counterRow Reg.ST_MOVES1 6) (putBits (v >>> 2) 5 0 (bits v 5 0) >>> 6) =
      namedRegs (counterRow Reg.ST_MOVES1 6) (v >>> 8) :=
    namedRegs_congr fun i _ => by
      rw [bit_ushiftRight, bit_ushiftRight, bit_stMask, if_neg (by omega)]; congr 1; omega
  rw [hx, W.clearCounters_eq_zeroed, W.clearCounters_eq_zeroed, ← W.zeroed_append, ← hw, ← he, namedRegs_append]
  rfl

/-- A field of two bits holds 0, 1, 2 or 3. -/
theorem bits_two_cases (v : Word) (lo : Nat) :
    bits v (lo + 1) lo = 0 ∨ bits v (lo + 1) lo = 1 ∨ bits v (lo + 1) lo = 2 ∨ bits v (lo + 1) lo = 3 := by
  have h : bits v (lo + 1) lo < 2 ^ (lo + 1 + 1 - lo) := Nat.mod_lt _ (Nat.two_pow_pos _)
  rw [show lo + 1 + 1 - lo = 2 by omega] at h
  omega

/-- Q_CNT_CLR (R175) clears every counter of the queue, the send slot or the agent that it names. -/
theorem doQCntClr_eq_zeroed {p a : Nat} {v mask : Word} {ks : List Nat}
    (h : counterClear (.qCntClr p a v) = some (mask, ks)) (w : W) : w.doQCntClr p a v = w.zeroed (namedRegs ks mask) := by
  obtain hq | hs | ha | hr := bits_two_cases v 16
  · -- a queue
    by_cases hn : bits v 5 0 < 16
    · simp only [counterClear, hq, if_pos hn, Option.some.injEq, Prod.mk.injEq] at h
      obtain ⟨rfl, rfl⟩ := h
      rw [namedRegs_allOnes (Nat.le_of_ble_eq_true rfl)]
      simp only [W.doQCntClr, W.zeroed, hq, if_pos hn]
    · simp only [counterClear, hq, if_neg hn, reduceCtorEq] at h
  · -- a send slot
    simp only [counterClear, hs, Option.some.injEq, Prod.mk.injEq] at h
    obtain ⟨rfl, rfl⟩ := h
    rw [namedRegs_allOnes (Nat.le_of_ble_eq_true rfl)]
    simp only [W.doQCntClr, W.zeroed, hs]
  · -- a counter of the agent
    by_cases hn : bits v 5 0 < 5
    · simp only [counterClear, ha, if_pos hn, Option.some.injEq, Prod.mk.injEq] at h
      obtain ⟨rfl, rfl⟩ := h
      rw [namedRegs_allOnes (Nat.le_of_ble_eq_true rfl)]
      simp only [W.doQCntClr, W.zeroed, ha, if_pos hn]
    · simp only [counterClear, ha, if_neg hn, reduceCtorEq] at h
  · -- a reserved kind
    simp only [counterClear, hr, reduceCtorEq] at h

/-- Every counter clear command does what its table says: a row of registers in order, or a list of its own. -/
theorem clears_of_counterClear {i : Instr} {s : State} {mask : Word} {ks : List Nat} (h : counterClear i = some (mask, ks))
    (hw : i.wf = true) (hl : s.live = true) : Clears i s mask ks := by
  cases i
  case mcCntClr p n v => cases h; exact clears_of_runOn hl hw rfl rfl
  case vcCntClr p n v => cases h; exact clears_of_runOn hl hw rfl rfl
  case scCntClr p n v => cases h; exact clears_of_runOn hl hw rfl rfl
  case lndCntClr p v => cases h; exact clears_of_runOn hl hw rfl rfl
  case memcCntClr m v => cases h; exact clears_of_runOn hl hw rfl rfl
  case fabPortCntClr q v => cases h; exact clears_of_runOn hl hw rfl rfl
  case erCntClr e v => cases h; exact clears_of_runOn hl hw rfl rfl
  case sclCntClr v => cases h; exact clears_of_run hl rfl rfl
  case seqCntClr v => cases h; exact clears_of_run hl rfl rfl
  case fltCntClr v => cases h; exact clears_of_run hl rfl rfl
  case rstCntClr v => cases h; exact clears_of_runAux hl rfl rfl
  case pwrCntClr v => cases h; exact clears_of_run hl rfl rfl
  case icCntClr v => cases h; exact clears_of_run hl rfl rfl
  case mgmtCntClr v => cases h; exact clears_of_runAux hl rfl rfl
  case stCntClr v => cases h; exact clears_stCntClr hl v
  case hallCntClr p v =>
    cases h; exact clears_of_zeroed ((runOn_live hl hw _).trans (by rw [W.clearListed_eq_zeroed]; rfl))
  case qCntClr p a v =>
    exact clears_of_zeroed ((runOn_live hl hw _).trans (by rw [doQCntClr_eq_zeroed h]))
  all_goals cases h

/-! #### Counting one event -/

/-- A field that is set to what it holds stays as it is. -/
theorem putBits_bits (v : Word) (hi lo : Nat) : putBits v hi lo (bits v hi lo) = v := by
  have hlt : natBits v.toNat hi lo < 2 ^ (hi + 1 - lo) := Nat.mod_lt _ (Nat.two_pow_pos _)
  have hle : natBits v.toNat hi lo * 2 ^ lo ≤ v.toNat :=
    calc natBits v.toNat hi lo * 2 ^ lo ≤ v.toNat / 2 ^ lo * 2 ^ lo :=
          Nat.mul_le_mul_right _ (Nat.shiftRight_eq_div_pow .. ▸ Nat.mod_le _ _)
      _ ≤ v.toNat := Nat.div_mul_le_self _ _
  rw [putBits, natPut, bits, Nat.mod_eq_of_lt hlt, Nat.sub_add_cancel hle]
  exact (BitVec.ofNat_toNat 64 v).trans (BitVec.setWidth_eq v)

namespace W

/-- Events that the counter still holds are added to it. -/
theorem countW_of_le (w : W) {k width n : Nat} (h : bits (w.reg k) (width - 1) 0 + n ≤ 2 ^ width - 1) :
    w.countW k width n = w.setReg k (putBits (w.reg k) (width - 1) 0 (bits (w.reg k) (width - 1) 0 + n)) := if_pos h

/-- Events beyond all ones leave the counter there and set its sticky flag. -/
theorem reg_countW_of_lt (w : W) {k width n : Nat} (h : 2 ^ width - 1 < bits (w.reg k) (width - 1) 0 + n) (j : Nat) :
    (w.countW k width n).reg j =
      if j = k then putBit (putBits (w.reg k) (width - 1) 0 (2 ^ width - 1)) 63 true else w.reg j := by
  unfold countW
  rw [if_neg (Nat.not_le.2 h), ← reg_setReg]
  by_cases hb : bit (w.reg k) 63 = true
  · rw [if_pos hb]
  · rw [if_neg hb]
    exact emit_reg _ (.overflow k) j

theorem reg_count_one_of_lt (w : W) {k : Nat} (h : bits (w.reg k) 47 0 < 2 ^ 48 - 1) (j : Nat) :
    (w.count k 1).reg j = if j = k then putBits (w.reg k) 47 0 (bits (w.reg k) 47 0 + 1) else w.reg j :=
  (congrArg (reg · j) (w.countW_of_le (width := 48) (n := 1) (Nat.succ_le_of_lt h))).trans (reg_setReg w k j _)

theorem reg_count_one_of_full (w : W) {k : Nat} (h : bits (w.reg k) 47 0 = 2 ^ 48 - 1) (j : Nat) :
    (w.count k 1).reg j = if j = k then putBit (w.reg k) 63 true else w.reg j := by
  rw [count, reg_countW_of_lt w (h ▸ Nat.lt_succ_self _), ← h, putBits_bits]

end W

/-- Settles O9: every clear is `zeroed` of the registers its mask names, and a counter either has room or is at all ones. -/
theorem countersStickAndClear : Obligations.CountersStickAndClear := by
  unfold Obligations.CountersStickAndClear
  exact ⟨fun _ _ _ _ h hw hl => clears_of_counterClear h hw hl,
    fun w _ j => ⟨fun h => w.reg_count_one_of_lt h j, fun h => w.reg_count_one_of_full h j⟩⟩

end Sys2Proof.Machine
end
section
/-! ### Accesses of the set-up region (O8): what an error record changes -/

namespace Sys2Proof.Machine

/-- The registers that an error record may change beside FLT_ESN: its counters, the snapshot and the dump that it may
trigger, and the interrupt sources of both (R353, R356, R384, R386, R438). -/
def recordRegs : List Nat :=
  [Reg.FLT_RECORDS, Reg.FLT_SUPPRESSED, Reg.SNAP_STATUS, Reg.SNAP_TIME, Reg.DUMP_STATUS, Reg.IC_MERGED,
   Reg.IC_SRC (286 - 64), Reg.IC_SRC (294 - 64)]

/-- From `w` to `w'` no register outside `recordRegs`, no waiting register write and no queued record has changed. -/
structure RecordSide (w w' : W) : Prop where
  reg : ∀ j, j ∉ recordRegs → w'.reg j = w.reg j
  bus : w'.c.bus = w.c.bus
  recQ : w'.c.recQ = w.c.recQ

namespace RecordSide

theorem refl (w : W) : RecordSide w w := ⟨fun _ _ => rfl, rfl, rfl⟩

theorem trans {w w' w'' : W} (h : RecordSide w w') (h' : RecordSide w' w'') : RecordSide w w'' :=
  ⟨fun j hj => (h'.reg j hj).trans (h.reg j hj), h'.bus.trans h.bus, h'.recQ.trans h.recQ⟩

theorem setReg (w : W) {k : Nat} (v : Word) (hk : k ∈ recordRegs) : RecordSide w (w.setReg k v) :=
  ⟨fun _ hj => W.reg_setReg_ne w v fun h => hj (h ▸ hk), rfl, rfl⟩

theorem setFld (w : W) {k : Nat} (f : Fld) (v : Nat) (hk : k ∈ recordRegs) : RecordSide w (w.setFld k f v) :=
  setReg w _ hk

theorem setFlag (w : W) {k : Nat} (f : Fld) (b : Bool) (hk : k ∈ recordRegs) : RecordSide w (w.setFlag k f b) :=
  setReg w _ hk

theorem count (w : W) {k : Nat} (n : Nat) (hk : k ∈ recordRegs) : RecordSide w (w.count k n) :=
  ⟨fun _ hj => W.count_reg_ne w n fun h => hj (h ▸ hk), W.count_c_bus w k n,
    W.countW_keeps (fun w => w.c.recQ) (fun _ _ _ => rfl) (fun _ _ => rfl) _ _ _ _⟩

theorem when (w : W) (b : Bool) {f : W → W} (h : RecordSide w (f w)) : RecordSide w (w.when b f) := by
  cases b
  · exact refl w
  · exact h

theorem pend (w : W) {id : Nat} (hk : Reg.IC_SRC (id - 64) ∈ recordRegs) : RecordSide w (w.pend id) := by
  obtain h | h | h := W.pend_cases w id <;> rw [h]
  · exact refl w
  · exact count w 1 (by decide)
  · exact setFlag w _ _ hk

theorem sendTriggers (w : W) : RecordSide w w.sendTriggers := by
  unfold W.sendTriggers
  refine List.foldlRecOn _ _ (refl w) fun w' h n _ => h.trans ?_
  dsimp only
  split
  · exact ⟨fun _ _ => rfl, rfl, rfl⟩
  · exact refl w'

theorem startDump (w : W) : RecordSide w w.startDump := by
  unfold W.startDump
  split
  · exact refl w
  · refine trans ?_ (setReg (k := Reg.DUMP_STATUS) _ _ (by decide))
    exact ⟨fun _ _ => rfl, rfl, rfl⟩

theorem snapLatch (w : W) (src esn : Nat) (late : Bool) : RecordSide w (w.snapLatch src esn late) := by
  unfold W.snapLatch
  split
  · exact setFld w _ _ (by decide)
  · refine trans ?_ (when _ _ (startDump _))
    refine trans ?_ (when _ _ (sendTriggers _))
    refine trans ?_ (pend (id := 294) _ (by decide))
    refine trans ?_ (setReg (k := Reg.SNAP_TIME) _ _ (by decide))
    refine trans ?_ (setFlag (k := Reg.SNAP_STATUS) _ _ _ (by decide))
    refine trans ?_ (setFlag (k := Reg.SNAP_STATUS) _ _ _ (by decide))
    refine trans ?_ (setFld (k := Reg.SNAP_STATUS) _ _ _ (by decide))
    exact ⟨fun _ _ => rfl, rfl, rfl⟩

end RecordSide

namespace W

/-- The ESN of the next record (R353). -/
def nextEsn (w : W) : Nat := (bits (w.reg Reg.FLT_ESN) 31 0 + 1) % 2 ^ 32

/-- A record at the end of CP3's queue. -/
def queueRecord (w : W) (r : List Word) : W := { w with c := { w.c with recQ := w.c.recQ ++ [r] } }

/-- What creating an error record does: it takes the next ESN, and then it is held back, under a rate limit only, or it
joins the queue; beside this only what `RecordSide` allows. -/
theorem record_cases (w : W) (b : RecBody) : ∃ w', RecordSide (w.setReg Reg.FLT_ESN (w64 w.nextEsn)) w' ∧
    ((w'.fld Reg.FLT_CFG F.FLT_CFG_RATE ≠ 0 ∧ RecordSide w' (w.record b)) ∨
      ∃ r, RecordSide (w'.queueRecord r) (w.record b)) := by
  let w₁ := (w.setReg Reg.FLT_ESN (w64 w.nextEsn)).count Reg.FLT_RECORDS 1
  refine ⟨w₁.when (w₁.recordSnaps b) (snapLatch · 1 w.nextEsn false),
    .trans (.count _ 1 (by decide)) (.when _ _ (.snapLatch _ _ _ _)), ?_⟩
  unfold record
  extract_lets esn w₂ w₃ rate key cur cur' rest
  split
  next h =>
    refine .inl ⟨h.1, .trans ?_ (.count (k := Reg.FLT_SUPPRESSED) _ 1 (by decide))⟩
    exact ⟨fun _ _ => rfl, rfl, rfl⟩
  next =>
    refine .inr ⟨sealRecord (w₃.recordWords b esn cur'.held), .trans ?_ (.pend (id := 286) _ (by decide))⟩
    exact ⟨fun _ _ => rfl, rfl, rfl⟩

/-- A record changes no register but FLT_ESN, which takes the next ESN, and `recordRegs`. -/
theorem record_reg (w : W) (b : RecBody) {j : Nat} (hj : j ∉ recordRegs) :
    (w.record b).reg j = if j = Reg.FLT_ESN then w64 w.nextEsn else w.reg j := by
  rw [← reg_setReg]
  obtain ⟨w', hs, ⟨-, h⟩ | ⟨r, h⟩⟩ := w.record_cases b
  · exact (h.reg j hj).trans (hs.reg j hj)
  · exact (h.reg j hj).trans (hs.reg j hj)

/-- A record leaves the waiting register writes alone. -/
theorem record_bus (w : W) (b : RecBody) : (w.record b).c.bus = w.c.bus := by
  obtain ⟨w', hs, ⟨-, h⟩ | ⟨r, h⟩⟩ := w.record_cases b
  · exact h.bus.trans hs.bus
  · exact h.bus.trans hs.bus

/-- With no rate limit every record joins the queue. -/
theorem record_recQ_length (w : W) (b : RecBody) (h : w.fld Reg.FLT_CFG F.FLT_CFG_RATE = 0) :
    (w.record b).c.recQ.length = w.c.recQ.length + 1 := by
  obtain ⟨w', hs, ⟨hr, -⟩ | ⟨r, hq⟩⟩ := w.record_cases b
  · have hcfg : w'.reg Reg.FLT_CFG = w.reg Reg.FLT_CFG :=
      (hs.reg _ (by decide)).trans (reg_setReg_ne w _ (by decide))
    exact absurd (by rw [fld, hcfg]; exact h) hr
  · rw [hq.recQ, queueRecord, List.length_append, hs.recQ]; rfl

/-- The ESN moves on by one, modulo 2^32. -/
theorem record_esn (w : W) (b : RecBody) :
    bits ((w.record b).reg Reg.FLT_ESN) 31 0 = (bits (w.reg Reg.FLT_ESN) 31 0 + 1) % 2 ^ 32 := by
  have hlt : w.nextEsn < 2 ^ 32 := Nat.mod_lt _ (Nat.two_pow_pos 32)
  rw [record_reg w b (by decide), if_pos rfl]
  change (w64 w.nextEsn).toNat >>> 0 % 2 ^ 32 = w.nextEsn
  rw [w64, BitVec.toNat_ofNat, Nat.shiftRight_zero]
  omega

end W

end Sys2Proof.Machine
end

section
/-! ### Accesses of the set-up region (O8): the map and the writes that are taken -/

namespace Sys2Proof.Machine

/-! #### The map -/

/-- The offset inside the row's group of registers that an offset of the block falls in. -/
def RegRow.inner (r : RegRow) (off : Nat) : Nat := if r.s1 = 0 then off - r.off else (off - r.off) % r.s1

/-- Where an offset of a block falls in a row. -/
theorem RegRow.find_eq_some {r : RegRow} {off i j b : Nat} : r.find off = some (i, j, b) ↔
    r.off ≤ off ∧ (i < r.n1 ∧ j < r.n2) ∧ i = (if r.s1 = 0 then 0 else (off - r.off) / r.s1) ∧
      j = r.inner off / r.bytes ∧ b = r.inner off % r.bytes := by
  by_cases ho : off < r.off
  · simp [RegRow.find, ho, Nat.not_le.2 ho]
  · simp only [RegRow.find, RegRow.inner, if_neg ho, Option.ite_none_right_eq_some, Option.some.injEq, Prod.mk.injEq]
    constructor
    · rintro ⟨h, rfl, rfl, rfl⟩
      exact ⟨Nat.not_lt.1 ho, h, rfl, rfl, rfl⟩
    · rintro ⟨-, h, rfl, rfl, rfl⟩
      exact ⟨h, rfl, rfl, rfl⟩

theorem RegRow.find_byte_le {r : RegRow} {off i j b : Nat} (h : r.find off = some (i, j, b)) : b ≤ off := by
  obtain ⟨-, -, -, -, rfl⟩ := RegRow.find_eq_some.1 h
  refine (Nat.mod_le _ _).trans ?_
  unfold RegRow.inner
  split
  · exact Nat.sub_le _ _
  · exact (Nat.mod_le _ _).trans (Nat.sub_le _ _)

/-- In a row of 8-byte registers the upper half of a register lies in the row too. -/
theorem RegRow.find_upper_half {r : RegRow} {off i j : Nat} (hb : r.bytes = 8) (hs : r.s1 % 8 = 0)
    (h : r.find off = some (i, j, 0)) : r.find (off + 4) = some (i, j, 4) := by
  obtain ⟨ho, hn, hi, hj, h0⟩ := RegRow.find_eq_some.1 h
  rw [hb] at hj h0
  have hd : off + 4 - r.off = off - r.off + 4 := by omega
  have hin : r.inner (off + 4) = r.inner off + 4 ∧
      (r.s1 ≠ 0 → (off - r.off + 4) / r.s1 = (off - r.off) / r.s1) := by
    unfold RegRow.inner at h0 ⊢
    by_cases h1 : r.s1 = 0
    · simp only [h1, if_true, hd, ne_eq, not_true_eq_false, false_implies, and_self]
    · rw [if_neg h1] at h0
      have hlt := Nat.mod_lt (off - r.off) (Nat.pos_of_ne_zero h1)
      have h4 : 4 % r.s1 = 4 := Nat.mod_eq_of_lt (by omega)
      have hsum : (off - r.off) % r.s1 + 4 % r.s1 < r.s1 := by omega
      rw [if_neg h1, if_neg h1, hd, Nat.add_mod_of_add_mod_lt hsum, h4, Nat.add_div_eq_of_add_mod_lt hsum,
        Nat.div_eq_of_lt (by omega : 4 < r.s1)]
      exact ⟨rfl, fun _ => rfl⟩
  refine RegRow.find_eq_some.2 ⟨by omega, hn, ?_, ?_, ?_⟩
  · rw [hi, hd]
    split
    · rfl
    · exact (hin.2 ‹_›).symm
  · rw [hin.1, hb]; omega
  · rw [hin.1, hb]; omega

theorem findRow_find {rows : List RegRow} {off i j b : Nat} {r : RegRow} (h : findRow rows off = some (r, i, j, b)) :
    r ∈ rows ∧ r.find off = some (i, j, b) := by
  induction rows with
  | nil => cases h
  | cons r' rows ih =>
    simp only [findRow] at h
    split at h
    next hf => cases h; exact ⟨List.mem_cons_self, hf⟩
    next => exact ⟨List.mem_cons_of_mem _ (ih h).1, (ih h).2⟩

theorem findRow_isSome {rows : List RegRow} {off : Nat} {r : RegRow} (hr : r ∈ rows) (h : (r.find off).isSome = true) :
    (findRow rows off).isSome = true := by
  induction rows with
  | nil => cases hr
  | cons r' rows ih =>
    simp only [findRow]
    split
    next => rfl
    next hf =>
      obtain rfl | hr := List.mem_cons.1 hr
      · rw [hf] at h; cases h
      · exact ih hr

/-- The register that serves an offset lies in the offset's block. -/
theorem regAt_block {k kb b : Nat} {r : RegRow} (h : regAt k = some (r, kb, b)) : ∃ rows off i j,
    regBlock k = some (rows, off) ∧ findRow rows off = some (r, i, j, b) ∧ kb = k - b := by
  unfold regAt at h
  split at h
  · cases h
  next rows off hb =>
    obtain ⟨⟨r', i, j, b'⟩, hf, he⟩ := Option.map_eq_some_iff.1 h
    cases he
    exact ⟨rows, off, i, j, hb, hf, rfl⟩

/-- The offset in a block is the address's own: below 0x2000000 a block has 0x100000 bytes, above no slot has more. -/
theorem regBlock_off {k off : Nat} {rows : List RegRow} (h : regBlock k = some (rows, off)) :
    (k < 0x2000000 ∧ off ≤ k % 0x100000) ∨ (0x10000000 ≤ k ∧ off < 0x100000) := by
  unfold regBlock at h
  split at h
  next hk =>
    refine .inl ⟨hk, ?_⟩
    dsimp only at h
    split at h
    case h_10 =>
      split at h <;> cases h
      · exact Nat.le_of_lt_succ (by omega)
      · exact Nat.sub_le _ _
    case h_17 => cases h
    all_goals cases h; exact le_rfl
  next =>
    dsimp only at h
    split_ifs at h <;> cases h <;> omega

/-- A register of the power block is served by a row of it. -/
theorem regBlock_pwr {k : Nat} (hlo : 0xE00000 ≤ k) (hhi : k < 0xF00000) :
    regBlock k = some (RegMap.pwrRows, k % 0x100000) := by
  rw [regBlock, if_pos (by omega), show k / 0x100000 = 14 by omega]
  rfl

/-- An address that a register of the power block serves lies in the block. -/
theorem pwr_of_regAt {k kb b : Nat} {r : RegRow} (h : regAt k = some (r, kb, b)) (hlo : 0xE00000 ≤ kb)
    (hhi : kb < 0xF00000) : 0xE00000 ≤ k ∧ k < 0xF00000 ∧
      ∃ i j, findRow RegMap.pwrRows (k % 0x100000) = some (r, i, j, b) := by
  obtain ⟨rows, off, i, j, hb, hf, rfl⟩ := regAt_block h
  have hoff := RegRow.find_byte_le (findRow_find hf).2
  have hk : 0xE00000 ≤ k ∧ k < 0xF00000 := by
    obtain ⟨_, ho⟩ | ⟨_, ho⟩ := regBlock_off hb <;> omega
  rw [regBlock_pwr hk.1 hk.2] at hb
  cases hb
  exact ⟨hk.1, hk.2, i, j, hf⟩

theorem pwrRows_s1 : ∀ r ∈ RegMap.pwrRows, r.s1 % 8 = 0 := by decide

/-- Both halves of a 64-bit register of the power block answer. -/
theorem regAt_pwr_upper_half {k i j : Nat} {r : RegRow} (hlo : 0xE00000 ≤ k) (hhi : k < 0xF00000) (h8 : k % 8 = 0)
    (hr : r.bytes = 8) (hf : findRow RegMap.pwrRows (k % 0x100000) = some (r, i, j, 0)) :
    (regAt (k + 4)).isSome = true := by
  obtain ⟨hm, hfind⟩ := findRow_find hf
  have hup := RegRow.find_upper_half hr (pwrRows_s1 r hm) hfind
  rw [regAt, regBlock_pwr (by omega) (by omega), show (k + 4) % 0x100000 = k % 0x100000 + 4 by omega]
  simpa using findRow_isSome hm (by rw [hup]; rfl)

/-! #### Fields by access code -/

/-- A row has no bits of an access code if none of its fields of that code has any. -/
theorem RegRow.maskOf_eq_zero_iff (r : RegRow) (f : Access → Bool) :
    r.maskOf f = 0 ↔ ∀ x ∈ r.fields, f x.acc = true → 2 ^ (x.hi + 1) - 2 ^ x.lo = 0 := by
  have hfold : ∀ (l : List RegField) (a : Nat),
      l.foldl (fun (a : Nat) x => if f x.acc then a ||| (2 ^ (x.hi + 1) - 2 ^ x.lo) else a) a = 0 ↔
        a = 0 ∧ ∀ x ∈ l, f x.acc = true → 2 ^ (x.hi + 1) - 2 ^ x.lo = 0 := by
    intro l
    induction l with
    | nil => simp
    | cons x l ih =>
      intro a
      rw [List.foldl_cons, ih, List.forall_mem_cons]
      by_cases hx : f x.acc = true
      · simp only [hx, if_true, Nat.or_eq_zero_iff, true_imp_iff, and_assoc]
      · simp only [hx, if_false, false_imp_iff, true_and, Bool.false_eq_true]
  exact (hfold r.fields 0).trans ⟨fun h => h.2, fun h => ⟨rfl, h⟩⟩

theorem RegRow.maskOf_eq_zero_of_imp {r : RegRow} {f g : Access → Bool} (hfg : ∀ a, f a = true → g a = true)
    (h : r.maskOf g = 0) : r.maskOf f = 0 :=
  (r.maskOf_eq_zero_iff f).2 fun x hx hf => (r.maskOf_eq_zero_iff g).1 h x hx (hfg _ hf)

namespace W

/-! #### Writes -/

/-- A plain write of a register without W1C and W1S fields sets its RW fields. -/
theorem plainWrite_of_rw (w : W) (x : RegWr) (h : x.row.maskOf (fun a => a == .w1c || a == .w1s) = 0) :
    w.plainWrite x = w.setReg x.k (w.rwMerged x) := by
  have hc : x.row.maskOf (· == .w1c) = 0 := RegRow.maskOf_eq_zero_of_imp (fun _ ha => Bool.or_eq_true_iff.2 (.inl ha)) h
  have hs : x.row.maskOf (· == .w1s) = 0 := RegRow.maskOf_eq_zero_of_imp (fun _ ha => Bool.or_eq_true_iff.2 (.inr ha)) h
  simp only [plainWrite, hc, hs]
  congr 1
  rw [show w64 0 = 0#64 from rfl, BitVec.zero_and, BitVec.or_zero, BitVec.not_zero, BitVec.and_allOnes]

/-- The RW fields of the bits written, as written; every other bit as it was. -/
theorem rwMerged_eq (w : W) (x : RegWr) : w.rwMerged x =
    (w.reg x.k &&& ~~~(w64 (x.row.maskOf (· == .rw) &&& x.m))) ||| (w64 x.v &&& w64 (x.row.maskOf (· == .rw) &&& x.m)) := by
  simp only [rwMerged, RegWr.word, w64, BitVec.ofNat_and]
  congr 1
  rw [BitVec.and_assoc]
  congr 1
  rw [← BitVec.and_assoc, BitVec.and_comm (BitVec.ofNat 64 x.m), BitVec.and_assoc, BitVec.and_self]

/-- A write in the power block is an action only at PWR_CNT_CLR. -/
theorem regWrite1_pwr (w : W) (x : RegWr) (hlo : 0xE00000 ≤ x.k) (hhi : x.k < 0xF00000) (hc : x.k ≠ Reg.PWR_CNT_CLR) :
    w.regWrite1 x = w.plainWrite x := by
  rw [regWrite1, if_neg (by omega), if_neg (by omega), show x.k / 0x100000 = 14 by omega]
  exact if_neg hc

/-- A write of one register: a 32-bit one, or one of a whole 64-bit register. -/
theorem regWrite_one (w : W) {k kb b size v : Nat} {r : RegRow} (req : Word) (hr : w.regFor k = some (r, kb, b))
    (hsize : size = 4 ∨ size = 8 ∧ b = 0 ∧ r.bytes = 8) : w.regWrite (k, size, v % 2 ^ (8 * size), req) =
      w.regWrite1 ⟨r, kb, (2 ^ (8 * size) - 1) * 2 ^ (8 * b), v % 2 ^ (8 * size) * 2 ^ (8 * b), req⟩ := by
  obtain rfl | ⟨rfl, rfl, h8⟩ := hsize
  · simp [regWrite, regWrite32, hr]
  · simp [regWrite, hr, h8]

/-- The accesses that R6 does not perform. -/
theorem misaligned_iff (k size : Nat) : (!(size == 4 || size == 8) || k % size != 0) = true ↔
    (size ≠ 4 ∧ size ≠ 8) ∨ k % size ≠ 0 := by
  simp only [Bool.or_eq_true, Bool.not_eq_true', Bool.or_eq_false_iff, beq_eq_false_iff_ne, bne_iff_ne]

/-- A write that is taken joins the writes that wait. -/
theorem setupWrite_taken (w : W) {k size : Nat} (v : Nat) (req : Word) (hs : size = 4 ∨ size = 8) (ha : k % size = 0)
    (hk : k < 0x800000000) (hr : (w.regFor k).isSome = true) (hr' : size = 8 → (w.regFor (k + 4)).isSome = true) :
    w.setupWrite k size v req =
      (true, { w with c := { w.c with bus := w.c.bus ++ [(k, size, v % 2 ^ (8 * size), req)] } }) := by
  have hno : ¬ ((w.regFor k).isNone || (size == 8 && (w.regFor (k + 4)).isNone)) = true := by
    simp only [Bool.or_eq_true, Bool.and_eq_true, beq_iff_eq, Option.isNone_iff_eq_none, not_or, not_and,
      ← Option.isSome_iff_ne_none]
    exact ⟨hr, hr'⟩
  rw [setupWrite, if_neg (by rw [misaligned_iff]; omega), if_neg (by omega), if_neg hno]

/-- The end of a command that took one register write. -/
theorem flushBus_one (w : W) (x : Nat × Nat × Nat × Word) (h : w.c.bus = []) :
    ({ w with c := { w.c with bus := w.c.bus ++ [x] } } : W).flushBus = w.regWrite x := by
  simp only [flushBus, h, List.nil_append, List.foldl_cons, List.foldl_nil]
  rw [← h]

/-- An access of another size, or not aligned, is not performed: a record is all that comes of it (R6). -/
theorem setup_misaligned (w : W) {k size : Nat} (v : Nat) (req : Word) (h : (size ≠ 4 ∧ size ≠ 8) ∨ k % size ≠ 0) :
    w.setupRead k size req = (some 0, w.recordAccess 1 k req) ∧
      w.setupWrite k size v req = (true, w.recordAccess 1 k req) :=
  ⟨if_pos ((misaligned_iff k size).2 h), if_pos ((misaligned_iff k size).2 h)⟩

theorem regFor_vestibule (w : W) {k : Nat} (h : k < 0x10000000) : w.regFor k = regAt k := by
  rw [regFor, slotAnswers, if_pos h, if_pos rfl]

end W

/-! #### The obligation -/

/-- A register write is what it has taken, carried out at its end. -/
theorem exec_registerWrite {s : State} (h : s.aux = true) (k size : Nat) (v req : Word) :
    exec (.registerWrite k size v req) s = .next (s.after (s.w.setupWrite k size v.toNat req).2.flushBus) :=
  runAux_aux h fun w => (w.setupWrite k size v.toNat req).2.flushBus

/-- An aligned write in the power block that is no action sets the register's RW fields. -/
theorem exec_registerWrite_pwr {s : State} {k b size : Nat} {r : RegRow} (v req : Word) (ha : s.aux = true)
    (hbus : s.chip.bus = []) (hr : regAt k = some (r, k - b, b)) (hlo : 0xE00000 ≤ k - b)
    (hhi : k - b < 0xF00000) (hc : k - b ≠ Reg.PWR_CNT_CLR)
    (hm : r.maskOf (fun a => a == .w1c || a == .w1s) = 0)
    (hsize : (size = 4 ∧ k % 4 = 0) ∨ (size = 8 ∧ k % 8 = 0 ∧ b = 0 ∧ r.bytes = 8)) :
    exec (.registerWrite k size v req) s = .next (s.after (s.w.setReg (k - b) (s.w.rwMerged
      ⟨r, k - b, (2 ^ (8 * size) - 1) * 2 ^ (8 * b), v.toNat % 2 ^ (8 * size) * 2 ^ (8 * b), req⟩))) := by
  obtain ⟨hklo, hkhi, i, j, hf⟩ := pwr_of_regAt hr hlo hhi
  have hfor : s.w.regFor k = some (r, k - b, b) := (s.w.regFor_vestibule (by omega)).trans hr
  have hupper : size = 8 → (s.w.regFor (k + 4)).isSome = true := by
    intro h8
    obtain ⟨h4, -⟩ | ⟨-, hk8, rfl, h64⟩ := hsize
    · omega
    · rw [s.w.regFor_vestibule (by omega)]
      exact regAt_pwr_upper_half hklo hkhi hk8 h64 hf
  have hone : size = 4 ∨ size = 8 ∧ b = 0 ∧ r.bytes = 8 := hsize.imp And.left fun h => ⟨h.1, h.2.2⟩
  have halign : k % size = 0 := by
    obtain ⟨rfl, h⟩ | ⟨rfl, h, -⟩ := hsize
    · exact h
    · exact h
  rw [exec_registerWrite ha, s.w.setupWrite_taken _ _ (hone.imp_right And.left) halign (by omega) (by rw [hfor]; rfl) hupper,
    W.flushBus_one _ _ hbus, W.regWrite_one _ req hfor hone, W.regWrite1_pwr _ _ hlo hhi hc, W.plainWrite_of_rw _ _ hm]

/-- Settles O8: a misaligned access is one error record (`setup_misaligned`, `record_cases`), an aligned write in the power
block one plain write (`exec_registerWrite_pwr`). -/
theorem registerAccessesMustBeAligned : Obligations.RegisterAccessesMustBeAligned := by
  unfold Obligations.RegisterAccessesMustBeAligned
  refine ⟨fun s k b size r v req ha hbus hr _ hlo hhi hc hm hsize => ?_, fun s k size v req hmis => ?_⟩
  · rw [exec_registerWrite_pwr v req ha hbus hr hlo hhi hc hm hsize, W.rwMerged_eq]
  · obtain ⟨hread, hwrite⟩ := s.w.setup_misaligned v.toNat req hmis
    refine ⟨hread, hwrite, fun ha hbus => ?_, s.w.record_esn _, s.w.record_recQ_length _⟩
    have hbus' : (s.w.recordAccess 1 k req).c.bus = [] := (s.w.record_bus _).trans hbus
    refine ⟨hbus', ?_⟩
    rw [exec_registerWrite ha, hwrite, W.flushBus_nil _ hbus']
    rfl

end Sys2Proof.Machine
end
section
/-! ### Commands of units the part does not have (O3, O4)

`Instr.wf` takes every port code below 9 at every landing, while a head flit's meaning asks for a port that this landing has
(R117). The landings of row 0 have no north port, so a head flit from there is well formed and still faults. -/

namespace Sys2Proof.Machine

/-- A command of a unit that the part does not have stops by name. -/
theorem runOn_missing {ok : Bool} (h : ok = false) (s : State) (f : W → W) : runOn ok s f = .fault .noSuchUnit := by
  rw [runOn, h, if_neg Bool.false_ne_true]

/-- The grid ends north of row 0 (R117). -/
theorem portHere_north_of_row_zero {l : Nat} (h : rowOf l = 0) : portHere l 1 = false := by
  have hn : neighbour l 1 = none := if_pos h
  exact congrArg Option.isSome hn

/-- A head flit from a port that its landing does not have faults. -/
theorem exec_lndHeadFlit_of_absent_port {l port : Nat} (h : portHere l port = false) (t : Packet) (pre : Nat) (u : FlitUpset)
    (s : State) : exec (.lndHeadFlit l port t pre u) s = .fault .noSuchUnit :=
  runOn_missing (by rw [h, Bool.and_false]) s _

/-- Refutes O3: the head flit from the north at landing 0 is well formed, and carried out at reset it faults. -/
theorem not_commandsCompleteOrNameTheMissingUnit : ¬ Obligations.CommandsCompleteOrNameTheMissingUnit := by
  unfold Obligations.CommandsCompleteOrNameTheMissingUnit
  intro h
  have hwf : (Instr.lndHeadFlit 0 1 {} 0 .none).wf = true := rfl
  obtain ⟨t, hnext⟩ := (h _ State.reset).1 hwf
  have hfault := exec_lndHeadFlit_of_absent_port (portHere_north_of_row_zero (l := 0) rfl) {} 0 .none State.reset
  cases hfault.symm.trans hnext

/-- Refutes O4: with the head flit from the north at landing 0 waiting in the part as reset leaves it, the state is safe and
the step faults. -/
theorem not_safeRunsNeverStop : ¬ Obligations.SafeRunsNeverStop := by
  unfold Obligations.SafeRunsNeverStop
  intro h
  have hsafe : ({ State.reset with pending := [.lndHeadFlit 0 1 {} 0 .none] } : State).safe = true := rfl
  obtain ⟨t, hnext, -⟩ := h _ hsafe
  have hfault := exec_lndHeadFlit_of_absent_port (portHere_north_of_row_zero (l := 0) rfl) {} 0 .none State.reset
  cases hfault.symm.trans hnext

end Sys2Proof.Machine
end
section
/-! ### A tile's next block (O11): the arithmetic of an INT8 block

The grid of accumulators and the grid of block sums each read back cell by cell; R46's exact sum modulo 2^32 is then a
congruence. -/

namespace Sys2Proof.Machine

/-! #### Two's complement -/

theorem unsigned_cast (n : Nat) (i : Int) : (unsigned n i : Int) = i % ((2 ^ n : Nat) : Int) :=
  Int.toNat_of_nonneg (Int.emod_nonneg _ (by positivity))

/-- A pattern and the number it stands for differ by a multiple of 2^n. -/
theorem signed_modEq (n v : Nat) : signed n v ≡ v [ZMOD (2 ^ n : Nat)] := by
  have hmod : ((v % 2 ^ n : Nat) : Int) ≡ v [ZMOD (2 ^ n : Nat)] := by
    rw [Int.natCast_mod]; exact Int.mod_modEq _ _
  unfold signed
  split
  · exact hmod
  · exact (Int.sub_emod_right _ _).trans hmod

/-- A sum kept in an accumulator is the exact sum, wrapped. -/
theorem unsigned_signed_add (n v : Nat) (d : Int) :
    (unsigned n (signed n v + d) : Int) = (v + d) % ((2 ^ n : Nat) : Int) :=
  (unsigned_cast _ _).trans ((signed_modEq n v).add_right d)

/-! #### Grids -/

theorem getD_map_range {α : Type} (f : Nat → α) (d : α) {n i : Nat} (h : i < n) :
    ((List.range n).map f).getD i d = f i := by
  simp [List.getD_eq_getElem?_getD, h]

theorem getD_map_zipIdx {α β : Type} (l : List α) (f : α × Nat → β) (a : α) (d : β) {i : Nat} (h : i < l.length) :
    (l.zipIdx.map f).getD i d = f (l.getD i a, i) := by
  simp [List.getD_eq_getElem?_getD, h]

/-- Rows of `n` cells, one after the other: cell (i, j) is at place n i + j. -/
theorem getD_flatMap_range {α : Type} (f : Nat → Nat → α) (d : α) {m n i j : Nat} (hi : i < m) (hj : j < n) :
    ((List.range m).flatMap fun i => (List.range n).map (f i)).getD (n * i + j) d = f i j := by
  induction m with
  | zero => cases hi
  | succ m ih =>
    have hlen : ((List.range m).flatMap fun i => (List.range n).map (f i)).length = n * m := by
      simp [List.length_flatMap, Nat.mul_comm]
    rw [List.range_succ, List.flatMap_append, List.flatMap_singleton]
    obtain hlt | rfl := Nat.lt_succ_iff_lt_or_eq.1 hi
    · have hin : n * i + j < n * m :=
        calc n * i + j < n * (i + 1) := by rw [Nat.mul_succ]; omega
          _ ≤ n * m := Nat.mul_le_mul_left n hlt
      rw [List.getD_append _ _ _ _ (hlen ▸ hin), ih hlt]
    · rw [List.getD_append_right _ _ _ _ (hlen ▸ Nat.le_add_right _ _), hlen, Nat.add_sub_cancel_left,
        getD_map_range _ _ hj]

theorem accGrid_getD (f : Nat → Nat → Nat) {i j : Nat} (hi : i < 65) (hj : j < 65) :
    (accGrid f).getD (65 * i + j) 0 = f i j := getD_flatMap_range f 0 hi hj

/-- With no flip the accumulator of PE(i, j) is the product sum of its two lines (R43). -/
theorem blockSums_getD (ow : Nat) {as bs : List (List Int)} {i j : Nat} (hi : i < as.length) (hj : j < bs.length) :
    ((blockSums ow as bs []).getD i []).getD j 0 = dot (as.getD i []) (bs.getD j []) := by
  have hi' : i < (withSums as).length := by simp [withSums]; omega
  have hj' : j < (withSums bs).length := by simp [withSums]; omega
  simp only [blockSums]
  rw [getD_map_zipIdx _ _ [] _ hi', getD_map_zipIdx _ _ [] _ hj', withSums, withSums, List.getD_append _ _ _ _ hi,
    List.getD_append _ _ _ _ hj]
  rfl

/-- R46: an accumulator of an INT8 tile takes the exact sum of its 32 products, modulo 2^32. -/
theorem intBlock_getD (t : Tile) (o : BlockOps) {i j : Nat} (ha : o.a.length = 64) (hb : o.b.length = 64) (hi : i < 64)
    (hj : j < 64) : ((intBlock t o []).getD (65 * i + j) 0 : Int) =
      (t.at i j + dot ((o.a.getD i []).map (signed 8)) ((o.b.getD j []).map (signed 8))) % (2 ^ 32 : Int) := by
  have hcell : (intBlock t o []).getD (65 * i + j) 0 = unsigned 32 (signed 32 (t.at i j) +
      ((blockSums (checkWidth .int8) (o.a.map (·.map (signed 8))) (o.b.map (·.map (signed 8))) []).getD i []).getD j 0) :=
    accGrid_getD _ (by omega) (by omega)
  rw [hcell, unsigned_signed_add, blockSums_getD _ (by simpa [ha] using hi) (by simpa [hb] using hj)]
  exact congrArg₂ (fun x y => ((t.at i j : Int) + dot x y) % (2 ^ 32 : Int))
    (List.getD_map _ [] _) (List.getD_map _ [] _)

end Sys2Proof.Machine
end
section
/-! ### A tile's next block and its drain (O11): the commands -/

namespace Sys2Proof.Machine

namespace W

/-! #### What a block meets, and what it counts -/

/-- An injection that is not armed makes no flip. -/
theorem mcInjection_unarmed {w : W} {p n : Nat} (h : w.flag (Reg.MC_INJECT p n) F.MC_INJECT_ARM = false) (f : Fmt) :
    w.mcInjection p n f = ([], w) := by
  simp [mcInjection, h]

/-- Where no byte holds a parity error, staging meets the upset. -/
theorem mcStaged_intact {w : W} (h : w.bad = []) (p n : Nat) (x : McCmd) (fa fb : Fmt) (b : Nat) (u : McUpset) :
    w.mcStaged p n x fa fb b u = u := by
  simp [mcStaged, mcRunBad, h]

/-- Steps that are not the last of a command do not wait for the corner. -/
theorem mcArrayCycles_not_last (w : W) (p n c : Nat) : w.mcArrayCycles p n c false = 32 * c := rfl

@[simp] theorem mcEvents_mc (w : W) (p n : Nat) (e : Ev) (a b : Nat) : (w.mcEvents p n e).mc a b = w.mc a b := by
  simp [mcEvents]

/-- No event leaves every register as it was. -/
theorem reg_count_zero (w : W) (k j : Nat) : (w.count k 0).reg j = w.reg j := by
  have hroom : bits (w.reg k) 47 0 + 0 ≤ 2 ^ 48 - 1 :=
    Nat.le_sub_one_of_lt (Nat.mod_lt _ (Nat.two_pow_pos 48))
  rw [count, w.countW_of_le hroom, Nat.add_zero, putBits_bits, reg_setReg]
  split
  · subst_vars; rfl
  · rfl

theorem reg_mcEvents_none (w : W) (p n j : Nat) : (w.mcEvents p n {}).reg j = w.reg j := by
  simp only [mcEvents, reg_count_zero]

end W

/-! #### The next 32 steps -/

/-- What 32 steps of a tile give where nothing is upset: the verdict of the exact checks, which only an MX tile has before
its drain, the accumulators and the events (R43 to R47, R61). -/
def blockResult (t : Tile) (o : BlockOps) : Option Verdict × List Nat × Ev :=
  if t.fmtA.isMx then mxBlock t o [] else if t.fmtA = .int8 then (none, intBlock t o [], {}) else (none, fpBlock t o [])

theorem blockResult_mx {t : Tile} (h : t.fmtA.isMx = true) (o : BlockOps) : blockResult t o = mxBlock t o [] := if_pos h

theorem blockResult_int8 {t : Tile} (h : t.fmtA = .int8) (o : BlockOps) :
    blockResult t o = (none, intBlock t o [], {}) := by
  rw [blockResult, h, if_neg (by decide), if_pos rfl]

theorem blockResult_fp {t : Tile} (h : t.fmtA = .bf16 ∨ t.fmtA = .fp16) (o : BlockOps) :
    blockResult t o = (none, fpBlock t o []) := by
  obtain h | h := h <;> rw [blockResult, h, if_neg (by decide), if_neg (by decide)]

/-- The part after a block of core `n` of gallery `p`: where a check fails the tile is aborted and the core halts (R67), else
the tile takes the block's result and its command goes on. `w` is the part with the block's cycles counted, `m` the core
before the block. -/
def W.blockClosed (w : W) (p n : Nat) (m : MCore) (t : Tile) (o : BlockOps) : Option Verdict × List Nat × Ev → W
  | (none, acc, ev) => (w.mcEvents p n ev).setMc p n { m with blk := m.blk + 1, tile := some { t with
      acc := acc, k := t.k + 32, blocks := t.blocks + 1, eA := maxWith t.eA t.fmtA o.a, eB := maxWith t.eB t.fmtB o.b } }
  | (some v, _, _) => ((w.setMc p n { m with tile := none, cmd := none, ahead := none, nullsCmd := 0 }).mcFail p n false
      t.tag t.blocks (1 + v.kind) v.row v.col (w64 (unsigned 64 v.delta))).mcSync p n

/-- Core `n` of gallery `p` may advance its tile `t` under the command `ws`, which goes on after these 32 steps; nothing
is injected and no stored parity is wrong. -/
structure BlockGoesOn (s : State) (p n : Nat) (t : Tile) (ws : List Word) : Prop where
  live : s.live = true
  gal : p < 312
  core : n < 8
  runs : s.w.mcRuns p n = true
  awake : s.w.mcHalted p n = false
  tile : (s.w.mc p n).tile = some t
  cmd : (s.w.mc p n).cmd = some ws
  intact : s.badPar = []
  unarmed : s.w.flag (Reg.MC_INJECT p n) F.MC_INJECT_ARM = false
  more : 32 * ((s.w.mc p n).blk + 1) < (McCmd.ofWords ws).k

/-- The block is closed with its result. -/
theorem BlockGoesOn.doMcBlock_eq {s : State} {p n : Nat} {t : Tile} {ws : List Word} (h : BlockGoesOn s p n t ws) :
    let o := s.w.mcOperands p n (McCmd.ofWords ws) t.fmtA t.fmtB (s.w.mc p n).blk
    s.w.doMcBlock p n .none = (s.w.count (Reg.MC_BUSY_CYCLES p n) (32 * mcCycles t.fmtA t.fmtB)).blockClosed p n
      (s.w.mc p n) t o (blockResult t o) := by
  intro o
  have hlast : decide ((McCmd.ofWords ws).k ≤ 32 * ((s.w.mc p n).blk + 1)) = false :=
    decide_eq_false (Nat.not_le.2 h.more)
  have hacc : (if t.fmtA.isMx = true then accUpset [] else none) = none := ite_self _
  have hstaged := W.mcStaged_intact (w := s.w) h.intact p n (McCmd.ofWords ws) t.fmtA t.fmtB (s.w.mc p n).blk .none
  rcases hr : blockResult t o with ⟨verdict, acc, ev⟩
  unfold blockResult at hr
  simp only [W.doMcBlock, h.tile, h.cmd, hlast, h.awake, hstaged, W.mcInjection_unarmed h.unarmed,
    upsetFlips, List.append_nil, W.mcArrayCycles_not_last, Bool.false_and, Bool.or_false, Bool.false_eq_true, if_false]
  rw [hr, hacc]
  cases verdict with
  | none => simp [W.blockClosed, h.cmd, o]
  | some v => rfl

theorem BlockGoesOn.exec_mcBlockClose {s : State} {p n : Nat} {t : Tile} {ws : List Word} (h : BlockGoesOn s p n t ws) :
    let o := s.w.mcOperands p n (McCmd.ofWords ws) t.fmtA t.fmtB (s.w.mc p n).blk
    exec (.mcBlockClose p n .none) s = .next (s.after
      ((s.w.count (Reg.MC_BUSY_CYCLES p n) (32 * mcCycles t.fmtA t.fmtB)).blockClosed p n (s.w.mc p n) t o
        (blockResult t o))) := by
  refine (runOn_live h.live (mcOk_of h.gal h.core) _).trans ?_
  rw [W.when, if_pos h.runs, h.doMcBlock_eq]

/-! #### The drain -/

/-- A tile of MX operands has no check of its own at the drain: where no shadow is upset it completes (R65, R68). -/
theorem W.doMcDrain_mx {w : W} {p n : Nat} {t : Tile} (hd : (w.mc p n).draining = some t) (hmx : t.fmtA.isMx = true) :
    w.doMcDrain p n .none = ((((((w.mcWriteResult p n t).count (Reg.MC_CHECK_SKIP p n) 0).setMc p n { w.mc p n with
      draining := none, nullsDrain := 0 }).mcSync p n).unitSend p n 0 0 (W.completionData t.tag 0)).count
      (Reg.MC_TILES p n) 1).mcNulls p n (w.mc p n).nullsDrain := by
  simp [W.doMcDrain, hd, hmx, upsetFlips]

theorem exec_mcDrain_mx {s : State} {p n : Nat} {t : Tile} (hl : s.live = true) (hp : p < 312) (hn : n < 8)
    (hr : s.w.mcRuns p n = true) (hd : (s.w.mc p n).draining = some t) (hmx : t.fmtA.isMx = true) :
    exec (.mcDrain p n .none) s = .next (s.after
      (((((((s.w.mcWriteResult p n t).count (Reg.MC_CHECK_SKIP p n) 0).setMc p n { s.w.mc p n with
        draining := none, nullsDrain := 0 }).mcSync p n).unitSend p n 0 0 (W.completionData t.tag 0)).count
        (Reg.MC_TILES p n) 1).mcNulls p n (s.w.mc p n).nullsDrain)) := by
  refine (runOn_live hl (mcOk_of hp hn) _).trans ?_
  rw [W.when, if_pos hr, W.doMcDrain_mx hd hmx]

/-! #### The obligation -/

/-- Settles O11: one block closes with its result (`BlockGoesOn.exec_mcBlockClose`), which for INT8 is the exact sum modulo
2^32 (`intBlock_getD`) without an event, and an MX tile drains unchecked (`W.doMcDrain_mx`). -/
theorem tilesAdvanceAndDrain : Obligations.TilesAdvanceAndDrain := by
  unfold Obligations.TilesAdvanceAndDrain
  refine ⟨fun s p n t ws hl hp hn hr hh ht hc hb hi => ?_, fun s p n t hl hp hn hr hd hmx =>
    exec_mcDrain_mx hl hp hn hr hd hmx⟩
  dsimp only
  intro hmore
  have h : BlockGoesOn s p n t ws := ⟨hl, hp, hn, hr, hh, ht, hc, hb, hi, hmore⟩
  refine ⟨fun hmx => ?_, fun hint => ⟨?_, W.reg_mcEvents_none _ p n, fun i j => intBlock_getD t _ ?_ ?_⟩, fun hfp => ?_⟩
  · rw [h.exec_mcBlockClose, blockResult_mx hmx]
    rcases mxBlock t _ [] with ⟨_ | v, acc, ev⟩ <;> rfl
  · rw [h.exec_mcBlockClose, blockResult_int8 hint]; rfl
  · simp [W.mcOperands]
  · simp [W.mcOperands]
  · rw [h.exec_mcBlockClose, blockResult_fp hfp]; rfl

end Sys2Proof.Machine
end
section
/-! ### What a matrix core does with its queue (O10)

A command or a null token is taken from queue 0 only by a core that runs, is enabled, is not halted and holds nothing
decoded ahead (R53, R56, R71). -/

namespace Sys2Proof.Machine

/-- Core `n` of gallery `p` takes from its queue 0, whose head is `t0`; popped, it is `t` and leaves the part as `w`. -/
structure McTakes (v : W) (p n : Nat) (t0 t : Packet) (w : W) : Prop where
  runs : v.mcRuns p n = true
  enabled : v.flag (Reg.MC_CFG p n) F.MC_CFG_EN = true
  awake : v.mcHalted p n = false
  vacant : (v.mc p n).ahead = none
  head : v.head p n 0 = some t0
  pop : v.pop p n 0 = some (t, w)

namespace W

/-! #### Commands -/

/-- A well-formed command begins where the core has none, and is held decoded ahead where it has one (R53, R71). -/
theorem doMma_wellFormed {v w : W} {p n : Nat} {t0 t : Packet} (h : McTakes v p n t0 t w) (hnull : isNull t0 = false)
    (hok : mcCmdOk t.len ((List.range 4).map (payWord t.data)) (w.mcOpened p n) = true) :
    v.doMma p n .none = if (v.mc p n).cmd.isSome
      then w.setMc p n { v.mc p n with ahead := some ((List.range 4).map (payWord t.data), false) }
      else w.mcBegin p n ((List.range 4).map (payWord t.data)) := by
  simp [doMma, h.runs, h.enabled, h.awake, h.vacant, h.head, h.pop, hnull, hok]

/-- A command without INIT opens its tile with the accumulators at zero where none is open (R54). -/
theorem mcBegin_opens {w : W} {p n : Nat} {ws : List Word} {a b o : Fmt} (htile : (w.mc p n).tile = none)
    (hinit : (McCmd.ofWords ws).init = false) (ha : Fmt.ofCode (McCmd.ofWords ws).fmtA = some a)
    (hb : Fmt.ofCode (McCmd.ofWords ws).fmtB = some b) (ho : Fmt.ofCode (McCmd.ofWords ws).fmtOut = some o) :
    w.mcBegin p n ws = (w.setMc p n { w.mc p n with
      tile := some (openTile a b o (McCmd.ofWords ws).tag none), cmd := some ws, blk := 0 }).mcSync p n := by
  simp [mcBegin, htile, hinit, ha, hb, ho]

/-- The fault of a command decoded ahead takes effect in a core that takes commands and has no tile in work (R53, R71). -/
theorem doMcDeferred_free {w : W} {p n : Nat} {ws : List Word} (hen : w.flag (Reg.MC_CFG p n) F.MC_CFG_EN = true)
    (hawake : w.mcHalted p n = false) (hahead : (w.mc p n).ahead = some (ws, true)) (hcmd : (w.mc p n).cmd = none)
    (hdrain : (w.mc p n).draining = none) :
    w.doMcDeferred p n =
      (w.setMc p n { w.mc p n with ahead := none }).mcCmdFault p n (McCmd.ofWords ws).tag := by
  simp [doMcDeferred, hen, hawake, hahead, hcmd, hdrain, McCmd.ofWords]

/-! #### Null tokens -/

/-- A null token that no tile goes before is counted, and one goes out (R56). -/
theorem doMcNull_free {v w : W} {p n : Nat} {t0 t : Packet} (h : McTakes v p n t0 t w) (hnull : isNull t0 = true)
    (hcmd : (w.mc p n).cmd = none) (hdrain : (w.mc p n).draining = none) :
    v.doMcNull p n = (w.count (Reg.MC_NULL_SKIP p n) 1).unitSend p n 0 1 [] := by
  simp [doMcNull, h.runs, h.enabled, h.awake, h.vacant, h.head, h.pop, hnull, hcmd, hdrain]

/-! #### Injections -/

theorem injectOk_iff (w : W) (p : Nat) :
    w.injectOk p = true ↔ w.pstate p = 2 ∨ w.flag Reg.SEC_STATUS F.SEC_STATUS_DEBUG = true := by
  rw [injectOk, Bool.or_eq_true, beq_iff_eq]

theorem writeInject_allowed {w : W} {p : Nat} (h : w.pstate p = 2 ∨ w.flag Reg.SEC_STATUS F.SEC_STATUS_DEBUG = true)
    (k : Nat) (v : Word) (mask : Nat) (req : Word) :
    w.writeInject p k v.toNat mask req = w.setReg k (putBit (w64 (v.toNat &&& mask)) 31 (bit v 31 || bit (w.reg k) 31)) :=
  if_pos ((w.injectOk_iff p).2 h)

theorem writeInject_barred {w : W} {p : Nat} (h : w.pstate p ≠ 2 ∧ w.flag Reg.SEC_STATUS F.SEC_STATUS_DEBUG = false)
    (k v mask : Nat) (req : Word) : w.writeInject p k v mask req = w.recordAccess 3 k req :=
  if_neg fun hok => by simpa [h] using (w.injectOk_iff p).1 hok

end W

theorem hartOk_sc {p n : Nat} (h : p < 312) (hn : n < 2) : hartOk (.sc p n) = true := by simp [hartOk, galOk, h, hn]

/-! #### The commands -/

theorem exec_mma {s : State} {p n : Nat} (hl : s.live = true) (hp : p < 312) (hn : n < 8) (u : McUpset) :
    exec (.mma p n u) s = .next (s.after (s.w.doMma p n u)) := runOn_live hl (mcOk_of hp hn) _

theorem exec_mcNullToken {s : State} {p n : Nat} (hl : s.live = true) (hp : p < 312) (hn : n < 8) :
    exec (.mcNullToken p n) s = .next (s.after (s.w.doMcNull p n)) := runOn_live hl (mcOk_of hp hn) _

theorem exec_mcDeferredCmdFault {s : State} {p n : Nat} (hl : s.live = true) (hp : p < 312) (hn : n < 8)
    (hr : s.w.mcRuns p n = true) :
    exec (.mcDeferredCmdFault p n) s = .next (s.after (s.w.doMcDeferred p n)) := by
  refine (runOn_live hl (mcOk_of hp hn) _).trans ?_
  rw [W.when, if_pos hr]

theorem exec_mcInjectArm {s : State} {p n : Nat} (hl : s.live = true) (hp : p < 312) (hn : n < 8) (v req : Word) :
    exec (.mcInjectArm p n v req) s =
      .next (s.after (s.w.writeInject p (Reg.MC_INJECT p n) v.toNat 0x7FFFFF req)) := runOn_live hl (mcOk_of hp hn) _

theorem exec_vcInjectArm {s : State} {p n : Nat} (hl : s.live = true) (hp : p < 312) (hn : n < 4) (v req : Word) :
    exec (.vcInjectArm p n v req) s =
      .next (s.after (s.w.writeInject p (Reg.VC_INJECT p n) v.toNat 0x7FFF80 req)) := runOn_live hl (vcOk_of hp hn) _

theorem exec_scInjectArm {s : State} {p n : Nat} (hl : s.live = true) (hp : p < 312) (hn : n < 2) (v req : Word) :
    exec (.scInjectArm p n v req) s =
      .next (s.after (s.w.writeInject p (Reg.SC_INJECT p n) v.toNat 0x7FFF80 req)) := runOn_live hl (hartOk_sc hp hn) _

/-! #### The obligation -/

/-- Settles O10: a command taken begins or is held (`W.doMma_wellFormed`) and opens its tile (`W.mcBegin_opens`), a deferred
fault and a null token find the core free (`W.doMcDeferred_free`, `W.doMcNull_free`), and a write of an injection register
is taken or recorded (`W.writeInject_allowed`, `W.writeInject_barred`). -/
theorem matrixCommands : Obligations.MatrixCommands := by
  unfold Obligations.MatrixCommands
  refine ⟨fun s p n t0 t w hl hp hn hr hen hh hahead hhead hnull hpop => ?_,
    fun s p n ws hl hp hn hr hh hen hahead hcmd hdrain => ?_,
    fun s p n t0 t w hl hp hn hr hen hh hahead hhead hnull hpop hcmd hdrain => ?_,
    fun s p n v req hl hp => ⟨fun hallowed => ⟨fun hn => ?_, fun hn => ?_, fun hn => ?_⟩,
      fun hbarred => ⟨fun hn => ?_, fun hn => ?_, fun hn => ?_⟩⟩⟩
  · dsimp only
    intro hok
    have hmma := W.doMma_wellFormed ⟨hr, hen, hh, hahead, hhead, hpop⟩ hnull hok
    rw [exec_mma hl hp hn, hmma]
    refine ⟨fun hcmd htile hinit a b o ha hb ho => ?_, fun hcmd => ?_⟩
    · rw [hcmd, Option.isSome_none, if_neg Bool.false_ne_true, W.mcBegin_opens htile hinit ha hb ho]
    · rw [if_pos (Option.isSome_iff_ne_none.2 hcmd)]
  · rw [exec_mcDeferredCmdFault hl hp hn hr, W.doMcDeferred_free hen hh hahead hcmd hdrain]
    rfl
  · rw [exec_mcNullToken hl hp hn, W.doMcNull_free ⟨hr, hen, hh, hahead, hhead, hpop⟩ hnull hcmd hdrain]
  · rw [exec_mcInjectArm hl hp hn, W.writeInject_allowed hallowed]
  · rw [exec_vcInjectArm hl hp hn, W.writeInject_allowed hallowed]
  · rw [exec_scInjectArm hl hp hn, W.writeInject_allowed hallowed]
  · rw [exec_mcInjectArm hl hp hn, W.writeInject_barred hbarred]
  · rw [exec_vcInjectArm hl hp hn, W.writeInject_barred hbarred]
  · rw [exec_scInjectArm hl hp hn, W.writeInject_barred hbarred]

end Sys2Proof.Machine
end
section
/-! ### Lanes and elements of a vector register (O12)

Lanes and elements are fields of the register's number, so that they read back bit by bit. -/

namespace Sys2Proof.Machine

/-! #### Elements -/

/-- The bits of an element are those of the register from its place on (R74). -/
theorem testBit_elem (wd : Nat) (r : VReg) (i j : Nat) :
    (elem wd r i).testBit j = (decide (j < wd) && r.getLsbD (wd * i + j)) := by
  rw [elem, Nat.testBit_mod_two_pow, Nat.testBit_shiftRight, BitVec.testBit_toNat]

/-- The number of a register that packs these elements. -/
def packSum (wd : Nat) (es : List Nat) : Nat := es.foldr (fun e acc => e % 2 ^ wd + acc * 2 ^ wd) 0

theorem packElems_eq (wd : Nat) (es : List Nat) : packElems wd es = BitVec.ofNat 4096 (packSum wd es) := rfl

theorem packSum_cons (wd e : Nat) (es : List Nat) : packSum wd (e :: es) = 2 ^ wd * packSum wd es + e % 2 ^ wd := by
  rw [Nat.add_comm, Nat.mul_comm]; rfl

/-- Packed elements lie one above the other, and above them all bits are zero. -/
theorem testBit_packSum {wd j : Nat} (es : List Nat) (k : Nat) (hj : j < wd) :
    (packSum wd es).testBit (wd * k + j) = (es.getD k 0).testBit j := by
  induction es generalizing k with
  | nil => simp [packSum]
  | cons e es ih =>
    rw [packSum_cons, Nat.testBit_two_pow_mul_add _ (Nat.mod_lt _ (Nat.two_pow_pos wd))]
    cases k with
    | zero => simp [hj]
    | succ k =>
      have hk : wd * (k + 1) + j = wd + (wd * k + j) := by rw [Nat.mul_succ]; omega
      rw [hk, if_neg (by omega), Nat.add_sub_cancel_left, ih]
      rfl

/-- Packed elements read back. -/
theorem elem_packElems {wd k : Nat} (es : List Nat) (hk : k < 4096 / wd) :
    elem wd (packElems wd es) k = es.getD k 0 % 2 ^ wd := by
  have hend : wd * k + wd ≤ 4096 := Nat.mul_succ wd k ▸ (Nat.mul_comm wd _ ▸ Nat.mul_le_of_le_div _ _ _ hk)
  refine Nat.eq_of_testBit_eq fun j => ?_
  rw [testBit_elem, packElems_eq, BitVec.getLsbD_ofNat, Nat.testBit_mod_two_pow]
  by_cases hj : j < wd
  · rw [testBit_packSum es k hj, decide_eq_true (show wd * k + j < 4096 by omega), Bool.true_and]
  · rw [decide_eq_false hj, Bool.false_and, Bool.false_and]

/-! #### Lanes -/

theorem setBitsBelow_succ (n v : Nat) :
    setBitsBelow (n + 1) v = setBitsBelow n v ++ if v.testBit n then [n] else [] := by
  rw [setBitsBelow, List.range_succ, List.filter_append, List.filter_singleton, Bool.cond_eq_ite]
  rfl

/-- The lanes below `n` that a mask names, widened to the bits of a register. -/
def lanesBelow (n v : Nat) : Nat := (setBitsBelow n v).foldl (fun a k => a + (2 ^ 32 - 1) * 2 ^ (32 * k)) 0

theorem laneMask_eq (m : MReg) : laneMask m = lanesBelow 128 m.toNat := rfl

theorem lanesBelow_succ (n v : Nat) :
    lanesBelow (n + 1) v = 2 ^ (32 * n) * (if v.testBit n then 2 ^ 32 - 1 else 0) + lanesBelow n v := by
  rw [lanesBelow, setBitsBelow_succ, List.foldl_append, Nat.add_comm, Nat.mul_comm]
  split <;> simp [lanesBelow]

theorem lanesBelow_lt (n v : Nat) : lanesBelow n v < 2 ^ (32 * n) := by
  induction n with
  | zero => exact Nat.one_pos
  | succ n ih =>
    have hlane : (if v.testBit n then 2 ^ 32 - 1 else 0) ≤ 2 ^ 32 - 1 := by split <;> omega
    rw [lanesBelow_succ, Nat.mul_succ, Nat.pow_add]
    calc _ < 2 ^ (32 * n) * (2 ^ 32 - 1) + 2 ^ (32 * n) := Nat.add_lt_add_of_le_of_lt (Nat.mul_le_mul_left _ hlane) ih
      _ = 2 ^ (32 * n) * 2 ^ 32 := by omega

/-- A bit of the widened mask is that of its lane. -/
theorem testBit_lanesBelow (n v b : Nat) : (lanesBelow n v).testBit b = (decide (b < 32 * n) && v.testBit (b / 32)) := by
  induction n with
  | zero => simp [lanesBelow, setBitsBelow]
  | succ n ih =>
    rw [lanesBelow_succ, Nat.testBit_two_pow_mul_add _ (lanesBelow_lt n v), ih]
    by_cases hlow : b < 32 * n
    · simp [hlow, show b < 32 * (n + 1) by omega]
    · rw [if_neg hlow]
      by_cases hhigh : b < 32 * (n + 1)
      · rw [show b / 32 = n by omega, decide_eq_true hhigh, Bool.true_and]
        split
        · rw [Nat.testBit_two_pow_sub_one, ‹v.testBit n = true›]
          exact decide_eq_true (by omega)
        · simp [‹¬v.testBit n = true›]
      · rw [decide_eq_false hhigh, Bool.false_and]
        split
        · rw [Nat.testBit_two_pow_sub_one]
          exact decide_eq_false (by omega)
        · exact Nat.zero_testBit _

/-- R77, bit by bit: a lane of the mask takes the new bits, any other keeps the old ones. -/
theorem getLsbD_mergeLanes (m : MReg) (old new : VReg) {b : Nat} (hb : b < 4096) :
    (mergeLanes m old new).getLsbD b = if m.getLsbD (b / 32) then new.getLsbD b else old.getLsbD b := by
  unfold mergeLanes
  split
  · rw [‹m = _›, BitVec.getLsbD_allOnes, decide_eq_true (by omega), if_pos rfl]
  · simp only [BitVec.getLsbD_or, BitVec.getLsbD_and, BitVec.getLsbD_not, BitVec.getLsbD_ofNat, laneMask_eq,
      testBit_lanesBelow, decide_eq_true hb, Bool.true_and,
      BitVec.testBit_toNat]
    cases m.getLsbD (b / 32) <;> simp

/-- A lane of a masked write (R77). -/
theorem elem_mergeLanes (m : MReg) (old new : VReg) {l : Nat} (hl : l < 128) :
    elem 32 (mergeLanes m old new) l = if m.toNat.testBit l then elem 32 new l else elem 32 old l := by
  refine Nat.eq_of_testBit_eq fun j => ?_
  by_cases hj : j < 32
  · rw [testBit_elem, getLsbD_mergeLanes m old new (by omega), show (32 * l + j) / 32 = l by omega,
      BitVec.testBit_toNat]
    split <;> rw [testBit_elem]
  · rw [testBit_elem, decide_eq_false hj, Bool.false_and]
    split <;> rw [testBit_elem, decide_eq_false hj, Bool.false_and]

/-- Settles O12: a masked write lane by lane (`elem_mergeLanes`), and packed elements one above the other
(`elem_packElems`). -/
theorem vectorLanesAndElements : Obligations.VectorLanesAndElements := by
  unfold Obligations.VectorLanesAndElements
  exact ⟨fun m old new _ hl => elem_mergeLanes m old new hl, fun _ es _ _ _ hk => elem_packElems es hk⟩

end Sys2Proof.Machine
end
section
/-! ### Elementwise instructions (O13)

A vector instruction that is carried out has its effect on the part with its issue cycles counted (`vInstr_runs`); here is
what the shared operations of those effects do. -/

namespace Sys2Proof.Machine

/-- The results of the elements of a register, those of inactive lanes empty. -/
def elementResults (m : MReg) (wd : Nat) (f : Nat → Res) : List Res :=
  (List.range (4096 / wd)).map fun k => if active m wd k then f k else (0, {})

namespace W

@[simp] theorem vecBusy_vc (w : W) (p n : Nat) (i : VIns) (a b : Nat) : (w.vecBusy p n i).vc a b = w.vc a b :=
  count_vc _ _ _ _ _

@[simp] theorem vcEvents_vc (w : W) (p n : Nat) (e : Ev) (a b : Nat) : (w.vcEvents p n e).vc a b = w.vc a b := by
  simp [vcEvents]

/-- An elementwise effect in a known format: the events counted, the results written under the mask, VC_PC moved on. -/
theorem vcMap_of_fmt (w : W) (p n : Nat) {i : VIns} (m : MReg) (f : Fmt → Nat → Res) {fm : Fmt}
    (hf : Fmt.ofCode i.fmt = some fm) :
    w.vcMap p n i m f =
      (((w.vcEvents p n ((elementResults m fm.width (f fm)).foldl (fun ev r => ev.add r.2) {})).setVc p n
        ((w.vc p n).setV i.vd (mergeLanes m ((w.vc p n).vreg i.vd)
          (packElems fm.width ((elementResults m fm.width (f fm)).map (·.1)))))).vcNext p n) := by
  simp only [vcMap, hf, vcWrite, vcEvents_vc, elementResults]

/-- An elementwise effect on the elements of VA, VB and VC. -/
def vcMap3 (w : W) (p n : Nat) (i : VIns) (m : MReg) (f : Fmt → Nat → Nat → Nat → Res) : W :=
  let c := w.vc p n
  w.vcMap p n i m fun fm k =>
    f fm (elem fm.width (c.vreg i.va) k) (elem fm.width (c.vreg i.vb) k) (elem fm.width (c.vreg i.vc) k)

end W

/-- The command of an elementwise instruction is one of `vcMap3`, for the function of its row in the table. -/
theorem exec_vecElementwise : ∀ e ∈ vecElementwise, ∀ (p n : Nat) (s : State),
    exec (e.2.1 p n .none) s = vInstr p n e.1 .none s fun i m w => w.vcMap3 p n i m e.2.2 := by
  simp only [vecElementwise, List.forall_mem_cons]
  refine ⟨?_, ?_, ?_, ?_, ?_, ?_, ?_, ?_, ?_, ?_, ?_, ?_, ?_, nofun⟩ <;> exact fun _ _ _ => rfl

/-- Settles O13: each row of the table is a `vcMap3` (`exec_vecElementwise`), whose format is known. -/
theorem elementwiseInstructions : Obligations.ElementwiseInstructions := by
  unfold Obligations.ElementwiseInstructions
  intro e he s p n i fm h ho hf
  refine (exec_vecElementwise e he p n s).trans ((vInstr_runs h ho _).trans ?_)
  rw [W.vcMap3, W.vcMap_of_fmt _ p n _ _ hf, W.vecBusy_vc]
  rfl

end Sys2Proof.Machine
end
section
/-! ### Conversions and reductions (O14) -/

namespace Sys2Proof.Machine

namespace W

/-- A result written under the mask, where the core's registers are known. -/
theorem vcWrite_of_vc {w : W} {p n : Nat} {c : VCore} (hc : w.vc p n = c) (vd : Nat) (m : MReg) (r : VReg) :
    w.vcWrite p n vd m r = (w.setVc p n (c.setV vd (mergeLanes m (c.vreg vd) r))).vcNext p n := by
  rw [vcWrite, hc]

/-- VCVT between known formats: the events counted, the result written under the mask. -/
theorem doVcvt_of_fmt (w : W) (p n : Nat) {i : VIns} (m : MReg) {src dst : Fmt} (hs : Fmt.ofCode (i.ex 7 0) = some src)
    (hd : Fmt.ofCode i.fmt = some dst) :
    let c := w.vc p n
    let st := c.xreg (i.ex 18 15)
    let draw := cvtDraw (i.round == 1) (c.xreg (i.ex 22 19)) (bits st 63 32) (bits st 31 0)
    let r := if dst.isMx then cvtToMx src dst draw m (c.vreg i.va) else cvtToPlain src dst draw m (c.vreg i.va)
    w.doVcvt p n i m = (w.vcEvents p n r.2).vcWrite p n i.vd m r.1 := by
  simp only [doVcvt, hs, hd]

/-- A reduction with an active lane (R79). -/
theorem doVred_active (w : W) (p n : Nat) {i : VIns} {m : MReg} {fm : Fmt} (op : Fmt → Nat → Nat → Res)
    (idFp idInt : Nat) (hf : Fmt.ofCode i.fmt = some fm) (hm : m ≠ 0) :
    let c := w.vc p n
    let r := laneTree (op fm) ((List.range 128).map fun l =>
      if m.toNat.testBit l then elem 32 (c.vreg i.va) l else if fm = .fp32 then idFp else idInt)
    w.doVred p n i m op idFp idInt =
      ((w.vcEvents p n r.2).setVc p n (c.setV i.vd (packElems 32 [r.1]))).vcNext p n := by
  simp only [doVred, hf, if_neg hm]

/-- A reduction with no active lane drives no lane (R80). -/
theorem doVred_inactive (w : W) (p n : Nat) {i : VIns} {fm : Fmt} (op : Fmt → Nat → Nat → Res) (idFp idInt : Nat)
    (hf : Fmt.ofCode i.fmt = some fm) : w.doVred p n i 0 op idFp idInt = w.vcNext p n := by
  simp only [doVred, hf, if_true]

end W

/-- Settles O14: select, scale, convert, random words and compare each write their result under the mask, and a reduction
depends on whether a lane is active (`W.doVred_active`, `W.doVred_inactive`). -/
theorem vectorConversionsAndReductions : Obligations.VectorConversionsAndReductions := by
  unfold Obligations.VectorConversionsAndReductions
  refine ⟨fun s p n i fm h hf => ⟨fun ho => ?vsel, fun ho => ?vscale, fun ho src hsrc => ?vcvt, fun ho => ?vrng,
    fun ho => ?vcmp⟩, fun s p n i fm h hf => ⟨fun ho hm => ?vredsum, fun ho hm => ?vredmax, fun hm =>
    ⟨fun ho => ?vredsum_none, fun ho => ?vredmax_none⟩⟩⟩
  case vsel =>
    refine (vInstr_runs h ho _).trans ?_
    rw [W.doVsel, W.vcWrite_of_vc (W.vecBusy_vc ..), W.vecBusy_vc]
  case vscale =>
    refine (vInstr_runs h ho _).trans ?_
    rw [W.doVscale, W.vcMap_of_fmt _ p n _ _ hf, W.vecBusy_vc]
    rfl
  case vcvt =>
    refine (vInstr_runs h ho _).trans ?_
    rw [W.doVcvt_of_fmt _ p n _ hsrc hf, W.vcWrite_of_vc ((W.vcEvents_vc ..).trans (W.vecBusy_vc ..)), W.vecBusy_vc]
  case vrng =>
    refine (vInstr_runs h ho _).trans ?_
    rw [W.doVrng, W.vcWrite_of_vc (W.vecBusy_vc ..), W.vecBusy_vc]
  case vcmp =>
    refine (vInstr_runs h ho _).trans ?_
    simp only [W.doVcmp, hf, W.vecBusy_vc]
  case vredsum =>
    refine (vInstr_runs h ho _).trans ?_
    rw [W.doVred_active _ p n _ _ _ hf hm, W.vecBusy_vc]
  case vredmax =>
    refine (vInstr_runs h ho _).trans ?_
    rw [W.doVred_active _ p n _ _ _ hf hm, W.vecBusy_vc]
  case vredsum_none =>
    refine (vInstr_runs h ho _).trans ?_
    rw [hm, W.doVred_inactive _ p n _ _ _ hf]
  case vredmax_none =>
    refine (vInstr_runs h ho _).trans ?_
    rw [hm, W.doVred_inactive _ p n _ _ _ hf]

end Sys2Proof.Machine
end
section
/-! ### Index instructions of the vector core (O17) -/

namespace Sys2Proof.Machine

/-- x0 reads as zero (R74). -/
@[simp] theorem VCore.xreg_zero (c : VCore) : c.xreg 0 = 0 := if_pos rfl

namespace W

@[simp] theorem setVc_vpc (w : W) (p n : Nat) (x : VCore) : (w.setVc p n x).vpc p n = w.vpc p n := rfl

/-- Counting issue cycles leaves VC_PC alone. -/
@[simp] theorem vecBusy_vpc (w : W) (p n : Nat) (i : VIns) : (w.vecBusy p n i).vpc p n = w.vpc p n :=
  congrArg BitVec.toNat (w.count_reg_ne _ (by simp only [Reg.VC_PC, Reg.VC_BUSY_CYCLES]; omega))

/-- A loop that has counted down goes on (R78). -/
theorem doXloop_last {w : W} {p n : Nat} {i : VIns} (h : (w.vc p n).xreg (i.ex 3 0) = 1) :
    w.doXloop p n i = (w.setVc p n ((w.vc p n).setX (i.ex 3 0) 0)).vcNext p n := by
  have hv : (w.vc p n).xreg (i.ex 3 0) - 1 = 0 := by rw [h]; rfl
  simp only [doXloop, hv, if_true]

/-- A loop that has not goes back by its offset, counted from itself (R78). -/
theorem doXloop_again {w : W} {p n : Nat} {i : VIns} (h : (w.vc p n).xreg (i.ex 3 0) ≠ 1) :
    w.doXloop p n i = (w.setVc p n ((w.vc p n).setX (i.ex 3 0) ((w.vc p n).xreg (i.ex 3 0) - 1))).setReg (Reg.VC_PC p n)
      (w64 (unsigned 32 ((w.vpc p n : Int) + 8 * signed 19 (i.ex 22 4)))) := by
  have hv : (w.vc p n).xreg (i.ex 3 0) - 1 ≠ 0 := fun h0 => h (sub_eq_zero.1 h0)
  simp only [doXloop, if_neg hv, setVc_vpc]

end W

/-- Settles O17: each index instruction sets one index register, a loop by whether its count was one (`W.doXloop_last`,
`W.doXloop_again`). -/
theorem vectorIndices : Obligations.VectorIndices := by
  unfold Obligations.VectorIndices
  refine fun s p n i h => ⟨fun ho => ?xaddi, fun ho h1 => ?xloop_last, fun ho h1 => ?xloop_again, fun ho => ?xli,
    fun ho => ?vend, VCore.xreg_zero _, fun v => VCore.xreg_zero _⟩
  case xaddi =>
    refine (vInstr_runs h ho _).trans ?_
    rw [W.doXaddi, W.vecBusy_vc]
  case xloop_last =>
    refine (vInstr_runs h ho _).trans ?_
    rw [W.doXloop_last (by rwa [W.vecBusy_vc]), W.vecBusy_vc]
  case xloop_again =>
    refine (vInstr_runs h ho _).trans ?_
    rw [W.doXloop_again (by rwa [W.vecBusy_vc]), W.vecBusy_vc, W.vecBusy_vpc]
  case xli =>
    refine (vInstr_runs h ho _).trans ?_
    rw [W.doXli, W.vecBusy_vc]
  case vend =>
    refine (vInstr_runs h ho _).trans ?_
    rw [W.doVend, W.vecBusy_vc]

end Sys2Proof.Machine
end
section
/-! ### Kernels of the vector core (O16) -/

namespace Sys2Proof.Machine

/-- An idle vector core `n` of gallery `p` takes from its queue 0, whose head is `t0`; popped, it is `t`, not poisoned, and
leaves the part as `w` (R75, R84). -/
structure VcTakes (v : W) (p n : Nat) (t0 t : Packet) (w : W) : Prop where
  idle : v.vcIdle p n = true
  head : v.head p (8 + n) 0 = some t0
  pop : v.pop p (8 + n) 0 = some (t, w)
  clean : t.poison = false

/-- The four words of a kernel command are in order (R75, R76). -/
structure KernelCommand (t : Packet) : Prop where
  len : t.len = 32
  opcode : bits (payWord t.data 0) 7 0 = 2
  version : bits (payWord t.data 0) 39 32 = 1
  aligned : bits (payWord t.data 0) 24 8 % 8 = 0

/-- The core as a kernel command leaves it: its tag, and x1 to x3. -/
def VCore.loaded (c : VCore) (t : Packet) : VCore :=
  let c := { c with tag := bits (payWord t.data 0) 63 48 }
  ((c.setX 1 (payWord t.data 1)).setX 2 (payWord t.data 2)).setX 3 (payWord t.data 3)

namespace W

/-- A kernel starts at the address its command names (R75). -/
theorem doVcKernel_starts {v w : W} {p n : Nat} {t0 t : Packet} (h : VcTakes v p n t0 t w) (hnull : isNull t0 = false)
    (hk : KernelCommand t) :
    v.doVcKernel p n .none =
      ((w.setVc p n { (w.vc p n).loaded t with running := true, wait := .run }).setReg (Reg.VC_PC p n)
        (w64 (bits (payWord t.data 0) 24 8))).setFlag (Reg.VC_STATUS p n) F.VC_STATUS_BUSY true := by
  simp [doVcKernel, VCore.loaded, h.idle, h.head, h.pop, h.clean, hnull, hk.len, hk.opcode, hk.version, hk.aligned]

/-- A null command is counted, and a null token goes out (R82). -/
theorem doVcNull_taken {v w : W} {p n : Nat} {t0 t : Packet} (h : VcTakes v p n t0 t w) (hnull : isNull t0 = true) :
    v.doVcNull p n .none = (w.count (Reg.VC_NULL_SKIP p n) 1).unitSend p (8 + n) 0 1 [] := by
  simp [doVcNull, h.idle, h.head, h.pop, h.clean, hnull]

/-- The record of a failure in VC_CHECK_INFO leaves VC_PC alone. -/
theorem vcInfo_vpc (w : W) (p n lane kind : Nat) : (w.vcInfo p n lane kind).2.vpc p n = w.vpc p n := by
  have hne : Reg.VC_PC p n ≠ Reg.VC_CHECK_INFO p n := by simp only [Reg.VC_PC, Reg.VC_CHECK_INFO]; omega
  unfold vcInfo W.when
  dsimp only
  split
  · exact congrArg BitVec.toNat (reg_setReg_ne w _ hne)
  · rfl

end W

/-- Settles O16: a command that an idle core takes starts a kernel or is a null one (`W.doVcKernel_starts`,
`W.doVcNull_taken`); a running kernel ends, or halts on an address error. -/
theorem vectorKernels : Obligations.VectorKernels := by
  unfold Obligations.VectorKernels
  refine fun s p n hl hp hn => ⟨fun t0 t w hidle hhead hpop hpoison => ⟨fun hnull hlen hop hver hal => ?kernel,
    fun hnull => ?null⟩, fun hrun => ⟨fun hw => ?completion, fun hw => ?errRsp⟩⟩
  case kernel =>
    refine (runOn_live hl (vcOk_of hp hn) _).trans ?_
    rw [W.doVcKernel_starts ⟨hidle, hhead, hpop, hpoison⟩ hnull ⟨hlen, hop, hver, hal⟩]
    rfl
  case null =>
    refine (runOn_live hl (vcOk_of hp hn) _).trans ?_
    rw [W.doVcNull_taken ⟨hidle, hhead, hpop, hpoison⟩ hnull]
  case completion =>
    refine (runOn_live hl (vcOk_of hp hn) _).trans ?_
    rw [W.doVcCompletion, if_pos ⟨hrun, hw⟩]
  case errRsp =>
    refine (runOn_live hl (vcOk_of hp hn) _).trans ?_
    rw [W.doVcErrRsp, if_pos ⟨hrun, hw⟩, ← s.w.vcInfo_vpc p n 0x7F 7]

end Sys2Proof.Machine
end
section
/-! ### Reading lines of the hall window (O15)

Where no byte's parity is wrong, the lines that a master of the crossbar reads hold what memory holds, whichever latch
serves them. -/

namespace Sys2Proof.Machine

namespace W

/-- Memory and its parity are the same in `w` and `w'`. -/
structure SameBytes (w w' : W) : Prop where
  mem : w'.mem = w.mem
  log : w'.log = w.log
  bad : w'.bad = w.bad

namespace SameBytes

theorem refl (w : W) : SameBytes w w := ⟨rfl, rfl, rfl⟩

theorem trans {w w' w'' : W} (h : SameBytes w w') (h' : SameBytes w' w'') : SameBytes w w'' :=
  ⟨h'.mem.trans h.mem, h'.log.trans h.log, h'.bad.trans h.bad⟩

theorem rdBytes {w w' : W} (h : SameBytes w w') (k n : Nat) : w'.rdBytes k n = w.rdBytes k n := by
  simp only [W.rdBytes, W.rd, h.mem, h.log]

theorem count (w : W) (k n : Nat) : SameBytes w (w.count k n) :=
  ⟨count_mem w k n, count_log w k n, countW_keeps W.bad (fun _ _ _ => rfl) (fun _ _ => rfl) _ _ _ _⟩

theorem loadLatch (w : W) (p m off cycle : Nat) (poison : Bool) : SameBytes w (w.loadLatch p m off cycle poison) := by
  simp only [W.loadLatch, W.takeGrant, W.when, List.isEmpty_nil, Bool.not_true, Bool.and_false, Bool.false_eq_true,
    if_false]
  exact ⟨rfl, rfl, rfl⟩

end SameBytes

/-- Where no byte holds a parity error, no run of bytes does. -/
theorem badRun_of_bad_nil {w : W} (h : w.bad = []) (k n : Nat) : w.badRun k n = none := by
  rw [badRun, h]; rfl

/-- A line read where no parity is wrong holds what memory holds, and reading changes no byte. -/
theorem getLine_intact {w : W} (h : w.bad = []) (p m off n src : Nat) :
    (w.getLine p m off n src).1.1 = w.rdBytes (galKey p off) n ∧ SameBytes w (w.getLine p m off n src).2 := by
  simp only [getLine, badRun_of_bad_nil h]
  split
  · split
    · exact ⟨rfl, .trans (w' := w.draw.2) ⟨rfl, rfl, rfl⟩ (.count _ _ _)⟩
    · exact ⟨rfl, .trans (w' := w.draw.2) ⟨rfl, rfl, rfl⟩ (.loadLatch _ _ _ _ _ _)⟩
  · exact ⟨rfl, .refl w⟩

/-- Beyond the hall no latch serves a line, and nothing but the bytes comes of reading it. -/
theorem getLine_beyond_hall {w : W} (h : w.bad = []) {off : Nat} (hoff : 0x400000 ≤ off) (p m n src : Nat) :
    w.getLine p m off n src = ((w.rdBytes (galKey p off) n, false), w) := by
  rw [getLine, if_neg (Nat.not_lt.2 hoff), badRun_of_bad_nil h]

/-! #### Line by line -/

theorem rdBytes_append (w : W) (k a b : Nat) : w.rdBytes k (a + b) = w.rdBytes k a ++ w.rdBytes (k + a) b := by
  simp only [rdBytes, List.range_add, List.map_append, List.map_map, Function.comp_def, Nat.add_assoc]

/-- The pieces of a run that ends at line `c` or before, one after the other. -/
theorem flatMap_pieces (w : W) (key r n c : Nat) :
    ((List.range c).flatMap fun i => w.rdBytes (key + (128 * i - r)) (min n (128 * (i + 1) - r) - (128 * i - r))) =
      w.rdBytes key (min n (128 * c - r)) := by
  induction c with
  | zero => simp [rdBytes]
  | succ c ih =>
    rw [List.range_succ, List.flatMap_append, List.flatMap_singleton, ih]
    by_cases hn : 128 * c - r ≤ n
    · rw [Nat.min_eq_right hn, ← rdBytes_append]
      congr 1
      omega
    · have hempty : min n (128 * (c + 1) - r) - (128 * c - r) = 0 := by omega
      have hall : min n (128 * (c + 1) - r) = min n (128 * c - r) := by omega
      rw [hempty, hall]
      simp [rdBytes]

/-- The pieces that `linePieces` cuts a run into make up the run. -/
theorem flatMap_linePieces (w : W) (key a n : Nat) :
    ((linePieces a n).flatMap fun e => w.rdBytes (key + e.1) e.2) = w.rdBytes key n := by
  have hlo : ∀ i, (if i = 0 then 0 else 128 * i - a % 128) = 128 * i - a % 128 := fun i => by split <;> omega
  have hall : min n (128 * ceilDiv (a % 128 + n) 128 - a % 128) = n := by rw [ceilDiv]; omega
  simp only [linePieces, List.flatMap_map, hlo, flatMap_pieces, hall]

theorem galKey_add (p off i : Nat) : galKey p (off + i) = galKey p off + i := by simp only [galKey, Nat.add_assoc]

/-- One line after those read before. -/
def getPiece (p m off src : Nat) (r : (List Byte × Bool) × W) (e : Nat × Nat) : (List Byte × Bool) × W :=
  let x := r.2.getLine p m (off + e.1) e.2 src
  ((r.1.1 ++ x.1.1, r.1.2 || x.1.2), x.2)

theorem getLines_eq (w : W) (p m off n src : Nat) :
    w.getLines p m off n src = (linePieces off n).foldl (getPiece p m off src) (([], false), w) := rfl

/-- Lines read where no parity is wrong. -/
theorem foldl_getPiece_intact {w : W} (h : w.bad = []) (p m off src : Nat) (l : List (Nat × Nat))
    {r : (List Byte × Bool) × W} (hr : SameBytes w r.2) :
    (l.foldl (getPiece p m off src) r).1.1 = r.1.1 ++ l.flatMap (fun e => w.rdBytes (galKey p off + e.1) e.2) ∧
      SameBytes w (l.foldl (getPiece p m off src) r).2 := by
  induction l generalizing r with
  | nil => exact ⟨(List.append_nil _).symm, hr⟩
  | cons e l ih =>
    obtain ⟨hbytes, hsame⟩ := getLine_intact (hr.bad.trans h) p m (off + e.1) e.2 src
    obtain ⟨hrest, hend⟩ := ih (r := getPiece p m off src r e) (hr.trans hsame)
    refine ⟨hrest.trans ?_, hend⟩
    rw [List.flatMap_cons, ← List.append_assoc, getPiece, hbytes, hr.rdBytes, galKey_add]

/-- The lines hold what memory holds. -/
theorem getLines_intact {w : W} (h : w.bad = []) (p m off n src : Nat) :
    (w.getLines p m off n src).1.1 = w.rdBytes (galKey p off) n := by
  rw [getLines_eq, (foldl_getPiece_intact h p m off src _ (.refl w)).1, flatMap_linePieces]
  rfl

/-- Lines read beyond the hall. -/
theorem foldl_getPiece_beyond_hall {w : W} (h : w.bad = []) {off : Nat} (hoff : 0x400000 ≤ off) (p m src : Nat)
    (l : List (Nat × Nat)) (bs : List Byte) :
    l.foldl (getPiece p m off src) ((bs, false), w) =
      ((bs ++ l.flatMap (fun e => w.rdBytes (galKey p off + e.1) e.2), false), w) := by
  induction l generalizing bs with
  | nil => rw [List.flatMap_nil, List.append_nil]; rfl
  | cons e l ih =>
    have hone : getPiece p m off src ((bs, false), w) e =
        ((bs ++ w.rdBytes (galKey p off + e.1) e.2, false), w) := by
      rw [getPiece, getLine_beyond_hall h (by omega), galKey_add]; rfl
    rw [List.foldl_cons, hone, ih, List.flatMap_cons, List.append_assoc]

/-- Beyond the hall the lines come as memory holds them, and nothing else comes of reading them. -/
theorem getLines_beyond_hall {w : W} (h : w.bad = []) {off : Nat} (hoff : 0x400000 ≤ off) (p m n src : Nat) :
    w.getLines p m off n src = ((w.rdBytes (galKey p off) n, false), w) := by
  rw [getLines_eq, foldl_getPiece_beyond_hall h hoff, flatMap_linePieces]
  rfl

end W

end Sys2Proof.Machine
end
section
/-! ### Vector loads and stores, QRECV and QSEND (O15) -/

namespace Sys2Proof.Machine

namespace W

@[simp] theorem vecBusy_bad (w : W) (p n : Nat) (i : VIns) : (w.vecBusy p n i).bad = w.bad := (SameBytes.count _ _ _).bad

@[simp] theorem vecBusy_rdBytes (w : W) (p n : Nat) (i : VIns) (k len : Nat) :
    (w.vecBusy p n i).rdBytes k len = w.rdBytes k len := count_rdBytes _ _ _ _ _

@[simp] theorem vecBusy_vcAddr (w : W) (p n : Nat) (i j : VIns) (unit : Nat) :
    (w.vecBusy p n i).vcAddr p n j unit = w.vcAddr p n j unit := by
  rw [vcAddr, vcAddr, vecBusy_vc]

/-! #### Local memory -/

/-- A load of local memory whose parity is right (R78). -/
theorem doVlocal_load {w : W} {p n : Nat} {i : VIns} (m : MReg) (hin : w.vcAddr p n i 32 + 512 ≤ 2 ^ 17)
    (hbad : w.bad = []) : w.doVlocal p n i m false =
      w.vcWrite p n i.vd m (vregOf (w.rdBytes (galKey p (vcBuf n + w.vcAddr p n i 32)) 512)) := by
  simp only [doVlocal, if_neg (Nat.not_lt.2 hin), badRun_of_bad_nil hbad, Bool.false_eq_true, Option.isSome_none, if_false]

/-- A store to local memory (R77, R78). -/
theorem doVlocal_store {w : W} {p n : Nat} {i : VIns} (m : MReg) (hin : w.vcAddr p n i 32 + 512 ≤ 2 ^ 17) :
    w.doVlocal p n i m true =
      (w.vcStore (galKey p (vcBuf n + w.vcAddr p n i 32)) m ((w.vc p n).vreg i.vd)).vcNext p n := by
  simp only [doVlocal, if_neg (Nat.not_lt.2 hin), if_true]

/-! #### The hall window -/

/-- A load inside the window below its reserved offsets, whose lines come clean (R78). -/
theorem doVhall_load {v w : W} {p n : Nat} {i : VIns} (m : MReg) (hin : v.vcAddr p n i 128 + 512 ≤ windowTop)
    {bs : List Byte} (hl : v.getLines p (8 + n) (v.vcAddr p n i 128) 512 0x1FF = ((bs, false), w)) :
    v.doVhall p n i m .none false = w.vcWrite p n i.vd m (vregOf bs) := by
  have htop : windowTop ≤ 2 ^ 23 := by decide
  simp only [doVhall, if_neg (Nat.not_lt.2 (hin.trans htop)), if_neg (Nat.not_lt.2 hin), hl, reduceCtorEq,
    Bool.false_eq_true, if_false]

/-- A store inside the window below its reserved offsets: the grants, then the bytes of the active lanes (R77, R78). -/
theorem doVhall_store {w : W} {p n : Nat} {i : VIns} (m : MReg) (hin : w.vcAddr p n i 128 + 512 ≤ windowTop) :
    w.doVhall p n i m .none true = ((w.vcGrants p n (w.vcAddr p n i 128) m).vcStore (galKey p (w.vcAddr p n i 128)) m
      ((w.vc p n).vreg i.vd)).vcNext p n := by
  have htop : windowTop ≤ 2 ^ 23 := by decide
  simp only [doVhall, if_neg (Nat.not_lt.2 (hin.trans htop)), if_neg (Nat.not_lt.2 hin), reduceCtorEq, if_false, if_true]

/-! #### Queues -/

/-- A token of 512 bytes is all of VD; no byte of it is free (R78). -/
theorem doQrecv_full {v w : W} {p n : Nat} {i : VIns} (m : MReg) {t : Packet}
    (hpop : v.pop p (8 + n) (i.ex 3 0) = some (t, w)) (hclean : t.poison = false) (hnull : isNull t = false)
    (hlen : t.data.length = 512) :
    v.doQrecv p n i m .none = (w.drawBytes 0).2.vcWrite p n i.vd m (vregOf t.data) := by
  have hrest : (w.drawBytes 0).1 = [] := by simp only [drawBytes, List.take_zero]
  simp [doQrecv, hpop, hclean, hnull, hlen, hrest]

/-- A null token gives zeros and clears its mask register (R82). -/
theorem doQrecv_null {v w : W} {p n : Nat} {i : VIns} (m : MReg) {t : Packet}
    (hpop : v.pop p (8 + n) (i.ex 3 0) = some (t, w)) (hclean : t.poison = false) (hnull : isNull t = true) :
    v.doQrecv p n i m .none = (w.setVc p n (((w.vc p n).setV i.vd 0).setM (i.ex 6 4) 0)).vcNext p n := by
  simp [doQrecv, hpop, hclean, hnull]

/-- A send on an open slot with credit behind no other token (R155). -/
theorem doQsend_open {w : W} {p n s : Nat} {i : VIns} (hs : ((w.vc p n).xreg (i.ex 3 0)).toNat = s) (hlt : s < 16)
    (hopen : ((w.agent p (8 + n)).slot s).state = 2) (hgrant : 8 ≤ ((w.agent p (8 + n)).slot s).grantSlots)
    (hfirst : ((w.agent p (8 + n)).slot s).waitq = []) (hcan : w.canSend p (8 + n) s 0 512 = true) :
    w.doQsend p n i = (w.sendNow p (8 + n) s 0 (vregBytes ((w.vc p n).vreg i.vd))).vcNext p n := by
  simp [doQsend, hs, hopen, hfirst, hcan, Nat.not_le.2 hlt, Nat.not_lt.2 hgrant]

end W

/-- Settles O15: loads and stores inside their spaces (`W.doVlocal_load`, `W.doVlocal_store`, `W.doVhall_load`,
`W.doVhall_store`), whose lines hold what memory holds (`W.getLines_intact`); a token received (`W.doQrecv_full`,
`W.doQrecv_null`) and sent (`W.doQsend_open`). -/
theorem vectorMemoryAndQueues : Obligations.VectorMemoryAndQueues := by
  unfold Obligations.VectorMemoryAndQueues
  refine ⟨fun s p n i h => ⟨fun hin => ⟨fun ho => ?vld, fun ho => ?vst⟩, fun hin =>
    ⟨fun ho bs w hl => ⟨?vldh, ?lines⟩, fun ho hcore => ?vldh_core, fun ho => ?vsth⟩⟩,
    fun s p n i h => ⟨fun ho t w hpop hclean => ⟨fun hnull hlen => ?qrecv, fun hnull => ?qrecv_null⟩,
      fun ho hlt hopen hgrant hfirst hcan => ?qsend⟩⟩
  case vld =>
    refine (vInstr_runs h ho _).trans ?_
    rw [W.doVlocal_load _ (by rwa [W.vecBusy_vcAddr]) ((W.vecBusy_bad ..).trans h.intact),
      W.vcWrite_of_vc (W.vecBusy_vc ..), W.vecBusy_vcAddr, W.vecBusy_rdBytes]
  case vst =>
    refine (vInstr_runs h ho _).trans ?_
    rw [W.doVlocal_store _ (by rwa [W.vecBusy_vcAddr]), W.vecBusy_vc, W.vecBusy_vcAddr]
  case vldh =>
    refine (vInstr_runs h ho _).trans ?_
    rw [W.doVhall_load _ (by rwa [W.vecBusy_vcAddr]) (by rwa [W.vecBusy_vcAddr])]
    rfl
  case lines =>
    have hbytes := W.getLines_intact ((W.vecBusy_bad s.w p n i).trans h.intact) p (8 + n) (s.w.vcAddr p n i 128) 512 0x1FF
    rwa [hl, W.vecBusy_rdBytes] at hbytes
  case vldh_core =>
    refine (vInstr_runs h ho _).trans ?_
    have hl := W.getLines_beyond_hall ((W.vecBusy_bad s.w p n i).trans h.intact) hcore p (8 + n) 512 0x1FF
    rw [W.doVhall_load _ (by rwa [W.vecBusy_vcAddr]) (by rwa [W.vecBusy_vcAddr]), W.vcWrite_of_vc (W.vecBusy_vc ..),
      W.vecBusy_rdBytes]
  case vsth =>
    refine (vInstr_runs h ho _).trans ?_
    rw [W.doVhall_store _ (by rwa [W.vecBusy_vcAddr]), W.vecBusy_vc, W.vecBusy_vcAddr]
  case qrecv =>
    exact (vInstr_runs h ho _).trans (by rw [W.doQrecv_full _ hpop hclean hnull hlen])
  case qrecv_null =>
    exact (vInstr_runs h ho _).trans (by rw [W.doQrecv_null _ hpop hclean hnull])
  case qsend =>
    refine (vInstr_runs h ho _).trans ?_
    rw [W.doQsend_open (by rw [W.vecBusy_vc]) hlt hopen hgrant hfirst hcan, W.vecBusy_vc]

end Sys2Proof.Machine
end
section
/-! ### Registers and program counter of a scalar core or a control processor (O18)

`Hart` has two kinds, which keep their program counter in different places. What `setSreg`, `hGoto` and `hWrite` do to a
core's registers, to its program counter and to everything else is said here once for both. -/

namespace Sys2Proof.Machine

namespace W

/-! #### The state of a core -/

@[simp] theorem setHart_reg (w : W) (h : Hart) (c : SCore) (k : Nat) : (w.setHart h c).reg k = w.reg k := by
  cases h <;> rfl

@[simp] theorem setHart_mem (w : W) (h : Hart) (c : SCore) : (w.setHart h c).mem = w.mem := by cases h <;> rfl

@[simp] theorem setHart_log (w : W) (h : Hart) (c : SCore) : (w.setHart h c).log = w.log := by cases h <;> rfl

@[simp] theorem setHart_bus (w : W) (h : Hart) (c : SCore) : (w.setHart h c).c.bus = w.c.bus := by cases h <;> rfl

@[simp] theorem hart_setHart_self (w : W) (h : Hart) (c : SCore) : (w.setHart h c).hart h = c := by
  cases h with
  | sc p n => exact sc_setSc_self w p n c
  | cp k => exact cp_setCp_self w k c

/-- Two cores of the part share no state. -/
theorem hart_setHart_ne (w : W) {h h' : Hart} (c : SCore) (hok : hartOk h = true) (hok' : hartOk h' = true)
    (hne : h' ≠ h) : (w.setHart h c).hart h' = w.hart h' := by
  cases h with
  | sc p n =>
    cases h' with
    | sc q m =>
      simp only [hartOk, Bool.and_eq_true, decide_eq_true_eq] at hok hok'
      refine sc_setSc_ne w c fun hkey => hne ?_
      rw [show q = p by omega, show m = n by omega]
    | cp k => rfl
  | cp k =>
    cases h' with
    | sc q m => rfl
    | cp j => exact cp_setCp_ne w c fun hkey => hne (by rw [hkey])

/-! #### Going on to another instruction -/

theorem hGoto_sc (w : W) (p n a : Nat) : w.hGoto (.sc p n) a =
    (((w.setSc p n { w.sc p n with wait := .run }).setReg (Reg.SC_PC p n) (w64 (a % 2 ^ 32))).setFlag
      (Reg.SC_STATUS p n) F.SC_STATUS_QWAIT false).count (Reg.SC_INSTRET p n) 1 := rfl

theorem hGoto_cp (w : W) (k a : Nat) :
    w.hGoto (.cp k) a = (w.setCp k { w.cp k with wait := .run }).setHpc (.cp k) a := rfl

/-- Going on writes registers and the core's own state, and may send the overflow event: whatever none of these changes is
as before. -/
theorem hGoto_keeps {α : Type} (P : W → α) (hr : ∀ w k v, P (w.setReg k v) = P w) (ho : ∀ w o, P (w.emit o) = P w)
    {h : Hart} (hh : ∀ w c, P (w.setHart h c) = P w) (w : W) (a : Nat) : P (w.hGoto h a) = P w := by
  cases h with
  | sc p n => exact (countW_keeps P hr ho _ _ _ _).trans ((hr _ _ _).trans ((hr _ _ _).trans (hh _ _)))
  | cp k => exact (hh _ _).trans (hh _ _)

@[simp] theorem hGoto_mem (w : W) (h : Hart) (a : Nat) : (w.hGoto h a).mem = w.mem :=
  hGoto_keeps W.mem (fun _ _ _ => rfl) (fun _ _ => rfl) (setHart_mem · h) w a

@[simp] theorem hGoto_log (w : W) (h : Hart) (a : Nat) : (w.hGoto h a).log = w.log :=
  hGoto_keeps W.log (fun _ _ _ => rfl) (fun _ _ => rfl) (setHart_log · h) w a

@[simp] theorem hGoto_bus (w : W) (h : Hart) (a : Nat) : (w.hGoto h a).c.bus = w.c.bus :=
  hGoto_keeps (·.c.bus) (fun _ _ _ => rfl) (fun _ _ => rfl) (setHart_bus · h) w a

theorem hart_hGoto_ne (w : W) {h h' : Hart} (a : Nat) (hok : hartOk h = true) (hok' : hartOk h' = true) (hne : h' ≠ h) :
    (w.hGoto h a).hart h' = w.hart h' :=
  hGoto_keeps (·.hart h') (fun _ _ _ => by cases h' <;> rfl) (fun _ _ => by cases h' <;> rfl)
    (fun w c => hart_setHart_ne w c hok hok' hne) w a

/-- The registers of the core stay. -/
@[simp] theorem sreg_hGoto (w : W) (h : Hart) (a j : Nat) : (w.hGoto h a).sreg h j = w.sreg h j := by
  have hs : ((w.hGoto h a).hart h).s = (w.hart h).s := by
    cases h with
    | sc p n =>
      have hsc : (w.hGoto (.sc p n) a).sc p n = { w.sc p n with wait := .run } := by
        rw [hGoto_sc, count_sc]; exact sc_setSc_self _ _ _ _
      exact (congrArg SCore.s hsc :)
    | cp k =>
      rw [hGoto_cp, setHpc, hart, cp_setCp_self, cp_setCp_self]
      rfl
  rw [sreg, sreg, hs]

/-- The program counter has 32 bits. -/
@[simp] theorem hpc_hGoto (w : W) (h : Hart) (a : Nat) : (w.hGoto h a).hpc h = a % 2 ^ 32 := by
  cases h with
  | sc p n =>
    have hinstret : Reg.SC_PC p n ≠ Reg.SC_INSTRET p n := by simp only [Reg.SC_PC, Reg.SC_INSTRET]; omega
    have hstatus : Reg.SC_PC p n ≠ Reg.SC_STATUS p n := by simp only [Reg.SC_PC, Reg.SC_STATUS]; omega
    rw [hGoto_sc, hpc, count_reg_ne _ _ hinstret, reg_setFlag_ne _ _ _ hstatus, reg_setReg_self, w64, BitVec.toNat_ofNat]
    omega
  | cp k => rw [hGoto_cp, setHpc, hpc, cp_setCp_self]

/-- Of the set-up region only three registers of a scalar core change. -/
theorem reg_hGoto_ne (w : W) (h : Hart) (a : Nat) {k : Nat}
    (hk : ∀ p n, h = .sc p n → k ≠ Reg.SC_PC p n ∧ k ≠ Reg.SC_STATUS p n ∧ k ≠ Reg.SC_INSTRET p n) :
    (w.hGoto h a).reg k = w.reg k := by
  cases h with
  | sc p n =>
    obtain ⟨hpc, hstatus, hinstret⟩ := hk p n rfl
    rw [hGoto_sc, count_reg_ne _ _ hinstret, reg_setFlag_ne _ _ _ hstatus, reg_setReg_ne _ _ hpc, setSc_reg]
  | cp j => rfl

/-! #### Writing a general register -/

@[simp] theorem setSreg_reg (w : W) (h : Hart) (d : Nat) (v : Word) (k : Nat) : (w.setSreg h d v).reg k = w.reg k := by
  unfold setSreg; split
  · rfl
  · exact setHart_reg _ _ _ _

@[simp] theorem setSreg_mem (w : W) (h : Hart) (d : Nat) (v : Word) : (w.setSreg h d v).mem = w.mem := by
  unfold setSreg; split
  · rfl
  · exact setHart_mem _ _ _

@[simp] theorem setSreg_log (w : W) (h : Hart) (d : Nat) (v : Word) : (w.setSreg h d v).log = w.log := by
  unfold setSreg; split
  · rfl
  · exact setHart_log _ _ _

theorem hart_setSreg_ne (w : W) {h h' : Hart} (d : Nat) (v : Word) (hok : hartOk h = true) (hok' : hartOk h' = true)
    (hne : h' ≠ h) : (w.setSreg h d v).hart h' = w.hart h' := by
  unfold setSreg; split
  · rfl
  · exact hart_setHart_ne w _ hok hok' hne

/-- R86: s0 reads as zero, the register written reads as it was written, any other as before. -/
theorem sreg_setSreg (w : W) (h : Hart) (d j : Nat) (v : Word) :
    (w.setSreg h d v).sreg h j = if j = 0 then 0 else if j = d then v else w.sreg h j := by
  unfold sreg setSreg
  by_cases hj : j = 0
  · rw [if_pos hj, if_pos hj]
  · rw [if_neg hj, if_neg hj]
    by_cases hd : d = 0
    · rw [if_pos hd, if_neg (hd ▸ hj), if_neg hj]
    · rw [if_neg hd, hart_setHart_self]
      split
      · subst_vars; exact Tbl.get_set_self _ _ _ _
      · exact Tbl.get_set_ne _ _ _ ‹_›

/-- Writing a register leaves the program counter alone. -/
@[simp] theorem hpc_setSreg (w : W) (h : Hart) (d : Nat) (v : Word) : (w.setSreg h d v).hpc h = w.hpc h := by
  cases h with
  | sc p n => rw [hpc, setSreg_reg]; rfl
  | cp k =>
    unfold setSreg; split
    · rfl
    · exact (congrArg SCore.pc (hart_setHart_self w (.cp k) _) :)

end W

/-- Settles O18: SD by the rule of `setSreg`, and everything else by the rules of `setSreg` and `hGoto`. -/
theorem writingARegister : Obligations.WritingARegister := by
  unfold Obligations.WritingARegister
  intro w h d j v hok hpc
  dsimp only
  have hgoto : w.hWrite h d v = (w.setSreg h d v).hGoto h (w.hpc h + 4) := by rw [W.hWrite, W.hNext, W.hpc_setSreg]
  rw [hgoto]
  refine ⟨?_, ?_, fun h' hok' hne => ?_, ?_, ?_, fun k hk => ?_⟩
  · rw [W.sreg_hGoto, W.sreg_setSreg]
  · rw [W.hpc_hGoto, Nat.mod_eq_of_lt hpc]
  · rw [W.hart_hGoto_ne _ _ hok hok' hne, W.hart_setSreg_ne _ _ _ hok hok' hne]
  · rw [W.hGoto_mem, W.setSreg_mem]
  · rw [W.hGoto_log, W.setSreg_log]
  · rw [W.reg_hGoto_ne _ _ _ hk, W.setSreg_reg]

end Sys2Proof.Machine
end
section
/-! ### Scalar arithmetic, branches and jumps (O19, O20)

The statements write comparisons of numbers where the model compares words, and sign-extend the immediate as an integer;
the words agree. -/

namespace Sys2Proof.Machine

/-! #### Words and numbers -/

/-- The order of words as signed numbers. -/
theorem ite_slt {α : Type} (a b : Word) (x y : α) : (if a.slt b then x else y) = if a.toInt < b.toInt then x else y :=
  if_congr BitVec.slt_iff_toInt_lt rfl rfl

/-- The order of words as unsigned numbers. -/
theorem ite_ult {α : Type} (a b : Word) (x y : α) : (if a.ult b then x else y) = if a.toNat < b.toNat then x else y :=
  if_congr BitVec.ult_iff_lt rfl rfl

/-- An integer as a 64-bit word. -/
theorem w64_unsigned (x : Int) : w64 (unsigned 64 x) = BitVec.ofInt 64 x := by
  refine BitVec.eq_of_toNat_eq ?_
  rw [w64, BitVec.toNat_ofNat, BitVec.toNat_ofInt, unsigned]
  omega

/-- The number a field of 16 bits stands for fits 16 bits. -/
theorem signed_sixteen_bounds (v : Nat) : -2 ^ 15 ≤ signed 16 v ∧ signed 16 v < 2 ^ 15 := by
  unfold signed; split <;> omega

/-- The immediate of a fetched instruction is one of 16 bits. -/
theorem toInt_imm {s : State} {h : Hart} {op : Nat} {fn : Option Nat} {i : SIns} (hr : HartRuns s h op fn i) :
    (BitVec.ofInt 64 i.imm).toInt = i.imm := by
  have hb : -2 ^ 15 ≤ i.imm ∧ i.imm < 2 ^ 15 := by rw [hr.word]; exact signed_sixteen_bounds _
  rw [BitVec.toInt_ofInt, Int.bmod_def]
  split <;> omega

/-! #### Register and immediate form (O19) -/

/-- A register-form command whose function is that of its table row. -/
theorem exec_alu_of {c : Hart → CoreUpset → Instr} {fn : Nat} {f g : Word → Word → Word}
    (hx : ∀ h s, exec (c h .none) s = sExec h 0x00 (some fn) .none s fun i w => w.sAlu h i f)
    (hfg : ∀ a b, f a b = g a b) (h : Hart) (s : State) : exec (c h .none) s = sExec h 0x00 (some fn) .none s fun i w => w.sAlu h i g := by
  rw [hx, funext₂ hfg]

/-- The command of a register-form instruction is `sAlu` for the function of its row in the table (R87). -/
theorem exec_aluInstructions : ∀ e ∈ aluInstructions, ∀ (h : Hart) (s : State),
    exec (e.2.1 h .none) s = sExec h 0x00 (some e.1) .none s fun i w => w.sAlu h i e.2.2 := by
  simp only [aluInstructions, List.forall_mem_cons]
  refine ⟨?add, ?sub, ?and, ?or, ?xor, ?shl, ?shr, ?sra, ?slt, ?sltu, ?mul, ?mulhu, ?min, ?max, ?minu, ?maxu, nofun⟩
  case slt => exact exec_alu_of (fun _ _ => rfl) fun a b => ite_slt a b 1 0
  case sltu => exact exec_alu_of (fun _ _ => rfl) fun a b => ite_ult a b 1 0
  case min => exact exec_alu_of (fun _ _ => rfl) fun a b => ite_slt a b a b
  case max => exact exec_alu_of (fun _ _ => rfl) fun a b => ite_slt a b b a
  case minu => exact exec_alu_of (fun _ _ => rfl) fun a b => ite_ult a b a b
  case maxu => exact exec_alu_of (fun _ _ => rfl) fun a b => ite_ult a b b a
  all_goals exact fun _ _ => rfl

/-- The immediate enters as an integer. -/
theorem W.sImm_eq (w : W) (h : Hart) (i : SIns) (f : Word → Word → Word) :
    w.sImm h i f = w.hWrite h i.sd (f (w.sreg h i.sa) (BitVec.ofInt 64 i.imm)) := by
  rw [sImm, w64_unsigned]

/-- An immediate-form command writes the function of its row in the table (R87). -/
theorem exec_immInstructions : ∀ e ∈ immInstructions, ∀ (s : State) (h : Hart) (i : SIns), HartRuns s h e.1 none i →
    exec (e.2.1 h .none) s = .next (s.after (s.w.hWrite h i.sd (e.2.2 (s.w.sreg h i.sa) i.imm))) := by
  simp only [immInstructions, List.forall_mem_cons]
  refine ⟨?addi, ?andi, ?ori, ?xori, fun s h i hr => ?slti, fun s h i hr => ?lui, nofun⟩
  case slti =>
    refine (sExec_runs hr _).trans ?_
    rw [W.sImm_eq, truth, ite_slt, toInt_imm hr]
  case lui =>
    refine (sExec_runs hr _).trans ?_
    rw [w64_unsigned]
  all_goals exact fun s h i hr => (sExec_runs hr _).trans (by rw [W.sImm_eq])

/-- Settles O19: the commands are `sAlu` and `sImm` for the functions of the two tables. -/
theorem scalarArithmeticAndImmediates : Obligations.ScalarArithmeticAndImmediates := by
  unfold Obligations.ScalarArithmeticAndImmediates
  exact ⟨fun e he s h i hr => (exec_aluInstructions e he h s).trans (sExec_runs hr _), exec_immInstructions⟩

/-! #### Branches and jumps (O20) -/

/-- A branch goes on to one of two places. -/
theorem W.sBranch_eq (w : W) (h : Hart) (i : SIns) (f : Word → Word → Bool) :
    w.sBranch h i f = w.hGoto h (if f (w.sreg h i.sd) (w.sreg h i.sa) then
      unsigned 32 ((w.hpc h : Int) + 4 * i.imm) else w.hpc h + 4) := by
  unfold sBranch; split <;> rfl

/-- A branch command whose comparison is that of its table row. -/
theorem exec_branch_of {c : Hart → CoreUpset → Instr} {op : Nat} {f g : Word → Word → Bool}
    (hx : ∀ h s, exec (c h .none) s = sExec h op none .none s fun i w => w.sBranch h i f) (hfg : ∀ a b, f a b = g a b)
    (h : Hart) (s : State) : exec (c h .none) s = sExec h op none .none s fun i w => w.sBranch h i g := by
  rw [hx, funext₂ hfg]

/-- The command of a branch is `sBranch` for the comparison of its row in the table (R87). -/
theorem exec_branches : ∀ e ∈ branches, ∀ (h : Hart) (s : State),
    exec (e.2.1 h .none) s = sExec h e.1 none .none s fun i w => w.sBranch h i e.2.2 := by
  simp only [branches, List.forall_mem_cons]
  refine ⟨?beq, ?bne, ?blt, ?bge, ?bltu, ?bgeu, nofun⟩
  case beq => exact fun _ _ => rfl
  case bne => exact exec_branch_of (fun _ _ => rfl) fun a b => (decide_not ..).symm
  case blt => exact fun _ _ => rfl
  case bge =>
    exact exec_branch_of (fun _ _ => rfl) fun a b => (decide_not ..).symm.trans (decide_eq_decide.2 Int.not_lt)
  case bltu => exact fun _ _ => rfl
  case bgeu =>
    exact exec_branch_of (fun _ _ => rfl) fun a b => (decide_not ..).symm.trans (decide_eq_decide.2 Nat.not_lt)

/-- Settles O20: a branch is `sBranch` for the comparison of its row, which goes to one of two places (`W.sBranch_eq`). -/
theorem branchesAndJumps : Obligations.BranchesAndJumps := by
  unfold Obligations.BranchesAndJumps
  refine ⟨fun e he s h i hr => ?branch, fun s h i hr => sExec_runs hr _, fun s h i hr => sExec_runs hr _⟩
  rw [exec_branches e he, sExec_runs hr, W.sBranch_eq]

end Sys2Proof.Machine
end
section
/-! ### Loads and stores in local memory (O21) -/

namespace Sys2Proof.Machine

namespace W

/-! #### Loads -/

/-- R88: a misaligned load faults. -/
theorem sLoad_misaligned {w : W} {h : Hart} {i : SIns} {size : Nat} (hmis : (w.sAddr h i).toNat % size ≠ 0) :
    w.sLoad h i size = w.hFault h 6 (w.hpc h) (w.sAddr h i) := if_pos hmis

/-- R88: an aligned load of local memory, whose parity is right. -/
theorem sLoad_local {w : W} {h : Hart} {i : SIns} {size : Nat} (hal : (w.sAddr h i).toNat % size = 0)
    (hin : (w.sAddr h i).toNat + size ≤ hartMem h) (hbad : w.bad = []) :
    w.sLoad h i size = w.hWrite h i.sd (w64 (w.rdNat (hartKey h (w.sAddr h i).toNat) size)) := by
  simp only [sLoad, hal, ne_eq, not_true_eq_false, if_false, if_pos hin, badRun_of_bad_nil hbad, Option.isSome_none,
    Bool.false_eq_true]

/-! #### Stores -/

/-- R88: an aligned store to local memory. -/
theorem sStore_local {w : W} {h : Hart} {i : SIns} {size : Nat} (hal : (w.sAddr h i).toNat % size = 0)
    (hin : (w.sAddr h i).toNat + size ≤ hartMem h) :
    w.sStore h i size =
      (w.wrNat (hartKey h (w.sAddr h i).toNat) size ((w.sreg h i.sd).toNat % 2 ^ (8 * size))).hNext h := by
  simp only [sStore, hal, ne_eq, not_true_eq_false, if_false, if_pos hin]

@[simp] theorem wrNat_c (w : W) (k n v : Nat) : (w.wrNat k n v).c = w.c := wrBytes_c w k _

@[simp] theorem wrNat_mem (w : W) (k n v : Nat) : (w.wrNat k n v).mem = w.mem := wrBytes_mem w k _

@[simp] theorem hNext_mem (w : W) (h : Hart) : (w.hNext h).mem = w.mem := hGoto_mem w h _

@[simp] theorem hNext_rd (w : W) (h : Hart) (k : Nat) : (w.hNext h).rd k = w.rd k :=
  congrArg₂ (Memory.peek · · k) (hGoto_mem w h _) (hGoto_log w h _)

@[simp] theorem hNext_bus (w : W) (h : Hart) : (w.hNext h).c.bus = w.c.bus := hGoto_bus w h _

theorem leBytes_length (n v : Nat) : (leBytes n v).length = n := by
  induction n generalizing v with
  | zero => rfl
  | succ n ih => exact congrArg (· + 1) (ih _)

/-- Bytes written from `k` on leave every other byte as it was. -/
theorem rd_wrBytes_of_outside (w : W) (k : Nat) (bs : List Byte) {j : Nat} (hj : j < k ∨ k + bs.length ≤ j) :
    (w.wrBytes k bs).rd j = w.rd j := by
  induction bs generalizing w k with
  | nil => rfl
  | cons b bs ih =>
    rw [List.length_cons] at hj
    exact (ih (w.wr k b) (k + 1) (by omega)).trans ((w.wr_rd k j b).trans (if_neg (by omega)))

/-- A number written from `k` on leaves every byte beside its own as it was. -/
theorem rd_wrNat_of_outside (w : W) (k n v : Nat) {j : Nat} (hj : j < k ∨ k + n ≤ j) : (w.wrNat k n v).rd j = w.rd j :=
  rd_wrBytes_of_outside w k _ (by rwa [leBytes_length])

end W

/-- What a command leaves in memory is what its last operation sees there. -/
theorem get_after {s : State} {w : W} (hm : s.mem.wf = true) (hmem : w.mem = s.mem) (k : Nat) :
    Memory.get (s.after w).mem k = w.rd k := by
  rw [State.after_mem, Memory.get_applyAll _ hm, W.rd, hmem]

/-! #### The commands -/

theorem exec_scalarLoads : ∀ e ∈ scalarLoads, ∀ (h : Hart) (s : State),
    exec (e.2.1 h .none) s = sExec h e.1 none .none s fun i w => w.sLoad h i e.2.2 := by
  simp only [scalarLoads, List.forall_mem_cons]
  exact ⟨fun _ _ => rfl, fun _ _ => rfl, fun _ _ => rfl, fun _ _ => rfl, nofun⟩

theorem exec_scalarStores : ∀ e ∈ scalarStores, ∀ (h : Hart) (s : State),
    exec (e.2.1 h .none) s = sExec h e.1 none .none s fun i w => (w.sStore h i e.2.2).flushBus := by
  simp only [scalarStores, List.forall_mem_cons]
  exact ⟨fun _ _ => rfl, fun _ _ => rfl, fun _ _ => rfl, fun _ _ => rfl, nofun⟩

/-- Settles O21: the loads and stores of the two tables, aligned and local (`W.sLoad_local`, `W.sStore_local`) or misaligned
(`W.sLoad_misaligned`); no register write waits, and a store writes its own bytes (`W.rd_wrNat_of_outside`). -/
theorem localLoadsAndStores : Obligations.LocalLoadsAndStores := by
  unfold Obligations.LocalLoadsAndStores
  refine ⟨fun e he s h i hr => ⟨fun hal hin => ?load, fun hmis => ?misaligned⟩,
    fun e he s h i hr hbus hal hin => ⟨?store, fun hm k hk => ?frame⟩⟩
  case load =>
    refine (exec_scalarLoads e he h s).trans ((sExec_runs hr _).trans ?_)
    rw [W.sLoad_local hal hin hr.intact]
  case misaligned =>
    refine (exec_scalarLoads e he h s).trans ((sExec_runs hr _).trans ?_)
    rw [W.sLoad_misaligned hmis]
  case store =>
    refine (exec_scalarStores e he h s).trans ((sExec_runs hr _).trans ?_)
    rw [W.sStore_local hal hin, W.flushBus_nil _ (by rw [W.hNext_bus, W.wrNat_c]; exact hbus)]
  case frame =>
    rw [get_after hm (by rw [W.hNext_mem, W.wrNat_mem]; rfl), W.hNext_rd, W.rd_wrNat_of_outside _ _ _ _ hk]
    rfl

end Sys2Proof.Machine
end
section
/-! ### System instructions and those of the control processors (O22) -/

namespace Sys2Proof.Machine

/-- A control processor's own instruction that is carried out has its effect. -/
theorem exec_cp_runs (c : Hart → CoreUpset → Instr) {fn : Nat} {f : Nat → SIns → W → W}
    (hc : ∀ h s, exec (c h .none) s = cpExec h fn .none s f) {s : State} {k : Nat} {i : SIns}
    (hr : HartRuns s (.cp k) 0x18 (some fn) i) : exec (c (.cp k) .none) s = .next (s.after (f k i s.w)) :=
  (hc _ s).trans (sExec_runs hr _)

namespace W

theorem doFence_done {w : W} {h : Hart} (ho : (w.hart h).outs = []) : w.doFence h = w.hNext h := by
  rw [doFence, ho]; rfl

theorem doFence_waits {w : W} {h : Hart} (ho : (w.hart h).outs ≠ []) : w.doFence h = w.hStall h false :=
  if_neg fun hempty => ho (List.isEmpty_iff.1 hempty)

/-- With IE set, WFI stops issue whatever is pending (R435). -/
theorem doWfi_enabled {w : W} {k : Nat} (hie : w.flag (Reg.IC_CP_STATUS k) F.IC_CP_STATUS_IE = true) :
    w.doWfi k = (w.hNext (.cp k)).setFlag (Reg.IC_CP_STATUS k) F.IC_CP_STATUS_WFI true := by
  simp only [doWfi, hie, Bool.not_true, Bool.false_and, Bool.false_eq_true, if_false]

/-- IRET takes the newest entry of the save stack (R435). -/
theorem doIret_newest {w : W} {k pc pri : Nat} {rest : List (Nat × Nat)} (hs : (w.cp k).stack = (pc, pri) :: rest) :
    w.doIret k = (w.setCp k { w.cp k with stack := rest, given := (w.cp k).given.drop 1, pc := pc }).setFld
      (Reg.IC_CP_STATUS k) F.IC_CP_STATUS_RUNPRI pri := by
  simp only [doIret, hs]

end W

/-- Settles O22: FENCE by what is still out, WFI and IRET by the case each statement is about; the other instructions are
their definitions. -/
theorem systemInstructions : Obligations.SystemInstructions := by
  unfold Obligations.SystemInstructions
  refine ⟨fun s h i fn hr => ⟨?ycg, ?fence, ?fence_waits, ?halt, ?time⟩,
    fun s k fn i hr => ⟨?wfi, ?iret, ?ien, ?idis, ?cinv⟩⟩
  case ycg => rintro rfl; exact sExec_runs hr _
  case fence =>
    rintro rfl ho
    refine (sExec_runs hr _).trans ?_
    rw [W.doFence_done ho]
  case fence_waits =>
    rintro rfl ho
    refine (sExec_runs hr _).trans ?_
    rw [W.doFence_waits ho]
  case halt => rintro rfl; exact sExec_runs hr _
  case time => rintro rfl; exact sExec_runs hr _
  case wfi =>
    rintro rfl hie
    refine (exec_cp_runs .wfi (fun _ _ => rfl) hr).trans ?_
    rw [W.doWfi_enabled hie]
  case iret =>
    rintro rfl pc pri rest hs
    refine (exec_cp_runs .iret (fun _ _ => rfl) hr).trans ?_
    rw [W.doIret_newest hs]
  case ien => rintro rfl; exact exec_cp_runs .ien (fun _ _ => rfl) hr
  case idis => rintro rfl; exact exec_cp_runs .idis (fun _ _ => rfl) hr
  case cinv => rintro rfl; exact exec_cp_runs .cinv (fun _ _ => rfl) hr

end Sys2Proof.Machine
end
section
/-! ### Channel instructions of a scalar core (O23) -/

namespace Sys2Proof.Machine

/-- A channel instruction of a scalar core that is carried out has its effect. -/
theorem exec_ch_runs (c : Hart → CoreUpset → Instr) {fn : Nat} {f : Hart → Nat → Nat → SIns → W → W}
    (hc : ∀ h s, exec (c h .none) s = chExec h fn .none s (f h)) {s : State} {p n : Nat} {i : SIns}
    (hr : HartRuns s (.sc p n) 0x18 (some fn) i) : exec (c (.sc p n) .none) s = .next (s.after (f (.sc p n) p n i s.w)) :=
  (hc _ s).trans (sExec_runs hr _)

/-- A bit of a field is a bit of the word. -/
theorem testBit_bits (v : Word) {hi lo j : Nat} (hj : lo + j ≤ hi) : (bits v hi lo).testBit j = bit v (lo + j) := by
  rw [bits, natBits, Nat.testBit_mod_two_pow, Nat.testBit_shiftRight, decide_eq_true (by omega), Bool.true_and]
  rfl

namespace W

/-- Send slot `k` of a scalar core is open: one of its 16, granted and not closing (R156). -/
def OpenSlot (w : W) (p n k : Nat) : Prop := k < 16 ∧ (w.scSlot p n k).state = 2

theorem OpenSlot.scNoSlot {w : W} {p n k : Nat} (h : w.OpenSlot p n k) : w.scNoSlot p n k = false := by
  obtain ⟨hlt, hopen⟩ := h
  simp [W.scNoSlot, hopen, Nat.not_le.2 hlt]

theorem payloadBad_of_bad_nil {w : W} (h : w.bad = []) (p n : Nat) (sb : Word) : w.payloadBad p n sb = false := by
  rw [payloadBad, badRun_of_bad_nil h]; rfl

/-! #### CONNECT -/

/-- A CONNECT to a name that is no multicast takes the lowest free slot (R157). -/
theorem doConnect_free {w : W} {p n : Nat} {i : SIns} (hmc : bit (w.sreg (.sc p n) i.sa) 38 = false) {k : Nat}
    (hk : (List.range 16).find? (fun k => (w.scSlot p n k).state == 0) = some k) :
    w.doConnect p n i = (w.sendConnect p (12 + n) k (w.sreg (.sc p n) i.sa) (bits (w.sreg (.sc p n) i.sb) 15 0)
      (bit (w.sreg (.sc p n) i.sb) 16) false).scWait p n (.connect k) := by
  simp only [doConnect, hmc, hk, Bool.false_eq_true, if_false]

/-- A CONNECT to a multicast name opens the lowest free slot at once, with the lowest free multicast slot (R157). -/
theorem doConnectMc_free {w : W} {p n : Nat} {i : SIns} (hmc : bit (w.sreg (.sc p n) i.sa) 38 = true) {k m : Nat}
    (hk : (List.range 16).find? (fun k => ((w.agent p (12 + n)).slot k).state == 0) = some k)
    (hm : (List.range 4).find? (fun m => !((w.agent p (12 + n)).mcSlot m).inUse) = some m) :
    w.doConnectMc p n i = (w.setAgent p (12 + n) (((w.agent p (12 + n)).setSlot k
      { state := 2, name := w.sreg (.sc p n) i.sa, conn := 0xFFFE, mc := true, mcs := m,
        raw := bit (w.sreg (.sc p n) i.sb) 16, epoch := w.epoch p (12 + n) }).setMcSlot m
      { inUse := true, gen := bits (w.sreg (.sc p n) i.sb) 47 32,
        flight := bits (w.sreg (.sc p n) i.sb) 22 17 })).hWrite (.sc p n) i.sd (w64 k) := by
  simp only [doConnectMc, hmc, hk, hm, Bool.not_true, Bool.false_eq_true, if_false]

/-! #### SEND -/

/-- The mask that a multicast slot names (R165). -/
def slotMask (w : W) (p n k : Nat) : Mask :=
  if bit (w.scSlot p n k).name 39 then w.regMask (Reg.DM_MASK p (bits (w.scSlot p n k).name 27 24) 0) else 0

/-- The targets of the multicast slot of send slot `k` that have not taken its last message (R167). -/
def lateTargets (w : W) (p n k : Nat) : Mask := ((w.agent p (12 + n)).mcSlot (w.scSlot p n k).mcs).late

/-- A first SEND goes to the whole mask (R165). -/
theorem mcSend_first {w : W} {p n k : Nat} (hlate : w.lateTargets p n k = 0) (kind : Nat) (data : List Byte) :
    w.mcSend p n k false kind data = w.sendReserve p n k (w.scSlot p n k).mcs (w.slotMask p n k) kind data := by
  unfold lateTargets at hlate
  simp only [mcSend, slotMask, hlate, decide_true, Bool.true_eq_false, Bool.false_eq_true, if_false]

/-- A SEND with RETRY goes to the late targets (R167). -/
theorem mcSend_retry {w : W} {p n k : Nat} (hlate : w.lateTargets p n k ≠ 0) (kind : Nat) (data : List Byte) :
    w.mcSend p n k true kind data = w.sendReserve p n k (w.scSlot p n k).mcs (w.lateTargets p n k) kind data := by
  unfold lateTargets at hlate ⊢
  simp only [mcSend, hlate, decide_false, Bool.false_eq_true, if_false, if_true]

variable {w : W} {p n k : Nat} {i : SIns} (hk : bits (w.sreg (.sc p n) i.sa) 5 0 = k) (hopen : w.OpenSlot p n k)

include hk hopen

/-- SEND on a slot with credit (R155, R157). -/
theorem doSend_credit (hflags : bits (w.sreg (.sc p n) i.sa) 11 8 = 0) (hmc : (w.scSlot p n k).mc = false)
    (hring : (w.scSlot p n k).ring = false) {data : List Byte}
    (hdata : w.sendPayload p n (w.sreg (.sc p n) i.sb) = some data) (hbad : w.bad = [])
    (hgrant : slotsOf data.length ≤ (w.scSlot p n k).grantSlots) (hcan : w.canSend p (12 + n) k 0 data.length = true) :
    w.doSend p n i = (w.sendNow p (12 + n) k 0 data).hWrite (.sc p n) i.sd 0 := by
  simp [doSend, hk, hflags, hdata, hopen.scNoSlot, payloadBad_of_bad_nil hbad, hmc, hring, Nat.not_lt.2 hgrant, hcan]

/-- SEND on a multicast slot (R165). -/
theorem doSend_multicast (hflags : bits (w.sreg (.sc p n) i.sa) 11 8 = 0) (hmc : (w.scSlot p n k).mc = true)
    (hlate : w.lateTargets p n k = 0) {data : List Byte} (hdata : w.sendPayload p n (w.sreg (.sc p n) i.sb) = some data)
    (hbad : w.bad = []) :
    w.doSend p n i = w.sendReserve p n k (w.scSlot p n k).mcs (w.slotMask p n k) 0 data := by
  simp [doSend, hk, hflags, hdata, hopen.scNoSlot, payloadBad_of_bad_nil hbad, hmc, mcSend_first hlate]

/-- SEND with RETRY (R167). -/
theorem doSendRetry_late (hflags : bits (w.sreg (.sc p n) i.sa) 11 8 = 8) (hmc : (w.scSlot p n k).mc = true)
    (hlate : w.lateTargets p n k ≠ 0) {data : List Byte} (hdata : w.sendPayload p n (w.sreg (.sc p n) i.sb) = some data)
    (hbad : w.bad = []) :
    w.doSendRetry p n i = w.sendReserve p n k (w.scSlot p n k).mcs (w.lateTargets p n k) 0 data := by
  simp [doSendRetry, hk, hflags, hdata, hopen.scNoSlot, payloadBad_of_bad_nil hbad, hmc, mcSend_retry hlate]

omit hk hopen in
/-- SEND with NULL alone is no RETRY. -/
theorem no_retry_of_flags_null (hflags : bits (w.sreg (.sc p n) i.sa) 11 8 = 1) :
    bit (w.sreg (.sc p n) i.sa) 11 = false := by
  rw [← testBit_bits (hi := 11) (lo := 8) (j := 3) _ (by decide), hflags]
  rfl

/-- SEND with NULL on a slot with credit (R157). -/
theorem doSendNull_credit (hflags : bits (w.sreg (.sc p n) i.sa) 11 8 = 1) (hmc : (w.scSlot p n k).mc = false)
    (hcan : w.canSend p (12 + n) k 1 0 = true) :
    w.doSendNull p n i = (w.sendNow p (12 + n) k 1 []).hWrite (.sc p n) i.sd 0 := by
  simp [doSendNull, hk, hflags, no_retry_of_flags_null hflags, hopen.scNoSlot, hmc, hcan]

/-- SEND with NULL on a multicast slot (R165). -/
theorem doSendNull_multicast (hflags : bits (w.sreg (.sc p n) i.sa) 11 8 = 1) (hmc : (w.scSlot p n k).mc = true)
    (hlate : w.lateTargets p n k = 0) :
    w.doSendNull p n i = w.sendReserve p n k (w.scSlot p n k).mcs (w.slotMask p n k) 1 [] := by
  simp [doSendNull, hk, hflags, no_retry_of_flags_null hflags, hopen.scNoSlot, hmc, mcSend_first hlate]

/-! #### CLOSE -/

/-- A multicast slot closes locally (R157). -/
theorem doClose_multicast (hmc : (w.scSlot p n k).mc = true) :
    w.doClose p n i = (w.setAgent p (12 + n) (((w.agent p (12 + n)).setSlot k {}).setMcSlot
      (w.scSlot p n k).mcs {})).hWrite (.sc p n) i.sd 0 := by
  have hmc' : ((w.agent p (12 + n)).slot k).mc = true := hmc
  simp only [doClose, hk, hopen.scNoSlot, hmc', Bool.false_eq_true, if_false, if_true]
  rfl

/-- CLOSE goes out and the core waits for its answer (R156). -/
theorem doClose_credit (hmc : (w.scSlot p n k).mc = false) (hcan : w.canSend p (12 + n) k 3 0 = true) :
    let w' := w.sendNow p (12 + n) k 3 []
    w.doClose p n i = (w'.setAgent p (12 + n) ((w'.agent p (12 + n)).setSlot k
      { (w'.agent p (12 + n)).slot k with state := 3 })).scWait p n (.close k) := by
  have hmc' : ((w.agent p (12 + n)).slot k).mc = false := hmc
  simp only [doClose, hk, hopen.scNoSlot, hmc', hcan, Bool.false_eq_true, if_false, if_true]

omit hk hopen

/-! #### RECV -/

/-- RECV of a message that fits (R157). -/
theorem doRecv_message {v w : W} (hrel : bit (v.sreg (.sc p n) i.sa) 5 = false) {t : Packet}
    (hpop : v.pop p (12 + n) (bits (v.sreg (.sc p n) i.sa) 3 0) = some (t, w)) (hclean : t.poison = false)
    (hnull : isNull t = false) (hin : bits (v.sreg (.sc p n) i.sb) 31 0 + t.data.length ≤ 2 ^ 16) :
    v.doRecv p n i .none = (w.wrBytes (hartKey (.sc p n) (bits (v.sreg (.sc p n) i.sb) 31 0)) t.data).hWrite (.sc p n) i.sd
      (w64 ((tkind t == 4).toNat * 2 ^ 62 + t.seq % 2 ^ 16 * 2 ^ 32 + t.conn % 2 ^ 16 * 2 ^ 16 + t.len % 2 ^ 16)) := by
  simp only [doRecv, hrel, hpop, hclean, hnull, Bool.false_eq_true, reduceCtorEq, or_self, if_false,
    if_neg (Nat.not_lt.2 hin)]

/-- RECV of a null token (R157). -/
theorem doRecv_null {v w : W} (hrel : bit (v.sreg (.sc p n) i.sa) 5 = false) {t : Packet}
    (hpop : v.pop p (12 + n) (bits (v.sreg (.sc p n) i.sa) 3 0) = some (t, w)) (hclean : t.poison = false)
    (hnull : isNull t = true) :
    v.doRecv p n i .none = (w.count (Reg.SC_NULL_RECV p n) 1).hWrite (.sc p n) i.sd
      (w64 (2 ^ 63 + t.seq % 2 ^ 16 * 2 ^ 32 + t.conn % 2 ^ 16 * 2 ^ 16)) := by
  simp only [doRecv, hrel, hpop, hclean, hnull, Bool.false_eq_true, reduceCtorEq, or_self, if_false, if_true]

/-- RECV with RELEASE_ONLY (R163). -/
theorem doRecvRelease_only (hrel : bit (w.sreg (.sc p n) i.sa) 5 = true) :
    w.doRecvRelease p n i = (w.releaseRing p (12 + n) (bits (w.sreg (.sc p n) i.sa) 3 0)).draw.2.hWrite (.sc p n) i.sd
      (w.releaseRing p (12 + n) (bits (w.sreg (.sc p n) i.sa) 3 0)).draw.1 := by
  simp only [doRecvRelease, hrel, Bool.not_true, Bool.false_eq_true, if_false]

/-! #### STEPWAIT -/

/-- Waiting changes SC_STATUS only; the state of the gallery's step stays. -/
theorem scWait_gstep (w : W) (p n : Nat) (x : HWait) (f : Fld) :
    (w.scWait p n x).fld (Reg.GSTEP_STATE p) f = w.fld (Reg.GSTEP_STATE p) f := by
  have hne : Reg.GSTEP_STATE p ≠ Reg.SC_STATUS p n := by simp only [Reg.GSTEP_STATE, Reg.SC_STATUS]; omega
  rw [fld, scWait, reg_setFlag_ne _ _ _ hne]
  rfl

/-- A core other than SC0 of a gallery that has arrived only waits (R184). -/
theorem doStepwait_waits (h : n ≠ 0 ∨ w.fld (Reg.GSTEP_STATE p) F.GSTEP_STATE_STATE ≠ 2) :
    w.doStepwait p n = w.scWait p n .step := by
  refine if_neg fun harrived => ?_
  rw [scWait_gstep] at harrived
  exact h.elim (· harrived.1) (· harrived.2)

end W

/-- Settles O23: each instruction by the case of it that the statement is about. -/
theorem channelInstructions : Obligations.ChannelInstructions := by
  unfold Obligations.ChannelInstructions
  refine fun s p n fn i hr => ⟨?connect, ?connectMc, ?send, ?sendNull, ?sendMc, ?sendRetry, ?recv, ?release, ?closeMc,
    ?close, ?stepwait, ?step⟩
  case connect =>
    rintro rfl hmc k hk
    refine (exec_ch_runs .connect (fun _ _ => rfl) hr).trans ?_
    rw [W.doConnect_free hmc hk]
  case connectMc =>
    rintro rfl hmc k m hk hm
    refine (exec_ch_runs .connectMulticast (fun _ _ => rfl) hr).trans ?_
    rw [W.doConnectMc_free hmc hk hm]
  case send =>
    rintro rfl hflags hopen hmc hring data hdata hgrant hcan
    refine (exec_ch_runs .send (fun _ _ => rfl) hr).trans ?_
    rw [W.doSend_credit rfl hopen hflags hmc hring hdata hr.intact hgrant hcan]
  case sendNull =>
    rintro rfl hflags hopen hmc hcan
    refine (exec_ch_runs .sendNull (fun _ _ => rfl) hr).trans ?_
    rw [W.doSendNull_credit rfl hopen hflags hmc hcan]
  case sendMc =>
    rintro rfl hopen hmc hlate
    refine ⟨fun hflags data hdata => ?_, fun hflags => ?_⟩
    · refine (exec_ch_runs .send (fun _ _ => rfl) hr).trans ?_
      rw [W.doSend_multicast rfl hopen hflags hmc hlate hdata hr.intact]
      rfl
    · refine (exec_ch_runs .sendNull (fun _ _ => rfl) hr).trans ?_
      rw [W.doSendNull_multicast rfl hopen hflags hmc hlate]
      rfl
  case sendRetry =>
    rintro rfl hflags hopen hmc data hdata hlate
    refine (exec_ch_runs .sendRetry (fun _ _ => rfl) hr).trans ?_
    rw [W.doSendRetry_late rfl hopen hflags hmc hlate hdata hr.intact]
    rfl
  case recv =>
    rintro rfl hrel t w hpop hclean
    refine ⟨fun hnull hin => ?_, fun hnull => ?_⟩
    · refine (exec_ch_runs .recv (fun _ _ => rfl) hr).trans ?_
      rw [W.doRecv_message hrel hpop hclean hnull hin]
    · refine (exec_ch_runs .recv (fun _ _ => rfl) hr).trans ?_
      rw [W.doRecv_null hrel hpop hclean hnull]
  case release =>
    rintro rfl hrel
    refine (exec_ch_runs .recvReleaseOnly (fun _ _ => rfl) hr).trans ?_
    rw [W.doRecvRelease_only hrel]
  case closeMc =>
    rintro rfl hopen hmc
    refine (exec_ch_runs .close (fun _ _ => rfl) hr).trans ?_
    rw [W.doClose_multicast rfl hopen hmc]
  case close =>
    rintro rfl hopen hmc hcan
    refine (exec_ch_runs .close (fun _ _ => rfl) hr).trans ?_
    rw [W.doClose_credit rfl hopen hmc hcan]
  case stepwait =>
    rintro rfl h
    refine (exec_ch_runs .stepwait (fun _ _ => rfl) hr).trans ?_
    rw [W.doStepwait_waits h]
  case step =>
    rintro rfl
    exact exec_ch_runs .step (fun _ _ => rfl) hr

end Sys2Proof.Machine
end

section
/-! ### Requests at the hall (O25) -/

namespace Sys2Proof.Machine

/-- A command of a unit of a live part, by what its operation leaves. -/
theorem runOn_eq {s : State} (hl : s.live = true) {ok : Bool} (hk : ok = true) {f : W → W} {w : W} (hf : f s.w = w) :
    runOn ok s f = .next (s.after w) := by
  rw [runOn_live hl hk, hf]

theorem masterOk_of {p m : Nat} (h : p < 312) (hm : m < 15) : masterOk p m = true := by simp [masterOk, galOk, h, hm]

namespace W

/-! #### Grants change no byte -/

theorem SameBytes.usePort (w : W) (p m : Nat) (req : Packet) : SameBytes w (w.usePort p m req) := by
  unfold W.usePort
  split
  · exact ⟨rfl, rfl, rfl⟩
  · exact .refl w

theorem SameBytes.takeGrant (w : W) (p t m : Nat) (rivals : List (Nat × Nat)) :
    SameBytes w (w.takeGrant p t m rivals) := by
  unfold W.takeGrant W.when
  dsimp only
  split
  · exact .trans (w' := w.setHall p _) ⟨rfl, rfl, rfl⟩ (.count _ _ _)
  · exact ⟨rfl, rfl, rfl⟩

theorem SameBytes.endLatch (w : W) (p off : Nat) : SameBytes w (w.endLatch p off) := by
  unfold W.endLatch
  dsimp only
  split
  · exact ⟨rfl, rfl, rfl⟩
  · exact .refl w

/-- A grant leaves memory and its parity as they were. -/
theorem SameBytes.of_grantOf {v g : W} {p t m age : Nat} {req : Packet} {rivals : List (Nat × Nat)}
    (h : v.grantOf p t m req age rivals = some g) : SameBytes v g := by
  unfold W.grantOf at h
  split at h <;> cases h
  exact (SameBytes.usePort v p m req).trans (.takeGrant _ _ _ _ _)

/-- A read where no parity is wrong meets no error. -/
theorem readUpset_intact {w : W} (h : w.bad = []) (p off n : Nat) : w.readUpset p off n .none = .none := by
  rw [readUpset, badRun_of_bad_nil h]

/-! #### The hall -/

section
variable {v g : W} {p m off age cycle : Nat} {req : Packet} {rivals : List (Nat × Nat)}

/-- A latch that does not hold line `off / 128` does not serve a read of it (R99). -/
theorem not_served {la : Latch} (h : la.live = false ∨ la.line ≠ off / 128) :
    ¬ (la.live = true ∧ la.line = off / 128 ∧ la.master ≠ m ∧ la.cycle ≤ cycle ∧ cycle ≤ la.cycle + la.window) := by
  rintro ⟨hlive, hline, -⟩
  obtain h | h := h
  · rw [h] at hlive; cases hlive
  · exact h hline

/-- A bank read that is granted answers the bytes; the bank's latch takes the line (R99). -/
theorem doHallRead_granted (htgt : v.hallTarget p m req = (some off, true)) (hbad : v.bad = []) (hoff : off < 0x400000)
    (hg : v.grantOf p (hallBank off) m req age rivals = some g)
    (hla : (Tbl.get (fun _ => {}) (v.hall p).latch (hallBank off)).live = false ∨
      (Tbl.get (fun _ => {}) (v.hall p).latch (hallBank off)).line ≠ off / 128) :
    v.doHallRead p m req cycle age rivals .none = (g.setHall p { g.hall p with
      latch := Tbl.set (fun _ => {}) (g.hall p).latch (hallBank off)
        { live := true, line := off / 128, cycle := cycle, window := g.mergeW p off, master := m } }).hallReply p m req
          (v.lineBytes p off req.len) false := by
  simp [doHallRead, htgt, readUpset_intact hbad, hoff, if_neg (not_served hla), hg]

/-- A read that the bank's latch serves takes no bank cycle (R99). -/
theorem doHallRead_merged (htgt : v.hallTarget p m req = (some off, true)) (hoff : off < 0x400000) {la : Latch}
    (hla : Tbl.get (fun _ => {}) (v.hall p).latch (hallBank off) = la)
    (hserved : la.live = true ∧ la.line = off / 128 ∧ la.master ≠ m ∧ la.cycle ≤ cycle ∧ cycle ≤ la.cycle + la.window)
    (hturn : v.portTurn p m req rivals = true) (u : ParityUpset) :
    v.doHallRead p m req cycle age rivals u =
      ((v.usePort p m req).count (Reg.HALL_MERGE_HITS p) 1).hallReply p m req (v.lineBytes p off req.len) la.poison := by
  simp only [doHallRead, htgt, if_pos hoff, hla, if_pos hserved, if_pos hturn]

/-- A read that neither the latch serves nor the bank grants leaves everything as it is (R97). -/
theorem doHallRead_refused (htgt : v.hallTarget p m req = (some off, true)) (hoff : off < 0x400000)
    (hg : v.grantOf p (hallBank off) m req age rivals = none)
    (hla : (Tbl.get (fun _ => {}) (v.hall p).latch (hallBank off)).live = false) (u : ParityUpset) :
    v.doHallRead p m req cycle age rivals u = v := by
  simp only [doHallRead, htgt, if_pos hoff, if_neg (not_served (.inl hla)), hg]

/-- A write that is granted ends the latch of its line, and stores (R99). -/
theorem doHallWrite_granted (htgt : v.hallTarget p m req = (some off, true)) (hoff : off < 0x400000) (hm : m ≠ 14)
    (hclean : req.poison = false) (hg : v.grantOf p (hallBank off) m req age rivals = some g) :
    v.doHallWrite p m req age rivals .none =
      ((g.endLatch p off).wrBytes (galKey p off) (req.data.take (128 - off % 128))).emit (.reply p m [] false false) := by
  simp only [doHallWrite, htgt, if_pos hoff, hg, hclean, Bool.false_eq_true, if_false, if_neg hm]

theorem doHallWrite_refused (htgt : v.hallTarget p m req = (some off, true)) (hoff : off < 0x400000)
    (hg : v.grantOf p (hallBank off) m req age rivals = none) (u : ParityUpset) :
    v.doHallWrite p m req age rivals u = v := by
  simp only [doHallWrite, htgt, if_pos hoff, hg]

/-- An atomic that is granted stores its result, answers the old word and enters the tracker, where it counts no event
(R100, R101). -/
theorem doHallAtomic_granted (htgt : v.hallTarget p m req = (some off, true)) (hbad : v.bad = []) (hoff : off < 0x400000)
    (halign : off % 8 = 0) (hm : m ≠ 14) (hclean : req.poison = false)
    (hg : v.grantOf p (hallBank off) m req age rivals = some g) {g' : W} (hg' : g.endLatch p off = g')
    (hnd : (track (g'.hall p).tracker (g'.hall p).evicted off m).2.2 = false) (op : AtomOp) (cmp : Word) :
    v.doHallAtomic p m req op cmp age rivals .none =
      ((g'.setHall p { g'.hall p with
          tracker := (track (g'.hall p).tracker (g'.hall p).evicted off m).1,
          evicted := (track (g'.hall p).tracker (g'.hall p).evicted off m).2.1 }).wrNat (galKey p off) 8
        (atomNew op (w64 (g'.rdNat (galKey p off) 8)) req.arg cmp).toNat).emit
          (.reply p m (leBytes 8 (w64 (g'.rdNat (galKey p off) 8)).toNat) false false) := by
  have hbad' : g'.bad = [] :=
    hg' ▸ ((SameBytes.of_grantOf hg).trans (.endLatch g p off)).bad.trans hbad
  simp only [doHallAtomic, htgt, if_neg (Nat.not_le.2 hoff), halign, hg, hg', readUpset_intact hbad', hclean, atomSource,
    if_neg hm, hnd, when, ne_eq, not_true_eq_false, Bool.false_eq_true, if_false]

/-! #### A core's own memory -/

/-- A read of a matrix core's buffer that the core grants (R91). -/
theorem doHallRead_core (htgt : v.hallTarget p m req = (some off, true)) (hbad : v.bad = []) (hoff : 0x400000 ≤ off)
    (hown : ownerOf off < 8) (hg : v.coreGrant p off m req age rivals = some g) :
    v.doHallRead p m req cycle age rivals .none = g.hallReply p m req (v.lineBytes p off req.len) false := by
  simp [doHallRead, htgt, readUpset_intact hbad, Nat.not_lt.2 hoff, hg, flipAtRead, hown]

/-- A write into a core's memory that the core grants (R91). -/
theorem doHallWrite_core (htgt : v.hallTarget p m req = (some off, true)) (hoff : 0x400000 ≤ off) (hm : m ≠ 14)
    (hclean : req.poison = false) (hg : v.coreGrant p off m req age rivals = some g) :
    v.doHallWrite p m req age rivals .none =
      (g.wrBytes (galKey p off) (req.data.take (128 - off % 128))).emit (.reply p m [] false false) := by
  simp only [doHallWrite, htgt, if_neg (Nat.not_lt.2 hoff), hg, hclean, Bool.false_eq_true, ne_eq, not_true_eq_false,
    or_self, if_false, if_neg hm]

end

/-! #### The merge window -/

/-- Hall region `n` is enabled and contains offset `off` (R116). -/
def regionHolds (w : W) (p off n : Nat) : Prop :=
  w.flag (Reg.HALL_REGION p n) F.HALL_REGION_EN = true ∧ w.fld (Reg.HALL_REGION p n) F.HALL_REGION_BASE * 4096 ≤ off ∧
    off < (w.fld (Reg.HALL_REGION p n) F.HALL_REGION_BASE + w.fld (Reg.HALL_REGION p n) F.HALL_REGION_SIZE + 1) * 4096

/-- Inside the hall, clipping a region at the hall's end changes nothing. -/
theorem regionHolds_iff (w : W) {p off : Nat} (hoff : off < 0x400000) (n : Nat) :
    (w.flag (Reg.HALL_REGION p n) F.HALL_REGION_EN && decide (w.fld (Reg.HALL_REGION p n) F.HALL_REGION_BASE * 4096 ≤ off) &&
      decide (off < min 0x400000 (w.fld (Reg.HALL_REGION p n) F.HALL_REGION_BASE * 4096 +
        (w.fld (Reg.HALL_REGION p n) F.HALL_REGION_SIZE + 1) * 4096))) = true ↔ w.regionHolds p off n := by
  simp only [regionHolds, Bool.and_eq_true, decide_eq_true_eq, and_assoc]
  refine and_congr_right fun _ => and_congr_right fun _ => ?_
  omega

/-- The window of the lowest region that contains the offset (R98). -/
theorem mergeW_of_region {w : W} {p off n : Nat} (hoff : off < 0x400000) (hn : n < 8) (hin : w.regionHolds p off n)
    (hlow : ∀ m < n, ¬ w.regionHolds p off m) :
    w.mergeW p off = min 8 (w.fld (Reg.HALL_REGION p n) F.HALL_REGION_MERGE_W) := by
  rw [mergeW]
  dsimp only
  rw [List.find?_range_eq_some.2 ⟨(regionHolds_iff w hoff n).2 hin, List.mem_range.2 hn, fun m hm => ?_⟩]
  rw [Bool.not_eq_true', ← Bool.not_eq_true, regionHolds_iff w hoff]
  exact hlow m hm

/-- The default window, where no region contains the offset (R98). -/
theorem mergeW_default {w : W} {p off : Nat} (hoff : off < 0x400000) (hout : ∀ n < 8, ¬ w.regionHolds p off n) :
    w.mergeW p off = min 8 (w.fld (Reg.HALL_CFG p) F.HALL_CFG_DEF_MERGE_W) := by
  rw [mergeW]
  dsimp only
  rw [List.find?_eq_none.2 fun n hn => ?_]
  rw [regionHolds_iff w hoff]
  exact hout n (List.mem_range.1 hn)

end W

end Sys2Proof.Machine
end

section
/-! ### Responses at their requesters (O25) -/

namespace Sys2Proof.Machine

namespace W

section
variable {w : W} {p n k : Nat} {t : Packet}

/-- The agent code of a scalar core answers to `Hart.sc` (R151). -/
theorem sc_agent (hn : n < 2) : (12 + n = 12 ∨ 12 + n = 13) ∧ 12 + n - 12 = n := by omega

/-- A read response ends the load it answers (R124). -/
theorem doRdRsp_load (hexit : t.exit = 0) (hn : n < 2) (ha : credAgent t = 12 + n)
    (hk : w.outIndex (.sc p n) true t.addr = some k) :
    w.doRdRsp p t = w.doLoadReturn (.sc p n) k (rspWord t) (if t.poison then .poisoned else .none) := by
  obtain ⟨hsc, hcore⟩ := sc_agent hn
  simp only [doRdRsp, hexit, ha, hsc, hcore, hk, ne_eq, not_true_eq_false, if_false, if_true]

/-- A clean write acknowledgement ends the store it answers (R124). -/
theorem doWrAck_store (hexit : t.exit = 0) (hn : n < 2) (ha : credAgent t = 12 + n)
    (hk : w.outIndex (.sc p n) false t.addr = some k) (hclean : t.poison = false) :
    w.doWrAck p t = (w.setHart (.sc p n) { w.hart (.sc p n) with
      outs := (w.hart (.sc p n)).outs.eraseIdx k }).releaseOuts (.sc p n) 8 := by
  obtain ⟨hsc, hcore⟩ := sc_agent hn
  simp only [doWrAck, hexit, ha, hsc, hcore, hk, hclean, (by decide : ¬ 0 = 2), ne_eq, not_true_eq_false,
    Bool.false_eq_true, if_false, if_true]

/-- An address error faults the core whose access it answers (R105, R132). -/
theorem doErrRsp_address {o : FarAccess} (hexit : t.exit = 0) (hn : n < 2) (ha : credAgent t = 12 + n)
    (hk : ((w.hart (.sc p n)).outs.findIdx? fun o => o.addr == t.addr) = some k)
    (ho : (w.hart (.sc p n)).outs[k]? = some o) (hcause : bits t.arg 3 0 = 3) :
    w.doErrRsp p t = w.hFault (.sc p n) 7 o.pc o.addr := by
  obtain ⟨hsc, hcore⟩ := sc_agent hn
  simp only [doErrRsp, hexit, ha, hsc, hcore, hk, ho, hcause, ne_eq, not_true_eq_false, if_false, if_true]

/-- The answer to an atomic of the data mover reaches its job. -/
theorem doAtRsp_mover (hexit : t.exit = 0) (ha : credAgent t = 15) : w.doAtRsp p t = w.dmAnswer p 5 t :=
  if_pos ⟨hexit, ha⟩

/-- The vestibule gathers the acknowledgement of a flip (R131). -/
theorem doWrAck_flip (hexit : t.exit = 2) : w.doWrAck p t = w.flipAnswer t.mask 0 := if_pos hexit

/-- The vestibule gathers the prunes of a flip, which is complete when every target has answered (R131). -/
theorem doMcPrune_flip (hexit : t.exit = 2) {f : Flip} (hf : w.c.flip = some f) :
    w.doMcPrune p t = { w with c := { w.c with
      flip := if f.targets &&& ~~~(f.acked ||| (f.pruned ||| t.mask)) == 0 then none
        else some { f with pruned := f.pruned ||| t.mask } } } := by
  have hacked : f.acked ||| (0 : Mask) = f.acked := BitVec.or_zero
  rw [doMcPrune, if_pos hexit, flipAnswer, hf]
  simp only [hacked]

/-- The prune of a multicast token reaches its sender. -/
theorem doMcPrune_token (hexit : t.exit = 0) :
    w.doMcPrune p t = w.mcAnswer p (credAgent t) (credSlot t) t.mask true false := by
  rw [doMcPrune, if_neg (by rw [hexit]; decide), if_pos hexit]

/-- A poisoned line stalls the matrix core that asked for it (R103). -/
theorem doPoisoned_matrix {a : Nat} (ha : a < 8) :
    w.doPoisoned p a = w.setMc p a { w.mc p a with stalled := true } := by
  rw [doPoisoned, if_neg (by omega), stallAgent, if_pos ha]

end

end W

/-! #### The obligation -/

/-- Settles O25: a request is served, merged or refused by its grant (`W.doHallRead_granted` and its neighbours), the
window is that of the first region that holds the offset (`W.mergeW_of_region`), and a response goes to the agent its RTAG
names. -/
theorem hallRequestsAndResponses : Obligations.HallRequestsAndResponses := by
  unfold Obligations.HallRequestsAndResponses
  refine ⟨fun s p m off age cycle req rivals hl hp hm htgt hbad => ?requests, fun w p off hoff => ?window,
    fun s p n k t o hl hp hn => ?responses⟩
  case requests =>
    have hok := masterOk_of hp hm
    refine ⟨fun hoff g hg => ⟨fun hla => ?read, fun hm14 hclean => ?write, fun hm14 hclean halign op cmp => ?atomic⟩,
      fun hoff hlive hline hother hfrom hto hturn => ?merged, fun hoff hg hla => ⟨?readRefused, ?writeRefused⟩,
      fun hoff g hg => ⟨fun hown => ?readCore, fun hm14 hclean => ?writeCore⟩⟩
    case read => exact runOn_eq hl hok (W.doHallRead_granted htgt hbad hoff hg hla)
    case write => exact runOn_eq hl hok (W.doHallWrite_granted htgt hoff hm14 hclean hg)
    case atomic =>
      intro g' old tr hnd
      exact runOn_eq hl hok (W.doHallAtomic_granted htgt hbad hoff halign hm14 hclean hg rfl hnd op cmp)
    case merged => exact runOn_eq hl hok (W.doHallRead_merged htgt hoff rfl ⟨hlive, hline, hother, hfrom, hto⟩ hturn _)
    case readRefused => exact runOn_eq hl hok (W.doHallRead_refused htgt hoff hg hla _)
    case writeRefused => exact runOn_eq hl hok (W.doHallWrite_refused htgt hoff hg _)
    case readCore => exact runOn_eq hl hok (W.doHallRead_core htgt hbad hoff hown hg)
    case writeCore => exact runOn_eq hl hok (W.doHallWrite_core htgt hoff hm14 hclean hg)
  case window => exact ⟨fun n hn hin hlow => W.mergeW_of_region hoff hn hin hlow, fun hout => W.mergeW_default hoff hout⟩
  case responses =>
    have hok := galOk_of hp
    refine ⟨fun hexit ha => ⟨fun hk => ?load, fun hk hclean => ?store, fun hk ho hcause => ?address⟩,
      fun hexit ha => ?mover, fun hexit f hf => ⟨?ack, ?prune⟩, fun hexit => ?token, fun a ha => ?poisoned⟩
    case load => exact runOn_eq hl hok (congrArg W.flushBus (W.doRdRsp_load hexit hn ha hk))
    case store => exact runOn_eq hl hok (congrArg W.flushBus (W.doWrAck_store hexit hn ha hk hclean))
    case address => exact runOn_eq hl hok (congrArg W.flushBus (W.doErrRsp_address hexit hn ha hk ho hcause))
    case mover => exact runOn_eq hl hok (congrArg W.flushBus (W.doAtRsp_mover hexit ha))
    case ack => exact runOn_eq hl hok (congrArg W.flushBus (W.doWrAck_flip hexit))
    case prune => exact runOn_eq hl hok (W.doMcPrune_flip hexit hf)
    case token => exact runOn_eq hl hok (W.doMcPrune_token hexit)
    case poisoned => exact runOn_eq hl (agentOk_of hp (by omega)) (W.doPoisoned_matrix ha)

end Sys2Proof.Machine
end

section
/-! ### The data mover's writes (O26)

The data mover reaches the crossbar of its own gallery as master 13 (R96). Its FILL statement takes the write of the line from
`farPut` as a scalar core's port 12 makes it, and round-robin arbitration keeps the master last granted (R97): a FILL into the
data mover's own hall leaves another part behind than the statement says. -/

namespace Sys2Proof.Machine

@[simp] theorem DmCmd.length_fillBytes (x : DmCmd) (n : Nat) : (x.fillBytes n).length = n := by
  rw [fillBytes, List.length_map, List.length_range]

namespace W

/-- The target's last grant went to the master that wrote. -/
theorem putLine_last {w : W} {p m off : Nat} (hoff : off < 0x400000) (bs : List Byte) :
    Tbl.get (fun _ => 0) ((w.putLine p m off bs).hall p).last (hallBank off) = m := by
  have hend : ∀ w : W, ((w.endLatch p off).hall p).last = (w.hall p).last := fun w => by
    unfold endLatch
    dsimp only
    split
    · simp [hall, setHall]
    · rfl
  rw [putLine, if_pos hoff, wrBytes_hall, hend]
  simp [takeGrant, when, hall, setHall]

/-- A line written into the requester's own gallery is written by the port the requester names (R96). -/
theorem farPut_own_gallery {w : W} {p off : Nat} {addr : Word} (h : w.place (some p) addr = .gal p off) (req : Word)
    (bs : List Byte) (own : Nat) : w.farPut (some p) req addr bs own = (.ok [] false, w.putLine p own off bs) := by
  simp only [farPut, lineWrite, h, masterOf, if_true]

/-- One line that its storage takes. -/
theorem dmPutAll_line {w w' : W} {p : Nat} {r : DmRun} {dst : Word} {bs a : List Byte} (hr : r.stop = none)
    (hl : linePieces dst.toNat bs.length = [(0, bs.length)])
    (hput : w.farPut (some p) (w64 p) dst bs 13 = (.ok a false, w')) : w.dmPutAll p r dst bs = (r, w') := by
  have hdst : dst + w64 0 = dst := BitVec.add_zero dst
  simp only [dmPutAll, hl, List.foldl_cons, List.foldl_nil, hr, Option.isSome_none, Bool.false_eq_true, if_false, hdst,
    List.drop_zero, List.take_length, dmPut, hput]

/-- A FILL of one line starts and is done at once: the data mover's port 13 writes its bytes (R96, R106). -/
theorem dmStart_fill_line {w w' : W} {p k : Nat} {j : DmJob} {x : DmCmd} {a : List Byte}
    (hj : (w.dm p).jobs[k]? = some j) (hx : DmCmd.ofWords j.words = x) (houts : j.outs = []) (hop : x.opcode = 0x12)
    (hrows : x.dim1 = 1) (hl : linePieces x.dst.toNat x.dim0 = [(0, x.dim0)])
    (hput : w.farPut (some p) (w64 p) x.dst (x.fillBytes x.dim0) 13 = (.ok a false, w')) :
    w.dmStart p k .none =
      w'.setDm p { w'.dm p with jobs := (w'.dm p).jobs.set k { j with held := false, state := .done } } := by
  have hmcast : x.isMcast = false := by simp [DmCmd.isMcast, hop]
  have hfill : x.isFill = true := by simp [DmCmd.isFill, hop]
  have hatomic : x.isAtomic = false := by simp [DmCmd.isAtomic, hop]
  have hdst : x.dst + w64 (0 * x.dstPitch) = x.dst := by rw [Nat.zero_mul]; exact BitVec.add_zero _
  have hrow : w.dmRow p x { lines := j.lines, room := w.dmRoom p } 0 .none =
      ({ lines := j.lines, room := w.dmRoom p }, w') := by
    simp only [dmRow, DmRun.still, Option.isSome_none, Bool.or_self, Bool.false_eq_true, if_false, hfill, if_true,
      dmDest, hmcast, hdst]
    exact dmPutAll_line rfl (by rw [DmCmd.length_fillBytes]; exact hl) hput
  simp only [dmStart, hj, hx, hmcast, hatomic, when, dmRows, hrows, houts, List.range_one, List.foldl_cons, List.foldl_nil,
    hrow, dmSettle, DmRun.still, Option.isSome_none, Bool.or_self, Bool.false_eq_true, false_and, if_false,
    List.isEmpty_nil, Bool.not_false, Bool.and_self, if_true]

end W

/-! #### The counterexample -/

/-- A descriptor: FILL of one row of 8 bytes at offset 0x2000 of the hall of logical gallery 0. -/
def fillWords : List Word := [w64 (2 ^ 40 + 0x02 * 2 ^ 32 + 0x12), 0, w64 0x7F0000002000, w64 (2 ^ 32 + 8), 0, 5]

/-- The part after reset, with gallery 311 not fenced and known to its landing as logical gallery 0, and the descriptor
`fillWords` in its data mover. -/
def fillPart : W :=
  ((State.reset.w.setReg (Reg.GAL_FENCE 311) 0).setReg (Reg.LMAP 311 0 0) (w64 (2 ^ 15 + 311))).setDm 311
    { jobs := [{ words := fillWords }] }

theorem place_fillPart : fillPart.place (some 311) (w64 0x7F0000002000) = .gal 311 0x2000 := by decide

/-- Refutes O26: the FILL of `fillPart` writes gallery 311's own hall, so that bank 0 was last granted to master 13, the data
mover; the statement has it granted to master 12. -/
theorem not_dataMoverDescriptors : ¬ Obligations.DataMoverDescriptors := by
  unfold Obligations.DataMoverDescriptors
  intro h
  obtain ⟨-, hrest⟩ := h
  obtain ⟨hfill, -⟩ := hrest State.reset 311 (by decide) (by decide)
  have hput := W.farPut_own_gallery place_fillPart (w64 311) ((DmCmd.ofWords fillWords).fillBytes 8)
  have hj : (fillPart.dm 311).jobs[0]? = some { words := fillWords } := by simp [fillPart, W.dm, W.setDm]
  have hl : linePieces (w64 0x7F0000002000).toNat 8 = [(0, 8)] := by decide
  have hstated := hfill fillPart 0 _ _ _ hj rfl (by decide) (by decide) hl (hput 12)
  have hmodel := W.dmStart_fill_line hj rfl rfl (by decide) (by decide) hl (hput 13)
  have hlast := congrArg (fun w => Tbl.get (fun _ => 0) (w.hall 311).last (W.hallBank 0x2000)) (hmodel.symm.trans hstated)
  simp only [W.setDm_hall, W.putLine_last (show 0x2000 < 0x400000 by decide)] at hlast
  exact absurd hlast (by decide)

end Sys2Proof.Machine
end

section
/-! ### Steering operations whose control is in the control list (O27) -/

namespace Sys2Proof.Machine

theorem suOk_of {p e : Nat} (h : p < 312) (he : e < 256) : suOk p e = true := by simp [suOk, galOk, h, he]

namespace W

/-! #### A control of the list -/

/-- The control list has the control of the next slot: its byte at CLIST for the whole step of a SWITCH or MERGE, else at
CLIST plus the slot (R111, R112). -/
theorem suControl_listed {w : W} {p : Nat} {x : SuEntry} {r : SuRun} (hsrc : x.csrc = 1) (hr : r.ctrl = none) {i : Nat}
    (hi : x.clist + (if x.op = 1 ∨ x.op = 2 then 0 else r.slot) = i) (hlt : i < 4096) :
    w.suControl p x r = (some (.value (w.suByte p i), none), w) := by
  simp only [suControl, hr, hsrc, if_true, hi, if_pos hlt]

/-- With its control in the list an entry never waits for it. -/
theorem suControl_listed_isSome {w : W} {p : Nat} {x : SuEntry} {r : SuRun} (hsrc : x.csrc = 1) (hr : r.ctrl = none) :
    (w.suControl p x r).1.isSome = true := by
  simp only [suControl, hr, hsrc, if_true]
  generalize x.clist + (if x.op = 1 ∨ x.op = 2 then 0 else r.slot) = i
  split <;> rfl

/-- A value that names a fan member is no fault (R113). -/
theorem suCtrlFault_member {x : SuEntry} {c : Nat} (hc : c ≤ x.nfan) (r : SuRun) (nullData : Bool) :
    suCtrlFault x r (.value c) none nullData = none := by
  simp only [suCtrlFault, hc, or_true, if_true]

theorem suMember_value {x : SuEntry} {c : Nat} (hc : c ≤ x.nfan) : suMember x (.value c) = c := Nat.min_eq_left hc

theorem suReady_op {w : W} {p e op : Nat} (h : w.suReady p e op = true) : (w.suEntry p e).op = op := by
  simp only [suReady, Bool.and_eq_true, beq_iff_eq] at h
  obtain ⟨⟨-, hop⟩, -⟩ := h
  exact hop

/-- Entry `e` of gallery `p`, `x` in run `r`, is ready for `op`; its control is the byte `c` at `i` of the control list, and
names a fan member (R111 to R114). -/
structure ListFires (v : W) (p e op i c : Nat) (x : SuEntry) (r : SuRun) : Prop where
  ready : v.suReady p e op = true
  entry : v.suEntry p e = x
  run : Tbl.get (fun _ => {}) (v.su p).runs e = r
  listed : x.csrc = 1
  fresh : r.ctrl = none
  place : x.clist + (if op = 1 ∨ op = 2 then 0 else r.slot) = i
  inside : i < 4096
  byte : v.suByte p i = c
  member : c ≤ x.nfan

namespace ListFires

variable {v w : W} {p e op i c : Nat} {x : SuEntry} {r : SuRun} {t t' : Packet}

theorem op_eq (h : ListFires v p e op i c x r) : x.op = op := h.entry ▸ suReady_op h.ready

theorem suControl_eq (h : ListFires v p e op i c x r) : v.suControl p x r = (some (.value c, none), v) := by
  rw [suControl_listed h.listed h.fresh (h.op_eq ▸ h.place) h.inside, h.byte]

/-- The control of a SWITCH or MERGE stays for the step (R112). -/
theorem suTakeControl_step (h : ListFires v p e op i c x r) (hop : op = 1 ∨ op = 2) (w : W) (y : SuCtrl) :
    w.suTakeControl p x r y = ({ r with ctrl := some y }, w) := by
  simp only [suTakeControl, h.fresh, h.listed, h.op_eq, hop, Option.isSome_none, Bool.false_eq_true, if_false, if_true]

/-- The control of a DISTRIBUTE or COLLECT is used up with its slot, and no queue holds it (R112). -/
theorem suTakeControl_slot (h : ListFires v p e op i c x r) (hop : ¬ (op = 1 ∨ op = 2)) (w : W) (y : SuCtrl) :
    w.suTakeControl p x r y = (r, w) := by
  simp only [suTakeControl, h.fresh, h.listed, h.op_eq, hop, Option.isSome_none, Bool.false_eq_true, if_false, if_true]

/-! #### Firing -/

/-- A data token `t` that is in order, `t'` popped, goes where `f` says; `r'` is the run with the control taken. -/
theorem suSpread_eq {r' : SuRun} (h : ListFires v p e op i c x r) (hhead : v.head p 14 x.inq = some t)
    (hclean : t.poison = false) (hseq : t.seq = r.tag)
    (htake : ∀ w : W, w.suTakeControl p x r (.value c) = (r', w))
    (hpop : (v.suFires p e).pop p 14 x.inq = some (t', w)) (f : SuEntry → SuRun → SuCtrl → Packet → W → SuRun × W) :
    v.suSpread p e false f = (f x r' (.value c) t' w).2.suSlotDone p e x (f x r' (.value c) t' w).1 := by
  simp only [suSpread, h.entry, h.run, h.suControl_eq, hhead, hclean, hseq, suCtrlFault_member h.member, htake,
    hpop, Bool.false_eq_true, or_self, ne_eq, not_true_eq_false, if_false]

/-- SWITCH: the token on the output named, a null token on every other. -/
theorem doSuSwitch_eq (h : ListFires v p e 1 i c x r) (hhead : v.head p 14 x.inq = some t) (hclean : t.poison = false)
    (hseq : t.seq = r.tag) (hpop : (v.suFires p e).pop p 14 x.inq = some (t', w)) :
    v.doSuSwitch p e false = ((List.range (x.nfan + 1)).foldl (fun w k =>
      if k = c then w.suSend p (x.out + k) t' else w.suNull p (x.out + k)) w).suSlotDone p e x
        { r with ctrl := some (.value c) } := by
  rw [doSuSwitch, if_pos h.ready,
    h.suSpread_eq hhead hclean hseq (fun w => h.suTakeControl_step (.inl rfl) w _) hpop]
  simp only [suMember_value h.member]

/-- DISTRIBUTE: the token on its output, which has room for it. -/
theorem doSuDistribute_eq (h : ListFires v p e 3 i c x r) (hhead : v.head p 14 x.inq = some t) (hclean : t.poison = false)
    (hseq : t.seq = r.tag) (hpop : (v.suFires p e).pop p 14 x.inq = some (t', w)) (hdata : isNull t' = false)
    (hroom : Tbl.get (fun _ => 0) r.count c < x.cap) :
    v.doSuDistribute p e false = (w.suSend p (x.out + c) t').suSlotDone p e x
      { r with count := Tbl.set (fun _ => 0) r.count c (Tbl.get (fun _ => 0) r.count c + 1) } := by
  rw [doSuDistribute, if_pos h.ready,
    h.suSpread_eq hhead hclean hseq (fun w => h.suTakeControl_slot (by decide) w _) hpop]
  simp only [suMember_value h.member, hdata, Bool.false_eq_true, if_false, if_pos hroom]

/-- COLLECT: the head of the input named, which has not given CAP tokens yet. -/
theorem doSuCollect_eq (h : ListFires v p e 4 i c x r) (hhead : v.head p 14 (x.inq + c) = some t)
    (hclean : t.poison = false) (hseq : t.seq = r.tag) (hroom : Tbl.get (fun _ => 0) r.count c < x.cap)
    (hpop : (v.suFires p e).pop p 14 (x.inq + c) = some (t', w)) :
    v.doSuCollect p e false = (w.suSend p x.out t').suSlotDone p e x
      { r with count := Tbl.set (fun _ => 0) r.count c (Tbl.get (fun _ => 0) r.count c + 1) } := by
  simp [doSuCollect, h.ready, h.entry, h.run, h.suControl_eq, suCtrlFault_member h.member, suMember_value h.member, hhead,
    hclean, hseq, hroom, h.suTakeControl_slot, hpop]

end ListFires

/-! #### MERGE -/

/-- The heads of a list of queues, each with its queue. -/
def queuedHeads (w : W) (p : Nat) (qs : List Nat) : List (Nat × Packet) :=
  qs.filterMap fun q => (w.head p 14 q).map fun t => (q, t)

theorem queuedHeads_snd (w : W) (p : Nat) (qs : List Nat) :
    (w.queuedHeads p qs).map (·.2) = qs.filterMap fun q => w.head p 14 q := by
  simp [queuedHeads, List.map_filterMap, Function.comp_def]

/-- Input `k` of a MERGE, queue `q`, gives a token, which is sent when the control names `k` as `c` (R112). -/
def mergeInput (p c : Nat) (x : SuEntry) (w : W) : Nat × Nat → W
  | (q, k) => match w.pop p 14 q with
    | none => w
    | some (t, w) => if k = c then w.suSend p x.out t else w

/-- MERGE: a token of every input leaves its queue, and the one named is sent. -/
theorem ListFires.doSuMerge_eq {v : W} {p e i c : Nat} {x : SuEntry} {r : SuRun} (h : ListFires v p e 2 i c x r)
    (hall : (x.inputs.filterMap fun q => v.head p 14 q).length = x.nfan + 1)
    (hgood : (x.inputs.filterMap fun q => v.head p 14 q).all (fun t => !t.poison && t.seq == r.tag) = true)
    (hdata : ((x.inputs.filterMap fun q => v.head p 14 q)[c]?).map isNull = some false) :
    v.doSuMerge p e false = (x.inputs.zipIdx.foldl (mergeInput p c x) (v.suFires p e)).suSlotDone p e x
      { r with ctrl := some (.value c) } := by
  rw [← queuedHeads_snd] at hall hgood hdata
  rw [List.length_map] at hall
  have hfind : (v.queuedHeads p x.inputs).find? (fun y => y.2.poison || y.2.seq != r.tag) = none := by
    rw [List.find?_eq_none]
    intro y hy
    simpa using List.all_eq_true.1 hgood y.2 (List.mem_map_of_mem hy)
  obtain ⟨⟨q, t⟩, hc, hnull⟩ : ∃ y, (v.queuedHeads p x.inputs)[c]? = some y ∧ isNull y.2 = false := by
    simpa using hdata
  have hheads : (x.inputs.filterMap fun q => (v.head p 14 q).map fun t => (q, t)) = v.queuedHeads p x.inputs := rfl
  simp only [doSuMerge, h.ready, h.entry, h.run, hheads, hall, h.suControl_eq, suMember_value h.member, hc, hnull, hfind,
    suCtrlFault_member h.member, h.suTakeControl_step (.inr rfl), Bool.not_true, Bool.false_eq_true, ne_eq,
    not_true_eq_false, if_false]
  rfl

/-! #### The watchdog -/

/-- A MERGE whose control is there and whose inputs wait for one another: the fault names the first empty one (R114). -/
theorem doSuWatchdog_merge {w : W} {p e q : Nat} {x : SuEntry} {r : SuRun} (hx : w.suEntry p e = x)
    (hrun : Tbl.get (fun _ => {}) (w.su p).runs e = r) (hsrc : x.csrc = 1) (hr : r.ctrl = none) (hop : x.op = 2)
    (hgoes : (w.su p).stopped = false) (hen : w.flag (Reg.SU_CFG p) ⟨0, 0⟩ = true) (hag : w.agentRuns p 14 = true)
    (hany : (x.inputs.any fun q => (w.head p 14 q).isSome) = true)
    (hempty : (x.inputs.find? fun q => (w.head p 14 q).isNone) = some q) :
    w.doSuWatchdog p e = w.suFault p e q 2 r.tag r.tag := by
  have hall : (x.inputs.all fun q => (w.head p 14 q).isSome) = false := by
    have hq := List.find?_some hempty
    exact List.all_eq_false.2 ⟨q, List.mem_of_find?_eq_some hempty, by simpa using hq⟩
  have hneeds : w.suNeeds p e = x.inputs := by simp only [suNeeds, hx, hop, if_true]
  simp [doSuWatchdog, hx, hrun, hop, hgoes, hen, hag, hany, hall, hneeds, hempty, suControl_listed_isSome hsrc hr]

end W

/-! #### The obligation -/

/-- Settles O27: a firing whose control the list has (`W.ListFires`) sends what its operation says, and the watchdog of a
MERGE names the input that is empty (`W.doSuWatchdog_merge`). -/
theorem steeringOperations : Obligations.SteeringOperations := by
  unfold Obligations.SteeringOperations
  intro s p e hl hp he x r hsrc hr
  have hok := suOk_of hp he
  refine ⟨?switch, ?distribute, ?merge, ?collect, ?watchdog⟩
  case switch =>
    intro t t' w v hready hin hv hhead hclean _ hseq hpop
    have h : W.ListFires s.w p e 1 x.clist v x r := ⟨hready, rfl, rfl, hsrc, hr, rfl, hin, rfl, hv⟩
    exact runOn_eq hl hok (h.doSuSwitch_eq hhead hclean hseq hpop)
  case distribute =>
    intro t t' w v hready hin hv hhead hclean _ hdata hseq hpop hroom
    have h : W.ListFires s.w p e 3 (x.clist + r.slot) v x r := ⟨hready, rfl, rfl, hsrc, hr, rfl, hin, rfl, hv⟩
    exact runOn_eq hl hok (h.doSuDistribute_eq hhead hclean hseq hpop hdata hroom)
  case merge =>
    intro v heads hready hin hv hall hgood hdata
    have h : W.ListFires s.w p e 2 x.clist v x r := ⟨hready, rfl, rfl, hsrc, hr, rfl, hin, rfl, hv⟩
    exact runOn_eq hl hok (h.doSuMerge_eq hall hgood hdata)
  case collect =>
    intro t t' w v hready hin hv hhead hclean hseq hroom hpop
    have h : W.ListFires s.w p e 4 (x.clist + r.slot) v x r := ⟨hready, rfl, rfl, hsrc, hr, rfl, hin, rfl, hv⟩
    exact runOn_eq hl hok (h.doSuCollect_eq hhead hclean hseq hroom hpop)
  case watchdog =>
    intro q hop hgoes hen hag hany hempty
    exact runOn_eq hl hok (W.doSuWatchdog_merge rfl rfl hsrc hr hop hgoes hen hag hany hempty)

end Sys2Proof.Machine
end

section
/-! ### Packets that reach a landing (O28)

A well-formed packet that is no flight word and no fault flag is injected or goes on its way (`W.doLndHeadFlit_injects`,
`W.doLndHeadFlit_passes`); a malformed one goes no further (`W.doLndHeadFlit_malformed`). -/

namespace Sys2Proof.Machine

/-- Landing `l` and its port exist. -/
theorem landingPortOk_of {l port : Nat} (h : l < 312) (hp : portHere l port = true) :
    (galOk l && portHere l port) = true := by rw [galOk_of h, hp, Bool.and_self]

theorem isMulti_of_unicast {t : Packet} (h : t.mc = false) : isMulti t = false := by rw [isMulti, h, Bool.false_and]

/-- A packet that a landing routes: well-formed, and neither a flight word (R139) nor a fault flag (R142), which the
landing takes itself. -/
structure Routed (t : Packet) : Prop where
  good : headBad t = false
  contribution : t.typ ≠ 9
  release : t.typ ≠ 0xA
  faultFlag : t.typ ≠ 0xB

namespace W

variable {w : W} {l port pre : Nat} {t : Packet}

/-- A port that is on takes the packet (R132). -/
theorem toPort_of_on (h : w.portOn l port = true) (t : Packet) (pre : Nat) : w.toPort l port t pre = w.sendHop l port t pre :=
  if_pos h

/-- A packet without a via is in no phase that a via would end (R130). -/
theorem atVia_of_no_via (h : t.via = false) (l : Nat) : atVia t l = t := by
  rw [atVia, h, if_neg (fun hv => Bool.false_ne_true hv.1)]

/-- A packet without a via leaves by the port of its EXIT at its destination, elsewhere by that of the route table
(R123, R127). -/
theorem unicast_of_no_via (hvia : t.via = false) (w : W) (l pre : Nat) :
    w.unicast l t pre =
      w.toPort l (if t.dst = l then (if t.exit = 0 then 0 else if t.exit = 1 then 6 else 7) else w.rt l t.dst) t pre := by
  simp only [unicast, atVia_of_no_via hvia, hvia, Bool.false_eq_true, false_and, if_false]
  split <;> rfl

/-- By LOCAL, MEM or OUTER a packet enters the mesh (R117, R126). -/
theorem doLndHeadFlit_injects (hen : w.flag (Reg.LND_CFG l) F.LND_CFG_EN = true) (ht : Routed t)
    (hport : port = 0 ∨ port = 6 ∨ port = 7) : w.doLndHeadFlit l port t pre .none = w.inject l port t pre := by
  simp [doLndHeadFlit, Machine.received, W.when, hen, ht.good, ht.contribution, ht.release, ht.faultFlag, hport]

/-- By a mesh port a unicast packet goes on its way (R127). -/
theorem doLndHeadFlit_passes (hen : w.flag (Reg.LND_CFG l) F.LND_CFG_EN = true) (ht : Routed t)
    (hport : ¬ (port = 0 ∨ port = 6 ∨ port = 7)) (hmc : t.mc = false) :
    w.doLndHeadFlit l port t pre .none = w.unicast l t pre := by
  simp [doLndHeadFlit, Machine.received, W.when, hen, ht.good, ht.contribution, ht.release, ht.faultFlag, hport,
    isMulti_of_unicast hmc]

/-- A malformed request is answered with cause 1, counted and recorded (R125). -/
theorem doLndHeadFlit_malformed (hen : w.flag (Reg.LND_CFG l) F.LND_CFG_EN = true) (hbad : headBad t = true)
    (hreq : isResponse t = false) : w.doLndHeadFlit l port t pre .none =
      ((w.errRsp l t 1).count (Reg.LND_DISCARD l) 1).lndFault l 4 port (vcOf t) t.srcLand 0 := by
  simp [doLndHeadFlit, Machine.received, W.when, hen, hbad, hreq]

end W

/-- Settles O28: a packet is injected, goes on its way or is malformed; the port it leaves by is that of
`W.unicast_of_no_via`. -/
theorem packetsAreRouted : Obligations.PacketsAreRouted := by
  unfold Obligations.PacketsAreRouted
  intro s l port pre t hl hland _ hhere hen
  have hok := landingPortOk_of hland hhere
  refine ⟨?injected, ?onItsWay, ?malformed⟩
  case injected =>
    intro hgood h9 hA hB hport
    exact runOn_eq hl hok (W.doLndHeadFlit_injects hen ⟨hgood, h9, hA, hB⟩ (by omega))
  case onItsWay =>
    intro hgood h9 hA hB _ _ hmc hvia out hon
    exact runOn_eq hl hok <| calc s.w.doLndHeadFlit l port t pre .none
      _ = s.w.unicast l t pre := W.doLndHeadFlit_passes hen ⟨hgood, h9, hA, hB⟩ (by omega) hmc
      _ = s.w.toPort l out t pre := W.unicast_of_no_via hvia s.w l pre
      _ = s.w.sendHop l out t pre := W.toPort_of_on hon t pre
  case malformed =>
    intro hbad hreq
    exact runOn_eq hl hok (W.doLndHeadFlit_malformed hen hbad hreq)

end Sys2Proof.Machine
end

section
/-! ### Flights, flips, fault flags and stalls (O29) -/

namespace Sys2Proof.Machine

/-- An FT entry without children has none of its five child bits set (R137). -/
theorem bit_child_of_childless {e : Word} (h : bits e 52 48 = 0) {i : Nat} (hi : i < 5) : bit e (48 + i) = false := by
  rw [← testBit_bits e (by omega : 48 + i ≤ 52), h, Nat.zero_testBit]

namespace W

/-! #### Flights (R137 to R140) -/

/-- What landing `l` has of flight `f`. -/
def partialOf (w : W) (l f : Nat) : Partial := Tbl.get (fun _ => {}) (w.landing l).parts f

/-- What landing `l` has of flight `f`, set. -/
def setPartial (w : W) (l f : Nat) (q : Partial) : W :=
  w.setLanding l { w.landing l with parts := Tbl.set (fun _ => {}) (w.landing l).parts f q }

/-- The value of a flight once the contribution `x` is combined with those that are in, and whether it saturates. -/
def combined (w : W) (l : Nat) (x : Word) : Nat × Bool :=
  let pt := w.partialOf l (bits x 63 58)
  combine (bits (w.ft l (bits x 63 58)) 62 60) pt.value (bits x 31 0) (pt.srcs == 0)

/-- The flight of `x` with the contribution of `port`. -/
def joined (w : W) (l port : Nat) (x : Word) : Partial :=
  let pt := w.partialOf l (bits x 63 58)
  { pt with srcs := pt.srcs + 2 ^ port, value := (w.combined l x).1 }

/-- The sources an FT entry waits for: bit 0 LOCAL, bit i the child at port i. -/
def sourcesOf (e : Word) : Nat := bits e 47 47 + 2 * bits e 52 48

/-- The contribution `x` of the child at `port` is in order (R138, R140), and its COUNT does not saturate. -/
structure ChildContributes (w : W) (l port : Nat) (x : Word) : Prop where
  child : 1 ≤ port ∧ port ≤ 5
  valid : bit (w.ft l (bits x 63 58)) 63 = true
  member : bit (w.ft l (bits x 63 58)) (47 + port) = true
  expected : bits x 57 42 = w.fltGen l (bits x 63 58)
  first : (w.partialOf l (bits x 63 58)).srcs.testBit port = false
  unsaturated : (w.combined l x).2 = false

namespace ChildContributes

variable {w : W} {l port : Nat} {x : Word}

/-- A contribution that is not the last stays at the landing. -/
theorem contribute_waits (h : ChildContributes w l port x)
    (hmore : (w.joined l port x).srcs ≠ sourcesOf (w.ft l (bits x 63 58))) :
    w.contribute l port x = w.setPartial l (bits x 63 58) (w.joined l port x) := by
  obtain ⟨⟨hlo, hhi⟩, hvalid, hmember, hexpected, hfirst, hsat⟩ := h
  have hchild : port ≠ 0 := by omega
  simp only [joined, combined, partialOf, sourcesOf] at hmore hfirst hsat
  simp [contribute, hchild, hhi, hvalid, hmember, hexpected, hfirst, hsat, hmore, W.when, setPartial, joined, combined,
    partialOf]

/-- The last contribution sends the value to the parent. -/
theorem contribute_last (h : ChildContributes w l port x)
    (hlast : (w.joined l port x).srcs = sourcesOf (w.ft l (bits x 63 58)))
    (hparent : bits (w.ft l (bits x 63 58)) 59 56 ≠ 0xF) :
    w.contribute l port x =
      (w.setPartial l (bits x 63 58) { w.joined l port x with sent := true }).toPort l
        (bits (w.ft l (bits x 63 58)) 59 56)
        { typ := 9, srcLand := l, arg := flightWord (bits x 63 58) (bits x 57 42) (w.joined l port x).epoch
            (w.joined l port x).value } 0 := by
  obtain ⟨⟨hlo, hhi⟩, hvalid, hmember, hexpected, hfirst, hsat⟩ := h
  have hchild : port ≠ 0 := by omega
  simp only [joined, combined, partialOf, sourcesOf] at hlast hfirst hsat
  simp [contribute, hchild, hhi, hvalid, hmember, hexpected, hfirst, hsat, hlast, hparent, W.when, setPartial, joined,
    combined, partialOf]

end ChildContributes

variable {w : W} {l : Nat}

/-- A release reaches no child where the FT entry names none. -/
theorem release_to_childless {e : Word} (h : bits e 52 48 = 0) (w : W) (out : Nat → W → W) :
    (List.range 5).foldl (fun w i => if bit e (48 + i) then out i w else w) w = w := by
  refine List.foldlRecOn (motive := (· = w)) _ _ rfl fun w' h' i hi => ?_
  rw [bit_child_of_childless h (List.mem_range.1 hi)]
  exact h'

/-- At a landing without LOCAL and children, not the root of its flight, a release ends the flight and moves its expected
generation on, and goes no further (R138, R139). Flight 63 is set apart: a boot receiver takes its release (R400). -/
theorem releaseAt_of_memberless {f : Nat} (hlocal : bit (w.ft l f) 47 = false) (hchild : bits (w.ft l f) 52 48 = 0)
    (hroot : bits (w.ft l f) 59 56 ≠ 0xF) (hf : f ≠ 63) (gen value : Nat) :
    w.releaseAt l f gen value = (w.setPartial l f {}).setFltGen l f ((w.fltGen l f + 1) % 2 ^ 16) := by
  have hboots : (f == 63) = false := beq_false_of_ne hf
  simp only [releaseAt, release_to_childless hchild, hlocal, hroot, hboots, setPartial, Bool.false_and,
    Bool.false_eq_true, false_and, if_false]

theorem doFltRelease_of_valid {x : Word} (h : bit (w.ft l (bits x 63 58)) 63 = true) :
    w.doFltRelease l x = w.releaseAt l (bits x 63 58) (bits x 57 42) (bits x 31 0) := if_pos h

/-! #### Flips (R131, R138) -/

theorem releaseFlag_of_none (h : (w.landing l).flag = none) : w.releaseFlag l = w := by rw [releaseFlag, h]

/-- A flip that loads no generations, at a landing that holds no flag, ends the partial flights and no more. -/
theorem flipTo_of_no_gload (h : (w.landing l).flag = none) (b : Nat) (gzero : Bool) (stepLo : Nat)
    (body : Option (List Byte)) : w.flipTo l b false gzero stepLo body =
      (w.setFld (Reg.LND_TBL_SEL l) F.LND_TBL_SEL_ACTIVE b).setLanding l { w.landing l with parts := [] } := by
  simp only [flipTo, Bool.false_eq_true, if_false]
  refine (releaseFlag_of_none ?_).trans rfl
  rw [landing_setLanding_self]
  exact h

/-- A write of LND_TBL_SEL with FLIP takes the other bank. -/
theorem doTblSel_flip {v : Word} (h : bit v 1 = true) :
    w.doTblSel l v = w.flipTo l (1 - w.bank l) (bit v 2) (bit v 3) (bits v 31 16) none := if_pos h

/-! #### Fault flags (R142) -/

/-- The flag of drop `d` waits for CP1, joined with one that waits already. -/
def flagOverDrop (w : W) (d : Nat) (m lm : Mask) : W :=
  let f := orFlag ((w.c.flags.find? fun e => e.1 == d).map (·.2)) m lm
  ({ w with c := { w.c with flags := Tbl.set (fun _ => (0, 0)) w.c.flags d f } } : W).pendPriv 1 (32 + d)

/-- A flag in phase 1 at its attach landing goes over the drop. -/
theorem flagTravel_at_drop {d : Nat} (hd : dropOf l = some d) (hon : w.portOn l 8 = true) (m lm : Mask) (fuel : Nat) :
    w.flagTravel l l none 1 m lm (fuel + 1) = w.flagOverDrop d m lm := by
  simp [flagTravel, hd, hon, flagOverDrop]

/-- A flag that rises at the attach landing of its own route has no way to go. -/
theorem flagFrom_at_dst (hdst : bits (w.reg (Reg.FLAG_DST l (w.bank l))) 8 0 = l) (m lm : Mask) :
    w.flagFrom l m lm = w.flagTravel l l none 1 m lm 128 := by
  simp [flagFrom, hdst]

/-! #### Stalls (R145) -/

/-- Output `port` of landing `l` is over STALL_TMO. -/
def stallSeen (w : W) (l port : Nat) : W :=
  (w.setFlag (Reg.LND_STATUS l) F.LND_STATUS_STALL true).setLanding l
    { w.landing l with stalled := port :: (w.landing l).stalled.filter (· ≠ port) }

/-- The first fault of a landing is recorded in LND_FAULT_INFO. -/
def stallRecorded (w : W) (l port vc src : Nat) : W :=
  (w.setReg (Reg.LND_FAULT_INFO l)
    (w64 (2 ^ 47 + 3 * 2 ^ 43 + port % 16 * 2 ^ 39 + vc % 4 * 2 ^ 37 + src % 512 * 2 ^ 28))).setFlag
      (Reg.LND_STATUS l) F.LND_STATUS_FAULT true

/-- A stall where no fault is recorded yet is recorded, and the landing raises its flag. -/
theorem doLndStall_first (port vc src : Nat)
    (h : (w.stallSeen l port).flag (Reg.LND_FAULT_INFO l) F.LND_FAULT_INFO_VALID = false) :
    w.doLndStall l port vc src =
      let w := (w.stallSeen l port).stallRecorded l port vc src
      (w.addWork .hang { cls := 8, kind := 3, phys := some l, info := w.reg (Reg.LND_FAULT_INFO l) }).emit
        (.mesh l { typ := 0xB, srcLand := l, lmask := maskOf l }) := by
  have hland : (w.setFlag (Reg.LND_STATUS l) F.LND_STATUS_STALL true).landing l = w.landing l := rfl
  rw [stallSeen] at h
  simp only [doLndStall, hland, h, W.when, Bool.not_false, if_true, stallSeen, stallRecorded]

end W

/-- FLT_ARRIVE is a command of a landing and one of its mesh ports. -/
theorem childPortOk_of {l port : Nat} (h : l < 312) (hlo : 1 ≤ port) (hhi : port ≤ 5) :
    (galOk l && decide (1 ≤ port) && decide (port ≤ 5)) = true := by
  rw [galOk_of h, decide_eq_true hlo, decide_eq_true hhi]; rfl

/-- Settles O29: contributions by `W.ChildContributes`, releases by `W.releaseAt_of_memberless`, flips by
`W.flipTo_of_no_gload`, flags by `W.flagTravel_at_drop`, stalls by `W.doLndStall_first`. -/
theorem flightsCombineAndTablesFlip : Obligations.FlightsCombineAndTablesFlip := by
  unfold Obligations.FlightsCombineAndTablesFlip
  refine ⟨?flights, ?landing⟩
  case flights =>
    intro s l port x hl hland f e pt c pt' put
    refine ⟨?arrive, ?release⟩
    case arrive =>
      intro hlo hhi hvalid hmember hexpected hfirst hsat
      have hok := childPortOk_of hland hlo hhi
      have h : W.ChildContributes s.w l port x := ⟨⟨hlo, hhi⟩, hvalid, hmember, hexpected, hfirst, hsat⟩
      exact ⟨fun hmore => runOn_eq hl hok (h.contribute_waits hmore),
        fun hlast hparent => runOn_eq hl hok (h.contribute_last hlast hparent)⟩
    case release =>
      intro hvalid hchild hlocal hroot hf
      exact runOn_eq hl (galOk_of hland) <|
        (W.doFltRelease_of_valid hvalid).trans (W.releaseAt_of_memberless hlocal hchild hroot hf _ _)
  case landing =>
    intro s l hl hland
    have hok := galOk_of hland
    refine ⟨?tblFlip, ?selFlip, ?flag, ?stall⟩
    case tblFlip => exact fun t => runOn_eq hl hok rfl
    case selFlip =>
      intro v hflip hload hflag
      refine runOn_eq hl hok ((W.doTblSel_flip hflip).trans ?_)
      rw [hload, W.flipTo_of_no_gload hflag]
    case flag =>
      intro m lm d hdst hd hon
      exact runOn_eq hl hok ((W.flagFrom_at_dst hdst m lm).trans (W.flagTravel_at_drop hd hon m lm 127))
    case stall =>
      intro port vc src k st info w hfirst
      exact runOn_eq hl hok (W.doLndStall_first port vc src hfirst)

end Sys2Proof.Machine
end

section
/-! ### Ring messages, far loads, and the enabling of a scalar core (O24) -/

namespace Sys2Proof.Machine

/-- A slot just set reads as it was set. -/
@[simp] theorem Agent.slot_setSlot_self (g : Agent) (k : Nat) (x : SendSlot) : (g.setSlot k x).slot k = x :=
  Tbl.get_set_self _ _ _ _

/-- Lines of a ring record with `len` bytes of payload: its header takes 16 bytes (R161). -/
def recordLines (len : Nat) : Nat := ceilDiv (16 + len) 128

namespace W

/-! #### Rings (R161, R162) -/

/-- Bytes of the ring of send slot `k`. -/
def ringSize (w : W) (p n k : Nat) : Nat := (w.scSlot p n k).grantLines * 128

/-- Where the next record of send slot `k` goes, counted from the start of its ring. -/
def ringOff (w : W) (p n k : Nat) : Nat := (w.scSlot p n k).prod % w.ringSize p n k

/-- Send slot `k` of a scalar core is open on a ring, and the core may have one more write outstanding. -/
structure RingSlot (w : W) (p n k : Nat) : Prop where
  isOpen : w.OpenSlot p n k
  ring : (w.scSlot p n k).ring = true
  lines : 0 < (w.scSlot p n k).grantLines
  outs : (w.hart (.sc p n)).outs.length < 8

/-- A ring of this device lies where the target's Q_RING says. -/
theorem ringGlobal_of_base {w : W} {p n k q lg base : Nat}
    (h : w.ringBase (w.scSlot p n k).name = some (q, lg, base)) :
    w.ringGlobal p n k = some (w64 (w.selfDev * 2 ^ 48 + 0x7F0000000000 + lg * 2 ^ 23 + base)) := by
  simp only [ringGlobal, h]

/-- A ring whose address is known needs no resolving. -/
theorem resolveRing_of_known {w : W} {p n k : Nat} {a : Word} (h : w.ringGlobal p n k = some a) :
    w.resolveRing p n k = w := by
  rw [resolveRing, h]; rfl

/-- Send slot `k` has reserved the lines of a message of `len` bytes. -/
def placeRecord (w : W) (p n k len : Nat) : W :=
  w.setAgent p (12 + n) ((w.agent p (12 + n)).setSlot k { w.scSlot p n k with
    lines := (w.scSlot p n k).lines - recordLines len, placed := some len, hdr := false, waiting := false })

/-- Reserving lines leaves the ring where it is. -/
theorem ringGlobal_placeRecord (w : W) (p n k len : Nat) :
    (w.placeRecord p n k len).ringGlobal p n k = w.ringGlobal p n k := by
  simp only [ringGlobal, placeRecord, scSlot, agent_setAgent_self, Agent.slot_setSlot_self]
  rfl

/-- The header of the message of `len` bytes that slot `k` has placed is written. -/
def postHeader (w : W) (p n k len : Nat) : W :=
  (w.setAgent p (12 + n) ((w.agent p (12 + n)).setSlot k { w.scSlot p n k with hdr := true })).writeHeader p n k
    (w.ringOff p n k) (ringHeader 1 len (w.scSlot p n k).seq (recordLines len))

/-- The producer of slot `k` moves past the message of `len` bytes that it has posted. -/
def passRecord (w : W) (p n k len : Nat) : W :=
  w.setAgent p (12 + n) ((w.agent p (12 + n)).setSlot k { w.scSlot p n k with
    prod := (w.scSlot p n k).prod + 128 * recordLines len, placed := none, hdr := false })

section
variable {w : W} {p n k len : Nat} {i : SIns} (hk : bits (w.sreg (.sc p n) i.sa) 5 0 = k) (h : w.RingSlot p n k)
include hk h

/-- PLACE with room for the message before the end of the ring: the answer is the global address of the payload (R162). -/
theorem doSendPlace_room (hflags : bits (w.sreg (.sc p n) i.sa) 11 8 = 2) (hfree : (w.scSlot p n k).placed = none)
    {q lg base : Nat} (hbase : w.ringBase (w.scSlot p n k).name = some (q, lg, base))
    (hlen : bits (w.sreg (.sc p n) i.sb) 31 0 = len)
    (hend : recordLines len ≤ (w.ringSize p n k - w.ringOff p n k) / 128)
    (hlines : recordLines len ≤ (w.scSlot p n k).lines) (hcan : w.canSend p (12 + n) k 4 16 = true) :
    w.doSendPlace p n i = (w.placeRecord p n k len).hWrite (.sc p n) i.sd
      (w64 (w.selfDev * 2 ^ 48 + 0x7F0000000000 + lg * 2 ^ 23 + base) + w64 (w.ringOff p n k + 16)) := by
  obtain ⟨hopen, hring, hpos, houts⟩ := h
  have hglobal := ringGlobal_of_base hbase
  have hlines' : recordLines len ≤ ((w.agent p (12 + n)).slot k).lines := hlines
  unfold ringOff ringSize at hend
  unfold recordLines at hend hlines'
  have hsize : ¬ (w.scSlot p n k).grantLines * 128 = 0 := by omega
  have hfits : ¬ (w.scSlot p n k).grantLines * 128 / 128 < ceilDiv (16 + len) 128 := by omega
  calc w.doSendPlace p n i
    _ = (w.placeRecord p n k len).hWrite (.sc p n) i.sd
        (((w.placeRecord p n k len).ringGlobal p n k).getD 0 + w64 (w.ringOff p n k + 16)) := by
      simp only [doSendPlace, hk, hflags, hlen, hopen.scNoSlot, hring, hfree, resolveRing_of_known hglobal, hsize, hfits,
        Nat.not_le.2 houts, Nat.not_lt.2 hend, hlines', hcan, Option.isSome_none, ne_eq, not_true_eq_false,
        Bool.false_eq_true, or_self, and_self, if_false, if_true]
      rfl
    _ = _ := by rw [ringGlobal_placeRecord, hglobal, Option.getD_some]

/-- POST of a message whose header is not out yet writes it; the notice follows once no write to the ring is outstanding
(R162). -/
theorem doSendPost_header (hflags : bits (w.sreg (.sc p n) i.sa) 11 8 = 4) (hplaced : (w.scSlot p n k).placed = some len)
    (hhdr : (w.scSlot p n k).hdr = false) :
    w.doSendPost p n i =
      let w' := w.postHeader p n k len
      if w'.ringBusy p n k (w.ringSize p n k) then w'.hStall (.sc p n) false
      else if w'.canSend p (12 + n) k 4 16 then
        ((w'.sendNow p (12 + n) k 4 (leBytes 16 (len * 2 ^ 32 + w.ringOff p n k))).passRecord p n k len).hWrite
          (.sc p n) i.sd 0
      else w'.scCredit p n k := by
  obtain ⟨hopen, -, -, houts⟩ := h
  simp only [doSendPost, hk, hflags, hplaced, hhdr, hopen.scNoSlot, Nat.not_le.2 houts, W.when, ne_eq, not_true_eq_false,
    Bool.false_eq_true, not_false_eq_true, and_false, Bool.not_false, if_false, if_true]
  rfl

end

/-! #### Loads beyond local memory (R88) -/

/-- A load of a scalar core whose address storage of this device serves takes the answer. -/
theorem doLoadReturn_ok {w w' : W} {p n k : Nat} {a : FarAccess} {x : List Byte} (v : Word)
    (hout : (w.hart (.sc p n)).outs[k]? = some a) (hload : a.isLoad = true) (hsent : a.data = none)
    (hfirst : ((w.hart (.sc p n)).outs.take k).any (fun o => sameWord o.addr a.addr) = false)
    (hx : (w.setHart (.sc p n) { w.hart (.sc p n) with outs := (w.hart (.sc p n)).outs.eraseIdx k }).farLoad (some p)
      a.addr a.size (w64 p) = (.ok x false, w')) :
    w.doLoadReturn (.sc p n) k v .none = (w'.setSreg (.sc p n) a.dst (w64 (leNat x))).releaseOuts (.sc p n) 8 := by
  simp [doLoadReturn, hout, hload, hsent, hfirst, hartLand, hartRequester, hx]

/-- A load that has not returned in time is the fault of KIND 0x8. -/
theorem doLoadTimeout_load {w : W} {h : Hart} {k : Nat} {a : FarAccess} (hout : (w.hart h).outs[k]? = some a)
    (hload : a.isLoad = true) : w.doLoadTimeout h k = w.hFault h 8 a.pc a.addr := by
  simp only [doLoadTimeout, hout, hload, if_true]

/-! #### SC_CFG.EN (R92) -/

/-- A core that is off and not halted starts at address 0. -/
theorem doScEnable_starts {w : W} {p n : Nat} (hoff : w.flag (Reg.SC_CFG p n) F.SC_CFG_EN = false)
    (hhalted : w.flag (Reg.SC_STATUS p n) F.SC_STATUS_HALTED = false) (hwait : (w.sc p n).wait ≠ .halted) :
    w.doScEnable p n = (((w.setFlag (Reg.SC_CFG p n) F.SC_CFG_EN true).setSc p n
      { w.sc p n with wait := .run, outs := [] }).setReg (Reg.SC_PC p n) 0).setFlag (Reg.SC_STATUS p n)
        F.SC_STATUS_BUSY true := by
  have hne : Reg.SC_STATUS p n ≠ Reg.SC_CFG p n := by simp only [Reg.SC_STATUS, Reg.SC_CFG]; omega
  have hstill : (w.setFlag (Reg.SC_CFG p n) F.SC_CFG_EN true).flag (Reg.SC_STATUS p n) F.SC_STATUS_HALTED = false := by
    rw [← hhalted, flag, fld, reg_setFlag_ne _ _ _ hne]
    rfl
  simp only [doScEnable, hoff, beq_false_of_ne hwait, W.when, hstill, Bool.false_eq_true, if_false]

theorem doScDisable_enabled {w : W} {p n : Nat} (hon : w.flag (Reg.SC_CFG p n) F.SC_CFG_EN = true) :
    w.doScDisable p n = (w.setFlag (Reg.SC_CFG p n) F.SC_CFG_EN false).setFlag (Reg.SC_STATUS p n) F.SC_STATUS_BUSY false :=
  if_pos hon

end W

theorem scOk_of {p n : Nat} (h : p < 312) (hn : n < 2) : hartOk (.sc p n) = true := by simp [hartOk, galOk, h, hn]

/-- A channel instruction that is carried out, by what its operation leaves. -/
theorem exec_ch_eq (c : Hart → CoreUpset → Instr) {fn : Nat} {f : Hart → Nat → Nat → SIns → W → W}
    (hc : ∀ h s, exec (c h .none) s = chExec h fn .none s (f h)) {s : State} {p n : Nat} {i : SIns}
    (hr : HartRuns s (.sc p n) 0x18 (some fn) i) {w : W} (hf : f (.sc p n) p n i s.w = w) :
    exec (c (.sc p n) .none) s = .next (s.after w) := by
  rw [exec_ch_runs c hc hr, hf]

/-- Settles O24: PLACE and POST on a ring slot by `W.doSendPlace_room` and `W.doSendPost_header`, loads and the enabling of
a core by the case each statement is about. -/
theorem ringSendsAndCoreEvents : Obligations.RingSendsAndCoreEvents := by
  unfold Obligations.RingSendsAndCoreEvents
  refine ⟨?ring, fun s h k v a hl hh hout hload => ⟨?loadReturn, ?loadTimeout⟩,
    fun s p n hl hp hn => ⟨?enable, ?disable⟩⟩
  case ring =>
    intro s p n i hr h a sa k x size hk hopen hring hpos houts
    have hslot : s.w.RingSlot p n k := ⟨⟨hk, hopen⟩, hring, hpos, houts⟩
    refine ⟨?place, ?post⟩
    case place =>
      intro hflags hfree q lg base hbase len r hend hlines hcan
      exact exec_ch_eq .sendPlace (fun _ _ => rfl) hr
        (W.doSendPlace_room rfl hslot hflags hfree hbase rfl hend hlines hcan)
    case post =>
      intro hflags len hplaced hhdr r w
      have hpost := W.doSendPost_header rfl hslot hflags hplaced hhdr
      refine ⟨fun hbusy => ?busy, fun hidle hcan => ?sent⟩
      case busy => exact exec_ch_eq .sendPost (fun _ _ => rfl) hr (hpost.trans (if_pos hbusy))
      case sent =>
        have hidle' := Bool.eq_false_iff.1 hidle
        exact exec_ch_eq .sendPost (fun _ _ => rfl) hr (hpost.trans ((if_neg hidle').trans (if_pos hcan)))
  case loadReturn =>
    rintro p n rfl hsent hfirst x w hx
    exact runOn_eq hl hh (W.doLoadReturn_ok v hout hload hsent hfirst hx)
  case loadTimeout => exact runOn_eq hl hh (W.doLoadTimeout_load hout hload)
  case enable =>
    intro hoff hhalted hwait
    exact runOn_eq hl (scOk_of hp hn) (W.doScEnable_starts hoff hhalted hwait)
  case disable =>
    intro hon
    exact runOn_eq hl (scOk_of hp hn) (W.doScDisable_enabled hon)

end Sys2Proof.Machine
end

section
/-! ### Tokens that arrive (O30) -/

namespace Sys2Proof.Machine
namespace W

/-- What the queue engine expects on its open connection `i`: `t` is of the current epoch, names the connection with its
incarnation, and has its SEQ (R152, R168). -/
structure Expects (w : W) (p a : Nat) (t : Packet) (i : Nat) : Prop where
  epoch : t.epoch = w.epoch p a
  single : t.conn ≠ 0xFFFE
  isOpen : (w.agent p a).lookup t.conn = some i
  seq : t.seq = ((w.agent p a).conn i).expSeq

/-- Where the consumer of a ring stands after the record of a notice: past a message, and at the start after a pad, which
runs to the end of the ring (R162). -/
def noticeEnd (w : W) (p a q type : Nat) (t : Packet) : Nat :=
  if type = 2 then 0
  else (bits (payWord t.data 0) 31 0 + 128 * ceilDiv (16 + bits (payWord t.data 0) 63 32) 128)
    % 2 ^ w.fld (Reg.Q_RING p a q) F.Q_RING_LOG2

section
variable {w : W} {p a i : Nat} {t : Packet}

/-- The token expected enters the queue of its connection, whose expected SEQ moves on. -/
theorem Expects.arrive (h : w.Expects p a t i) :
    w.arrive p a t = (w.setAgent p a ((w.agent p a).setConn i { (w.agent p a).conn i with
      expSeq := (((w.agent p a).conn i).expSeq + 1) % 2 ^ 16 })).enqueue p a ((w.agent p a).conn i).queue t := by
  simp only [W.arrive, h.epoch, h.single, h.isOpen, h.seq, ne_eq, not_true_eq_false, if_false, if_true]

/-- A token of another epoch goes to the drain queue. -/
theorem arrive_of_epoch_ne (h : t.epoch ≠ w.epoch p a) : w.arrive p a t = (w.drainToken p a t).engineFault p a 2 :=
  if_pos h

/-- A notice that agrees with the record it names moves the offset on, and arrives as any token does. -/
theorem Expects.doRingNotice (h : w.Expects p (tokAgent t) t i) {kind type : Nat} (hkind : tkind t = kind)
    (hagrees : w.ringAgrees p (tokAgent t) ((w.agent p (tokAgent t)).conn i).queue t type = true) :
    w.doRingNotice p kind type t =
      let a := tokAgent t
      let g := w.agent p a
      let q := (g.conn i).queue
      (w.setAgent p a { g with
        ringCons := Tbl.set (fun _ => 0) g.ringCons q (w.noticeEnd p a q type t) }).arrive p a t := by
  simp only [W.doRingNotice, hkind, h.epoch, h.isOpen, h.seq, hagrees, ne_eq, not_true_eq_false, Bool.not_true,
    Bool.false_eq_true, if_false, if_true, noticeEnd]

end
end W

/-- A DATA, NULL or CLOSE command with a token of its kind is the token's arrival. -/
theorem runOn_tokenArrives {s : State} (hl : s.live = true) {p kind : Nat} (hp : p < 312) {t : Packet}
    (hkind : tkind t = kind) {w : W} (hw : s.w.arrive p (tokAgent t) t = w) :
    runOn (galOk p) s (fun w => w.tokenArrives p kind t) = .next (s.after w) :=
  runOn_eq hl (galOk_of hp) ((if_pos hkind).trans hw)

/-- Settles O30: a token expected arrives by `W.Expects.arrive` or `W.Expects.doRingNotice`, one of another epoch by
`W.arrive_of_epoch_ne`. -/
theorem tokensArrive : Obligations.TokensArrive := by
  unfold Obligations.TokensArrive
  intro s p t hl hp a g
  refine ⟨fun i hepoch hsingle hopen hseq => ?expected, fun hepoch => ?otherEpoch⟩
  case expected =>
    have h : s.w.Expects p a t i := ⟨hepoch, hsingle, hopen, hseq⟩
    exact ⟨fun hk => runOn_tokenArrives hl hp hk h.arrive, fun hk => runOn_tokenArrives hl hp hk h.arrive,
      fun hk => runOn_tokenArrives hl hp hk h.arrive,
      fun hagrees hk => runOn_eq hl (galOk_of hp) (h.doRingNotice hk hagrees),
      fun hagrees hk => runOn_eq hl (galOk_of hp) (h.doRingNotice hk hagrees)⟩
  case otherEpoch =>
    have h := W.arrive_of_epoch_ne hepoch
    exact ⟨fun hk => runOn_tokenArrives hl hp hk h, fun hk => runOn_tokenArrives hl hp hk h,
      fun hk => runOn_tokenArrives hl hp hk h⟩

end Sys2Proof.Machine
end

section
/-! ### Connections and reservations (O31) -/

namespace Sys2Proof.Machine
namespace W

variable {w : W} {p a : Nat} {t : Packet}

/-- Queue `q` can take the connection that a CONNECT asks for: it is enabled, takes neither flights nor multicasts and lies
on no ring, has the RAW of the CONNECT, and has its slots free (R153). -/
structure HasRoom (w : W) (p a q : Nat) (t : Packet) : Prop where
  enabled : w.qcfg p a q F.Q_CFG_EN = 1
  noFlights : w.qcfg p a q F.Q_CFG_FLIGHTQ = 0
  noMulticast : w.qcfg p a q F.Q_CFG_MCQ = 0
  raw : w.qcfg p a q F.Q_CFG_RAW = bits t.arg 51 51
  noRing : w.qcfg p a q F.Q_CFG_RING = 0
  slots : bits t.arg 15 0 ≤ w.qcfg p a q F.Q_CFG_SIZE - (w.agent p a).assigned q

/-- The connection at index `i` that the CONNECT `t` opens on a plain queue `q`. -/
def opened (w : W) (p a q i : Nat) (t : Packet) : RConn :=
  { w.asked t q with inc := ((w.agent p a).conn i).inc, slots := bits t.arg 15 0 }

/-- A CONNECT to a queue with room opens the lowest free connection, and is answered with GRANT. -/
theorem answerConnect_room {q i : Nat} (hq : bits t.arg 59 56 = q)
    (hi : (List.range 64).find? (fun i => !((w.agent p a).conn i).isOpen) = some i) (h : w.HasRoom p a q t) :
    w.answerConnect p a t =
      let g := (w.agent p a).setConn i (w.opened p a q i t)
      (w.setAgent p a g).sendCredit p 1 (g.number i) 0 (bits t.arg 15 0) (w.opened p a q i t) := by
  simp only [answerConnect, hq, hi, h.enabled, h.noFlights, h.noMulticast, h.raw, h.noRing, h.slots, opened,
    Nat.zero_ne_one, decide_true, and_self, if_false, if_true]
  rfl

theorem doTokenConnect_current (hkind : tkind t = 2) (hepoch : t.epoch = w.epoch p (tokAgent t)) :
    w.doTokenConnect p t = w.answerConnect p (tokAgent t) t := by
  simp only [doTokenConnect, hkind, hepoch, ne_eq, not_true_eq_false, if_false, if_true]

/-- A CONNECT one epoch ahead is held while fewer than 16 are (R168). -/
theorem doTokenConnect_early (hkind : tkind t = 2) (hnext : t.epoch = (w.epoch p (tokAgent t) + 1) % 16)
    (hne : t.epoch ≠ w.epoch p (tokAgent t)) (hroom : (w.agent p (tokAgent t)).early.length < 16) :
    w.doTokenConnect p t = w.setAgent p (tokAgent t) { w.agent p (tokAgent t) with
      early := (w.agent p (tokAgent t)).early ++ [t] } := by
  simp only [doTokenConnect, hkind, if_neg hne, if_pos hnext, if_pos hroom, ne_eq, not_true_eq_false, if_false]

/-- The reservation that a RESERVE asks for at queue `q`, not yet held (R165). -/
def reserveOf (q : Nat) (t : Packet) : Reserve :=
  { queue := q, slots := bits t.arg 8 0, flight := bits t.arg 30 25, gen := bits t.arg 24 9, held := false, pkt := t }

/-- A RESERVE from the one source of its queue waits behind the earlier ones (R164, R165). -/
theorem doTokenReserve_taken {q : Nat} (hq : bits t.arg 59 56 = q) (hkind : tkind t = 6)
    (hepoch : t.epoch = w.epoch p (tokAgent t)) (htakes : w.mcTakes p (tokAgent t) q t = true) :
    w.doTokenReserve p t = (w.setAgent p (tokAgent t) { w.agent p (tokAgent t) with
      reserves := (w.agent p (tokAgent t)).reserves ++ [reserveOf q t],
      mcSrc := Tbl.set (fun _ => none) (w.agent p (tokAgent t)).mcSrc q (some (mcSource t)) }).grantReserves p
        (tokAgent t) q := by
  simp only [doTokenReserve, hq, hkind, hepoch, htakes, ne_eq, not_true_eq_false, or_self, if_false, reserveOf]

/-- A reservation that has not taken its slots in time answers that it did not reserve, as a contribution too (R165). -/
theorem doReserveTimeout_waiting {k : Nat} {r : Reserve} (hr : (w.agent p a).reserves[k]? = some r)
    (hheld : r.held = false) :
    w.doReserveTimeout p a k = ((w.setAgent p a { w.agent p a with
      reserves := (w.agent p a).reserves.eraseIdx k }).emit (.mesh p
        { typ := 4, srcLand := p, dst := r.pkt.srcLand, exit := r.pkt.srcExit, rtag := r.pkt.rtag, mask := maskOf p,
          arg := 0 })).emit (.contribute p r.flight r.gen 0) := by
  simp only [doReserveTimeout, hr, hheld, Bool.false_eq_true, if_false]

end W

/-- Settles O31: a CONNECT is answered by `W.answerConnect_room` or held, a RESERVE waits by `W.doTokenReserve_taken` until
`W.doReserveTimeout_waiting`. -/
theorem connectionsOpen : Obligations.ConnectionsOpen := by
  unfold Obligations.ConnectionsOpen
  intro s p t hl hp a g q
  refine ⟨?connect, ?early, ?reserve, ?timeout⟩
  case connect =>
    intro hkind hepoch i hi hen hflight hmc hraw hring hslots c
    have hroom : s.w.HasRoom p a q t := ⟨hen, hflight, hmc, hraw, hring, hslots⟩
    exact runOn_eq hl (galOk_of hp) <|
      (W.doTokenConnect_current hkind hepoch).trans (W.answerConnect_room rfl hi hroom)
  case early =>
    intro hkind hnext hne hroom
    exact runOn_eq hl (galOk_of hp) (W.doTokenConnect_early hkind hnext hne hroom)
  case reserve =>
    intro hkind hepoch htakes r
    exact runOn_eq hl (galOk_of hp) (W.doTokenReserve_taken rfl hkind hepoch htakes)
  case timeout =>
    intro a k r ha hr hheld
    exact runOn_eq hl (agentOk_of hp ha) (W.doReserveTimeout_waiting hr hheld)

end Sys2Proof.Machine
end

section
/-! ### Credits, multicast sends and the watchdog of a send slot (O32) -/

namespace Sys2Proof.Machine

/-- Slot `x` with the credits of the CREDIT_RETURN `t`. -/
def SendSlot.credited (x : SendSlot) (t : Packet) : SendSlot :=
  { x with slots := x.slots + bits t.arg 15 0, lines := x.lines + bits t.arg 31 16 }

/-- Slot `x` opened with the credits of the GRANT `t`; of the tokens that waited for it, those that the grant can ever hold
stay. -/
def SendSlot.granted (x : SendSlot) (t : Packet) : SendSlot :=
  { x with state := 2, conn := bits t.arg 47 32, slots := bits t.arg 15 0, lines := bits t.arg 31 16,
           grantSlots := bits t.arg 15 0, grantLines := bits t.arg 31 16, seq := 0,
           ring := decide (bits t.arg 31 16 ≠ 0), prod := 0,
           waitq := x.waitq.filter fun o => decide (W.OutTok.need o ≤ bits t.arg 15 0) }

/-- The multicast slot `c` in its data phase: the targets that did not reserve are late, and the next reserve flight is of
the next generation. -/
def McSlot.inData (c : McSlot) : McSlot :=
  { c with late := c.target &&& ~~~(c.reserved ||| c.pruned), phase := 2, acked := 0, gen := (c.gen + 1) % 2 ^ 16 }

namespace W

variable {w : W} {p a k : Nat} {t : Packet}

/-! #### CREDIT packets (R153 to R157) -/

/-- Send slot `k` is free again. -/
def freeSlot (w : W) (p a k : Nat) : W := w.setAgent p a ((w.agent p a).setSlot k {})

/-- Credits that come back to a slot in use let what waits for them go out (R155). -/
theorem doCreditReturn_expected (hkind : ckind t = 0) (hepoch : t.epoch = w.epoch p (credAgent t))
    (hstate : ((w.agent p (credAgent t)).slot (credSlot t)).state ≠ 0)
    (hconn : bits t.arg 47 32 = ((w.agent p (credAgent t)).slot (credSlot t)).conn) :
    w.doCreditReturn p t =
      let x := (w.agent p (credAgent t)).slot (credSlot t)
      (w.setAgent p (credAgent t) ((w.agent p (credAgent t)).setSlot (credSlot t) (x.credited t))).flushSlot p
        (credAgent t) (credSlot t) (x.waitq.length + 1) := by
  simp only [doCreditReturn, hkind, hepoch, hstate, hconn, ne_eq, not_true_eq_false, or_self, if_false, SendSlot.credited]

/-- GRANT opens a connecting slot, and CONNECT returns; a token larger than the whole grant is malformed (R153, R155). -/
theorem doGrant_connecting (hkind : ckind t = 1) (hepoch : t.epoch = w.epoch p (credAgent t))
    (hstate : ((w.agent p (credAgent t)).slot (credSlot t)).state = 1) :
    w.doGrant p t =
      let a := credAgent t
      let k := credSlot t
      let x := (w.agent p a).slot k
      let big := x.waitq.any fun o => decide (bits t.arg 15 0 < OutTok.need o)
      (((w.setAgent p a ((w.agent p a).setSlot k (x.granted t))).slotReturn p a (.connect k) k).when big fun w =>
        w.engineFault p a 4).flushSlot p a k ((x.granted t).waitq.length + 1) := by
  simp only [doGrant, hkind, hepoch, hstate, ne_eq, not_true_eq_false, or_self, if_false, SendSlot.granted]

/-- A failed CONNECT that no channel table made frees its slot, and the instruction returns `v` (R153, R157). -/
theorem connectFails_instr (htable : ((w.agent p a).slot k).table = false) (v : Int) :
    w.connectFails p a k v = (w.freeSlot p a k).slotReturn p a (.connect k) v := by
  simp only [connectFails, htable, Bool.false_eq_true, if_false, freeSlot]

theorem doRefuse_connecting (hkind : ckind t = 2) (hepoch : t.epoch = w.epoch p (credAgent t))
    (hstate : ((w.agent p (credAgent t)).slot (credSlot t)).state = 1) :
    w.doRefuse p t = w.connectFails p (credAgent t) (credSlot t) (-1) := by
  simp only [doRefuse, hkind, hepoch, hstate, ne_eq, not_true_eq_false, or_self, if_false]

/-- CLOSE_ACK frees a closing slot, and CLOSE returns (R156). -/
theorem doCloseAck_closing (hkind : ckind t = 3) (hepoch : t.epoch = w.epoch p (credAgent t))
    (hstate : ((w.agent p (credAgent t)).slot (credSlot t)).state = 3)
    (hconn : bits t.arg 47 32 = ((w.agent p (credAgent t)).slot (credSlot t)).conn) :
    w.doCloseAck p t = (w.freeSlot p (credAgent t) (credSlot t)).slotReturn p (credAgent t) (.close (credSlot t)) 0 := by
  simp only [doCloseAck, hkind, hepoch, hstate, hconn, ne_eq, not_true_eq_false, or_self, if_false, freeSlot]

/-- The slots that an open connection has freed go back, and its lines with them (R155). -/
theorem flushCredit_freed {i : Nat} (hopen : ((w.agent p a).conn i).isOpen = true)
    (hfreed : 0 < ((w.agent p a).conn i).freedSlots) :
    w.flushCredit p a i =
      let g := w.agent p a
      (w.setAgent p a (g.setConn i { g.conn i with freedSlots := 0, freedLines := 0 })).sendCredit p 0 (g.number i)
        (g.conn i).freedLines (g.conn i).freedSlots (g.conn i) := by
  rw [flushCredit]
  exact if_pos ⟨hopen, .inl hfreed⟩

/-! #### Multicast sends (R165, R166) -/

/-- The data of a multicast on send slot `k`, whose state is `x`, for the targets that reserved. -/
def dataToken (w : W) (p a k : Nat) (x : SendSlot) (c : McSlot) : Packet :=
  { w.tokenPacket p a k c.kind x.name 0xFFFE x.seq x.raw 0 c.data with
    mc := true, mask := c.reserved, nbody := if c.data.length ≤ 56 then 0 else ceilDiv c.data.length 128 }

/-- With every answer and the release in, the data goes to the targets that reserved. -/
theorem doMcDataSend_answered {m : Nat} (hown : w.mcOwner p a m = some k) {c : McSlot} (hc : (w.agent p a).mcSlot m = c)
    (hphase : c.phase = 1) (hrel : c.released = true) (hall : (c.acked ||| c.pruned) &&& c.target = c.target)
    (hres : c.reserved ≠ 0) :
    w.doMcDataSend p a m =
      let w' := w.setAgent p a ((w.agent p a).setMcSlot m c.inData)
      ((w'.emit (.mesh p (w'.dataToken p a k ((w.agent p a).slot k) c))).count (Reg.CH_MSGS p a k) 1).count
        (Reg.CH_BYTES p a k) c.data.length := by
  simp only [doMcDataSend, hown, hc]
  rw [if_pos ⟨hphase, hrel, hall⟩, if_neg hres]
  rfl

/-! #### The watchdog (R172) -/

/-- Send slot `k` is hung. -/
def hangSlot (w : W) (p a k : Nat) : W :=
  w.setAgent p a ((w.agent p a).setSlot k { (w.agent p a).slot k with state := 4 })

/-- A hang is recorded: slot `k`, its connection and target in `x`, and the fullest own queue (R175). -/
def recordHang (w : W) (p a k : Nat) (x : SendSlot) : W :=
  (w.setReg (Reg.Q_HANG_INFO p a) (w64 (x.conn % 2 ^ 16 * 2 ^ 48 + k % 64 * 2 ^ 42 + (w.fullest p a).1 * 2 ^ 38
    + (w.fullest p a).2 % 2 ^ 16 * 2 ^ 22 + 2 ^ 21))).setReg (Reg.Q_HANG_TGT p a) x.name

/-- What the hang of slot `k`, whose state was `x`, raises; `q` is the fullest own queue with the connection of its head. -/
def hangBody (w : W) (p a k : Nat) (x : SendSlot) (q : Nat × Nat) : RecBody :=
  { cls := 7, kind := 1, agent := some a, pc := w.agentPc p a, connA := x.conn, slotA := k, queueB := q.1, connB := q.2,
    info := w.reg (Reg.Q_HANG_INFO p a), aux := w.reg (Reg.Q_HANG_TGT p a) }

/-- An open slot that waits on credit is hung; where no hang stands recorded this one is, and it is raised. -/
theorem doStallWatchdog_first (hopen : ((w.agent p a).slot k).state = 2) (hwait : ((w.agent p a).slot k).waiting = true)
    (hfirst : (w.hangSlot p a k).flag (Reg.Q_HANG_INFO p a) F.Q_HANG_INFO_VALID = false) :
    w.doStallWatchdog p a k =
      let x := (w.agent p a).slot k
      let w' := (w.hangSlot p a k).recordHang p a k x
      w'.raiseHang p (w'.hangBody p a k x ((w.hangSlot p a k).fullest p a)) := by
  have hhung : ¬ (((w.agent p a).slot k).state ≠ 2 ∨
      ¬ (((w.agent p a).slot k).waiting = true ∨ ((w.agent p a).slot k).waitq ≠ [])) := by simp [hopen, hwait]
  rw [doStallWatchdog]
  dsimp only
  rw [if_neg hhung]
  unfold hangSlot at hfirst
  rw [hfirst]
  rfl

end W

/-- Settles O32: a CREDIT packet by the state of the slot it finds, a multicast by `W.doMcDataSend_answered`, a hung slot by
`W.doStallWatchdog_first`. -/
theorem creditsAndMulticasts : Obligations.CreditsAndMulticasts := by
  unfold Obligations.CreditsAndMulticasts
  refine ⟨?credits, ?sends⟩
  case credits =>
    intro s p t hl hp a k g x ok
    have hok := galOk_of hp
    refine ⟨?creditReturn, ?grant, ?refuse, ?closeAck, ?connectTimeout, ?creditBatch⟩
    case creditReturn =>
      exact fun hkind hepoch hstate hconn => runOn_eq hl hok (W.doCreditReturn_expected hkind hepoch hstate hconn)
    case grant => exact fun hkind hepoch hstate => runOn_eq hl hok (W.doGrant_connecting hkind hepoch hstate)
    case refuse =>
      exact fun hkind hepoch hstate htable => runOn_eq hl hok <|
        (W.doRefuse_connecting hkind hepoch hstate).trans (W.connectFails_instr htable (-1))
    case closeAck =>
      exact fun hkind hepoch hstate hconn => runOn_eq hl hok (W.doCloseAck_closing hkind hepoch hstate hconn)
    case connectTimeout =>
      exact fun a k ha hstate htable => runOn_eq hl (agentOk_of hp ha) <|
        (if_pos hstate).trans (W.connectFails_instr htable (-3))
    case creditBatch =>
      exact fun a i ha hopen hfreed => runOn_eq hl (agentOk_of hp ha) (W.flushCredit_freed hopen hfreed)
  case sends =>
    intro s p a hl hp ha g
    have hok := agentOk_of hp ha
    refine ⟨?mcDataSend, ?watchdog, ?drainClear⟩
    case mcDataSend =>
      intro m k hown c x hphase hrel hall hres
      exact runOn_eq hl hok (W.doMcDataSend_answered hown rfl hphase hrel hall hres)
    case watchdog =>
      intro k hopen hwait x w q h w' hfirst
      exact runOn_eq hl hok (W.doStallWatchdog_first hopen hwait hfirst)
    case drainClear => exact runOn_eq hl hok rfl

end Sys2Proof.Machine
end

section
/-! ### What leaves the sequencer's own state alone (O37)

Records, counts and writes of memory, whoever makes them, go by the sequencer. -/

namespace Sys2Proof.Machine

namespace W

theorem setReg_c_seq (w : W) (k : Nat) (v : Word) : (w.setReg k v).c.seq = w.c.seq := rfl

theorem setFld_c_seq (w : W) (k : Nat) (f : Fld) (v : Nat) : (w.setFld k f v).c.seq = w.c.seq := setReg_c_seq _ _ _

theorem setFlag_c_seq (w : W) (k : Nat) (f : Fld) (b : Bool) : (w.setFlag k f b).c.seq = w.c.seq := setFld_c_seq _ _ _ _

theorem when_c_seq (w : W) (b : Bool) {f : W → W} (h : (f w).c.seq = w.c.seq) : (w.when b f).c.seq = w.c.seq := by
  cases b
  · rfl
  · exact h

theorem pend_c_seq (w : W) (id : Nat) : (w.pend id).c.seq = w.c.seq := by
  obtain h | h | h := w.pend_cases id
  · rw [h]
  · rw [h, count_c_seq]
  · rw [h, setFlag_c_seq]

theorem pendPriv_c_seq (w : W) (n s : Nat) : (w.pendPriv n s).c.seq = w.c.seq := by
  obtain h | h | h := w.pendPriv_cases n s
  · rw [h]
  · rw [h, count_c_seq]
  · rw [h, setFlag_c_seq]

/-! #### Error records and the snapshot they may trigger (R353, R384) -/

theorem fabSend_c_seq (w : W) (h : Nat) (t : FabPkt) : (w.fabSend h t).c.seq = w.c.seq := rfl

theorem sendTriggers_c_seq (w : W) : w.sendTriggers.c.seq = w.c.seq := by
  unfold sendTriggers
  refine List.foldlRecOn (motive := fun v : W => v.c.seq = w.c.seq) _ _ rfl fun v hv n _ => ?_
  dsimp only
  split
  · rw [fabSend_c_seq, hv]
  · exact hv

theorem startDump_c_seq (w : W) : w.startDump.c.seq = w.c.seq := by
  unfold startDump
  split
  · rfl
  · rw [setReg_c_seq]

theorem snapLatch_c_seq (w : W) (src esn : Nat) (late : Bool) : (w.snapLatch src esn late).c.seq = w.c.seq := by
  unfold snapLatch
  split
  · rw [setFld_c_seq]
  · dsimp only
    rw [when_c_seq _ _ (startDump_c_seq _), when_c_seq _ _ (sendTriggers_c_seq _), pend_c_seq, setReg_c_seq,
      setFlag_c_seq, setFlag_c_seq, setFld_c_seq]

theorem record_c_seq (w : W) (b : RecBody) : (w.record b).c.seq = w.c.seq := by
  unfold record
  extract_lets esn w₁ w₂ rate key cur cur' rest
  have hw : w₂.c.seq = w.c.seq := by
    rw [when_c_seq _ _ (snapLatch_c_seq _ _ _ _), count_c_seq, setReg_c_seq]
  split
  · rw [count_c_seq]
    exact hw
  · rw [pend_c_seq]
    exact hw

/-! #### A line written (R188, R219) -/

/-- The word of an event takes at most one free value (R231). -/
theorem memInfo_cases (w : W) (m kind pc land irgn : Nat) (a : Word) :
    (w.memInfo m kind pc land irgn a).2 = w ∨ (w.memInfo m kind pc land irgn a).2 = w.draw.2 := by
  unfold memInfo
  split
  next x v h =>
    change v = w ∨ v = w.draw.2
    by_cases hm : m < 8
    · rw [if_pos hm] at h
      exact .inl (congrArg Prod.snd h).symm
    · rw [if_neg hm] at h
      by_cases hkind : kind = 7
      · rw [if_pos hkind] at h
        exact .inl (congrArg Prod.snd h).symm
      · rw [if_neg hkind] at h
        exact .inr (congrArg Prod.snd h).symm

theorem draw_c_seq (w : W) : w.draw.2.c.seq = w.c.seq := rfl

theorem memInfo_c_seq (w : W) (m kind pc land irgn : Nat) (a : Word) :
    (w.memInfo m kind pc land irgn a).2.c.seq = w.c.seq := by
  obtain h | h := w.memInfo_cases m kind pc land irgn a
  · rw [h]
  · rw [h, draw_c_seq]

theorem memEvent_c_seq (w : W) (m kind sev pc land irgn : Nat) (a : Word) :
    (w.memEvent m kind sev pc land irgn a).2.c.seq = w.c.seq := by
  have hinfo := w.memInfo_c_seq m kind pc land irgn a
  unfold memEvent
  split
  next info v h =>
    rw [h] at hinfo
    dsimp only at hinfo ⊢
    split
    · exact hinfo
    · rw [setReg_c_seq, setReg_c_seq, hinfo]

theorem addWork_c_seq (w : W) (k : WorkKind) (b : RecBody) : (w.addWork k b).c.seq = w.c.seq := rfl

theorem memPoison_c_seq (w : W) (m kind pc land irgn : Nat) (a : Word) :
    (w.memPoison m kind pc land irgn a).c.seq = w.c.seq := by
  unfold memPoison
  dsimp only
  rw [pendPriv_c_seq, addWork_c_seq, memEvent_c_seq, countErr_c_seq]

theorem guardRejects_c_seq (w : W) (m pc land irgn : Nat) (a : Word) :
    (w.guardRejects m pc land irgn a).c.seq = w.c.seq := by
  unfold guardRejects
  dsimp only
  rw [pend_c_seq, addWork_c_seq, memEvent_c_seq, countErr_c_seq]

theorem setMemc_c_seq (w : W) (m : Nat) (x : MemCtl) : (w.setMemc m x).c.seq = w.c.seq := rfl

theorem startReset_c_seq (w : W) (d : Domain) : (w.startReset d).c.seq = w.c.seq := by
  unfold startReset
  split <;> rfl

theorem memReset_c_seq (w : W) (m pc : Nat) : (w.memReset m pc).c.seq = w.c.seq := by
  unfold memReset
  rw [startReset_c_seq, setMemc_c_seq]

theorem activateBank_c_seq (w : W) (m pc line : Nat) : (w.activateBank m pc line).c.seq = w.c.seq := setMemc_c_seq _ _ _

theorem drawBytes_c_seq (w : W) (n : Nat) : (w.drawBytes n).2.c.seq = w.c.seq := rfl

theorem setWeak_c_seq (w : W) (m line : Nat) (lost : Bool) : (w.setWeak m line lost).c.seq = w.c.seq :=
  setMemc_c_seq _ _ _

theorem memStore_c_seq (w : W) (m pc land irgn key : Nat) (a : Word) (bs : List Byte) (u : MemUpset) :
    (w.memStore m pc land irgn key a bs u).2.c.seq = w.c.seq := by
  unfold memStore
  dsimp only
  split
  · rw [memPoison_c_seq]
  · split
    · rw [memReset_c_seq, memPoison_c_seq, wrBytes_c, drawBytes_c_seq, activateBank_c_seq]
    · rw [count_c_seq, wrBytes_c]
      split
      · rw [setWeak_c_seq, activateBank_c_seq]
      · rw [activateBank_c_seq]

theorem rcbClose_c_seq (w : W) (m line : Nat) : (w.rcbClose m line).c.seq = w.c.seq := setMemc_c_seq _ _ _

theorem setHall_c_seq (w : W) (p : Nat) (x : Hall) : (w.setHall p x).c.seq = w.c.seq := rfl

theorem takeGrant_c_seq (w : W) (p t m : Nat) (rivals : List (Nat × Nat)) :
    (w.takeGrant p t m rivals).c.seq = w.c.seq := by
  unfold takeGrant
  dsimp only
  rw [when_c_seq _ _ (count_c_seq _ _ _), setHall_c_seq]

theorem endLatch_c_seq (w : W) (p off : Nat) : (w.endLatch p off).c.seq = w.c.seq := by
  unfold endLatch
  dsimp only
  split
  · rw [setHall_c_seq]
  · rfl

theorem putLine_c_seq (w : W) (p m off : Nat) (bs : List Byte) : (w.putLine p m off bs).c.seq = w.c.seq := by
  unfold putLine
  dsimp only
  rw [wrBytes_c]
  split
  · rw [endLatch_c_seq, takeGrant_c_seq]
  · rfl

theorem lineWrite_c_seq (w : W) (land : Option Nat) (addr : Word) (bs : List Byte) (own : Nat) :
    (w.lineWrite land addr bs own).2.c.seq = w.c.seq := by
  unfold lineWrite
  split
  case h_1 =>
    split
    · rfl
    · dsimp only
      split
      · rw [guardRejects_c_seq, rcbClose_c_seq]
      · rw [memStore_c_seq, rcbClose_c_seq]
  case h_2 => exact putLine_c_seq _ _ _ _ _
  all_goals rfl

/-! #### A range written by a requester of the part -/

/-- A write to the set-up region waits until its command ends. -/
theorem setupWrite_c_seq (w : W) (k size v : Nat) (req : Word) : (w.setupWrite k size v req).2.c.seq = w.c.seq := by
  unfold setupWrite
  split
  · exact record_c_seq _ _
  · split
    · exact record_c_seq _ _
    · split <;> rfl

theorem farPut_c_seq (w : W) (land : Option Nat) (req addr : Word) (bs : List Byte) (own : Nat) :
    (w.farPut land req addr bs own).2.c.seq = w.c.seq := by
  have hline := w.lineWrite_c_seq land addr bs own
  unfold farPut
  split
  next k v hv =>
    rw [hv] at hline
    exact (setupWrite_c_seq _ _ _ _ _).trans hline
  next => exact hline

theorem farWrite_c_seq (w : W) (land : Option Nat) (req addr : Word) (bs : List Byte) :
    (w.farWrite land req addr bs).2.c.seq = w.c.seq := by
  unfold farWrite
  refine List.foldlRecOn (motive := fun r : Option (Ans × Nat) × W => r.2.c.seq = w.c.seq) _ _ rfl
    fun r hr piece _ => ?_
  obtain ⟨_ | stop, v⟩ := r
  · have hput := (v.farPut_c_seq land req (addr + w64 piece.1) ((bs.drop piece.1).take piece.2) 12).trans hr
    dsimp only
    split
    next h => rw [h] at hput; exact hput
    next a u _ h => rw [h] at hput; exact hput
  · exact hr

/-- What a scan to memory does, as a function: were it stated of a gallery, the kernel would work the whole write out
before it compared the two sides. -/
theorem scanToMem_eq : scanToMem = fun w p full =>
    (w.farWrite none (w64 p) (w.loc (w.reg (Reg.GSTEP_SCAN_ADDR p))) (w.scanImage p full)).2 := rfl

/-- A scan to memory is one write. -/
theorem scanToMem_farWrite (w : W) (p : Nat) (full : Bool) :
    ∃ req addr bs, w.scanToMem p full = (w.farWrite none req addr bs).2 := by
  rw [scanToMem_eq]
  exact ⟨_, _, _, rfl⟩

theorem scanToMem_c_seq (w : W) (p : Nat) (full : Bool) : (w.scanToMem p full).c.seq = w.c.seq := by
  obtain ⟨req, addr, bs, h⟩ := w.scanToMem_farWrite p full
  rw [h, farWrite_c_seq]

end W

end Sys2Proof.Machine
end

section
/-! ### The START of a step and the entries (O33) -/

namespace Sys2Proof.Machine

/-- The sequencer's own state once the START of a step is made: what stood ready for the START is used up. -/
def Seq.started (q : Seq) : Seq :=
  { q with phase := .run, flipped := false, startBar := false, release := none, onStart := [], abortNext := false,
           drainNext := false, placed := [] }

namespace W

variable {w : W} {p : Nat}

/-- A START for which no descriptor waits, and after which neither an abort nor a drain applies (R185, R186). -/
theorem doStart_clear (hdue : w.c.seq.onStart = []) (habort : w.c.seq.abortNext = false)
    (hdrain : w.c.seq.drainNext = false) (cold : Bool) :
    w.doStart cold = ((w.setSeqState stRun).setSeq w.c.seq.started).emit (.gstep true cold false) := by
  rw [doStart, hdue, habort, hdrain]
  rfl

/-- A START that nothing holds and no barrier delays is made (R185). -/
theorem tryStart_ready {cold : Bool} (hphase : w.c.seq.phase = .ready cold)
    (hstate : w.seqState = stRun ∨ w.seqState = stLoading) (hmay : w.mayStart = true)
    (hflip : cold = true → w.c.seq.flipped = true) (hbar : w.c.seq.startBar = false) : w.tryStart = w.doStart cold := by
  have hgo : ¬ ((w.seqState ≠ stRun ∧ w.seqState ≠ stLoading) ∨ ¬ w.mayStart = true) := by
    rintro (⟨hrun, hload⟩ | hheld)
    · exact hstate.elim hrun hload
    · exact hheld hmay
  have hflipped : ¬ (cold = true ∧ ¬ w.c.seq.flipped = true) := fun h => h.2 (hflip h.1)
  have hfree : ¬ (w.c.seq.startBar = true ∧ 0 < w.devices) := by simp [hbar]
  rw [tryStart, hphase]
  dsimp only
  rw [if_neg hgo, if_neg hflipped, if_neg hfree]

/-- The agents of a gallery whose channel tables a cold entry opens: all but the scalar cores'. -/
theorem tableAgents_eq : ((List.range 16).filter fun a => a != 12 && a != 13) =
    [0, 1, 2, 3, 4, 5, 6, 7, 8, 9, 10, 11, 14, 15] := by decide

/-- The pending nondeterminism events without those that were sent (R326). -/
def dropSent (w : W) (p : Nat) : W :=
  w.setFld (Reg.GND_PEND p) ⟨31, 0⟩ (w.fld (Reg.GND_PEND p) ⟨31, 0⟩ - w.fld (Reg.GND_SENT p) ⟨31, 0⟩)

/-- A warm entry keeps the cores' state; the scalar cores that wait in STEPWAIT go on (R182, R326). -/
theorem doWarmEntry_unfenced (h : w.flag (Reg.GAL_FENCE p) F.GAL_FENCE_FENCED = false) :
    w.doWarmEntry p = [0, 1].foldl (fun w n => if (w.sc p n).wait = .step then w.hNext (.sc p n) else w)
      ((((w.entryState p false).newTracker p).dropSent p).setFld (Reg.GND_SENT p) ⟨31, 0⟩ 0) := by
  rw [doWarmEntry, if_neg (by simp [h])]
  rfl

/-- The units of gallery `p` as a cold entry leaves them (R182, R149). -/
def coldUnits (w : W) (p : Nat) : W :=
  let w := (List.range 16).foldl (fun w a => w.coldAgent p a) w
  let w := (List.range 8).foldl (fun w n => w.coldMc p n) w
  let w := (List.range 4).foldl (fun w n => w.coldVc p n) w
  (((w.coldSc p 0).coldSc p 1).setDm p {}).setSu p {}

theorem foldl_coldSc (w : W) (p : Nat) : [0, 1].foldl (fun w n => w.coldSc p n) w = (w.coldSc p 0).coldSc p 1 := rfl

/-- A cold entry clears the units and opens the channel tables (R182, R149, R326). -/
theorem doColdEntry_unfenced (h : w.flag (Reg.GAL_FENCE p) F.GAL_FENCE_FENCED = false) :
    w.doColdEntry p = ([0, 1, 2, 3, 4, 5, 6, 7, 8, 9, 10, 11, 14, 15] : List Nat).foldl (fun w a => w.openTable p a)
      ((((w.entryState p true).newTracker p).coldUnits p).setFld (Reg.GND_SENT p) ⟨31, 0⟩ 0) := by
  rw [doColdEntry, if_neg (by simp [h])]
  dsimp only
  rw [foldl_coldSc, tableAgents_eq]
  rfl

theorem doGstepAbort_unfenced (h : w.flag (Reg.GAL_FENCE p) F.GAL_FENCE_FENCED = false) :
    w.doGstepAbort p = w.setFld (Reg.GSTEP_STATE p) F.GSTEP_STATE_STATE 4 := by
  rw [doGstepAbort, if_neg (by simp [h])]

end W

/-- A command of a live part, by what its operation leaves. -/
theorem run_eq {s : State} (hl : s.live = true) {f : W → W} {w : W} (hf : f s.w = w) : run s f = .next (s.after w) := by
  rw [run_live hl, hf]

/-- Settles O33: the START that is due is made (`W.tryStart_ready`, `W.doStart_clear`); the entries and the abort of a
gallery that is not fenced. -/
theorem stepsStart : Obligations.StepsStart := by
  unfold Obligations.StepsStart
  refine ⟨?start, ?entries⟩
  case start =>
    intro s cold hl hphase hstate hmay hflip hbar hdue habort hdrain
    exact run_eq hl <|
      (W.tryStart_ready hphase hstate hmay hflip hbar).trans (W.doStart_clear hdue habort hdrain cold)
  case entries =>
    intro s p hl hp hfence
    have hok := galOk_of hp
    exact ⟨runOn_eq hl hok (W.doWarmEntry_unfenced hfence), runOn_eq hl hok (W.doColdEntry_unfenced hfence),
      runOn_eq hl hok (W.doGstepAbort_unfenced hfence)⟩

end Sys2Proof.Machine
end

section
/-! ### Arrival and commit (O34) -/

namespace Sys2Proof.Machine

namespace W

variable {w : W}

/-- The contribution `x` is an agent's to the commit flight, expected now, and its gallery `p` has not made it yet
(R138, R184). -/
structure ArrivesBy (w : W) (p : Nat) (x : Word) (pl : ImgPlacement) : Prop where
  placed : w.placement = some pl
  commit : pl.commit = bits x 63 58
  valid : bit (w.ft p (bits x 63 58)) 63 = true
  localPort : bit (w.ft p (bits x 63 58)) 47 = true
  gen : bits x 57 42 = w.fltGen p (bits x 63 58)
  first : (Tbl.get (fun _ => {}) (w.landing p).parts (bits x 63 58)).srcs.testBit 0 = false

/-- The contribution to the commit flight makes a gallery that runs arrive (R184). -/
theorem ArrivesBy.doLndFltArrive {p : Nat} {x : Word} {pl : ImgPlacement} (h : w.ArrivesBy p x pl)
    (hrun : (w.contribute p 0 x).fld (Reg.GSTEP_STATE p) F.GSTEP_STATE_STATE = 1) :
    w.doLndFltArrive p x =
      ((w.contribute p 0 x).setFld (Reg.GSTEP_STATE p) F.GSTEP_STATE_STATE 2).boundaryCheck p := by
  rw [W.doLndFltArrive, h.placed, h.valid, h.localPort, ← h.gen, h.first, hrun]
  simp [h.commit]

/-- Neither PREPARED nor the sequencer's own state changes the step number. -/
theorem stepNo_prepared (w : W) (q : Seq) :
    ((w.setFlag Reg.SEQ_STATUS F.SEQ_STATUS_PREPARED true).setSeq q).stepNo = w.stepNo := by
  rw [stepNo, setSeq_reg, reg_setFlag_ne _ _ _ (by decide), stepNo]

/-- The PREPARED record is acknowledged: the fabric barrier is entered (R194). -/
theorem doCommitRecordAck_prepared {i : Img} (hphase : w.c.seq.phase = .record false) (himg : w.c.seq.img = some i) :
    w.doCommitRecordAck = ((w.setFlag Reg.SEQ_STATUS F.SEQ_STATUS_PREPARED true).setSeq
      { w.c.seq with phase := .fabric }).barContribute i.view.commitBar (w.stepNo % 2 ^ 16) := by
  rw [doCommitRecordAck, hphase]
  dsimp only
  rw [setFlag_c_seq, stepNo_prepared, setSeq_c, himg]

/-- The COMMITTED record is acknowledged: the guard copies are written (R185). -/
theorem doCommitRecordAck_committed (hphase : w.c.seq.phase = .record true) :
    w.doCommitRecordAck = (w.writeGuards w.stepNo).setSeq { w.c.seq with phase := .guards } := by
  rw [doCommitRecordAck, hphase]

theorem doCommitRelease_running (hstate : w.seqState = stRun) (hphase : w.c.seq.phase = .run) (nd : Nat) :
    w.doCommitRelease nd = (w.setSeq { w.c.seq with release := some (nd % 2 ^ 32) }).tryCommit :=
  if_pos ⟨hstate, hphase⟩

/-- A copy that is not done holds the commit (R311). -/
theorem tryCommit_of_copying (hcopies : w.copiesDone w.stepNo = false) : w.tryCommit = w :=
  if_neg fun h => Bool.false_ne_true (hcopies.symm.trans h.2.2.2)

/-- On a single device the commit begins with the COMMITTED record (R185). -/
theorem tryCommit_single (hstate : w.seqState = stRun) (hphase : w.c.seq.phase = .run)
    (hrelease : w.c.seq.release.isSome = true) (hcopies : w.copiesDone w.stepNo = true) (hone : w.devices = 0) :
    w.tryCommit = w.issueCommitted := by
  rw [tryCommit, if_pos ⟨hstate, hphase, hrelease, hcopies⟩, if_pos hone]

/-- The step in progress is committed (R185, R327, R328): its atomic events are added, SEQ_COMMITTED takes it, its
descriptors complete, its logs are freed and SEQ_STEP moves on. -/
def stepCommitted (w : W) : W :=
  let n := w.stepNo
  let nd := ((List.range 16).map fun m => (w.memc m).ndSince).sum
  let w := ((List.range 16).foldl (fun (w : W) m => w.setMemc m { w.memc m with ndSince := 0 }) w).addNd nd n
  let w := (w.setReg Reg.SEQ_COMMITTED (w64 n)).pend 281
  let w := (w.setFld Reg.SEQ_STATUS F.SEQ_STATUS_REEXEC 0).setFlag Reg.SEQ_STATUS F.SEQ_STATUS_PREPARED false
  let w := w.commitDone n
  let w := w.dropReserves fun _ => true
  ({ w with c := { w.c with fabLog := {} } } : W).setReg Reg.SEQ_STEP (w64 (n + 1))

/-- After the last guard copy's acknowledgement, with no change of configuration, a requested stop is made, or the
sequencer goes on to what is due: a START, or moves that wait for it (R185, R201). -/
theorem doGuardCopyAck_none (hphase : w.c.seq.phase = .guards) :
    w.doGuardCopyAck none =
      let v := w.stepCommitted
      if v.c.seq.stopReq then (v.setSeq { v.c.seq with phase := .idle, stopReq := false }).setSeqState stStopped
      else
        let u := (v.setSeq { v.c.seq with phase := .ready false }).setSeqState stRun
        if u.c.seq.moves.isEmpty then u.tryStart else u.beginMoves := by
  rw [doGuardCopyAck, if_neg (not_not_intro hphase)]
  rfl

end W

theorem exec_commitRelease (s : State) (nd : Nat) :
    exec (.commitRelease nd) s = run s fun w => w.doCommitRelease nd := by rfl

theorem exec_guardCopyAck (s : State) (cfg : Option Nat) :
    exec (.guardCopyAck cfg) s = run s fun w => w.doGuardCopyAck cfg := by rfl

/-- Settles O34: the arrival by `W.ArrivesBy`, the release by what holds the commit, the records by their phases, and the
guard copies by `W.doGuardCopyAck_none`. -/
theorem stepsCommit : Obligations.StepsCommit := by
  unfold Obligations.StepsCommit
  refine ⟨?arrive, ?prepared, ?release, ?committed, ?guards⟩
  case arrive =>
    intro s p x pl hl hp hplaced f hcommit hvalid hlocal hgen hfirst w hrun
    exact runOn_eq hl (galOk_of hp) <|
      W.ArrivesBy.doLndFltArrive ⟨hplaced, hcommit, hvalid, hlocal, hgen, hfirst⟩ hrun
  case prepared => exact fun s i hl hphase himg => run_eq hl (W.doCommitRecordAck_prepared hphase himg)
  case release =>
    intro s nd hl hstate hphase w
    have hrelease : s.w.doCommitRelease nd = w.tryCommit := W.doCommitRelease_running hstate hphase nd
    rw [exec_commitRelease]
    exact ⟨fun hcopies hone => run_eq hl (hrelease.trans (W.tryCommit_single hstate hphase rfl hcopies hone)),
      fun hcopies => run_eq hl (hrelease.trans (W.tryCommit_of_copying hcopies))⟩
  case committed => exact fun s hl hphase => run_eq hl (W.doCommitRecordAck_committed hphase)
  case guards =>
    intro s hl hphase n nd w₁ w₂ w₃ w₄ w
    have hack := W.doGuardCopyAck_none (w := s.w) hphase
    rw [exec_guardCopyAck]
    exact ⟨fun hstop => run_eq hl (hack.trans (if_pos hstop)), fun hgo hmoves => run_eq hl <| hack.trans <|
      (if_neg (Bool.eq_false_iff.1 hgo)).trans (if_pos (List.isEmpty_iff.2 hmoves))⟩

end Sys2Proof.Machine
end

section
/-! ### Watchdogs and rollback (O35) -/

namespace Sys2Proof.Machine

/-- With no descriptor and no operation outstanding, what is done to each of them changes nothing. -/
theorem HostLink.map_of_idle {h : HostLink} (hdescs : h.descs = []) (hops : h.ops = []) (f : Desc → Desc)
    (g : Nat × SclOp → Nat × SclOp) : { h with descs := h.descs.map f, ops := h.ops.map g } = h := by
  obtain ⟨⟩ := h
  subst hdescs hops
  rfl

namespace W

variable {w : W}

/-- Galleries of the schedule that have neither arrived nor wait. -/
def lateGals (w : W) : List Nat :=
  w.usedGals.filter fun p => w.fld (Reg.GSTEP_STATE p) F.GSTEP_STATE_STATE != 2 &&
    w.fld (Reg.GSTEP_STATE p) F.GSTEP_STATE_STATE != 3

/-- The trip of a watchdog leaves SEQ_STATUS as it was. -/
theorem seqState_countErr_trips (w : W) : (w.countErr Reg.SEQ_WD_TRIPS).seqState = w.seqState := by
  rw [seqState, fld, countErr_reg_ne w (by decide)]
  rfl

/-- A step that runs and has no release yet is late: the trip is counted, up to 16 late galleries are recorded, and the
step is rolled back (R190). -/
theorem doStepWatchdog_late (hstate : w.seqState = stRun) (hphase : w.c.seq.phase = .run)
    (hrelease : w.c.seq.release = none) :
    w.doStepWatchdog [] = ((w.lateGals.take 16).foldl (fun v p => v.record
      { cls := 9, kind := 1, sev := 2, phys := some p, info := w64 (w.lateGals.length % 2 ^ 16 + stRun * 2 ^ 16),
        aux := v.reg Reg.SEQ_COMMITTED }) (w.countErr Reg.SEQ_WD_TRIPS)).rollbackIf := by
  have hlate : ¬ (w.seqState ≠ stRun ∨ w.c.seq.phase ≠ .run ∨ w.c.seq.release.isSome = true) := by
    simp [hstate, hphase, hrelease]
  rw [doStepWatchdog, if_neg hlate]
  dsimp only
  rw [seqState_countErr_trips, hstate]
  simp only [lateGals, List.contains_nil, List.filter_false, List.foldl_nil]

/-- The quiet time of a rollback is over (R191). -/
theorem doQuietEnd_quiet (hstate : w.seqState = stRollback) (hphase : w.c.seq.phase = .quiet)
    (hdrained : w.c.seq.draining = []) :
    w.doQuietEnd = if w.c.seq.stopRoll then
      (w.setSeq { w.c.seq with phase := .idle, stopRoll := false }).setSeqState stStopped
      else w.setSeq { w.c.seq with phase := .restart } :=
  if_pos ⟨hstate, hphase, hdrained⟩

theorem setHost_self (w : W) : w.setHost w.c.host = w := rfl

/-- Nothing holds the restart of a rollback, and no stop is asked for (R191, R192). -/
structure MayRestart (w : W) : Prop where
  state : w.seqState = stRollback
  phase : w.c.seq.phase = .restart
  remaps : w.c.seq.remaps = []
  flip : w.c.flip = none
  resets : w.c.resets = []
  goesOn : w.c.seq.stopRoll = false

/-- The re-execution `n` of a step is counted, and marked in the nondeterminism status (R191, R325). -/
def reexecuted (w : W) (n : Nat) : W :=
  ((w.setFld Reg.SEQ_STATUS F.SEQ_STATUS_REEXEC n).count Reg.SEQ_REEXECS 1).setFlag Reg.ND_STATUS F.ND_STATUS_REEXEC true

theorem reexecuted_c_seq (w : W) (n : Nat) : (w.reexecuted n).c.seq = w.c.seq := by
  rw [reexecuted, setFlag_c_seq, count_c_seq, setFld_c_seq]

theorem reexecuted_c_host (w : W) (n : Nat) : (w.reexecuted n).c.host = w.c.host :=
  count_c_host (w.setFld Reg.SEQ_STATUS F.SEQ_STATUS_REEXEC n) Reg.SEQ_REEXECS 1

/-- The number of the re-execution that a restart makes. -/
def nextReexec (w : W) : Nat := w.fld Reg.SEQ_STATUS F.SEQ_STATUS_REEXEC + 1

theorem MayRestart.doRollbackRestart_exhausted (h : w.MayRestart)
    (hmax : w.fld Reg.SEQ_CFG F.SEQ_CFG_MAX_REEXEC < w.nextReexec) : w.doRollbackRestart = w.abandon := by
  rw [doRollbackRestart]
  dsimp only
  rw [if_neg (by simp [h.state, h.phase, h.remaps, h.flip, h.resets]), if_neg (by simp [h.goesOn])]
  exact if_pos hmax

/-- Up to MAX_REEXEC the step is executed again, from a cold START (R192); with nothing outstanding at the host only the
logs are replayed (R197). -/
theorem MayRestart.doRollbackRestart_again (h : w.MayRestart)
    (hmax : w.nextReexec ≤ w.fld Reg.SEQ_CFG F.SEQ_CFG_MAX_REEXEC) (hflipped : w.c.seq.flipped = true)
    (hdescs : w.c.host.descs = []) (hops : w.c.host.ops = []) :
    w.doRollbackRestart = ((w.reexecuted w.nextReexec).doStart true).replayLogs := by
  rw [doRollbackRestart]
  extract_lets stopped n v₁ v₂ v₃ back again lost link v₄
  rw [if_neg (by simp [h.state, h.phase, h.remaps, h.flip, h.resets]), if_neg (by simp [h.goesOn]),
    if_neg (show ¬ w.fld Reg.SEQ_CFG F.SEQ_CFG_MAX_REEXEC < n from Nat.not_lt.2 hmax)]
  have hv₂ : v₂ = w.reexecuted w.nextReexec := rfl
  have hflipped₂ : v₂.c.seq.flipped = true := by rw [hv₂, reexecuted_c_seq, hflipped]
  have hv₃ : v₃ = v₂ := by simp only [v₃, hflipped₂, if_true]
  have hhost : link = w.c.host := by simp only [link, hv₃, hv₂, reexecuted_c_host]
  have hlink : ({ link with descs := link.descs.map back, ops := link.ops.map lost } : HostLink) = link :=
    HostLink.map_of_idle (by rw [hhost, hdescs]) (by rw [hhost, hops]) back lost
  have hv₄ : v₄ = v₃.setHost link := congrArg v₃.setHost hlink
  rw [hv₄, setHost_self, hv₃, hv₂]

end W

theorem exec_stepWatchdog (s : State) (silent : List Nat) :
    exec (.stepWatchdog silent) s = run s fun w => w.doStepWatchdog silent := by rfl

/-- Settles O35: the watchdog and the end of the quiet time by their conditions, the restart by `W.MayRestart`. -/
theorem stepsRollBack : Obligations.StepsRollBack := by
  unfold Obligations.StepsRollBack
  intro s hl
  refine ⟨?watchdog, ?quiet, ?restart, ?barrier⟩
  case watchdog =>
    intro hstate hphase hrelease late w
    rw [exec_stepWatchdog]
    exact run_eq hl (W.doStepWatchdog_late hstate hphase hrelease)
  case quiet => exact fun hstate hphase hdrained => run_eq hl (W.doQuietEnd_quiet hstate hphase hdrained)
  case restart =>
    intro hstate hphase hremaps hflip hresets hdescs hops hflipped hgo n
    have hmay : s.w.MayRestart := ⟨hstate, hphase, hremaps, hflip, hresets, hgo⟩
    exact ⟨fun hmax => run_eq hl (hmay.doRollbackRestart_again hmax hflipped hdescs hops),
      fun hmax => run_eq hl (hmay.doRollbackRestart_exhausted hmax)⟩
  case barrier => exact fun hphase => run_eq hl (if_pos hphase)

end Sys2Proof.Machine
end

section
/-! ### SEQ_CTL and the end of a load's digest (O36) -/

namespace Sys2Proof.Machine

namespace W

variable {w : W}

theorem doSeqStop_loaded (hidle : w.seqState ≠ stIdle) (hstopped : w.seqState ≠ stStopped)
    (hhalted : w.seqState ≠ stHalted) : w.doSeqStop = w.setSeq { w.c.seq with stopReq := true } :=
  if_neg fun h => h.elim hidle fun h => h.elim hstopped hhalted

/-- UNLOAD of a stopped schedule with no START and no descriptor waiting (R202). -/
theorem doSeqUnload_idle (hstate : w.seqState = stStopped) (hdue : w.c.seq.onStart = [])
    (hdescs : (((w.setSeqState stIdle).setSeq {}).setFld Reg.SEQ_STATUS F.SEQ_STATUS_PLACE 0xFF).c.host.descs = []) :
    w.doSeqUnload = ((w.setSeqState stIdle).setSeq {}).setFld Reg.SEQ_STATUS F.SEQ_STATUS_PLACE 0xFF := by
  rw [doSeqUnload, if_pos (.inl hstate)]
  dsimp only
  rw [hdue, List.foldl_nil, hdescs, List.foldl_nil]

/-- An abort before the commit point rolls the step in progress back (R186). -/
theorem orderAbort_before_commit (hstate : w.seqState = stRun) (hbefore : w.pastCommit = false) :
    w.orderAbort = w.beginRollback := by
  rw [orderAbort, if_pos (.inl hstate), if_neg (by simp [hbefore])]

/-- An image with the right digest and well-formed sections is loaded on (R178, R179). -/
theorem doDigestDone_right {v : W} {img : List Byte} {forward : Bool} {i : Img} {l : LoadJob}
    (hphase : w.c.seq.phase = .digest) (himg : w.c.seq.img = some i) (hload : w.c.seq.load = some l)
    (hread : w.devRead i.addr l.bytes = (img, v)) (hdigest : imageDigest img = i.digest)
    (hsections : badSection img = none) (hreduce : badReduce img = none) :
    w.doDigestDone forward = v.finishLoad l.place (some l.start) forward stIdle := by
  rw [doDigestDone, hphase, himg, hload]
  -- of a `read` it knows nothing of, the kernel does not work out the bytes to compare the `match` with its branch
  obtain ⟨read, hdef⟩ : ∃ read, read = @devRead := ⟨_, rfl⟩
  rw [← hdef] at hread ⊢
  dsimp only
  rw [hread]
  dsimp only
  rw [if_neg (not_not_intro hdigest), hsections, hreduce]

end W

theorem exec_programDigestDone (s : State) (forward : Bool) :
    exec (.programDigestDone forward) s = run s fun w => w.doDigestDone forward := by rfl

/-- Settles O36: each command of SEQ_CTL by the state it finds, the digest by `W.doDigestDone_right`. -/
theorem sequencerControl : Obligations.SequencerControl := by
  unfold Obligations.SequencerControl
  intro s hl
  refine ⟨?stop, ?resume, ?unload, ?abort, ?digest⟩
  case stop => exact fun hidle hstopped hhalted => run_eq hl (W.doSeqStop_loaded hidle hstopped hhalted)
  case resume => exact fun hmay => run_eq hl (if_pos hmay)
  case unload =>
    intro hstate w hdue hdescs
    exact run_eq hl (W.doSeqUnload_idle hstate hdue hdescs)
  case abort => exact fun hstate hbefore => run_eq hl (W.orderAbort_before_commit hstate hbefore)
  case digest =>
    intro forward i l hphase himg hload r
    have hread : s.w.devRead i.addr l.bytes = r := rfl
    clear_value r
    obtain ⟨img, v⟩ := r
    intro hdigest hsections hreduce
    rw [exec_programDigestDone]
    exact run_eq hl (W.doDigestDone_right hphase himg hload hread hdigest hsections hreduce)

end Sys2Proof.Machine
end

section
/-! ### Scans and moves (O37) -/

namespace Sys2Proof.Machine

namespace W

variable {w : W} {p : Nat}

/-- GO with a scope that is not reserved starts the scan of a gallery that has arrived, waits or is aborted (R199). -/
theorem doScanGo_starts {v : Word} (hgo : bit v 0 = true) (hscope : bits v 2 1 < 2)
    (hstate : w.fld (Reg.GSTEP_STATE p) F.GSTEP_STATE_STATE ∈ [2, 3, 4]) : w.doScanGo p v = w.startScan p v := by
  have hst : w.fld (Reg.GSTEP_STATE p) F.GSTEP_STATE_STATE = 2 ∨ w.fld (Reg.GSTEP_STATE p) F.GSTEP_STATE_STATE = 3 ∨
      w.fld (Reg.GSTEP_STATE p) F.GSTEP_STATE_STATE = 4 := by simpa using hstate
  exact if_pos ⟨hgo, hst, hscope⟩

/-- The scan of gallery `p` to memory is made and its result shown in GSTEP_SCAN; the gallery's state is back (R199). -/
def scanned (w : W) (p : Nat) : W :=
  let k := Reg.GSTEP_SCAN p
  let w := (((w.scanToMem p (w.fld k F.GSTEP_SCAN_SCOPE == 1)).setFlag k F.GSTEP_SCAN_BUSY false).setFlag k
    F.GSTEP_SCAN_DONE true).setFlag k F.GSTEP_SCAN_ERROR false
  w.setFld (Reg.GSTEP_STATE p) F.GSTEP_STATE_STATE (Tbl.get (fun _ => 0) w.c.scans p)

theorem scanned_c_seq (w : W) (p : Nat) : (w.scanned p).c.seq = w.c.seq := by
  unfold scanned
  dsimp only
  rw [setFld_c_seq, setFlag_c_seq, setFlag_c_seq, setFlag_c_seq, scanToMem_c_seq]

/-- Gallery `p` is no longer one that a drain waits for. -/
def leaveDrain (w : W) (p : Nat) : W := w.setSeq { w.c.seq with draining := w.c.seq.draining.filter (· ≠ p) }

/-- A scan to memory that is not one of a drain, with no move to finish (R199). -/
theorem doScanDone_toMem (hbusy : w.flag (Reg.GSTEP_SCAN p) F.GSTEP_SCAN_BUSY = true)
    (hmem : w.flag (Reg.GSTEP_SCAN p) F.GSTEP_SCAN_TO_MEM = true) (hdrain : p ∉ w.c.seq.draining)
    (hmoves : ((w.scanned p).leaveDrain p).c.seq.moves = []) : w.doScanDone p false = (w.scanned p).leaveDrain p := by
  have hnot : (w.scanned p).c.seq.draining.contains p = false := by
    rw [scanned_c_seq]
    simpa using hdrain
  rw [doScanDone]
  extract_lets toMem full dst v₁ v₂ v₃ v₄ q v₅
  have hv₁ : v₁ = w.scanToMem p full := by simp only [v₁, toMem, hmem, Bool.false_eq_true, if_false, if_true]
  have hv₃ : v₃ = w.scanned p := by simp only [v₃, v₂, hv₁, full, scanned, Bool.not_false]
  have hv₄ : v₄ = w.scanned p := by simp only [v₄, hv₃, hnot, when, Bool.false_and, Bool.false_eq_true, if_false]
  have hv₅ : v₅ = (w.scanned p).leaveDrain p := by simp only [v₅, q, hv₄, leaveDrain]
  rw [hbusy, hv₅, hmoves]
  rfl

/-- Gallery `p` has not answered the drain that waited for it (R200). -/
def noAnswer (w : W) (p : Nat) : W :=
  let k := Reg.GSTEP_SCAN p
  ((w.setFlag k F.GSTEP_SCAN_BUSY false).setFlag k F.GSTEP_SCAN_ERROR true).setSeq
    { w.c.seq with draining := w.c.seq.draining.filter (· ≠ p),
                   noAnswer := p :: w.c.seq.noAnswer.filter (· ≠ p) }

/-- A scan of a drain that takes too long leaves the drain as not answered; the gallery's state is read by a snapshot and
its dump (R200). -/
theorem doDrainTimeoutAt_draining (hdrain : p ∈ w.c.seq.draining) :
    w.doDrainTimeoutAt p = ((w.noAnswer p).when ((w.noAnswer p).flag Reg.SNAP_CFG F.SNAP_CFG_CMD)
      fun w => w.snapLatch 2 0 false).startDump := by
  rw [doDrainTimeoutAt, if_neg (by simpa using hdrain)]
  dsimp only
  rw [setFlag_c_seq, setFlag_c_seq, noAnswer]

/-- A move of a gallery that is a step's waits for the boundary (R201, R345). -/
theorem requestMove_waits {g src : Nat} {rotation : Bool} (hsrc : w.physOf g = some src) (hhalf : halfOf src = halfOf p)
    (hspare : w.pstate p = 1) (hmoves : w.c.seq.moves = []) (hremaps : w.c.seq.remaps = []) (hstate : w.seqState = stRun)
    (hphase : w.c.seq.phase = .run) (hmine : rotation = true → w.testMoving src = true) :
    w.requestMove g p rotation = w.setSeq
      { w.c.seq with moves := [{ g := g, src := src, dst := p, rotation := rotation, scanning := false }] } := by
  have hmine' : (!rotation || w.testMoving src) = true := by
    cases rotation with
    | false => rfl
    | true => exact hmine rfl
  rw [requestMove, hsrc]
  dsimp only
  rw [hmoves, hremaps, if_neg (by simp [hhalf, hspare, hmine']), if_pos (.inl hstate), setSeq_c]
  dsimp only
  rw [hphase]
  rfl

end W

/-- Settles O37: a scan starts by `W.doScanGo_starts` and ends by `W.doScanDone_toMem` or `W.doDrainTimeoutAt_draining`,
moves wait by `W.requestMove_waits`, and the snapshot is one register. -/
theorem scansAndMoves : Obligations.ScansAndMoves := by
  unfold Obligations.ScansAndMoves
  intro s p hl hp
  have hok := galOk_of hp
  refine ⟨?go, ?done, ?timeout, ?moves, ?snap⟩
  case go => exact fun v hgo hscope hstate => runOn_eq hl hok (W.doScanGo_starts hgo hscope hstate)
  case done =>
    intro k hbusy hmem w₁ w₂ w hdrain hmoves
    exact runOn_eq hl hok (congrArg W.handleDeferred (W.doScanDone_toMem hbusy hmem hdrain hmoves))
  case timeout => exact fun hdrain => runOn_eq hl hok (W.doDrainTimeoutAt_draining hdrain)
  case moves =>
    intro g src hsrc hhalf hspare hmoves hremaps hstate hphase
    have hwaits (rotation : Bool) (hmine : rotation = true → s.w.testMoving src = true) :=
      W.requestMove_waits hsrc hhalf hspare hmoves hremaps hstate hphase hmine
    exact ⟨runOn_eq hl hok (hwaits false nofun), fun hmoving => runOn_eq hl hok (hwaits true fun _ => hmoving)⟩
  case snap => exact runOn_eq hl hok rfl

end Sys2Proof.Machine
end

section
/-! ### The memory of a step (O2) -/

namespace Sys2Proof.Machine

/-- With no command waiting a step only lets time pass (log entry 4). -/
theorem step_idle {s : State} (h : s.pending = []) : step s = .next s.tick := by rw [step, h]

/-- A step with a command waiting takes the oldest off the queue and carries it out. -/
theorem step_command {s : State} {i : Instr} {rest : List Instr} (h : s.pending = i :: rest) :
    step s = exec i { s with pending := rest } := by rw [step, h]

theorem State.tick_mem (s : State) : s.tick.mem = s.mem := by
  unfold State.tick
  split <;> rfl

theorem State.tick_pending (s : State) : s.tick.pending = s.pending := by
  unfold State.tick
  split <;> rfl

/-- Settles O2: time that passes touches neither memory nor the queue; a command keeps memory canonical by `exec_mem_wf`
and leaves the rest of the queue by `exec_pending`. -/
theorem stepKeepsMemoryCanonical : Obligations.StepKeepsMemoryCanonical := by
  unfold Obligations.StepKeepsMemoryCanonical
  intro s t hwf hstep
  cases hqueue : s.pending with
  | nil =>
    rw [step_idle hqueue] at hstep
    cases hstep
    exact ⟨s.tick_mem ▸ hwf, by rw [s.tick_pending, hqueue, List.tail_nil], fun _ => s.tick_mem⟩
  | cons i rest =>
    rw [step_command hqueue] at hstep
    exact ⟨exec_mem_wf hstep hwf, exec_pending hstep, nofun⟩

end Sys2Proof.Machine
end

section
/-! ### The memory controllers (O38) -/

namespace Sys2Proof.Machine

theorem memcOk_of {m : Nat} (h : m < 16) : memcOk m = true := decide_eq_true h

namespace W

/-! #### What the steps of an access leave alone -/

theorem memc_rcbClose (w : W) (m line : Nat) : ∃ rcb, (w.rcbClose m line).memc m = { w.memc m with rcb := rcb } :=
  ⟨_, memc_setMemc_self _ _ _⟩

/-- The guard asks only registers (R188). -/
theorem guardAllows_rcbClose (w : W) (m line c a n : Nat) :
    (w.rcbClose m line).guardAllows c a n = w.guardAllows c a n := rfl

/-- Activating a bank changes only what the controller counts per bank (R225). -/
theorem memc_activateBank (w : W) (m pc line : Nat) : ∃ acts managed,
    (w.activateBank m pc line).memc m = { w.memc m with acts := acts, managed := managed } := by
  unfold activateBank
  dsimp only
  rw [memc_setMemc_self]
  split <;> exact ⟨_, _, rfl⟩

/-- What a fence shows of a channel is in two registers of its controller (R224). -/
theorem memFenced_congr {v w : W} {m : Nat} (hstatus : v.reg (Reg.MEMC_STATUS m) = w.reg (Reg.MEMC_STATUS m))
    (hfence : v.reg (Reg.MEMC_FENCE m) = w.reg (Reg.MEMC_FENCE m)) (pc : Nat) : v.memFenced m pc = w.memFenced m pc := by
  simp only [memFenced, flag, fld, hstatus, hfence]

theorem memFenced_count_rdLines (w : W) (m n pc : Nat) :
    (w.count (Reg.MEMC_RD_LINES m) n).memFenced m pc = w.memFenced m pc :=
  memFenced_congr (count_reg_ne _ _ (by simp [Reg.MEMC_STATUS, Reg.MEMC_RD_LINES]))
    (count_reg_ne _ _ (by simp [Reg.MEMC_FENCE, Reg.MEMC_RD_LINES])) pc

/-! #### A line in order -/

/-- An access to a line of controller `m` meets nothing wrong: its channel is not fenced and works, and the line is
neither lost nor weak (R219 to R221, R224). -/
structure LineInOrder (w : W) (m pc line : Nat) : Prop where
  unfenced : w.memFenced m pc = false
  works : pc ∉ (w.memc m).failing
  kept : line ∉ (w.memc m).lost
  strong : line ∉ (w.memc m).weak

variable {w : W} {m pc land irgn line : Nat} {a : Word}

theorem LineInOrder.count_rdLines (h : w.LineInOrder m pc line) (n : Nat) :
    (w.count (Reg.MEMC_RD_LINES m) n).LineInOrder m pc line where
  unfenced := (memFenced_count_rdLines w m n pc).trans h.unfenced
  works := by rw [count_memc]; exact h.works
  kept := by rw [count_memc]; exact h.kept
  strong := by rw [count_memc]; exact h.strong

theorem LineInOrder.rcbClose (h : w.LineInOrder m pc line) (l : Nat) : (w.rcbClose m l).LineInOrder m pc line := by
  obtain ⟨rcb, hmemc⟩ := w.memc_rcbClose m l
  exact ⟨h.unfenced, by rw [hmemc]; exact h.works, by rw [hmemc]; exact h.kept, by rw [hmemc]; exact h.strong⟩

theorem LineInOrder.activateBank (h : w.LineInOrder m pc line) : (w.activateBank m pc line).LineInOrder m pc line := by
  obtain ⟨acts, managed, hmemc⟩ := w.memc_activateBank m pc line
  exact ⟨h.unfenced, by rw [hmemc]; exact h.works, by rw [hmemc]; exact h.kept, by rw [hmemc]; exact h.strong⟩

/-- In a channel that works, an access that activates its bank meets what the command says went wrong. -/
theorem meets_upset (hworks : pc ∉ (w.memc m).failing) {u : MemUpset} (hu : u ≠ .none) :
    (w.activateBank m pc line).meets m pc line u = (u, w.activateBank m pc line) := by
  obtain ⟨acts, managed, hmemc⟩ := w.memc_activateBank m pc line
  rw [meets, hmemc, if_neg (by simpa using hworks), if_pos hu]

theorem LineInOrder.meets (h : w.LineInOrder m pc line) : w.meets m pc line .none = (.none, w) := by
  rw [W.meets, if_neg (by simpa using h.works), if_neg (not_not.2 rfl), if_neg (by simpa using h.kept),
    if_neg (by simpa using h.strong)]

/-- A read of a line in order activates its bank and is answered clean. -/
theorem LineInOrder.dramRead (h : w.LineInOrder m pc line) :
    w.dramRead m pc land irgn line a .none = (false, w.activateBank m pc line) := by
  rw [W.dramRead, if_neg (by simp [h.unfenced]), h.activateBank.meets]

/-- A write to a line in order activates its bank, stores its bytes and is counted. -/
theorem LineInOrder.memStore {key : Nat} (h : w.LineInOrder m pc (key / 128)) (bs : List Byte) :
    w.memStore m pc land irgn key a bs .none =
      (false, ((w.activateBank m pc (key / 128)).wrBytes key bs).count (Reg.MEMC_WR_LINES m) 1) := by
  rw [W.memStore]
  dsimp only
  rw [if_neg (by simp [h.unfenced]), if_neg (by simpa using h.activateBank.works),
    if_neg (by simpa using h.activateBank.kept)]

/-! #### Read combining (R214, R216) -/

/-- COMB_W of the region that a request at controller `m` meets: DDR5 does not combine reads (R208, R216). -/
def combWindow (w : W) (m irgn : Nat) : Nat := if m < 8 then (w.irgn irgn).comb else 0

/-- The entry a read of `line` that came `ago` ns before now merges with. -/
def openEntry (w : W) (m line ago : Nat) : Option RcbEntry :=
  (w.memc m).rcb.find? fun e => decide (w.c.time ≤ e.last + ago) && e.line == line && !e.closed

/-- The entries whose window has not passed. -/
def liveEntries (w : W) (m : Nat) : List RcbEntry := (w.memc m).rcb.filter fun e => decide (w.c.time ≤ e.last)

/-- The DRAM has been read for a line in order: the read counted, the bank activated. -/
def dramLineRead (w : W) (m pc line : Nat) : W := (w.count (Reg.MEMC_RD_LINES m) 1).activateBank m pc line

theorem rdBytes_dramLineRead (w : W) (m pc line k n : Nat) : (w.dramLineRead m pc line).rdBytes k n = w.rdBytes k n :=
  (setMemc_rdBytes _ _ _ _ _).trans (count_rdBytes _ _ _ _ _)

theorem c_time_dramLineRead (w : W) (m pc line : Nat) : (w.dramLineRead m pc line).c.time = w.c.time :=
  count_c_time w (Reg.MEMC_RD_LINES m) 1

theorem LineInOrder.memLoad_uncombined (h : w.LineInOrder m pc line) (hcomb : w.combWindow m irgn = 0) (ago : Nat)
    (lat : Option Nat) : w.memLoad m pc land irgn line a ago lat .none = (false, w.dramLineRead m pc line) := by
  rw [combWindow] at hcomb
  unfold memLoad
  dsimp only
  rw [hcomb, (h.count_rdLines 1).dramRead]
  rfl

theorem LineInOrder.memLoad_opens (h : w.LineInOrder m pc line) (hcomb : w.combWindow m irgn ≠ 0) {ago : Nat}
    (hmine : w.openEntry m line ago = none) (hroom : (w.liveEntries m).length < 64) (lat : Nat) :
    w.memLoad m pc land irgn line a ago (some lat) .none = (false, (w.dramLineRead m pc line).setMemc m
      { (w.dramLineRead m pc line).memc m with rcb := w.liveEntries m ++
        [{ line := line, last := w.c.time + lat + w.combWindow m irgn * 16, poison := false }] }) := by
  rw [combWindow] at hcomb
  unfold memLoad
  dsimp only
  rw [openEntry] at hmine
  rw [liveEntries] at hroom
  rw [hmine, ite_self, (h.count_rdLines 1).dramRead]
  dsimp only
  rw [if_neg hcomb, if_pos hroom, ← dramLineRead, c_time_dramLineRead]
  rfl

theorem memLoad_merges (hunfenced : w.memFenced m pc = false) (hcomb : w.combWindow m irgn ≠ 0) {ago : Nat}
    {e : RcbEntry} (hmine : w.openEntry m line ago = some e) (lat : Option Nat) (u : MemUpset) :
    w.memLoad m pc land irgn line a ago lat u = (e.poison, w.count (Reg.MEMC_RCB_HITS m) 1) := by
  rw [combWindow] at hcomb
  rw [openEntry] at hmine
  unfold memLoad
  dsimp only
  rw [if_neg (by simpa [hunfenced] using hcomb), hmine]

/-! #### Requests -/

/-- The controller takes requests, and the address of `req` is one of its own. -/
structure Serves (w : W) (m : Nat) (req : Packet) (pc irgn key : Nat) : Prop where
  takes : w.memTakes m = true
  placed : w.place none req.addr = .mem m pc irgn key

variable {req : Packet} {key : Nat}

/-- A read is answered with the bytes of memory, poisoned as the load of its line says. -/
theorem Serves.doMemcRead (h : w.Serves m req pc irgn key) {ago lat : Nat} {u : MemUpset} {poison : Bool} {v : W}
    (hload : w.memLoad m pc req.srcLand irgn (key / 128) req.addr ago (some lat) u = (poison, v))
    (hbytes : v.rdBytes key (lineLen req) = w.rdBytes key (lineLen req)) :
    w.doMemcRead m req ago lat u = v.rdRsp req.dst req (w.rdBytes key (lineLen req)) poison := by
  rw [W.doMemcRead, h.takes, h.placed]
  dsimp only
  rw [if_neg (not_not.2 rfl), hload, ← hbytes]
  rfl

/-- The bytes of a write that lie in the line it starts in. -/
def lineData (req : Packet) : List Byte := req.data.take (128 - req.addr.toNat % 128)

theorem Serves.doMemcWrite_stores (h : w.Serves m req pc irgn key) (hline : w.LineInOrder m pc (key / 128))
    (hguard : w.guardAllows m (bits req.addr 47 0) (lineData req).length = true) (hclean : req.poison = false) :
    w.doMemcWrite m req .none = ((((w.rcbClose m (key / 128)).activateBank m pc (key / 128)).wrBytes key
      (lineData req)).count (Reg.MEMC_WR_LINES m) 1).wrAck req.dst req false := by
  rw [doMemcWrite, h.takes, h.placed]
  dsimp only
  rw [if_neg (not_not.2 rfl), ← lineData, guardAllows_rcbClose, hguard, hclean, (hline.rcbClose _).memStore]
  rfl

theorem Serves.doMemcWrite_rejected (h : w.Serves m req pc irgn key)
    (hguard : w.guardAllows m (bits req.addr 47 0) (lineData req).length = false) (u : MemUpset) :
    w.doMemcWrite m req u = (w.rcbClose m (key / 128)).guardReject m pc irgn req := by
  rw [doMemcWrite, h.takes, h.placed]
  dsimp only
  rw [if_neg (not_not.2 rfl), ← lineData, guardAllows_rcbClose, hguard]
  rfl

theorem Serves.doMemcAtomic (h : w.Serves m req pc irgn key) (hline : w.LineInOrder m pc (key / 128))
    (haligned : req.addr.toNat % 8 = 0) (hguard : w.guardAllows m (bits req.addr 47 0) 8 = true)
    (hclean : req.poison = false) (op : AtomOp) (cmp : Word) :
    w.doMemcAtomic m req op cmp .none =
      ((((w.rcbClose m (key / 128)).activateBank m pc (key / 128)).memAtomic m key (requester req) op req.arg cmp).2).atRsp
        req.dst req (w64 (w.rdNat key 8)) false := by
  rw [W.doMemcAtomic, h.takes, h.placed]
  dsimp only
  rw [if_neg (not_not.2 rfl), if_neg (not_not.2 haligned), guardAllows_rcbClose, hguard, hclean, (hline.rcbClose _).dramRead]
  rfl

/-! #### Upkeep -/

section

variable (hscrub : w.fld (Reg.MEMC_CFG m) F.MEMC_CFG_SCRUB_H ≠ 0) (htakes : w.memTakes m = true)
  (hplaced : w.place none (w.loc a) = .mem m pc irgn key) (hunfenced : w.memFenced m pc = false)
  (hworks : pc ∉ (w.memc m).failing)

include hscrub htakes hplaced hunfenced hworks

/-- The scrubber corrects a line, which is weak from then on (R220, R223). -/
theorem doPatrolScrub_corrected : w.doPatrolScrub m a .corrected =
    ((w.activateBank m pc (key / 128)).setWeak m (key / 128) false).memCorrected m pc 0x1FF irgn a := by
  rw [doPatrolScrub, if_neg (by simp [hscrub, htakes]), hplaced]
  dsimp only
  rw [if_neg (by simp [hunfenced]), meets_upset hworks (u := .corrected) nofun]

/-- The scrubber finds a line lost, which is recorded (R223). -/
theorem doPatrolScrub_lost : w.doPatrolScrub m a .lost =
    ((w.activateBank m pc (key / 128)).setWeak m (key / 128) true).memRecord m 6 0 pc 0x1FF irgn a := by
  rw [doPatrolScrub, if_neg (by simp [hscrub, htakes]), hplaced]
  dsimp only
  rw [if_neg (by simp [hunfenced]), meets_upset hworks (u := .lost) nofun]

end

/-- A temperature below the threshold by more than 5 °C ends throttling and a thermal stop (R225). -/
theorem doDramTempRead_cool {temp : Nat}
    (hcool : temp + 5 < min 105 (max 70 (w.fld (Reg.MEMC_CFG m) F.MEMC_CFG_TTHROT))) :
    w.doDramTempRead m temp = ((w.setFld (Reg.MEMC_STATUS m) F.MEMC_STATUS_TEMP (min temp 255)).setFlag (Reg.MEMC_STATUS m)
      F.MEMC_STATUS_THROTTLE false).setFlag (Reg.MEMC_STATUS m) F.MEMC_STATUS_TSTOP false := by
  rw [doDramTempRead]
  dsimp only
  rw [if_neg (by omega), if_neg (by omega), if_pos hcool]

/-- A temperature at the threshold, below that of a thermal stop, throttles (R225). -/
theorem doDramTempRead_hot {temp : Nat} (hhot : min 105 (max 70 (w.fld (Reg.MEMC_CFG m) F.MEMC_CFG_TTHROT)) ≤ temp)
    (hstop : temp < min 105 (max 70 (w.fld (Reg.MEMC_CFG m) F.MEMC_CFG_TTHROT)) + 10) :
    w.doDramTempRead m temp = (w.setFld (Reg.MEMC_STATUS m) F.MEMC_STATUS_TEMP (min temp 255)).setFlag (Reg.MEMC_STATUS m)
      F.MEMC_STATUS_THROTTLE true := by
  rw [doDramTempRead]
  dsimp only
  rw [if_neg (Nat.not_le.2 hstop), if_pos hhot]

/-- The presence of memory modules is as the flip of slot `d` of channel `c` leaves it. -/
def flipDimm (w : W) (c d : Nat) : W := { w with c := { w.c with dimms := flipBit w.c.dimms (2 * c + d) } }

/-- A module that comes or goes on a powered part fences its channel and is recorded (R230). -/
theorem doDimmPresenceChange_powered {c d : Nat} {present : Bool} (hpowered : w.c.powered = true)
    (hchange : w.c.dimms.testBit (2 * c + d) ≠ present) :
    w.doDimmPresenceChange c d present =
      let v := (w.flipDimm c d).fenceChannel (8 + c) 0
      ((v.record { cls := 0x0A, kind := 9, sev := 3, unit := some (8 + c), info := v.reg (Reg.MEMC_ERR_INFO (8 + c)),
                   aux := v.reg (Reg.MEMC_ERR_ADDR (8 + c)) }).pend (72 + c)).pend 289 := by
  rw [doDimmPresenceChange]
  dsimp only
  rw [if_neg hchange]
  exact if_pos hpowered

end W

theorem exec_dimmPresenceChange {s : State} {c d : Nat} (hc : c < 8) (hd : d < 2) (present : Bool) :
    exec (.dimmPresenceChange c d present) s = .next (s.after (s.w.doDimmPresenceChange c d present)) :=
  if_pos ⟨hc, hd⟩

/-- Settles O38: requests for a line in order by `W.Serves` and `W.LineInOrder`, the scrubber by what its read meets,
temperatures and modules by their conditions. -/
theorem memoryControllers : Obligations.MemoryControllers := by
  unfold Obligations.MemoryControllers
  refine ⟨?requests, ?upkeep⟩
  case requests =>
    intro s m pc irgn key ago lat req hl hm htakes hplaced hunfenced hworks hkept hstrong
    have hok := memcOk_of hm
    have hserves : s.w.Serves m req pc irgn key := ⟨htakes, hplaced⟩
    have hline : s.w.LineInOrder m pc (key / 128) := ⟨hunfenced, hworks, hkept, hstrong⟩
    refine ⟨⟨?plain, ?opens, ?merges⟩, ⟨?stores, ?rejected⟩, ?atomic⟩
    case plain =>
      exact fun hcomb => runOn_eq hl hok
        (hserves.doMemcRead (hline.memLoad_uncombined hcomb ago lat) (s.w.rdBytes_dramLineRead m pc (key / 128) _ _))
    case opens =>
      exact fun hcomb hmine hroom => runOn_eq hl hok
        (hserves.doMemcRead (hline.memLoad_opens hcomb hmine hroom lat) (s.w.rdBytes_dramLineRead m pc (key / 128) _ _))
    case merges =>
      exact fun hcomb e hmine u => runOn_eq hl hok
        (hserves.doMemcRead (W.memLoad_merges hunfenced hcomb hmine lat u) (W.count_rdBytes ..))
    case stores => exact fun hguard hclean => runOn_eq hl hok (hserves.doMemcWrite_stores hline hguard hclean)
    case rejected => exact fun hguard => runOn_eq hl hok (hserves.doMemcWrite_rejected hguard .none)
    case atomic =>
      exact fun op cmp haligned hguard hclean => runOn_eq hl hok
        (hserves.doMemcAtomic hline haligned hguard hclean op cmp)
  case upkeep =>
    intro s m hl hm
    have hok := memcOk_of hm
    refine ⟨?scrub, ?refresh, ?temperature, ?region, ?interleave, ?module⟩
    case scrub =>
      intro a pc irgn key hscrub htakes hplaced hunfenced hworks
      exact ⟨runOn_eq hl hok (W.doPatrolScrub_corrected hscrub htakes hplaced hunfenced hworks),
        runOn_eq hl hok (W.doPatrolScrub_lost hscrub htakes hplaced hunfenced hworks)⟩
    case refresh => exact fun b => runOn_eq hl hok rfl
    case temperature =>
      exact fun temp => ⟨fun hcool => runOn_eq hl hok (W.doDramTempRead_cool hcool),
        fun hhot hstop => runOn_eq hl hok (W.doDramTempRead_hot hhot hstop)⟩
    case region =>
      exact fun n i v requester hn hi => runOn_live hl (by simp [hn, hi]) fun w => w.doMemIrgnWrite n i v requester
    case interleave => exact fun v requester => run_live hl fun w => w.doMemDdrIlvWrite v requester
    case module =>
      intro c d present hc hd hpowered hchange
      exact (exec_dimmPresenceChange hc hd present).trans
        (congrArg (fun v => Host.Outcome.next (s.after v)) (W.doDimmPresenceChange_powered hpowered hchange))

end Sys2Proof.Machine
end

section
/-! ### Frames of a fabric link (O39) -/

namespace Sys2Proof.Machine

/-- A link row that names a fabric port is about that port, and not about the coherent link. -/
theorem fabricLink_eq {s : State} (hl : s.live = true) {q : Nat} (hq : q < 64) {scl fab : W → W} {w : W}
    (hfab : fab s.w = w) :
    runOn (linkOk q) s (fun w => if q = sclPort then scl w else fab w) = .next (s.after w) :=
  runOn_eq hl (decide_eq_true (Nat.le_of_lt hq)) ((if_neg (Nat.ne_of_lt hq)).trans hfab)

theorem portOk_of {q : Nat} (hq : q < 64) : portOk q = true := decide_eq_true hq

namespace W

variable {w : W} {q : Nat} {f : LinkFrame}

/-! #### Frames that arrive (R239, R242, R245) -/

/-- A frame that the CRC does not let through is counted twice and asked for again. -/
theorem frameIn_flipped {ps : List Nat} (hlost : receivedFrame f (.flips ps) = none) :
    w.frameIn q f (.flips ps) =
      (none, ((w.count (Reg.LNK_RX_FRAMES q) 1).countErr (Reg.LNK_CRC_ERR q)).nak q) := by
  unfold frameIn
  dsimp only
  rw [hlost]

theorem doDataFrame_flipped (hlive : w.portLive q = true) {ps : List Nat} (hlost : receivedFrame f (.flips ps) = none) :
    w.doDataFrame q f (.flips ps) = ((w.count (Reg.LNK_RX_FRAMES q) 1).countErr (Reg.LNK_CRC_ERR q)).nak q := by
  rw [doDataFrame, hlive, Bool.not_true, if_neg Bool.false_ne_true, frameIn_flipped hlost]

/-- A live port gets frame `f` as it was sent. -/
structure GetsFrame (w : W) (q : Nat) (f : LinkFrame) : Prop where
  live : w.portLive q = true
  clipped : clipFrame f = f
  wellFormed : frameForm f = true

/-- It is counted and let through. -/
theorem GetsFrame.frameIn (h : w.GetsFrame q f) : w.frameIn q f .none = (some f, w.count (Reg.LNK_RX_FRAMES q) 1) := by
  have hreceived : receivedFrame f .none = some f := by rw [receivedFrame, h.clipped, if_pos h.wellFormed]
  unfold W.frameIn
  dsimp only
  rw [hreceived]

/-- A DATA frame with the LSEQ expected joins its lane's stream. -/
theorem GetsFrame.doDataFrame_inOrder (h : w.GetsFrame q f) (htype : f.ftype = 1)
    (hseq : f.lseq = (((w.count (Reg.LNK_RX_FRAMES q) 1).takeAck q f).port q).expect) :
    w.doDataFrame q f .none =
      let a := (w.count (Reg.LNK_RX_FRAMES q) 1).takeAck q f
      (a.setPort q { a.port q with expect := ((a.port q).expect + 1) % 2 ^ 16, missing := false }).takeData q f := by
  rw [W.doDataFrame, h.live, Bool.not_true, if_neg Bool.false_ne_true, h.frameIn]
  dsimp only
  rw [if_neg (not_not.2 htype), if_pos hseq]

/-- A NAK of a frame that is held takes the ACK, sends again from it and goes on (R246). -/
theorem GetsFrame.doNak_held (h : w.GetsFrame q f) (htype : f.ftype = 3)
    (hheld : ∃ r ∈ (w.port q).replay, r.lseq = f.ack) (bad : Option Nat) :
    w.doNak q f .none bad =
      (((((w.count (Reg.LNK_RX_FRAMES q) 1).noteAck q f).replayFrom q bad).pumpPort q).drainCheck q) := by
  rw [W.doNak, h.live, Bool.not_true, if_neg Bool.false_ne_true, h.frameIn]
  dsimp only
  rw [if_neg (not_not.2 htype), count_port, if_pos (by simpa using hheld)]

/-- A NAK of a frame that is not held fails the port (R246). -/
theorem GetsFrame.doNak_unknown (h : w.GetsFrame q f) (htype : f.ftype = 3)
    (hunknown : ∀ r ∈ (w.port q).replay, r.lseq ≠ f.ack) (bad : Option Nat) :
    w.doNak q f .none bad = (w.count (Reg.LNK_RX_FRAMES q) 1).portFail q 1 0 f.ack := by
  rw [W.doNak, h.live, Bool.not_true, if_neg Bool.false_ne_true, h.frameIn]
  dsimp only
  rw [if_neg (not_not.2 htype), count_port, if_neg (by simpa using hunknown)]

/-- A CTRL frame of the subtype of its row: its ACK and counts are taken, and it acts. -/
theorem GetsFrame.ctrlIn (h : w.GetsFrame q f) (htype : f.ftype = 2) {sub : Nat} (hsub : f.subtype = sub)
    (act : W → LinkFrame → W) :
    w.ctrlIn q sub f .none act = act ((w.count (Reg.LNK_RX_FRAMES q) 1).takeAck q f) f := by
  rw [W.ctrlIn, h.live, Bool.not_true, if_neg Bool.false_ne_true, h.frameIn]
  dsimp only
  rw [if_neg (by simp [htype, hsub])]

/-- A port that exchanges frames has not failed. -/
theorem portState_ne_seven_of_portLive (hlive : w.portLive q = true) : w.portState q ≠ 7 := by
  simp only [portLive, Bool.and_eq_true, decide_eq_true_eq] at hlive
  omega

/-- DOWN is answered with DOWN_ACK, and the port is DRAINED (R254). -/
theorem GetsFrame.downIn (h : w.GetsFrame q f) (htype : f.ftype = 2) (hsub : f.subtype = 5) :
    w.downIn q f .none = ((((w.count (Reg.LNK_RX_FRAMES q) 1).takeAck q f).sendCtrl q 6 .none).drained q) := by
  have hstate : (w.portState q == 7) = false := beq_false_of_ne (portState_ne_seven_of_portLive h.live)
  rw [W.downIn, hstate, Bool.false_and, Bool.false_and, Bool.not_false, if_pos rfl]
  exact h.ctrlIn htype hsub _

/-! #### The replay timer (R246) -/

/-- Every frame held is sent again and counted, while its LSEQ has replays left. -/
theorem replayFrom_sends {f0 : LinkFrame} {fs : List LinkFrame} (hheld : (w.port q).replay = f0 :: fs)
    (hleft : (w.port q).tries < max 1 (w.fld (Reg.FAB_PORT_CFG q) F.FAB_PORT_CFG_RETRY_MAX)) :
    w.replayFrom q none = (f0 :: fs).foldl (fun w g => (w.sendFrame q g).count (Reg.LNK_REPLAYS q) 1)
      (w.setPort q { w.port q with tries := (w.port q).tries + 1 }) := by
  rw [replayFrom, hheld]
  dsimp only
  rw [if_neg (Nat.not_le.2 hleft), hheld]
  have hclean (g : LinkFrame) : { g with poison := g.poison || none == some g.lseq } = g := by simp
  simp only [hclean]
  rfl

/-- After RETRY_MAX replays from one LSEQ the port fails. -/
theorem replayFrom_fails {f0 : LinkFrame} {fs : List LinkFrame} (hheld : (w.port q).replay = f0 :: fs)
    (hspent : max 1 (w.fld (Reg.FAB_PORT_CFG q) F.FAB_PORT_CFG_RETRY_MAX) ≤ (w.port q).tries) (bad : Option Nat) :
    w.replayFrom q bad = w.portFail q 1 0 f0.lseq := by
  rw [replayFrom, hheld]
  exact if_pos hspent

end W

/-- Settles O39: good frames by `W.GetsFrame`, a broken one by `W.frameIn_flipped`, the timer by the replays left. -/
theorem linkFrames : Obligations.LinkFrames := by
  unfold Obligations.LinkFrames
  intro s q f hl hq hlive
  have hok := portOk_of hq
  refine ⟨?good, ?flipped, ?replay, ?repeats⟩
  case good =>
    intro hclip hform w a
    have hgets : s.w.GetsFrame q f := ⟨hlive, hclip, hform⟩
    refine ⟨?data, ?held, ?unknown, ?ctrl⟩
    case data => exact fun htype hseq => fabricLink_eq hl hq (hgets.doDataFrame_inOrder htype hseq)
    case held => exact fun htype hheld bad => fabricLink_eq hl hq (hgets.doNak_held htype hheld bad)
    case unknown => exact fun htype hunknown bad => fabricLink_eq hl hq (hgets.doNak_unknown htype hunknown bad)
    case ctrl =>
      intro htype
      refine ⟨?idle, ?train, ?promote, ?ack, ?nak, ?down, ?downAck⟩
      case idle => exact fun hsub => fabricLink_eq hl hq (hgets.ctrlIn htype hsub _)
      case train => exact fun hsub => fabricLink_eq hl hq (hgets.ctrlIn htype hsub _)
      case promote => exact fun hsub => runOn_eq hl hok (hgets.ctrlIn htype hsub _)
      case ack => exact fun hsub => runOn_eq hl hok (hgets.ctrlIn htype hsub _)
      case nak => exact fun hsub => runOn_eq hl hok (hgets.ctrlIn htype hsub _)
      case down => exact fun hsub => runOn_eq hl hok (hgets.downIn htype hsub)
      case downAck => exact fun hsub hsent => runOn_eq hl hok ((hgets.ctrlIn htype hsub _).trans (if_pos hsent))
  case flipped => exact fun ps hlost => fabricLink_eq hl hq (W.doDataFrame_flipped hlive hlost)
  case replay =>
    exact fun f0 fs hheld => ⟨fun hleft => fabricLink_eq hl hq (W.replayFrom_sends hheld hleft),
      fun hspent => fabricLink_eq hl hq (W.replayFrom_fails hheld hspent none)⟩
  case repeats => exact fun hmissing => fabricLink_eq hl hq (if_pos hmissing)

end Sys2Proof.Machine
end

section
/-! ### Fields of a register that lie apart

Writing a field leaves every field below it as it was. -/

namespace Sys2Proof.Machine

/-- The field [hi:lo] of a number is one of its bits below `n`, when `hi` is below `n`. -/
theorem natBits_congr {a b hi lo n : Nat} (hn : hi < n) (hab : a % 2 ^ n = b % 2 ^ n) :
    natBits a hi lo = natBits b hi lo := by
  have hbit (i : Nat) (hi' : i < n) : a.testBit i = b.testBit i := by
    have := congrArg (fun c => c.testBit i) hab
    simpa [Nat.testBit_mod_two_pow, hi'] using this
  refine Nat.eq_of_testBit_eq fun i => ?_
  simp only [natBits, Nat.testBit_mod_two_pow, Nat.testBit_shiftRight]
  by_cases hlt : i < hi + 1 - lo
  · rw [hbit (lo + i) (by omega)]
  · simp [hlt]

/-- Replacing the field [hi:lo] leaves the bits below `lo`. -/
theorem natPut_mod (v hi lo x : Nat) : natPut v hi lo x % 2 ^ lo = v % 2 ^ lo := by
  have hle : 2 ^ lo * natBits v hi lo ≤ v := by
    rw [natBits, Nat.shiftRight_eq_div_pow]
    exact (Nat.mul_le_mul_left _ (Nat.mod_le _ _)).trans (Nat.mul_div_le _ _)
  rw [natPut, Nat.add_mul_mod_self_right, Nat.mul_comm, Nat.sub_mul_mod hle]

theorem bits_putBits_below (v : Word) {hi lo hi' lo' : Nat} (x : Nat) (hlt : hi < lo') (hlo : lo' ≤ 64) :
    bits (putBits v hi' lo' x) hi lo = bits v hi lo := by
  refine natBits_congr hlt ?_
  rw [putBits, w64, BitVec.toNat_ofNat, Nat.mod_mod_of_dvd _ (Nat.pow_dvd_pow 2 hlo), natPut_mod]

theorem W.fld_setFld_below (w : W) (k : Nat) {f g : Fld} (v : Nat) (hlt : g.hi < f.lo) (hlo : f.lo ≤ 64) :
    (w.setFld k f v).fld k g = w.fld k g := by
  rw [W.fld, W.fld, W.reg_setFld, if_pos rfl, bits_putBits_below _ _ hlt hlo]

end Sys2Proof.Machine
end

section
/-! ### The training of fabric ports, and how they leave service (O40) -/

namespace Sys2Proof.Machine

namespace W

variable {w : W} {q : Nat}

/-! #### Training (R249, R253) -/

/-- With its lanes locked a port in training sends its identity. -/
theorem doLaneLock_agreed (hstate : w.portState q = 1) (htrain : (w.port q).train = .lock)
    {seen : List (BitVec 20 × Nat)} (hagree : lanesAgree 4 seen = true) :
    w.doLaneLock q seen =
      let p := w.port q
      let v := (w.setPort q { p with train := .identity }).setFld (Reg.FAB_PORT_STATUS q) F.FAB_PORT_STATUS_LOCK 0xF
      v.sendCtrl q 1 (.train v.selfDev q p.dir (if p.dir = 7 then 0xFF else p.ord) 1
        ((List.range 8).map fun i => bits (w.reg (Reg.FAB_PORT_VLCRED q)) (8 * i + 7) (8 * i)) 256) := by
  have hvlcred : Reg.FAB_PORT_VLCRED q ≠ Reg.FAB_PORT_STATUS q := by
    simp only [Reg.FAB_PORT_VLCRED, Reg.FAB_PORT_STATUS]
    omega
  rw [doLaneLock]
  dsimp only
  rw [if_neg (by simp [hstate, htrain, hagree]), reg_setFld_ne _ _ _ hvlcred, setPort_reg]

/-- An identity that fits is kept, and the soak starts. -/
theorem doTrain_fits {f : LinkFrame} {dev peer dir ord version depth : Nat} {shares : List Nat}
    (hargs : f.args = .train dev peer dir ord version shares depth) (htrain : (w.port q).train = .identity)
    (hfits : w.identityOk q dev dir ord version = true) :
    w.doTrain q f = ((w.setReg (Reg.FAB_PORT_PEER q) (w64 (dev % 2 ^ 16 * 2 ^ 40 + peer % 64 * 2 ^ 34 +
      min 1 version * 2 ^ 30 + (if ord = 0xFF then 0xF else ord % 16) * 2 ^ 26 + 2 ^ 25))).setPort q
        { w.port q with train := .soak, shares := shares }).setPortState q 2 := by
  rw [doTrain, hargs]
  dsimp only
  rw [if_neg (not_not.2 htrain), if_pos hfits]

/-- A good soak of a port with a role makes it ACTIVE. -/
theorem doSoakEnd_active (hstate : w.portState q = 2) (htrain : (w.port q).train = .soak) {syms : List Nat}
    (hsyms : ∀ n ∈ syms, n ≤ 2125000) (hdir : (w.port q).dir < 7) (hkeeps : (w.port q).replaced = false) :
    w.doSoakEnd q syms 0 = (w.setPort q { w.port q with train := .none, missed := false }).setPortState q 3 := by
  rw [doSoakEnd]
  dsimp only
  rw [if_neg (by simp [hstate, htrain]), if_neg (by simpa using hsyms), if_neg (Nat.ne_of_lt hdir),
    if_neg (by simp [hkeeps])]

/-- A phase that misses for the first time starts the training over. -/
theorem trainMiss_once (hmissed : (w.port q).missed = false) (kind : Nat) :
    w.trainMiss q kind = (w.setPort q { w.port q with train := .lock, missed := true }).setPortState q 1 := by
  rw [trainMiss]
  exact if_neg (by simp [hmissed])

theorem doPhaseTimeout_once (htrain : (w.port q).train = .soak ∨ (w.port q).train = .lock)
    (hmissed : (w.port q).missed = false) :
    w.doPhaseTimeout q = (w.setPort q { w.port q with train := .lock, missed := true }).setPortState q 1 := by
  rw [doPhaseTimeout]
  rcases htrain with htrain | htrain
  all_goals
    rw [htrain]
    exact trainMiss_once hmissed _

section

variable (henabled : w.flag (Reg.FAB_PORT_CFG q) F.FAB_PORT_CFG_EN = true) (hdead : w.portDead q = false)

include henabled hdead

/-- A DRAINED port that is told to trains again. -/
theorem doPortUp_drained (hstate : w.portState q = 6) : w.doPortUp q = w.trainStart q := by
  rw [doPortUp, if_pos (.inr hstate), retrain, if_pos ⟨henabled, by simp [hdead]⟩, hstate]
  rfl

/-- A FAILED port that is told to trains again, as one that had failed. -/
theorem doPortUp_failed (hstate : w.portState q = 7) :
    w.doPortUp q = (w.trainStart q).setPort q { (w.trainStart q).port q with again := true } := by
  rw [doPortUp, if_pos (.inl hstate), retrain, if_pos ⟨henabled, by simp [hdead]⟩, hstate]
  rfl

end

/-- The light of all lanes is back at a FAILED port, which trains again. -/
theorem doLightReturn_all (hstate : w.portState q = 7) :
    w.doLightReturn q 15 = (w.setFld (Reg.FAB_PORT_STATUS q) F.FAB_PORT_STATUS_LOS 0).retrain q := by
  have hkept : (w.setFld (Reg.FAB_PORT_STATUS q) F.FAB_PORT_STATUS_LOS 0).portState q = 7 :=
    (w.fld_setFld_below _ 0 (by decide) (by decide)).trans hstate
  rw [doLightReturn, Nat.and_zero]
  exact if_pos ⟨hkept, rfl⟩

/-- FAB_TOPO is written while every port is DISABLED, with the device inside the torus (R257). -/
theorem doTopoWrite_taken (hdisabled : ∀ i < 64, w.portState i = 0) {v : Word}
    (hinside : bits v 47 32 < (bits v 5 0 + 1) * ((min 31 (bits v 12 8) + 1) * (min 31 (bits v 20 16) + 1)))
    (requester : Word) :
    w.doTopoWrite v requester = (List.range 64).foldl (fun w i => w.portTrain i) (w.setReg Reg.FAB_TOPO
      (w64 (bits v 48 48 * 2 ^ 48 + bits v 47 32 * 2 ^ 32 + bits v 20 16 * 2 ^ 16 + bits v 12 8 * 2 ^ 8 + bits v 5 0))) := by
  rw [doTopoWrite]
  exact if_neg (by simpa using ⟨hdisabled, hinside⟩)

/-- Otherwise the write is refused and recorded (R290). -/
theorem doTopoWrite_refused {v : Word} (hrefused : (∃ i < 64, w.portState i ≠ 0) ∨
      (bits v 5 0 + 1) * ((min 31 (bits v 12 8) + 1) * (min 31 (bits v 20 16) + 1)) ≤ bits v 47 32) (requester : Word) :
    w.doTopoWrite v requester = w.recordAccess 2 Reg.FAB_TOPO requester := by
  rw [doTopoWrite]
  exact if_pos (by simpa using hrefused)

/-! #### Leaving service (R250, R251, R254, R255) -/

/-- A hot spare drains. -/
theorem drainPort_spare (hstate : w.portState q = 4) : w.drainPort q = (w.setPortState q 5).drainCheck q := by
  rw [drainPort, hstate]
  rfl

/-- Whether a latch is lifted is read in FAB_LATCH alone. -/
theorem lifted_congr {v : W} (hlatch : v.reg Reg.FAB_LATCH = w.reg Reg.FAB_LATCH) : v.lifted q = w.lifted q := by
  rw [lifted, lifted, fld, fld, hlatch]

/-- Loss of light fails a port that trains or is in service, with KIND 2. -/
theorem doLossOfLight_fails (hq : q < 64) (hstate : w.portState q ∈ [1, 2, 3, 4]) (hclosed : w.lifted q = false)
    (lanes : Nat) :
    w.doLossOfLight q lanes = ((w.countErr (Reg.LNK_LOS q)).setFld (Reg.FAB_PORT_STATUS q) F.FAB_PORT_STATUS_LOS
      (w.fld (Reg.FAB_PORT_STATUS q) F.FAB_PORT_STATUS_LOS ||| lanes)).portFail q 2 lanes 0 := by
  have hstate' : ¬ (w.portState q = 0 ∨ w.portState q = 6 ∨ w.portState q = 7) ∧ w.portState q ≠ 5 := by
    simp only [List.mem_cons, List.not_mem_nil, or_false] at hstate
    omega
  have hstatus : Reg.FAB_LATCH ≠ Reg.FAB_PORT_STATUS q := by simp only [Reg.FAB_LATCH, Reg.FAB_PORT_STATUS]; omega
  have hlos : Reg.FAB_LATCH ≠ Reg.LNK_LOS q := by simp only [Reg.FAB_LATCH, Reg.LNK_LOS]; omega
  rw [doLossOfLight, if_neg hstate'.1, lifted_congr ((reg_setFld_ne _ _ _ hstatus).trans (countErr_reg_ne _ hlos)), hclosed,
    if_neg Bool.false_ne_true, if_neg hstate'.2]

/-- Loss of lock fails a port that trains, is in service or drains, with KIND 3. -/
theorem doLossOfLock_fails (hstate : w.portState q ∈ [1, 2, 3, 4, 5]) {lanes : Nat} (hlanes : lanes < 16) :
    w.doLossOfLock q lanes = (w.setFld (Reg.FAB_PORT_STATUS q) F.FAB_PORT_STATUS_LOCK
      (w.fld (Reg.FAB_PORT_STATUS q) F.FAB_PORT_STATUS_LOCK &&& (15 - lanes))).portFail q 3 lanes 0 := by
  have hstate' : 1 ≤ w.portState q ∧ w.portState q ≤ 5 := by
    simp only [List.mem_cons, List.not_mem_nil, or_false] at hstate
    omega
  rw [doLossOfLock, Nat.mod_eq_of_lt hlanes]
  exact if_pos hstate'

/-- A window ends at a port that carries packets or may (R250). -/
theorem qualifies_of_mem (hstate : w.portState q ∈ [3, 4, 5]) : ¬ (w.portState q < 3 ∨ 5 < w.portState q) := by
  simp only [List.mem_cons, List.not_mem_nil, or_false] at hstate
  omega

/-- A lane over the limit of failure fails its port. -/
theorem doQualWindow_bad (hstate : w.portState q ∈ [3, 4, 5]) {x y : Nat}
    (hbad : w.fld Reg.FAB_QUAL F.FAB_QUAL_FAIL_K * 1024 < x ∨ 100 < y) :
    w.doQualWindow q [(x, y)] = w.portFail q 4 1 0 := by
  have hover : (decide (w.fld Reg.FAB_QUAL F.FAB_QUAL_FAIL_K * 1024 < x) || decide (100 < y)) = true := by simpa using hbad
  unfold doQualWindow
  extract_lets st fail marg lanesOf bad mar
  have hlane : bad = 1 := if_pos hover
  rw [if_neg (qualifies_of_mem hstate), hlane]
  exact if_pos Nat.one_ne_zero

/-- A window without corrections clears MARGINAL. -/
theorem doQualWindow_quiet (hstate : w.portState q ∈ [3, 4, 5]) :
    w.doQualWindow q [(0, 0), (0, 0), (0, 0), (0, 0)] =
      w.setFlag (Reg.FAB_PORT_STATUS q) F.FAB_PORT_STATUS_MARGINAL false := by
  unfold doQualWindow
  extract_lets st fail marg lanesOf bad mar
  have hnone : bad = 0 ∧ mar = 0 := by simp [bad, mar, lanesOf, List.zipIdx]
  rw [if_neg (qualifies_of_mem hstate), if_neg (not_not.2 hnone.1), if_neg (not_not.2 hnone.2)]

variable {n : Nat}

/-- A latch that lifts is recorded, and its eight ports drain. -/
theorem doLatchLift_on (hon : w.engineOn (8 * n) = true) :
    w.doLatchLift n =
      let v := (w.setFlag Reg.FAB_LATCH ⟨n, n⟩ true).setFlag Reg.FAB_LATCH ⟨8 + n, 8 + n⟩ true
      let v := (v.pend 288).record { cls := 0x0B, kind := 0, sev := 0, info := v.reg Reg.FAB_LATCH }
      ((List.range 8).foldl (fun w i => w.drainPort (8 * n + i)) v).laserCheck n := by
  rw [doLatchLift, hon]
  rfl

theorem doDrainTimeout_draining (hstate : w.portState q = 5) :
    w.doDrainTimeout q = (w.setPort q { w.port q with replay := [], out := [] }).drainCheck q := by
  rw [doDrainTimeout, if_neg (not_not.2 hstate)]

theorem doLaserOff_lifted (hlifted : (w.fld Reg.FAB_LATCH F.FAB_LATCH_LIFTED).testBit n = true) :
    w.doLaserOff n = w.setFlag Reg.FAB_LATCH ⟨16 + n, 16 + n⟩ true := by
  rw [doLaserOff, if_pos hlifted]

/-- A latch that closes turns its lasers on, and its ports out of service train again. -/
theorem doLatchClose_lifted (hlifted : (w.fld Reg.FAB_LATCH F.FAB_LATCH_LIFTED).testBit n = true) :
    w.doLatchClose n = (List.range 8).foldl (fun w i =>
        if [5, 6, 7].contains (w.portState (8 * n + i)) then w.retrain (8 * n + i) else w)
      ((((w.setFlag Reg.FAB_LATCH ⟨n, n⟩ false).setFlag Reg.FAB_LATCH ⟨8 + n, 8 + n⟩ true).setFlag Reg.FAB_LATCH
        ⟨16 + n, 16 + n⟩ false).pend 288) := by
  rw [doLatchClose, hlifted]
  rfl

end W

/-- Settles O40: each command by the state of its port or its latch; light that is back leaves STATE as it was
(`W.fld_setFld_below`). -/
theorem portsTrainAndLeave : Obligations.PortsTrainAndLeave := by
  unfold Obligations.PortsTrainAndLeave
  refine ⟨?train, ?leave⟩
  case train =>
    intro s q hl hq
    have hok := portOk_of hq
    refine ⟨⟨?lock, ?soak, ?missed⟩, ?identity, ?enable, ?up, ?light, ?disable, ?topo⟩
    case lock =>
      exact fun hstate htrain seen hagree => fabricLink_eq hl hq (W.doLaneLock_agreed hstate htrain hagree)
    case soak =>
      exact fun syms hstate htrain hsyms hdir hkeeps =>
        fabricLink_eq hl hq (W.doSoakEnd_active hstate htrain hsyms hdir hkeeps)
    case missed => exact fun htrain hmissed => fabricLink_eq hl hq (W.doPhaseTimeout_once htrain hmissed)
    case identity =>
      exact fun f a dev peer dir ord version depth shares hargs htrain hfits => W.doTrain_fits hargs htrain hfits
    case enable => exact runOn_eq hl hok rfl
    case up =>
      exact fun henabled hdead => ⟨fun hstate => runOn_eq hl hok (W.doPortUp_drained henabled hdead hstate),
        fun hstate => runOn_eq hl hok (W.doPortUp_failed henabled hdead hstate)⟩
    case light => exact fun hstate => runOn_eq hl hok (W.doLightReturn_all hstate)
    case disable => exact runOn_eq hl hok rfl
    case topo =>
      intro v requester size keep
      constructor
      · intro hdisabled hinside
        exact run_eq (f := fun w => w.doTopoWrite v requester) hl (W.doTopoWrite_taken hdisabled hinside requester)
      · intro hrefused
        exact run_eq (f := fun w => w.doTopoWrite v requester) hl (W.doTopoWrite_refused hrefused requester)
  case leave =>
    intro s q n hl hq hn
    have hok := portOk_of hq
    have hunit : decide (n < 8) = true := decide_eq_true hn
    refine ⟨?down, ?lost, ?window, ?lift, ?timeout, ?lasers⟩
    case down => exact fun hstate => runOn_eq hl hok (W.drainPort_spare hstate)
    case lost =>
      exact fun lanes hlanes => ⟨fun hstate hclosed => fabricLink_eq hl hq (W.doLossOfLight_fails hq hstate hclosed lanes),
        fun hstate => fabricLink_eq hl hq (W.doLossOfLock_fails hstate hlanes)⟩
    case window =>
      exact fun hstate => ⟨fun x y hbad => fabricLink_eq hl hq (W.doQualWindow_bad hstate hbad),
        fabricLink_eq hl hq (W.doQualWindow_quiet hstate)⟩
    case lift => exact fun hon => runOn_eq hl hunit (W.doLatchLift_on hon)
    case timeout => exact fun hstate => runOn_eq hl hok (W.doDrainTimeout_draining hstate)
    case lasers =>
      exact fun hlifted => ⟨runOn_eq hl hunit (W.doLaserOff_lifted hlifted),
        runOn_eq hl hunit (W.doLatchClose_lifted hlifted)⟩

end Sys2Proof.Machine
end

section
/-! ### The step and the state after reset (O1, O5) -/

namespace Sys2Proof.Machine

/-- Settles O1: the step's equation for a command that waits (`step_command`). -/
theorem stepRunsTheOldestCommand : Obligations.StepRunsTheOldestCommand := by
  unfold Obligations.StepRunsTheOldestCommand
  exact fun c s rest hqueue => step_command hqueue

/-- A memory that lists nothing reads as zero. -/
theorem State.rd_of_mem_nil {s : State} (h : s.mem = []) (k : Nat) : s.w.rd k = 0 := by
  rw [W.rd, State.w_mem, State.w_log, h]
  rfl

/-- Settles O5: the reset state lists no byte of memory and no command. -/
theorem resetIsSafe : Obligations.ResetIsSafe := by
  unfold Obligations.ResetIsSafe
  exact ⟨rfl, rfl, rfl, State.rd_of_mem_nil rfl⟩

end Sys2Proof.Machine
end

section
/-! ### Parts without power (O6)

A head flit from the north at a landing of row 0 faults (`exec_lndHeadFlit_of_absent_port`), with power or without. -/

namespace Sys2Proof.Machine

/-- Refutes O6: the head flit from the north at landing 0 is well formed, and at a part without power it faults. -/
theorem not_idleAndUnpoweredParts : ¬ Obligations.IdleAndUnpoweredParts := by
  unfold Obligations.IdleAndUnpoweredParts
  intro h
  let s : State := { chip := { powered := false }, mem := [], pending := [] }
  have hwf : (Instr.lndHeadFlit 0 1 {} 0 .none).wf = true := rfl
  have hkept : exec (.lndHeadFlit 0 1 {} 0 .none) s = .next s := h.2 _ s hwf rfl nofun nofun nofun nofun
  have hfault := exec_lndHeadFlit_of_absent_port (portHere_north_of_row_zero (l := 0) rfl) {} 0 .none s
  cases hfault.symm.trans hkept

end Sys2Proof.Machine
end

section
/-! ### Packets of the fabric (O41) -/

namespace Sys2Proof.Machine

theorem routerOk_of {h : Nat} (hh : h < 2) : routerOk h = true := decide_eq_true hh

namespace W

variable {w : W} {h k : Nat} {i : RouterPkt}

/-! #### In an edge router (R264 to R269) -/

section

variable (hk : (w.router h).queue[k]? = some i)

include hk

/-- A packet that breaks a rule of R264 is dropped and counted. -/
theorem doForward_bad (hbad : w.fabBad i.pkt = true) :
    w.doForward h k false = (w.takeRouter h k i).countErr (Reg.ER_PKT_BAD h) := by
  rw [doForward, hk]
  dsimp only
  rw [if_pos hbad]
  cases i.src <;> rfl

/-- A whole packet for this device is taken. -/
theorem doForward_here (hgood : w.fabBad i.pkt = false) (hdst : i.pkt.dst = w.selfDev) (hwhole : i.pkt.ecrcBad = false) :
    w.doForward h k false =
      (w.takeRouter h k i).emit (.fab (if fabClass i.pkt = some 2 then h else i.pkt.splane) i.pkt) := by
  rw [doForward, hk]
  dsimp only
  rw [hgood, if_neg Bool.false_ne_true, if_pos hdst, hwhole, if_neg Bool.false_ne_true]
  cases i.src <;> rfl

section

variable (hgood : w.fabBad i.pkt = false) (hdst : i.pkt.dst ≠ w.selfDev)

include hgood hdst

/-- A request or response for another device leaves by the port of the adaptive choice (R265). -/
theorem doForward_adaptive {cls q dir : Nat} (hcls : fabClass i.pkt = some cls) (hdata : cls ≠ 2)
    (hdor : w.flag Reg.FAB_RT_CFG F.FAB_RT_CFG_DOR = false) (hport : w.adaptivePort h (3 * cls) i.pkt.dst = some (q, dir)) :
    w.doForward h k false = (w.takeRouter h k i).fabOut i.pkt q dir (3 * cls) := by
  rw [doForward, hk]
  dsimp only
  rw [hgood, if_neg Bool.false_ne_true, if_neg hdst, hcls, Option.getD_some, if_neg (by simp [hdata, hdor]), hport]
  cases i.src <;> rfl

/-- A control packet leaves by the port of the escape choice, when its lane has credit (R267, R268). -/
theorem doForward_control {q dir : Nat} (hcls : fabClass i.pkt = some 2) (hport : w.escapePort h i.pkt = some (q, dir))
    (hcredit : w.laneCredit q (6 + ((w.dlAfter i.pkt dir).testBit (2 - dir / 2)).toNat) ≠ 0) :
    w.doForward h k false =
      (w.takeRouter h k i).fabOut i.pkt q dir (6 + ((w.dlAfter i.pkt dir).testBit (2 - dir / 2)).toNat) := by
  rw [doForward, hk]
  dsimp only
  rw [hgood, if_neg Bool.false_ne_true, if_neg hdst, hcls, Option.getD_some, if_pos (.inl rfl), hport]
  dsimp only
  rw [if_pos rfl, if_neg hcredit]
  cases i.src <;> rfl

end

/-- A packet that dwells too long is dropped and counted (R264). -/
theorem doDwell_queued : w.doDwell h k = (w.takeRouter h k i).count (Reg.ER_DWELL_DROP h) 1 := by
  rw [doDwell, hk]

end

/-! #### From the mesh (R261, R288) -/

variable {t : Packet}

/-- A request or token for a lost device is answered ERR_RSP cause 3 (R288). -/
theorem doMeshIngress_lost (hmc : t.mc = false) (htyp : t.typ ∈ [1, 3, 5, 7]) (hlost : bits t.addr 63 48 ∉ w.c.peers) :
    w.doMeshIngress h t = w.errRsp (w.nearLanding h t.srcLand) t 3 := by
  have hforward : t.typ ≠ 8 ∧ ¬ (t.typ = 4 ∨ t.typ = 0xD) := by
    simp only [List.mem_cons, List.not_mem_nil, or_false] at htyp
    omega
  rw [doMeshIngress]
  dsimp only
  rw [if_neg hforward.1, if_neg hforward.2, if_neg (by simp [hmc]), if_pos (by simpa using hlost),
    if_pos (List.contains_iff_mem.2 htyp)]

/-- A read or atomic for a live device is kept, and sent as a message after the writes before it (R261). -/
theorem doMeshIngress_request (htyp : t.typ ∈ [1, 5]) (hlive : bits t.addr 63 48 ∈ w.c.peers) :
    w.doMeshIngress h t =
      let dev := bits t.addr 63 48
      let v := w.closeWrites h t.srcLand dev
      (v.setRouter h { v.router h with reqs := (v.router h).reqs ++ [{ dev := dev, req := t }] }).sendMsg h dev
        { ptype := if t.typ = 1 then 2 else 3, addr := t.addr } (meshBody t) [] := by
  have hrequest : t.typ = 1 ∨ t.typ = 5 := by simpa using htyp
  have hnot : t.typ ≠ 8 ∧ ¬ (t.typ = 4 ∨ t.typ = 0xD) ∧ t.typ ≠ 7 ∧ t.typ ≠ 3 := by omega
  obtain ⟨hcredit, hanswer, htoken, hwrite⟩ := hnot
  rw [doMeshIngress]
  dsimp only
  rw [if_neg hcredit, if_neg hanswer, if_neg (fun h => htoken h.1), if_neg (by simpa using hlive), if_neg hwrite,
    if_neg htoken, if_pos hrequest]

end W

/-- Settles O41: what a router does with a packet by the rules it keeps, what the mesh sends by its device. -/
theorem packetsCrossTheFabric : Obligations.PacketsCrossTheFabric := by
  unfold Obligations.PacketsCrossTheFabric
  intro s h hl hh
  have hok := routerOk_of hh
  refine ⟨?router, ?mesh, ?close⟩
  case router =>
    intro k i hk
    refine ⟨?bad, ?here, ?adaptive, ?control, ?dwell⟩
    case bad => exact fun hbad => runOn_eq hl hok (W.doForward_bad hk hbad)
    case here => exact fun hgood hdst hwhole => runOn_eq hl hok (W.doForward_here hk hgood hdst hwhole)
    case adaptive =>
      exact fun cls q dir hgood hdst hcls hdata hdor hport =>
        runOn_eq hl hok (W.doForward_adaptive hk hgood hdst hcls hdata hdor hport)
    case control =>
      intro q dir hgood hdst hcls hport v hcredit
      exact runOn_eq hl hok (W.doForward_control hk hgood hdst hcls hport hcredit)
    case dwell => exact runOn_eq hl hok (W.doDwell_queued hk)
  case mesh =>
    intro t hmc dev
    exact ⟨fun htyp hlost => runOn_eq hl hok (W.doMeshIngress_lost hmc htyp hlost),
      fun htyp hlive => runOn_eq hl hok (W.doMeshIngress_request htyp hlive)⟩
  case close => exact fun land rtag => runOn_eq hl hok rfl

end Sys2Proof.Machine
end

section
/-! ### Sequenced packets at their home router (O42) -/

namespace Sys2Proof.Machine

/-- What a FAB_WRITE sets off in the set-up region ends with its command. -/
def fabDone (t : FabPkt) (w : W) : W := if t.ptype = 1 then w.flushBus else w

theorem exec_fabWrite {s : State} {h : Nat} (hl : s.live = true) (hh : h < 2) {t : FabPkt} (htype : t.ptype = 1) :
    exec (.fabWrite h t) s = .next (s.after (fabDone t (s.w.seqIn h t none))) := by
  refine runOn_eq hl (routerOk_of hh) ?_
  rw [if_pos htype, fabDone, if_pos htype]

theorem fabRun_eq {s : State} {h : Nat} (hl : s.live = true) (hh : h < 2) {t : FabPkt} {ptype : Nat}
    (htype : t.ptype = ptype) (hplain : ptype ≠ 1) (atom : Option (AtomOp × Word)) :
    fabRun h ptype t atom s = .next (s.after (fabDone t (s.w.seqIn h t atom))) := by
  refine runOn_eq hl (routerOk_of hh) ?_
  rw [if_pos htype, fabDone, if_neg (htype ▸ hplain)]

/-- Every sequenced packet of its row's type arrives at its home router. -/
theorem exec_sequencedPackets : ∀ e ∈ sequencedPackets, ∀ {s : State} {h : Nat}, s.live = true → h < 2 →
    ∀ {t : FabPkt}, e.1 = t.ptype → exec (e.2 h t) s = .next (s.after (fabDone t (s.w.seqIn h t none))) := by
  intro e he s h hl hh t htype
  simp only [sequencedPackets, List.mem_cons, List.not_mem_nil, or_false] at he
  obtain rfl | rfl | rfl | rfl | rfl | rfl | rfl := he
  · exact exec_fabWrite hl hh htype.symm
  all_goals exact fabRun_eq hl hh htype.symm (by decide) none

namespace W

variable {w : W} {h : Nat} {t : FabPkt} {atom : Option (AtomOp × Word)}

/-- The message of a packet with the packet placed in it (R272). -/
def joinedMsg (c : RxConn) (t : FabPkt) (atom : Option (AtomOp × Word)) : RxMsg :=
  let m := (c.msgs.find? fun m => m.msn == t.msn).getD { msn := t.msn, got := 0, pkts := [] }
  { m with got := m.got + t.len, pkts := placePkt t m.pkts, atom := if atom.isSome then atom else m.atom }

/-- The receiving end with a packet of its window kept, EPSN past what is there (R271). -/
def keptConn (c : RxConn) (t : FabPkt) (atom : Option (AtomOp × Word)) : RxConn :=
  advance { c with marks := t.psn :: c.marks, since := c.since + 1,
                   msgs := (c.msgs.filter fun x => x.msn != t.msn) ++ [joinedMsg c t atom] } 1024

theorem seqIn_lost (hlost : t.src ∉ w.c.peers) : w.seqIn h t atom = w.count (Reg.ER_LOST_DROP h) 1 := by
  rw [seqIn, if_pos (by simpa using hlost)]

section

variable (hpeer : t.src ∈ w.c.peers)

include hpeer

theorem seqIn_noContext (hrx : w.rxConn h t.src = none) : w.seqIn h t atom = w.sendCtx h t.src 5 := by
  rw [seqIn, if_neg (by simpa using hpeer), hrx]

variable {c : RxConn} (hrx : w.rxConn h t.src = some c) (hopen : c.isOpen = true)

include hrx hopen

/-- A packet seen before is counted and acknowledged again (R271). -/
theorem seqIn_again (hagain : serialLater 32 c.epsn t.psn = true ∨ t.psn ∈ c.marks) :
    w.seqIn h t atom = (w.count (Reg.ER_TP_DUP h) 1).sendTack h t.src := by
  rw [seqIn, if_neg (by simpa using hpeer), hrx]
  dsimp only
  rw [if_neg (by simp [hopen]), if_pos (by simpa using hagain)]

variable (hnew : ¬ (serialLater 32 c.epsn t.psn = true ∨ t.psn ∈ c.marks))

include hnew

theorem seqIn_outOfWindow (hahead : 1024 ≤ (t.psn + 2 ^ 32 - c.epsn) % 2 ^ 32) :
    w.seqIn h t atom = w.count (Reg.ER_TP_OUTWIN h) 1 := by
  rw [seqIn, if_neg (by simpa using hpeer), hrx]
  dsimp only
  rw [if_neg (by simp [hopen]), if_neg (by simpa using hnew), if_pos hahead]

/-- Any other packet is kept, and what it completes is delivered (R271, R272). -/
theorem seqIn_kept (hahead : (t.psn + 2 ^ 32 - c.epsn) % 2 ^ 32 < 1024) :
    w.seqIn h t atom =
      let c := keptConn c t atom
      let w := w.setRx h c
      let w := if t.ptype = 1 then (w.farWrite none (w.peerReq h t.src) (t.addr + w64 t.off) t.data).2 else w
      let w := w.deliverMsgs h t.src (c.msgs.length + 1)
      if max 1 (w.fld Reg.FAB_TP_CFG F.FAB_TP_CFG_ACK_BATCH) ≤ c.since then w.sendTack h t.src else w := by
  rw [seqIn, if_neg (by simpa using hpeer), hrx]
  dsimp only
  rw [if_neg (by simp [hopen]), if_neg (by simpa using hnew), if_neg (Nat.not_le.2 hahead)]
  rfl

end

end W

/-- Settles O42: the command is `W.seqIn` by `exec_sequencedPackets`, which goes by the sender, the context and the PSN. -/
theorem sequencedPacketsArrive : Obligations.SequencedPacketsArrive := by
  unfold Obligations.SequencedPacketsArrive
  intro s h t atom i hl hh hi done
  have hexec : exec i s = .next (s.after (done (s.w.seqIn h t atom))) := by
    obtain ⟨rfl, e, he, htype, rfl⟩ | ⟨htype, op, cmp, rfl, rfl⟩ := hi
    · exact exec_sequencedPackets e he hl hh htype
    · exact fabRun_eq hl hh htype (by decide) _
  rw [hexec]
  refine ⟨fun hlost => by rw [W.seqIn_lost hlost], fun hpeer => ⟨fun hrx => by rw [W.seqIn_noContext hpeer hrx], ?_⟩⟩
  intro c hrx hopen ahead again
  refine ⟨fun hagain => ?again, fun hnew hahead => ?beyond, fun hnew hahead => ?kept⟩
  case again => rw [W.seqIn_again hpeer hrx hopen hagain]
  case beyond => rw [W.seqIn_outOfWindow hpeer hrx hopen hnew hahead]
  case kept =>
    rw [W.seqIn_kept hpeer hrx hopen hnew hahead]
    rfl

end Sys2Proof.Machine
end

section
/-! ### Connections of the fabric (O43) -/

namespace Sys2Proof.Machine

/-- A command on what runs out of service too, by what its function does. -/
theorem runAux_eq {s : State} (ha : s.aux = true) {f : W → W} {w : W} (hf : f s.w = w) :
    runAux s f = .next (s.after w) :=
  hf ▸ runAux_aux ha f

/-- A CTX packet with the code of its row has its row's effect. -/
theorem ctxRun_eq {s : State} {h code : Nat} (hl : s.live = true) (hh : h < 2) {t : FabPkt} (htype : t.ptype = 7)
    (hcode : leNat (t.data.take 1) % 16 = code) {f : W → W} {w : W} (hf : f s.w = w) :
    ctxRun h code t s f = .next (s.after w) :=
  runOn_eq hl (routerOk_of hh) ((if_pos ⟨htype, hcode⟩).trans hf)

namespace W

variable {w : W} {h dev : Nat}

/-! #### Contexts (R270, R274) -/

theorem doCtxOpen_free (hrx : w.rxConn h dev = none) (hroom : ((w.router h).rx.filter fun c => c.isOpen).length < 4096) :
    w.doCtxOpen h dev = (w.setRx h { dev := dev }).sendCtx h dev 2 := by
  rw [doCtxOpen, hrx]
  exact if_neg (Nat.not_le.2 hroom)

theorem restarted_of_no_msgs {c : TxConn} (hmsgs : c.msgs = []) :
    restarted c = { dev := c.dev, otherPlane := c.otherPlane, stalled := c.stalled } := by
  rw [restarted, hmsgs, List.foldl_nil]

/-- A connection that closes is closed, or opens anew with what was queued meanwhile. -/
theorem doCloseAckCtx_closing (hstate : (w.txConn h dev).state = .closing) :
    w.doCloseAckCtx h dev =
      let c := w.txConn h dev
      if c.msgs = [] then (w.setTx h { dev := c.dev, otherPlane := c.otherPlane, stalled := c.stalled }).openWaiting h
      else (w.setTx h (restarted c)).openConn h dev := by
  rw [doCloseAckCtx]
  dsimp only
  rw [if_neg (not_not.2 hstate)]
  split
  next hmsgs => rw [restarted_of_no_msgs hmsgs]
  next => rfl

theorem doNoctx_opened (hstate : (w.txConn h dev).state = .opened) :
    w.doNoctx h dev =
      let c := w.txConn h dev
      ((w.setTx h (restarted c)).when (c.msgs.any fun m => m.pkts.any fun p => p.ptype == 3) fun w =>
        w.setFlag Reg.ND_STATUS F.ND_STATUS_UNBOUND true).openConn h dev := by
  rw [doNoctx]
  exact if_neg (not_not.2 hstate)

/-! #### Acknowledgements (R271, R273) -/

/-- A TACK whose EPSN is past every packet held leaves none of them, and answers what is done. -/
theorem doTack_all {t : FabPkt} (htype : t.ptype = 8) (hstate : (w.txConn h t.src).state = .opened)
    (hall : ∀ p ∈ (w.txConn h t.src).pkts, serialLater 32 (bits (payWord t.data 0) 31 0) p.pkt.psn = true) :
    w.doTack h t =
      let c := w.txConn h t.src
      let done := bits (payWord t.data 0) 63 32
      let v := w.setTx h { c with pkts := [], msgs := c.msgs.filter fun m => !serialLater 32 done m.msn,
                                  stalled := c.stalled && c.pkts.isEmpty }
      ((c.msgs.filter fun m => serialLater 32 done m.msn).foldl (fun w m => w.messageDone h m) v).transmit h t.src := by
  have hempty (l : List TxPkt) : (([] : List TxPkt).length == l.length) = l.isEmpty := by cases l <;> rfl
  unfold doTack
  extract_lets c epsn done sack marked left fin v
  have hleft : left = [] := List.filterMap_eq_nil_iff.2 fun p hp => if_pos (hall p hp)
  rw [if_neg (by simp [c, hstate, htype])]
  simp only [v, hleft, hempty]
  rfl

theorem doTackDelay_due {c : RxConn} (hrx : w.rxConn h dev = some c) (hdue : 0 < c.since) :
    (match w.rxConn h dev with
      | some c => if 0 < c.since then w.sendTack h dev else w
      | none => w) = w.sendTack h dev := by
  rw [hrx]
  exact if_pos hdue

/-- A packet not acknowledged in time goes out again on its path, and is counted (R273). -/
theorem doRetransmit_again {k : Nat} {p : TxPkt} (hk : (w.txConn h dev).pkts[k]? = some p)
    (hstate : (w.txConn h dev).state = .opened) (hsent : p.sent ≠ 0) (hsack : p.sacked = false)
    (hplane : w.fld Reg.FAB_TP_CFG F.FAB_TP_CFG_RTX_PLANE = 0)
    (hleft : p.sent < max 1 (w.fld Reg.FAB_TP_CFG F.FAB_TP_CFG_RTX_MAX)) :
    w.doRetransmit h dev k =
      let c := w.txConn h dev
      ((w.setTx h { c with pkts := c.pkts.set k { p with sent := p.sent + 1 } }).count (Reg.ER_TP_RETX h) 1).fabSend
        (if c.otherPlane then 1 - h else h) p.pkt := by
  rw [doRetransmit, hk]
  dsimp only
  rw [if_neg (by simp [hstate, hsent, hsack]), hplane, decide_eq_false (Nat.not_le.2 hleft)]
  simp only [bne_self_eq_false, Bool.false_and, Bool.or_false]
  rfl

theorem doIdle_empty (hstate : (w.txConn h dev).state = .opened) (hpkts : (w.txConn h dev).pkts = [])
    (hmsgs : (w.txConn h dev).msgs = []) (hidle : w.fld Reg.FAB_TP_CFG F.FAB_TP_CFG_IDLE ≠ 0) :
    w.doIdle h dev = (w.setTx h { w.txConn h dev with state := .closing }).sendCtx h dev 3 :=
  if_pos ⟨hstate, hpkts, hmsgs, hidle⟩

theorem doGroupTimeout_waiting {g : Nat} {x : GroupRun} (hx : w.findGroup h g false = some x) :
    w.doGroupTimeout h g =
      w.groupCheck h { x with waits := [], owed := 0, all := x.all && x.waits.isEmpty && x.owed == 0 } := by
  rw [doGroupTimeout, hx]

end W

/-- Settles O43: each command by the state of its connection; a TACK past every packet held by `W.doTack_all`. -/
theorem fabricConnections : Obligations.FabricConnections := by
  unfold Obligations.FabricConnections
  intro s h dev hl hh
  have hok := routerOk_of hh
  refine ⟨?contexts, ?tack, ?due, ?retransmit, ?idle, ?reserve⟩
  case contexts =>
    rintro t rfl htype code
    refine ⟨?opens, ?opened, ?closes, ?closed, ?noctx⟩
    case opens => exact fun hcode hrx hroom => ctxRun_eq hl hh htype hcode (W.doCtxOpen_free hrx hroom)
    case opened => exact fun hcode hstate => ctxRun_eq hl hh htype hcode (if_pos hstate)
    case closes => exact fun hcode => ctxRun_eq hl hh htype hcode rfl
    case closed => exact fun hcode hstate => ctxRun_eq hl hh htype hcode (W.doCloseAckCtx_closing hstate)
    case noctx => exact fun hcode hstate => ctxRun_eq hl hh htype hcode (W.doNoctx_opened hstate)
  case tack =>
    rintro t rfl htype hstate c epsn done hall w
    exact runOn_eq hl hok (W.doTack_all htype hstate hall)
  case due => exact fun c hrx hdue => runOn_eq hl hok (W.doTackDelay_due hrx hdue)
  case retransmit =>
    intro k p c hk hstate hsent hsack hplane hleft
    exact runOn_eq hl hok (W.doRetransmit_again hk hstate hsent hsack hplane hleft)
  case idle => exact fun hstate hpkts hmsgs hidle => runOn_eq hl hok (W.doIdle_empty hstate hpkts hmsgs hidle)
  case reserve => exact fun g x hx => runOn_eq hl hok (W.doGroupTimeout_waiting hx)

end Sys2Proof.Machine
end

section
/-! ### Barriers, triggers and global time (O44) -/

namespace Sys2Proof.Machine

namespace W

variable {w : W} {h k : Nat} {t : FabPkt}

/-! #### Barriers (R282, R283) -/

theorem doBarArrive_unused (htype : t.ptype = 0xB) (hbop : barBop t = 1)
    (hunused : bit (w.barWord (16 * h + barNum t) 0) 63 = false) :
    w.doBarArrive h t = w.countErr (Reg.ER_BAR_FAULT h) := by
  rw [doBarArrive]
  dsimp only
  rw [if_neg (by simp [htype, hbop]), hunused, Bool.not_false, if_pos rfl]

/-- A child's first arrival of this generation combines. -/
theorem doBarArrive_child {c : Nat} (htype : t.ptype = 0xB) (hbop : barBop t = 1) (hk : 16 * h + barNum t = k)
    (hvalid : bit (w.barWord k 0) 63 = true) (hchild : ((w.barChildren k).findIdx? fun d => d == t.src) = some c)
    (hgen : barPktGen t = w.barGen k) (hfirst : (w.bar k).got.testBit (1 + c) = false) :
    w.doBarArrive h t = (w.setBar k { w.bar k with got := (w.bar k).got + 2 ^ (1 + c) }).barCheck k := by
  rw [doBarArrive]
  dsimp only
  rw [hk, if_neg (by simp [htype, hbop]), hvalid, Bool.not_true, if_neg Bool.false_ne_true, hchild]
  dsimp only
  rw [if_pos hgen, hfirst, if_neg Bool.false_ne_true]

/-- A release of this generation from the parent, before its time T, is passed on. -/
theorem doBarRelease_inTime (htype : t.ptype = 0xB) (hbop : barBop t = 2) (hk : 16 * h + barNum t = k)
    (hvalid : bit (w.barWord k 0) 63 = true) (hgen : barPktGen t = w.barGen k) (hsrc : t.src = bits (w.barWord k 0) 47 32)
    (htime : w.c.time ≤ (payWord t.data 0).toNat) (hlocked : w.timeLocked = true) :
    w.doBarRelease h t = w.barRelease k (payWord t.data 0).toNat := by
  rw [doBarRelease]
  dsimp only
  rw [hk, if_neg (by simp [htype, hbop, hvalid, hgen, hsrc]), if_neg (by simp [hlocked, htime])]

theorem doTrigger_inTime (htype : t.ptype = 0xB) (hbop : barBop t = 3)
    (hon : w.flag Reg.SNAP_CFG F.SNAP_CFG_FAB_IN = true) (htime : w.c.time ≤ (payWord t.data 0).toNat)
    (hsoon : (payWord t.data 0).toNat ≤ w.c.time + 1000000000) (hlocked : w.timeLocked = true) :
    w.doTrigger t = { w with c := { w.c with snapAt := some (payWord t.data 0).toNat } } := by
  rw [doTrigger]
  dsimp only
  rw [if_neg (by simp [htype, hbop, hon]), if_neg (Nat.not_lt.2 hsoon), if_neg (by simp [htime, hlocked])]

/-- The local member of the commit barrier commits at T (R194, R283). -/
theorem doBarAction_commit {i : Img} {T : Nat} (hdue : (w.bar k).due = some T) (htime : T ≤ w.c.time)
    (himg : w.c.seq.img = some i) (hbar : i.view.commitBar = k) (hphase : w.c.seq.phase = .fabric) :
    w.doBarAction k = (w.setBar k { w.bar k with due := none }).issueCommitted := by
  rw [doBarAction, hdue]
  dsimp only
  rw [if_pos htime, barAct, setBar_c, himg]
  exact if_pos ⟨hbar, hphase⟩

/-! #### Global time (R278, R279) -/

variable {q rx tx : Nat}

theorem doTimePacket_request (htype : t.ptype = 0xC) (hrequest : t.data.headD 0 = 0) (hup : w.portState q = 3) :
    w.doTimePacket q t rx tx = w.sendTime q
      (byte 1 :: leBytes 8 (leNat ((t.data.drop (1 + 8 * 0)).take 8)) ++ leBytes 8 rx ++ leBytes 8 tx) := by
  rw [doTimePacket]
  dsimp only
  rw [if_neg (not_not.2 htype), if_pos hrequest, if_pos hup]

/-- The parent's answer steers the counter. -/
theorem doTimePacket_answer (htype : t.ptype = 0xC) (hanswer : t.data.headD 0 ≠ 0)
    (hchild : w.flag Reg.FAB_TIME_CFG F.FAB_TIME_CFG_GM = false) (hparent : w.parentPort = some q)
    (hwaiting : w.c.timeKeep.waiting = true) :
    w.doTimePacket q t rx tx = w.steer (leNat ((t.data.drop (1 + 8 * 0)).take 8))
      (leNat ((t.data.drop (1 + 8 * 1)).take 8)) (leNat ((t.data.drop (1 + 8 * 2)).take 8)) rx := by
  rw [doTimePacket]
  dsimp only
  rw [if_neg (not_not.2 htype), if_neg hanswer, if_neg (by simp [hchild, hparent, hwaiting])]

/-- A device that is no grandmaster and has not missed too much asks its parent. -/
theorem doTimeSync_asks (hchild : w.flag Reg.FAB_TIME_CFG F.FAB_TIME_CFG_GM = false)
    (hdir : w.fld Reg.FAB_TIME_CFG F.FAB_TIME_CFG_PARENT_DIR ≠ 7) (hparent : w.parentPort = some q)
    (hanswered : w.c.timeKeep.waiting = false) (hmissed : w.c.timeKeep.missed < 4) (hstate : w.timeState ≠ 0) :
    w.doTimeSync = ({ w with c := { w.c with timeKeep := { w.c.timeKeep with waiting := true } } } : W).sendTime q
      (byte 0 :: leBytes 8 (w.c.time * 1000)) := by
  rw [doTimeSync]
  extract_lets chip k missed v u
  have hsame : missed = w.c.timeKeep.missed := if_neg (by simp [k, hanswered])
  have hv : v = { w with c := { w.c with timeKeep := { w.c.timeKeep with waiting := true } } } := by
    simp only [v, hsame]
    rfl
  have hu : u = v := (if_neg (by omega)).trans (if_neg (hv ▸ hstate))
  rw [if_neg (by simp [hchild]), if_neg hdir, hu, hv]
  simp only [show ({ w with c := { w.c with timeKeep := { w.c.timeKeep with waiting := true } } } : W).parentPort = some q
    from hparent]
  rfl

end W

/-- Settles O44: barriers by the entry and the generation, time by the role of the device. -/
theorem barriersAndTime : Obligations.BarriersAndTime := by
  unfold Obligations.BarriersAndTime
  intro s h t hl hh
  have hok := routerOk_of hh
  refine ⟨?barrier, ?entry, ?packet, ?master, ?sync⟩
  case barrier =>
    intro htype k T
    refine ⟨?unused, ?child, ?release, ?trigger⟩
    case unused => exact fun hbop hunused => runOn_eq hl hok (W.doBarArrive_unused htype hbop hunused)
    case child =>
      exact fun c hbop hvalid hchild hgen hfirst =>
        runOn_eq hl hok (W.doBarArrive_child htype hbop rfl hvalid hchild hgen hfirst)
    case release =>
      exact fun hbop hvalid hgen hsrc htime hlocked =>
        runOn_eq hl hok (W.doBarRelease_inTime htype hbop rfl hvalid hgen hsrc htime hlocked)
    case trigger =>
      exact fun hbop hon htime hsoon hlocked =>
        run_eq (f := fun w => w.doTrigger t) hl (W.doTrigger_inTime htype hbop hon htime hsoon hlocked)
  case entry =>
    intro k hk
    have hentry : decide (k < 32) = true := decide_eq_true hk
    exact ⟨fun hsent => runOn_eq hl hentry (if_pos hsent), fun i T hdue htime himg hbar hphase =>
      runOn_eq hl hentry (W.doBarAction_commit hdue htime himg hbar hphase)⟩
  case packet =>
    intro q rx tx hq htype stamp off k v w
    exact ⟨fun hrequest hup => runOn_eq hl (portOk_of hq) (W.doTimePacket_request htype hrequest hup),
      fun hanswer hchild hparent hwaiting =>
        runOn_eq hl (portOk_of hq) (W.doTimePacket_answer htype hanswer hchild hparent hwaiting)⟩
  case master => exact fun hmaster => runAux_eq (aux_of_live hl) (if_pos hmaster)
  case sync =>
    exact fun q hchild hdir hparent hanswered hmissed hstate =>
      runAux_eq (aux_of_live hl) (W.doTimeSync_asks hchild hdir hparent hanswered hmissed hstate)

end Sys2Proof.Machine
end

section
/-! ### Signed orders (O45) -/

namespace Sys2Proof.Machine

namespace W

variable {w : W} {h : Nat} {t : FabPkt}

/-! #### On their way in (R285) -/

theorem doOrderPacket_passes (htype : t.ptype = 0xD) (hdst : t.dst ≠ w.selfDev) : w.doOrderPacket h t = w.fabSend h t := by
  rw [doOrderPacket, if_neg (not_not.2 htype), if_pos hdst]

/-- Storing one piece that is as long as the order gives the order. -/
theorem piece_eq_order {data : List Byte} {n : Nat} (hlen : data.length = n) :
    (List.replicate n (0 : Byte)).take 0 ++ data ++ (List.replicate n (0 : Byte)).drop (0 + data.length) = data := by
  rw [List.take_zero, List.nil_append, Nat.zero_add, hlen, List.drop_eq_nil_of_le (by simp), List.append_nil]

/-- An order that is complete in its packet, with no other being assembled, is taken up. -/
theorem doOrderPacket_whole (htype : t.ptype = 0xD) (hdst : t.dst = w.selfDev) (hsize : t.mlen ≤ 524288)
    (hasm : w.c.orderAsm = []) (hoff : t.off = 0) (hlen : t.data.length = t.mlen) :
    w.doOrderPacket h t = (w.pend (145 + 4 * h)).orderArrive h t.data := by
  have hnone : { w with c := { w.c with orderAsm := [] } } = w := by rw [← hasm]
  have hsum : (List.map (fun p : Nat × List Byte => p.2.length) [(0, t.data)]).sum = t.mlen := by simp [hlen]
  rw [doOrderPacket, if_neg (not_not.2 htype), if_neg (not_not.2 hdst), if_neg (Nat.not_lt.2 hsize)]
  simp only [hasm, hoff, List.find?_nil, Option.getD_none, List.any_nil, Bool.false_eq_true, if_false, List.nil_append,
    List.filter_nil, List.length_nil, hsum, if_true, List.foldl_cons, List.foldl_nil, piece_eq_order hlen]
  exact congrArg (fun v : W => (v.pend (145 + 4 * h)).orderArrive h t.data) hnone

theorem doOrderTimeout_waiting {k : Nat} {a : OrderAsm} (hk : w.c.orderAsm[k]? = some a) :
    w.doOrderTimeout k =
      ({ w with c := { w.c with orderAsm := w.c.orderAsm.eraseIdx k } } : W).countErr (Reg.ER_ORDER_REJ a.via) := by
  rw [doOrderTimeout, hk]

/-! #### Their verification (R286) -/

/-- The part with the waiting order `o` taken up. -/
def takeOrder (w : W) (o : List Byte × Nat) : W := { w with c := { w.c with orders := w.c.orders.erase o } }

/-- The part with the number of an accepted order noted. -/
def noteOrder (w : W) (no : Nat) : W := (w.setReg Reg.FAB_ORDER_NO (w64 no)).flashPut (.orderNo no)

variable {bs : List Byte}

theorem orderEnact_expel (htype : orderType bs = 1) :
    w.orderEnact bs = (w.noteOrder (orderNo bs)).expel (orderNo bs) := by
  rw [orderEnact, htype]
  rfl

theorem orderEnact_peerLost (htype : orderType bs = 2) :
    w.orderEnact bs = (w.noteOrder (orderNo bs)).peerLost (lostDevices (orderBody bs)) := by
  rw [orderEnact, htype]
  rfl

theorem orderEnact_peerMap (htype : orderType bs = 3) :
    w.orderEnact bs = (w.noteOrder (orderNo bs)).newPeers (field (orderBody bs) 0 4) (bitmapDevices ((orderBody bs).drop 8)) := by
  rw [orderEnact, htype]
  rfl

theorem orderEnact_readmit (htype : orderType bs = 4) :
    w.orderEnact bs = (w.noteOrder (orderNo bs)).readmit := by
  rw [orderEnact, htype]
  rfl

theorem orderEnact_return (htype : orderType bs = 5) :
    w.orderEnact bs = (w.noteOrder (orderNo bs)).returnToService := by
  rw [orderEnact, htype]
  rfl

theorem orderEnact_keyset (htype : orderType bs = 6) :
    w.orderEnact bs = (w.noteOrder (orderNo bs)).flashPut (.keys (field (orderBody bs) 1 1) (newKeys (orderBody bs))) := by
  rw [orderEnact, htype]
  rfl

/-- The oldest order of a type, when its number is new, is enacted if it is valid and rejected if not. -/
theorem doOrder_newest {o : List Byte × Nat} {typ : Nat} (hfind : (w.c.orders.find? fun o => orderType o.1 == typ) = some o)
    (hnew : orderNo o.1 ≠ (w.reg Reg.FAB_ORDER_NO).toNat) {effect : W} (heffect : (w.takeOrder o).orderEnact o.1 = effect) :
    w.doOrder typ =
      if (w.takeOrder o).orderValid o.2 o.1 = true then effect else (w.takeOrder o).orderReject o.2 (orderNo o.1) := by
  rw [doOrder, hfind]
  refine (if_neg hnew).trans ?_
  rw [← heffect, orderVerify]
  exact apply_ite Prod.snd _ _ _

end W

/-- Settles O45: a whole order by `W.doOrderPacket_whole`, the order of a TYPE by `W.doOrder_newest` with the
effect of that TYPE. -/
theorem signedOrders : Obligations.SignedOrders := by
  unfold Obligations.SignedOrders
  intro s hl
  have ha := aux_of_live hl
  refine ⟨?packet, ?slow, ?verified⟩
  case packet =>
    intro h t hh htype
    exact ⟨fun hdst => runOn_eq hl (routerOk_of hh) (W.doOrderPacket_passes htype hdst),
      fun hdst hsize hasm hoff hlen => runOn_eq hl (routerOk_of hh) (W.doOrderPacket_whole htype hdst hsize hasm hoff hlen)⟩
  case slow => exact fun k a hk => run_eq (f := fun w => w.doOrderTimeout k) hl (W.doOrderTimeout_waiting hk)
  case verified =>
    intro o typ hfind hnew w1 w b verdict
    have htype : orderType o.1 = typ := by simpa using List.find?_some hfind
    have verified {effect : W} (heffect : w1.orderEnact o.1 = effect) :
        runAux s (fun w => w.doOrder typ) = .next (verdict effect) :=
      runAux_eq ha (W.doOrder_newest hfind hnew heffect)
    refine ⟨?expel, ?peerLost, ?peerMap, ?readmit, ?back, ?keyset⟩
    case expel => rintro rfl; exact verified (W.orderEnact_expel htype)
    case peerLost => rintro rfl; exact verified (W.orderEnact_peerLost htype)
    case peerMap => rintro rfl; exact verified (W.orderEnact_peerMap htype)
    case readmit => rintro rfl; exact verified (W.orderEnact_readmit htype)
    case back => rintro rfl; exact verified (W.orderEnact_return htype)
    case keyset => rintro rfl; exact verified (W.orderEnact_keyset htype)

end Sys2Proof.Machine
end

section
/-! ### The coherent link comes and goes (O46) -/

namespace Sys2Proof.Machine

/-! #### Link rows that name port 64 are about the coherent link -/

theorem exec_laneLock_scl (seen : List (BitVec 20 × Nat)) (s : State) :
    exec (.laneLock ⟨64, seen⟩) s = run s fun w => w.sclLock seen := rfl

theorem exec_ctrlTrain_scl (f : LinkFrame) (u : FrameUpset) (s : State) :
    exec (.ctrlTrain 64 f u) s = run s fun w => w.sclTrain f u := rfl

theorem exec_soakEnd_scl (syms : List Nat) (errors : Nat) (s : State) :
    exec (.soakEnd 64 syms errors) s = run s fun w => w.sclSoak syms errors := rfl

theorem ringOk_of {r : Nat} (hr : r < 64) : ringOk r = true := decide_eq_true hr

namespace W

variable {w : W}

/-! #### Training (R293) -/

theorem doSclEnable_on (hoff : w.flag Reg.SCL_CFG F.SCL_CFG_EN = false) :
    w.doSclEnable true =
      let w := w.setFlag Reg.SCL_CFG F.SCL_CFG_EN true
      (w.setHost { w.c.host with train := .lock, missed := false }).setSclState 1 := by
  rw [doSclEnable, if_neg (by simp [hoff])]
  rfl

theorem doSclEnable_off (hon : w.flag Reg.SCL_CFG F.SCL_CFG_EN = true) :
    w.doSclEnable false =
      let w := w.setFlag Reg.SCL_CFG F.SCL_CFG_EN false
      ((w.setHost { w.c.host with train := .none, missed := false, lines := [], link := sclRestart w.c.host.link }).setFld
        Reg.SCL_STATUS F.SCL_STATUS_VERSION 0).setSclState 0 := by
  rw [doSclEnable, if_neg (by simp [hon])]
  rfl

theorem sclLock_agreed {seen : List (BitVec 20 × Nat)} (htrain : w.c.host.train = .lock)
    (hagree : lanesAgree 16 seen = true) : w.sclLock seen = ((w.setSclState 1).sclPhase .identity).sclIdentity := by
  rw [sclLock, if_neg (by simp [htrain, hagree])]

/-- Nothing but control frames leaves a link that is not UP (R294). -/
theorem sclPump_of_down (hdown : w.sclUp = false) : w.sclPump = w := by
  have hsend : w.sclSendData = w := if_pos (by simp [hdown])
  have hsends (n : Nat) : (List.range n).foldl (fun w _ => w.sclSendData) w = w := by
    induction n with
    | zero => rfl
    | succ n ih => rw [List.range_succ, List.foldl_append, ih, List.foldl_cons, List.foldl_nil, hsend]
  exact hsends _

/-- A link in training is not UP, and stays so by an ACK. -/
theorem sclUp_sclAck_of_training (hstate : w.sclState = 1) (f : LinkFrame) : (w.sclAck f).sclUp = false := by
  have hsame : (w.sclAck f).sclUp = w.sclUp := rfl
  rw [hsame]
  exact beq_false_of_ne (by rw [sclState] at hstate; omega)

/-- The far end's identity, ROLE 1 with a version of at least 1, begins the soak. -/
theorem sclTrain_answered {f g : LinkFrame} {u : FrameUpset} {port dir ord version depth : Nat} {shares : List Nat}
    (htrain : w.c.host.train = .identity) (hstate : w.sclState = 1) (hframe : receivedFrame f u = some g)
    (htype : g.ftype = 2) (hargs : g.args = .train 1 port dir ord version shares depth) (hversion : 1 ≤ version) :
    w.sclTrain f u =
      let v := ((w.sclAck g).sclPhase .soak).setFld Reg.SCL_STATUS F.SCL_STATUS_VERSION 1
      (v.setHost { v.c.host with link := { v.c.host.link with shares := shares } }).setSclState 2 := by
  have hin : w.sclFrameIn f u = (some g, w.sclAck g) := by
    rw [sclFrameIn, if_neg (by omega), hframe]
    dsimp only
    rw [if_neg (by omega), sclPump_of_down (sclUp_sclAck_of_training hstate g)]
  have hphase : (w.sclAck g).c.host.train = .identity := htrain
  rw [sclTrain, hin]
  dsimp only
  rw [hargs]
  dsimp only
  rw [if_neg (not_not.2 hphase), if_pos ⟨rfl, hversion⟩]

theorem sclSoak_good {syms : List Nat} (htrain : w.c.host.train = .soak) (hsyms : ∀ n ∈ syms, n ≤ 2125000) :
    w.sclSoak syms 0 = (((w.sclPhase .none).setReg Reg.SCL_FAULT_INFO 0).setSclState 3).sclRelease := by
  rw [sclSoak, if_neg (not_not.2 htrain), if_neg (by simpa using hsyms)]

/-! #### Failure (R294) -/

theorem sclFail_inService {kind : Nat} (hstate : w.sclState = 3) (hkind : kind ≠ 5) (lanes lseq : Nat) :
    w.sclFail kind lanes lseq =
      let v := (w.setSclState 4).sclNote kind lanes lseq 3
      v.setHost { v.c.host with train := .lock, missed := false, lines := [], link := sclRestart v.c.host.link } := by
  rw [sclFail, if_neg (not_not.2 hstate), if_neg hkind]

/-- With no reset in progress a warm reset that the device orders itself by hardware starts at once (R373). -/
theorem doWarmReset_starts (hresets : w.c.resets = []) {cause : Nat} (hcause : cause ∉ [1, 3, 4]) (requester : Word) :
    w.doWarmReset cause requester = w.startWarm cause := by
  simp only [List.mem_cons, List.not_mem_nil, or_false, not_or] at hcause
  obtain ⟨hordered, hcp, hseq⟩ := hcause
  rw [doWarmReset, hresets, List.any_nil, if_neg Bool.false_ne_true, if_neg (fun h => hordered h.1), if_neg (by omega)]

theorem doModTimeout_due {c : Nat} (hsince : (w.cplRing c).since ≠ 0)
    (htime : w.fld (Reg.SCL_CPR_CFG c) F.SCL_CPR_CFG_MOD_US ≠ 0) :
    w.doModTimeout c = (w.setCplRing c { w.cplRing c with since := 0 }).sclEvent
      (w.fld (Reg.SCL_CPR_CFG c) F.SCL_CPR_CFG_VECTOR) (if w.errRing = some c then 2 else 1) c := by
  rw [doModTimeout]
  exact if_neg (by simp [hsince, htime])

end W

/-- Settles O46: each command by the phase of the training or the state of the link. -/
theorem hostLinkComesAndGoes : Obligations.HostLinkComesAndGoes := by
  unfold Obligations.HostLinkComesAndGoes
  intro s hl
  refine ⟨?on, ?off, ?lock, ?identity, ?soak, ?fail, ?down, ?moderation⟩
  case on => exact fun hoff => run_eq (f := fun w => w.doSclEnable true) hl (W.doSclEnable_on hoff)
  case off => exact fun hon => run_eq (f := fun w => w.doSclEnable false) hl (W.doSclEnable_off hon)
  case lock => exact fun seen htrain hagree => (exec_laneLock_scl seen s).trans (run_eq hl (W.sclLock_agreed htrain hagree))
  case identity =>
    intro f u g port order device version shares depth htrain hstate hframe htype hargs hversion w
    exact (exec_ctrlTrain_scl f u s).trans
      (run_eq hl (W.sclTrain_answered htrain hstate hframe htype hargs hversion))
  case soak => exact fun syms htrain hsyms => (exec_soakEnd_scl syms 0 s).trans (run_eq hl (W.sclSoak_good htrain hsyms))
  case fail =>
    exact fun kind lanes lseq hstate hkind =>
      run_eq (f := fun w => w.sclFail kind lanes lseq) hl (W.sclFail_inService hstate hkind lanes lseq)
  case down =>
    intro hdown henabled hvalid hkind hboot hresets
    have hserves : s.w.fld Reg.BOOT_STATUS F.BOOT_STATUS_STATE = 1 ∨ s.w.fld Reg.BOOT_STATUS F.BOOT_STATUS_STATE = 2 := by
      simpa using hboot
    have hdue : ¬ (s.w.sclUp = true ∨ ¬ s.w.flag Reg.SCL_CFG F.SCL_CFG_EN = true ∨
        ¬ s.w.flag Reg.SCL_FAULT_INFO F.SCL_FAULT_INFO_VALID = true ∨ 8 ≤ s.w.fld Reg.SCL_FAULT_INFO F.SCL_FAULT_INFO_KIND ∨
        s.w.fld Reg.BOOT_STATUS F.BOOT_STATUS_STATE = 0 ∨ s.w.fld Reg.BOOT_STATUS F.BOOT_STATUS_STATE = 3) := by
      simp only [hdown, henabled, hvalid, Bool.false_eq_true, not_true_eq_false, false_or]
      omega
    change execSclDownTimeout s = _
    rw [execSclDownTimeout]
    refine run_eq hl ?_
    rw [if_neg hdue, W.doWarmReset_starts hresets (by decide)]
  case moderation =>
    exact fun c hc hsince htime => runOn_eq hl (ringOk_of hc) (W.doModTimeout_due hsince htime)

end Sys2Proof.Machine
end

section
/-! ### Messages of the host (O47) -/

namespace Sys2Proof.Machine

namespace W

variable {w : W} {m : SclMsg}

/-! #### What sending on the coherent link leaves alone -/

section
variable {α : Type} (P : W → α) (hlink : ∀ (w : W) p, P (w.setHost { w.c.host with link := p }) = P w)
  (hemit : ∀ (w : W) o, P (w.emit o) = P w)
include hlink hemit

theorem sclSendFrame_keeps (w : W) (f : LinkFrame) : P (w.sclSendFrame f) = P w := by
  unfold sclSendFrame
  extract_lets p freed f' fs full p' cwc h v
  have hv : P v = P w := (hemit _ _).trans (hlink w p')
  rw [when, ← hv]
  split
  · exact List.foldlRecOn (motive := fun u : W => P u = P v) _ _ rfl fun u hu l _ => (hemit _ _).trans hu
  · rfl

theorem sclSendData_keeps (w : W) : P w.sclSendData = P w := by
  unfold sclSendData
  dsimp only
  split
  · rfl
  · split
    · rfl
    · exact (sclSendFrame_keeps P hlink hemit _ _).trans (hlink w _)

theorem sclPump_keeps (w : W) : P w.sclPump = P w :=
  List.foldlRecOn (motive := fun u : W => P u = P w) _ _ rfl fun u hu _ _ => (sclSendData_keeps P hlink hemit u).trans hu

theorem sclSendOn_keeps (hheld : ∀ (w : W) q, P (w.setHost { w.c.host with held := q }) = P w) (w : W) (vl : Nat) (m : SclMsg) :
    P (w.sclSendOn vl m) = P w := by
  unfold sclSendOn
  split
  · exact (sclPump_keeps P hlink hemit _).trans ((hemit _ _).trans (hlink w _))
  · exact hheld w _

end

theorem sclSend_reg (w : W) (m : SclMsg) (k : Nat) : (w.sclSend m).reg k = w.reg k :=
  sclSendOn_keeps (fun w => w.reg k) (fun _ _ => rfl) (fun _ _ => rfl) (fun _ _ => rfl) w _ m

theorem sclIssue_snooped (w : W) (m : SclMsg) (op : SclOp) : (w.sclIssue m op).c.host.snooped = w.c.host.snooped := by
  unfold sclIssue
  split
  · rfl
  · exact sclSendOn_keeps (fun w => w.c.host.snooped) (fun _ _ => rfl) (fun _ _ => rfl) (fun _ _ => rfl) _ _ _

theorem takeOp_snooped (w : W) (tag : Nat) : (w.takeOp tag).2.c.host.snooped = w.c.host.snooped := by
  change (w.freeTag tag).c.host.snooped = _
  unfold freeTag
  dsimp only
  split
  · rfl
  · exact sclIssue_snooped _ _ _

/-! #### Requests of the host (R296 to R298) -/

/-- A message with the type of its row and no reserved encoding is not refused as bad. -/
theorem not_bad {mtype : Nat} (hok : msgOk mtype m = true) : ¬ (!msgOk mtype m) = true := by simp [hok]

theorem doHrd_served (hok : msgOk mtHrd m = true) (hline : bits m.line 63 48 = 0) {place : Option (Nat × Nat)} {o n : Nat}
    (hplace : place.getD (0, 64) = (o, n)) {bs : List Byte} {v : W}
    (hread : w.farLine none (w64 0x1FF) (w.loc (m.line + w64 o)) n = (.ok bs false, v)) :
    w.doHrd m place = v.sclSend
      { mtype := 0x31, tag := m.tag, line := m.line,
        data := (List.replicate o 0 ++ bs ++ List.replicate 64 0).take 64 } := by
  rw [doHrd, if_neg (not_bad hok), if_neg (not_not.2 hline), hplace]
  -- what reading a line does plays no part, and is kept from being computed
  obtain ⟨readLine, hreadLine⟩ : ∃ f, f = @farLine := ⟨_, rfl⟩
  rw [← hreadLine] at hread ⊢
  dsimp only
  rw [hread]
  rfl

theorem doHwr_stored (hok : msgOk mtHwr m = true) (hline : bits m.line 63 48 = 0) (hwhole : m.masked = false)
    {bs : List Byte} {p : Bool} {v : W}
    (hwrite : w.farPut none (w64 0x1FF) (w.loc (m.line + w64 0)) (m.data.take 64) = (.ok bs p, v)) : w.doHwr m = v := by
  rw [doHwr, if_neg (not_bad hok), if_neg (not_not.2 hline), hwhole, if_neg Bool.false_ne_true]
  generalize hx : ((0, 64) : Nat × Nat) = x
  have hwrite' : w.farPut none (w64 0x1FF) (w.loc (m.line + w64 x.1)) ((m.data.drop x.1).take x.2) = (.ok bs p, v) :=
    hx ▸ hwrite
  rw [List.foldl_cons, List.foldl_nil, hwrite']

theorem doFlush_answered (hok : msgOk mtFlush m = true) :
    w.doFlush m = w.sclSend { mtype := 0x32, tag := m.tag, line := m.line } := if_neg (not_bad hok)

theorem doSnpInv_answered (hok : msgOk mtSnp m = true) :
    w.doSnpInv m =
      let a := m.line.toNat
      let held := w.c.host.lines.contains a
      let coming := (w.c.host.ops.filter fun o => o.2 == .shared a).map (·.1)
      let v := w.setHost { w.c.host with lines := w.c.host.lines.filter (· ≠ a), snooped := coming ++ w.c.host.snooped }
      let v := (v.count Reg.SCL_SNOOPS 1).sclSendOn 4
        { mtype := Config.snpRspType, tag := m.tag, arg := held.toNat, line := m.line }
      if held && v.slotWanted a then v.sclRequest 1 a [] (.shared a) else v := if_neg (not_bad hok)

/-! #### Answers of the host (R296) -/

/-- An answer with the type of its row goes by the purpose of its tag. -/
theorem doSclCmp_op (hok : msgOk mtCmp m = true) {op : SclOp} {v : W} (htake : w.takeOp m.tag = (some op, v)) :
    w.doSclCmp m =
      match (generalizing := false) op with
      | .accept j => v.accepted j
      | .completion j => match v.desc j with
        | none => v
        | some d => ((v.setDesc { d with phase := .finWait }).cplWritten d.cpr).pump
      | .finish j => v.finished j
      | .failRec j => match v.desc j with
        | none => v
        | some d => (v.setDesc { d with failRec := 3 }).tryCommit
      | .errRec c => v.cplWritten c
      | .dmaOut j _ => v.lineDone j
      | _ => v := by
  rw [doSclCmp, if_neg (not_bad hok), htake]
  cases op <;> rfl

/-- A line read shared is kept when no snoop has met it. -/
theorem doSclData_shared (hok : msgOk mtData m = true) {a : Nat} {v : W} (htake : w.takeOp m.tag = (some (.shared a), v))
    (hmet : m.tag ∉ w.c.host.snooped) : w.doSclData m = v.keepLine a := by
  have hsame : v.c.host.snooped = w.c.host.snooped := by rw [← takeOp_snooped w m.tag, htake]
  rw [doSclData, if_neg (not_bad hok), htake]
  exact if_neg (by simpa [hsame] using hmet)

/-- A line of a COPY_IN goes to device memory. -/
theorem doSclData_copied (hok : msgOk mtData m = true) {j o : Nat} {v : W} (htake : w.takeOp m.tag = (some (.dmaIn j o), v))
    {d : Desc} (hdesc : v.desc j = some d) {bs : List Byte} {u : W}
    (hput : v.farPut none (w64 0x1FF) (v.loc (d.devAddr + w64 o)) (m.data.take 64) = (.ok bs false, u)) :
    w.doSclData m = u.lineDone j := by
  rw [doSclData, if_neg (not_bad hok), htake]
  obtain ⟨writeLine, hwriteLine⟩ : ∃ f, f = @farPut := ⟨_, rfl⟩
  rw [← hwriteLine] at hput ⊢
  dsimp only
  rw [hdesc]
  dsimp only
  rw [hput]

theorem doSclErr_copy (hok : msgOk mtErr m = true) {j o : Nat} (hop : (w.takeOp m.tag).1 = some (.dmaIn j o)) :
    w.doSclErr m = ((w.takeOp m.tag).2.copyFail j 2).lineDone j := by
  obtain ⟨⟨tag, op⟩, hfind, rfl⟩ := Option.map_eq_some_iff.1 hop
  rw [doSclErr]
  rw [if_neg (not_bad hok)]
  rw [hfind]

/-! #### Doorbells (R300, R304) -/

/-- The index of the oldest descriptor of ring `r` whose completion has not been written. -/
def oldestOwed (w : W) (r : Nat) : Nat :=
  match (w.c.host.descs.filter fun d =>
    d.ring == r && !([DPhase.writing, .finWait, .finishing].contains d.phase)).head? with
  | some d => d.index
  | none => (w.cmdRing r).next

/-- The value `v` is outside the ring `r` (R300). -/
def doorbellBad (w : W) (r v : Nat) : Prop :=
  serialLater 32 (w.cmdRing r).prod v = true ∨
    2 ^ w.crLog r < (v + 2 ^ 32 - w.oldestOwed r % 2 ^ 32) % 2 ^ 32

theorem doCmdDb_inside {r v : Nat} (hv : v < 2 ^ 32) (hgood : ¬ w.doorbellBad r v) :
    w.doCmdDb r v = (w.setCmdRing r { w.cmdRing r with prod := v, armed := true }).pend (152 + r) := by
  rw [doCmdDb, Nat.mod_eq_of_lt hv]
  exact if_neg hgood

theorem doCmdDb_outside {r v : Nat} (hv : v < 2 ^ 32) (hbad : w.doorbellBad r v) :
    w.doCmdDb r v = (w.countErr Reg.SCL_DB_BAD).record
      { cls := 0x0D, kind := 0xB, sev := 0, info := (w.countErr Reg.SCL_DB_BAD).reg Reg.SCL_FAULT_INFO, aux := w64 v } := by
  rw [doCmdDb, Nat.mod_eq_of_lt hv, countErr_reg_ne w (k := Reg.SCL_DB_BAD) (j := Reg.SCL_FAULT_INFO) (by decide)]
  exact if_pos hbad

theorem doCplDb_eq {c v : Nat} (hv : v < 2 ^ 32) :
    w.doCplDb c v = ((w.setCplRing c { w.cplRing c with ci := v, armed := true }).pend (216 + c)).pump := by
  rw [doCplDb, Nat.mod_eq_of_lt hv]

end W

theorem exec_hwr (m : SclMsg) (s : State) : exec (.hwr m) s = run s fun w => (w.doHwr m).flushBus := rfl

theorem exec_sclData (m : SclMsg) (s : State) : exec (.sclData m) s = run s fun w => (w.doSclData m).flushBus := rfl

/-- Settles O47: requests by their row, answers by the purpose of their tag (`W.doSclCmp_op`), doorbells by their value. -/
theorem hostMessagesAreServed : Obligations.HostMessagesAreServed := by
  unfold Obligations.HostMessagesAreServed
  intro s m hl
  have stored {f : W → W} {w : W} (hf : f s.w = w) : run s (fun w => (f w).flushBus) = .next (s.after w.flushBus) :=
    run_eq hl (congrArg W.flushBus hf)
  have taken {op : Option SclOp} (hop : (s.w.takeOp m.tag).1 = op) : s.w.takeOp m.tag = (op, (s.w.takeOp m.tag).2) :=
    Prod.ext hop rfl
  refine ⟨?hrd, ?hwr, ?flush, ?snoop, ?shared, ?copied, ?cmp, ?err, ?doorbell⟩
  case hrd =>
    intro hok hline part bs w o hread
    exact run_eq (f := fun w => w.doHrd m part) hl (W.doHrd_served hok hline rfl hread)
  case hwr =>
    exact fun hok hline hwhole bs p w hwrite =>
      (exec_hwr m s).trans (stored (f := fun w => w.doHwr m) (W.doHwr_stored hok hline hwhole hwrite))
  case flush => exact fun hok => run_eq (f := fun w => w.doFlush m) hl (W.doFlush_answered hok)
  case snoop =>
    intro hok a held coming w v
    exact run_eq (f := fun w => w.doSnpInv m) hl (W.doSnpInv_answered hok)
  case shared =>
    exact fun hok a hop hmet =>
      (exec_sclData m s).trans (stored (f := fun w => w.doSclData m) (W.doSclData_shared hok (taken hop) hmet))
  case copied =>
    exact fun hok j o d bs w hop hdesc hput =>
      (exec_sclData m s).trans (stored (f := fun w => w.doSclData m) (W.doSclData_copied hok (taken hop) hdesc hput))
  case cmp =>
    intro hok w
    have answered {op : SclOp} (hop : (s.w.takeOp m.tag).1 = some op) :=
      run_eq (f := fun w => w.doSclCmp m) hl (W.doSclCmp_op hok (taken hop))
    refine ⟨?accept, ?completion, ?finish, ?failRec, ?errRec, ?dmaOut⟩
    case accept => exact fun j hop => answered hop
    case completion =>
      intro j d hop hdesc
      refine (answered hop).trans ?_
      dsimp only
      rw [hdesc]
    case finish => exact fun j hop => answered hop
    case failRec =>
      intro j d hop hdesc
      refine (answered hop).trans ?_
      dsimp only
      rw [hdesc]
    case errRec => exact fun c hop => answered hop
    case dmaOut => exact fun j o hop => answered hop
  case err =>
    exact fun hok j o hop => run_eq (f := fun w => w.doSclErr m) hl (W.doSclErr_copy hok hop)
  case doorbell =>
    intro r v hr hv x owed oldest bad
    exact ⟨fun hgood => runOn_eq hl (ringOk_of hr) (W.doCmdDb_inside hv hgood),
      fun hbad => runOn_eq hl (ringOk_of hr) (W.doCmdDb_outside hv hbad),
      runOn_eq hl (ringOk_of hr) (W.doCplDb_eq hv)⟩

end Sys2Proof.Machine
end

section
/-! ### Reading back a field, and what a change of the sequencer's state leaves -/

namespace Sys2Proof.Machine

theorem natBits_natPut_self (v : Nat) {hi lo x : Nat} (hx : x < 2 ^ (hi + 1 - lo)) : natBits (natPut v hi lo x) hi lo = x := by
  have hmod : v / 2 ^ lo - v / 2 ^ lo % 2 ^ (hi + 1 - lo) = 2 ^ (hi + 1 - lo) * (v / 2 ^ lo / 2 ^ (hi + 1 - lo)) := by
    have := Nat.div_add_mod (v / 2 ^ lo) (2 ^ (hi + 1 - lo))
    omega
  rw [natPut, natBits, natBits, Nat.mod_eq_of_lt hx, Nat.shiftRight_eq_div_pow, Nat.shiftRight_eq_div_pow,
    Nat.add_mul_div_right _ _ (Nat.two_pow_pos _), Nat.mul_comm, Nat.sub_mul_div, hmod, Nat.mul_add_mod, Nat.mod_eq_of_lt hx]

theorem bits_putBits_self (v : Word) {hi lo x : Nat} (hhi : hi < 64) (hx : x < 2 ^ (hi + 1 - lo)) :
    bits (putBits v hi lo x) hi lo = x := by
  rw [bits, putBits, w64, BitVec.toNat_ofNat, natBits_congr hhi (Nat.mod_mod _ _), natBits_natPut_self _ hx]

namespace W

theorem fld_setFld_self (w : W) (k : Nat) {f : Fld} {v : Nat} (hhi : f.hi < 64) (hv : v < 2 ^ (f.hi + 1 - f.lo)) :
    (w.setFld k f v).fld k f = v := by
  rw [fld, reg_setFld, if_pos rfl, bits_putBits_self _ hhi hv]

theorem pend_reg (w : W) {id j : Nat} (hmerged : j ≠ Reg.IC_MERGED) (hsrc : j ≠ Reg.IC_SRC (id - 64)) :
    (w.pend id).reg j = w.reg j := by
  obtain h | h | h := w.pend_cases id
  · rw [h]
  · rw [h, count_reg_ne _ _ hmerged]
  · rw [h, reg_setFlag_ne _ _ _ hsrc]

theorem errEvent_reg (w : W) (cls k : Nat) : (w.errEvent cls).reg k = w.reg k := by
  unfold errEvent
  split
  · exact sclSend_reg _ _ _
  · rfl

/-- LOADING is entered, and no STOP or drain ends with it. -/
theorem setSeqState_loading (w : W) : (w.setSeqState stLoading).seqState = stLoading := by
  have hstopped : (stLoading == stStopped) = false := by decide
  have hleaves : ¬ (stLoading = stIdle ∨ stLoading = stStopped) := by decide
  unfold setSeqState
  split
  · assumption
  · extract_lets u v
    have hv : v = u := by
      unfold v
      rw [hstopped]
      rfl
    have hu : u.reg Reg.SEQ_STATUS = (w.setFld Reg.SEQ_STATUS F.SEQ_STATUS_STATE stLoading).reg Reg.SEQ_STATUS := by
      unfold u
      rw [sensorEvent, emit_reg, errEvent_reg, pend_reg _ (by decide) (by decide)]
    calc (if stLoading = stIdle ∨ stLoading = stStopped then v.stopDone else v).seqState
      _ = v.seqState := by rw [if_neg hleaves]
      _ = (w.setFld Reg.SEQ_STATUS F.SEQ_STATUS_STATE stLoading).seqState := by rw [hv, seqState, fld, hu, seqState, fld]
      _ = stLoading := fld_setFld_self w _ (by decide) (by decide)

theorem setStepWd_c_seq (w : W) (v : Nat) : (w.setStepWd v).c.seq = w.c.seq := by
  unfold setStepWd
  exact List.foldlRecOn (motive := fun u : W => u.c.seq = w.c.seq) _ _ (setFld_c_seq _ _ _ _) fun u hu _ _ =>
    (setFld_c_seq u _ _ _).trans hu

end W

end Sys2Proof.Machine
end

section
/-! ### Descriptors in action (O48) -/

namespace Sys2Proof.Machine

namespace W

variable {w : W} {j : Nat} {d : Desc}

theorem setDesc_c_seq (w : W) (d : Desc) : (w.setDesc d).c.seq = w.c.seq := rfl

/-- A control descriptor at its turn completes with the status of its action (R301, R302). -/
theorem actNow_completes {op : Nat} {f : W → Nat × W} {v : W} {st : Nat} (hmay : w.mayAct j op = some d)
    (hstatus : d.status = 0) (hf : f w = (st, v)) : w.actNow j op f = v.complete j st 0 0 := by
  rw [actNow, hmay]
  dsimp only
  rw [if_neg (not_not.2 hstatus), hf]

theorem doFenceDesc_completes (hmay : w.mayAct j 0xC = some d) (hstatus : d.status = 0)
    (hfirst : ∀ e ∈ w.c.host.descs, j ≤ e.jsn) : w.doFenceDesc j = w.complete j 0 0 0 := by
  have hnone : ¬ (w.c.host.descs.any fun e => decide (e.jsn < j)) = true := by
    simpa using hfirst
  rw [doFenceDesc, if_neg hnone, actNow_completes hmay hstatus rfl]

theorem doStopDesc_stopped (hmay : w.mayAct j 7 = some d) (hstatus : d.status = 0) (hstopped : w.seqState = stStopped) :
    w.doStopDesc j = w.complete j 0 0 0 := by
  rw [doStopDesc, hmay]
  dsimp only
  rw [if_neg (not_not.2 hstatus), if_pos hstopped]

/-- The oldest STEPS raises the run limit (R303). -/
theorem doSteps_raises (hdesc : w.desc j = some d) (hphase : d.phase = .accepted) (hstatus : d.status = 0) (hop : d.opcode = 4)
    (hfirst : ∀ e ∈ w.c.host.descs, e.opcode = 4 → j ≤ e.jsn) :
    w.doSteps j = ((w.setDesc { d with phase := .acting }).setSeq { w.c.seq with
      runLimit := w.c.seq.runLimit + bits (d.words.getD 1 0) 31 0 }).jobLine.tryStart := by
  have hbefore : (w.c.host.descs.any fun e => e.opcode == 4 && e.status == 0 && decide (e.jsn < j) &&
      (e.phase == .accepting || e.phase == .accepted)) = false := by
    simp only [List.any_eq_false, Bool.and_eq_true, beq_iff_eq, decide_eq_true_eq]
    exact fun e he hmeets => absurd hmeets.1.2 (Nat.not_lt.2 (hfirst e he hmeets.1.1.1))
  rw [doSteps, hdesc]
  dsimp only
  rw [if_neg (by simp [hop, hphase, hstatus, hbefore])]
  rfl

theorem doCopy_inStep {op : Nat} (hdesc : w.desc j = some d) (hphase : d.phase = .accepted) (hstatus : d.status = 0)
    (hop : d.opcode = op) (hbound : d.bound = true) (hstart : d.start = w.stepNo) (hrun : w.c.seq.phase = .run)
    (hstate : w.seqState = stRun) : w.doCopy j op = w.copyStart j := by
  rw [doCopy, hdesc]
  exact if_pos ⟨hop, hphase, hstatus, .inl (by simp [hbound, hstart, hrun, hstate])⟩

theorem doResult_committed (hdesc : w.desc j = some d) (hphase : d.phase = .accepted) (hstatus : d.status = 0)
    (hop : d.opcode = 0x18) (hstep : d.step ≠ 0) : w.doResult j = w.outBytes j d.buf := by
  rw [doResult, hdesc]
  exact if_pos ⟨hop, hphase, hstatus, hstep⟩

theorem doDigest_taken (hdesc : w.desc j = some d) (hready : w.digestReady d = true)
    (hfirst : ∀ e ∈ w.c.host.descs, e.opcode ≠ 0x19 ∨ (e.phase ≠ .acting ∧ j ≤ e.jsn)) :
    w.doDigest j = w.setDesc { d with phase := .acting } := by
  have hnone : (w.c.host.descs.any fun e => e.opcode == 0x19 && (e.phase == .acting || (decide (e.jsn < j) && w.digestReady e)))
      = false := by
    refine List.any_eq_false.2 fun e he => ?_
    obtain hop | ⟨hphase, hle⟩ := hfirst e he
    · simp [hop]
    · simp [hphase, Nat.not_lt.2 hle]
  rw [doDigest, hdesc]
  exact if_neg (by simp [hready, hnone])

/-- The digest of a range read whole goes to the host (R332, R334). -/
theorem doDigestEnd_read
    (hacting : (w.c.host.descs.find? fun d => d.opcode == 0x19 && d.phase == .acting && d.buf == []) = some d)
    (hbound : d.bound = false) {bs : List Byte} {v : W}
    (hread : w.digestRead ((List.range ((d.words.getD 2 0).toNat / 128)).map fun i => (d.words.getD 1 0).toNat + 128 * i)
      = ((bs, none, false), v)) :
    w.doDigestEnd none =
      ((v.pend 296).setDesc { d with detail := w64 (d.words.getD 2 0).toNat, step := 0 }).outBytes d.jsn
        ((digestOf (d.words.getD 2 0).toNat (fun i => (bs.drop (4096 * i)).take 4096) ++ List.replicate 64 0).take 64) := by
  rw [doDigestEnd, hacting]
  simp only [hbound, Bool.false_eq_true, if_false, Option.filter_none, hread, Option.map_none, Option.orElse_none]

theorem doRemap_answered (hmay : w.mayAct j 0x20 = some d) (hstatus : d.status = 0) {r : Nat × Nat × W}
    (hremap : w.remapNow (d.words.getD 1 0) = r) : w.doRemap j = r.2.2.complete j r.1 (w64 r.2.1) 0 := by
  obtain ⟨st, n, v⟩ := r
  rw [doRemap, hmay]
  dsimp only
  rw [if_neg (not_not.2 hstatus), hremap]

theorem doDefects_answered (hmay : w.mayAct j 0x21 = some d) (hstatus : d.status = 0) :
    w.doDefects j = (w.setDesc { d with detail := w64 w.c.flash.gen }).outBytes j w.c.flash.mapCopy := by
  rw [doDefects, hmay]
  exact if_neg (not_not.2 hstatus)

theorem doReplace_begins {forward : Bool} {i : Img} (hmay : w.mayAct j 3 = some d) (hstatus : d.status = 0)
    (hstate : w.seqState = stStopped) (himg : w.c.seq.img = some i) :
    w.doReplace j forward =
      ((w.setDesc { d with phase := .acting }).setSeq
        { w.c.seq with load := some { start := 0, place := bits (d.words.getD 1 0) 7 0, init := 0, jsn := j, bytes := 0 } }).finishLoad
        (bits (d.words.getD 1 0) 7 0) none forward stStopped := by
  have hmayLoad : ¬ ((w.setDesc { d with phase := .acting }).seqState ≠ stStopped ∨
      (w.setDesc { d with phase := .acting }).c.seq.img.isNone = true) := by
    rintro (h | h)
    · exact h hstate
    · rw [setDesc_c_seq, himg] at h
      exact absurd h Bool.false_ne_true
  rw [doReplace, hmay]
  dsimp only
  rw [if_neg (not_not.2 hstatus), if_neg hmayLoad]
  rfl

/-- LOAD of an image with a good header: LOADING, its digest in work, the image's fields from its header (R176, R178). -/
theorem doLoad_begins {u : MemUpset} (hmay : w.mayAct j 2 = some d) (hstatus : d.status = 0) (hidle : w.seqState = stIdle)
    (hen : w.flag Reg.SEQ_CFG F.SEQ_CFG_EN = true) (hown : bit (d.words.getD 3 0) 8 = false) {hd img : List Byte × W}
    (hhd : (w.setDesc { d with phase := .acting }).devRead (d.words.getD 1 0) 16 u = hd)
    (himg : hd.2.devRead (d.words.getD 1 0) (max 256 (leNat ((hd.1.drop 8).take 8))) = img) (hheader : headerOk img.1 = true) :
    ∃ (y : W) (i : Img), w.doLoad j u = (y.setSeqState stLoading).setSeq { y.c.seq with img := some i, phase := .digest } ∧
      y.c.seq.load = some { start := (d.words.getD 2 0).toNat, place := bits (d.words.getD 3 0) 7 0,
                            init := bits (d.words.getD 3 0) 63 32, jsn := j, bytes := img.1.length } ∧
      i.addr = d.words.getD 1 0 ∧ i.digest = (img.1.drop 0x30).take 64 ∧
      i.commitBase = w64 (leNat ((img.1.drop 0x20).take 8)) ∧ i.view = imageView img.1 := by
  obtain ⟨hd, v⟩ := hd
  obtain ⟨img, x⟩ := img
  have hidle' : ¬ (w.setDesc { d with phase := .acting }).seqState ≠ stIdle := not_not.2 hidle
  have hen' : ¬ (!(w.setDesc { d with phase := .acting }).flag Reg.SEQ_CFG F.SEQ_CFG_EN) = true := by
    rw [show (w.setDesc { d with phase := .acting }).flag Reg.SEQ_CFG F.SEQ_CFG_EN = true from hen]
    decide
  rw [doLoad, hmay]
  -- what reading the image does plays no part, and is kept from being computed
  obtain ⟨readDev, hreadDev⟩ : ∃ f, f = @devRead := ⟨_, rfl⟩
  rw [← hreadDev] at hhd himg ⊢
  dsimp only
  rw [if_neg (not_not.2 hstatus), if_neg hidle', if_neg hen', hhd]
  dsimp only
  rw [himg]
  dsimp only
  rw [hheader, if_neg (by decide), hown, if_neg Bool.false_ne_true]
  refine ⟨_, _, rfl, ?_, rfl, rfl, rfl, rfl⟩
  rw [setFld_c_seq, setStepWd_c_seq]
  rfl

end W

/-- Settles O48: each descriptor by what its action finds (`W.actNow_completes`, `W.doSteps_raises`, `W.doLoad_begins`). -/
theorem descriptorsAct : Obligations.DescriptorsAct := by
  unfold Obligations.DescriptorsAct
  intro s j d hl hstatus
  have acts {op st : Nat} {f : W → Nat × W} {v : W} (hmay : s.w.mayAct j op = some d) (hf : f s.w = (st, v)) :
      run s (fun w => w.actNow j op f) = .next (s.after (v.complete j st 0 0)) :=
    run_eq hl (W.actNow_completes hmay hstatus hf)
  refine ⟨?nop, ?fence, ?stop, ?resume, ?unload, ?abort, ?drain, ?bound, ?digestDone, ?remap, ?defects, ?load, ?replace⟩
  case nop => exact fun hmay => acts hmay rfl
  case fence => exact fun hmay hfirst => run_eq (f := fun w => w.doFenceDesc j) hl (W.doFenceDesc_completes hmay hstatus hfirst)
  case stop => exact fun hmay hstopped => run_eq (f := fun w => w.doStopDesc j) hl (W.doStopDesc_stopped hmay hstatus hstopped)
  case resume => exact fun hmay hresume => acts hmay (if_pos hresume)
  case unload => exact fun hmay hstopped => acts hmay (if_pos (.inl hstopped))
  case abort => exact fun hmay hrun => acts hmay (if_pos (.inl hrun))
  case drain => exact fun hmay hrun => acts hmay (if_pos (.inl hrun))
  case bound =>
    intro hdesc hphase
    refine ⟨?steps, ?copy, ?result, ?digest⟩
    case steps =>
      intro hop hfirst w
      exact run_eq (f := fun w => w.doSteps j) hl (W.doSteps_raises hdesc hphase hstatus hop hfirst)
    case copy =>
      exact fun hbound hstart hrun hstate =>
        ⟨fun hop => run_eq (f := fun w => w.doCopy j 5) hl (W.doCopy_inStep hdesc hphase hstatus hop hbound hstart hrun hstate),
          fun hop => run_eq (f := fun w => w.doCopy j 6) hl (W.doCopy_inStep hdesc hphase hstatus hop hbound hstart hrun hstate)⟩
    case result => exact fun hop hstep => run_eq (f := fun w => w.doResult j) hl (W.doResult_committed hdesc hphase hstatus hop hstep)
    case digest => exact fun hready hfirst => run_eq (f := fun w => w.doDigest j) hl (W.doDigest_taken hdesc hready hfirst)
  case digestDone =>
    intro hacting hbound a n bs w hread leaf
    exact run_eq (f := fun w => w.doDigestEnd none) hl (W.doDigestEnd_read hacting hbound hread)
  case remap =>
    intro hmay r
    exact run_eq (f := fun w => w.doRemap j) hl (W.doRemap_answered hmay hstatus rfl)
  case defects => exact fun hmay => run_eq (f := fun w => w.doDefects j) hl (W.doDefects_answered hmay hstatus)
  case load =>
    intro hmay hidle hen hown w u hd img h hheader
    have hhd : w.devRead (d.words.getD 1 0) 16 u = hd := rfl
    have himg : hd.2.devRead (d.words.getD 1 0) (max 256 (leNat ((hd.1.drop 8).take 8))) = img := rfl
    clear_value img hd
    obtain ⟨y, i, hload, hjob, haddr, hdigest, hcommit, hview⟩ :=
      W.doLoad_begins (u := u) hmay hstatus hidle hen hown hhd himg hheader
    exact ⟨_, i, run_eq (f := fun w => w.doLoad j u) hl hload, W.setSeqState_loading y, rfl, rfl, haddr, hdigest, hcommit, hview,
      hjob⟩
  case replace =>
    intro forward i hmay hstate himg want w
    exact run_eq (f := fun w => w.doReplace j forward) hl (W.doReplace_begins hmay hstatus hstate himg)

end Sys2Proof.Machine
end

section
/-! ### The accept of a descriptor (O49) -/

namespace Sys2Proof.Machine

namespace W

variable {w : W} {r : Nat} {bs : List Byte} {blk : Option (List Byte)}

theorem keepLine_reg (w : W) (a k : Nat) : (w.keepLine a).reg k = w.reg k := by
  unfold keepLine
  extract_lets ls set old
  split
  · rfl
  · exact sclSend_reg _ _ _

/-- The slot of the next descriptor of ring `r` has been read, and its line is kept (R298, R300). -/
def slotRead (w : W) (r : Nat) : W :=
  (w.sclSend { mtype := 1, tag := w.sclTag.getD 0, line := w64 (w.slotLine r) }).keepLine (w.slotLine r)

/-- The digest block of a RESULT with the words `ws` has been read (R331). -/
def blockRead (w : W) (ws : List Word) : W :=
  w.when (bits (ws.getD 0 0) 7 0 == 0x18) fun w => [0, 64].foldl (fun w o =>
    w.sclSend { mtype := 2, tag := w.sclTag.getD 0, line := w64 ((ws.getD 2 0).toNat / 64 * 64 + o) }) w

theorem slotRead_reg (w : W) (r k : Nat) : (w.slotRead r).reg k = w.reg k := (keepLine_reg _ _ _).trans (sclSend_reg _ _ _)

theorem blockRead_reg (w : W) (ws : List Word) (k : Nat) : (w.blockRead ws).reg k = w.reg k := by
  unfold blockRead when
  split
  · exact (sclSend_reg _ _ _).trans (sclSend_reg _ _ _)
  · rfl

theorem crLog_congr {v w : W} (h : ∀ k, v.reg k = w.reg k) (r : Nat) : v.crLog r = w.crLog r := by
  rw [crLog, crLog, fld, fld, h]

/-- Ring `r` may accept its next descriptor (R300, R307, R308, R310). -/
structure MayAccept (w : W) (r c : Nat) : Prop where
  up : w.sclUp = true
  jrnl : w.flag Reg.SCL_JRNL_CFG F.SCL_JRNL_CFG_EN = true
  enabled : w.flag (Reg.SCL_CR_CFG r) F.SCL_CR_CFG_EN = true
  armed : (w.cmdRing r).armed = true
  cplArmed : (w.cplRing c).armed = true
  cplEnabled : w.flag (Reg.SCL_CPR_CFG c) F.SCL_CPR_CFG_EN = true
  due : (w.cmdRing r).next ≠ (w.cmdRing r).prod
  tag : w.sclTag.isSome = true
  jrnlRoom : w.jrnlRoom = true
  alone : ∀ e ∈ w.c.host.descs, e.ring = r → e.phase ≠ .accepting
  room : ((w.cplRing c).next + 2 ^ 32 - (w.cplRing c).ci) % 2 ^ 32 < 2 ^ w.cprLog c
  slots : ∀ e ∈ w.c.host.descs, e.cpr = c → ((w.cplRing c).next + 2 ^ 32 - e.cslot) % 2 ^ 32 < 2 ^ w.cprLog c

/-- Under `MayAccept` the accept of a slot that answered reads it, and goes by its phase. -/
theorem doAccept_of_may (h : w.MayAccept r (w.fld (Reg.SCL_CR_CFG r) F.SCL_CR_CFG_CPR)) :
    w.doAccept r (some bs) blk =
      let cr := w.cmdRing r
      let c := w.fld (Reg.SCL_CR_CFG r) F.SCL_CR_CFG_CPR
      let ring := w.cplRing c
      let ws := (List.range 8).map (payWord bs)
      if bits (ws.getD 0 0) 16 16 ≠ phaseBit (w.crLog r) cr.next then w.slotRead r
      else
        let v := (w.slotRead r).blockRead ws
        let (status, bound, start, target) := v.precheck ws blk
        let d : Desc :=
          { jsn := v.c.host.jsn, ring := r, index := cr.next, cpr := c, cslot := ring.next, words := ws, bound := bound,
            start := start, target := target, dcrc := crc32c (bs.take 64), status := status,
            buf := if bits (ws.getD 0 0) 7 0 = 0x18 then blk.getD [] else [] }
        let v := (v.setCmdRing r { cr with next := (cr.next + 1) % 2 ^ 32 }).setCplRing c
          { ring with next := (ring.next + 1) % 2 ^ 32 }
        let v := v.setHost { v.c.host with descs := v.c.host.descs ++ [d] }
        v.jrnlWrite d 1 status start target (.accept d.jsn) := by
  obtain ⟨up, jrnl, enabled, armed, cplArmed, cplEnabled, due, tag, jrnlRoom, alone, room, slots⟩ := h
  unfold doAccept
  extract_lets cr cfg c ring size room' may a v ws v₁ v₂ u₁ u₂ h₂ c' ring' ws' x x₂ hx
  have hroom : room' = true := by
    simp only [room', Bool.and_eq_true, decide_eq_true_eq, Bool.not_eq_true', List.any_eq_false, beq_iff_eq, not_and]
    exact ⟨room, fun e he hc => Nat.not_le.2 (slots e he hc)⟩
  have hmay : ¬ (!may) = true := by
    simpa [may, up, jrnl, enabled, armed, cplArmed, cplEnabled, due, tag, jrnlRoom, hroom, cr, cfg, c, ring] using alone
  have hv₁ : v₁ = w.slotRead r := if_pos Option.isSome_some
  have hlog₁ : v₁.crLog r = w.crLog r := by rw [hv₁, crLog_congr (slotRead_reg w r)]
  rw [if_neg hmay]
  by_cases hphase : bits (ws.getD 0 0) 16 16 = phaseBit (w.crLog r) cr.next
  · have hv₂ : v₂ = (w.slotRead r).blockRead ws := by
      unfold v₂
      rw [hlog₁, hphase, beq_self_eq_true, hv₁, Option.isSome_some, Bool.true_and, Bool.true_and]
      rfl
    have hlog₂ : v₂.crLog r = w.crLog r := by
      rw [hv₂]
      exact crLog_congr (fun k => (blockRead_reg _ _ k).trans (slotRead_reg w r k)) r
    rw [if_neg (fun h => h.2 (hphase.trans (by rw [hlog₂]))), if_neg (not_not.2 hphase), if_pos Option.isSome_some]
    obtain ⟨⟨status, bound, start, target⟩, hcheck⟩ : ∃ c, c = ((w.slotRead r).blockRead ws).precheck ws blk := ⟨_, rfl⟩
    clear_value v₂
    subst hv₂
    rw [← hcheck]
  · have hv₂ : v₂ = w.slotRead r := by
      unfold v₂
      rw [hlog₁, beq_eq_false_iff_ne.2 hphase, Bool.and_false, Bool.false_and, when, if_neg Bool.false_ne_true, hv₁]
    rw [hv₂, if_pos ⟨Option.isSome_some, by rwa [crLog_congr (slotRead_reg w r)]⟩, if_pos hphase]

/-- A slot of this phase takes the next JSN and completion slot, and is journalled with the status of its checks. -/
theorem doAccept_taken {c : Nat} (h : w.MayAccept r c) (hc : w.fld (Reg.SCL_CR_CFG r) F.SCL_CR_CFG_CPR = c) {ws : List Word}
    (hws : (List.range 8).map (payWord bs) = ws) (hphase : bits (ws.getD 0 0) 16 16 = phaseBit (w.crLog r) (w.cmdRing r).next)
    {v : W} (hv : (w.slotRead r).blockRead ws = v) {status start target : Nat} {bound : Bool}
    (hcheck : v.precheck ws blk = (status, bound, start, target)) :
    w.doAccept r (some bs) blk =
      let cr := w.cmdRing r
      let ring := w.cplRing c
      let d : Desc :=
        { jsn := v.c.host.jsn, ring := r, index := cr.next, cpr := c, cslot := ring.next, words := ws, bound := bound,
          start := start, target := target, dcrc := crc32c (bs.take 64), status := status,
          buf := if bits (ws.getD 0 0) 7 0 = 0x18 then blk.getD [] else [] }
      let v := (v.setCmdRing r { cr with next := (cr.next + 1) % 2 ^ 32 }).setCplRing c
        { ring with next := (ring.next + 1) % 2 ^ 32 }
      let v := v.setHost { v.c.host with descs := v.c.host.descs ++ [d] }
      v.jrnlWrite d 1 status start target (.accept d.jsn) := by
  subst hc hws hv
  rw [doAccept_of_may h]
  dsimp only
  rw [if_neg (not_not.2 hphase), hcheck]

end W

/-- Settles O49: the slot is read, and its phase decides (`W.doAccept_of_may`). -/
theorem descriptorsAreAccepted : Obligations.DescriptorsAreAccepted := by
  unfold Obligations.DescriptorsAreAccepted
  intro s r bs blk hl hr cr c ring up jrnl enabled armed cplArmed cplEnabled due tag jrnlRoom alone room slots w ws
  have hmay : s.w.MayAccept r c :=
    ⟨up, jrnl, enabled, armed, cplArmed, cplEnabled, due, tag, jrnlRoom, alone, room, slots⟩
  refine ⟨?other, ?taken⟩
  case other =>
    exact fun hphase => runOn_eq hl (ringOk_of hr) ((W.doAccept_of_may hmay).trans (if_pos hphase))
  case taken =>
    intro hphase w'
    obtain ⟨⟨status, bound, start, target⟩, hcheck⟩ : ∃ c, c = w'.precheck ws blk := ⟨_, rfl⟩
    rw [← hcheck]
    exact runOn_eq hl (ringOk_of hr) (W.doAccept_taken hmay rfl rfl hphase rfl hcheck.symm)

end Sys2Proof.Machine
end

section
/-! ### Self-test and the test access port (O50) -/

namespace Sys2Proof.Machine

namespace W

variable {w : W}

/-- A tick in a half that waits for one, with no target, takes the next (R343). -/
theorem doTick_starts {h : Nat} (hrot : w.rotating h = true) (hnone : (w.pend 293).halfTest h = none)
    (hstate : (w.pend 293).fld (Reg.ST_HALF h) F.ST_HALF_STATE = 1) :
    w.doTick h =
      let r := (w.pend 293).startHalf h true
      if r.fld (Reg.ST_HALF h) F.ST_HALF_STATE = 5 ∧ r.spared h = true ∧ (r.halfTest h).isNone = true then r.idleHalf h
      else r := by
  have hfree : ¬ (((w.pend 293).halfTest h).isSome = true ∨ 1 = 2 ∨ 1 = 3 ∨ 1 = 4) := by simp [hnone]
  rw [doTick, hrot]
  dsimp only
  rw [if_neg (by decide), hstate, if_neg hfree, if_neg one_ne_zero]

/-- An element that ends is judged by its signature, a march element against 0 (R339). -/
theorem doElementDone_judged (w : W) (elem unit : Nat) (r : ElemResult) :
    w.doElementDone elem unit r =
      let r := { r with expected := if isMarch elem then 0 else r.expected }
      w.elementEnds elem unit (if r.sig = r.expected then 0 else 1) r := by
  unfold doElementDone
  by_cases h : isMarch elem = true
  · rw [if_pos h, if_pos h]
  · rw [if_neg h, if_neg h]

/-- A TEST descriptor at its turn, of the row's SCOPE (R349). -/
theorem doTest_begins {j scope : Nat} {d : Desc} (hmay : w.mayAct j 0x10 = some d) (hstatus : d.status = 0)
    (hscope : bits (d.words.getD 1 0) 7 0 = scope) (halign : (d.words.getD 2 0).toNat % 64 = 0) {r : Nat × W}
    (hstart : (w.setDesc { d with phase := .acting }).startTest scope (bits (d.words.getD 1 0) 31 16)
      (bit (d.words.getD 1 0) 32) (bits (d.words.getD 4 0) 15 0) (d.words.getD 5 0) (some j) 2 = r) :
    w.doTest j scope = if r.1 = 0 then r.2 else r.2.complete j r.1 0 0 := by
  obtain ⟨st, v⟩ := r
  have hrow : ¬ (bits (d.words.getD 1 0) 7 0 ≠ scope ∧ 1 ≤ bits (d.words.getD 1 0) 7 0 ∧ bits (d.words.getD 1 0) 7 0 ≤ 8) :=
    fun h => h.1 hscope
  rw [doTest, hmay]
  dsimp only
  rw [if_neg (not_not.2 hstatus), if_neg hrow, if_neg (not_not.2 halign), hscope, hstart]

theorem idcode_eq (w : W) : w.idcode = 2 ^ 28 + w.c.fuses.part * 2 ^ 12 + 0x2B5 * 2 + 1 := by
  rw [idcode, Nat.one_mul]

theorem not_closed (hopen : w.tapOpen = true) : ¬ (!w.tapOpen) = true := by simp [hopen]

theorem closed (hclosed : w.tapOpen = false) : (!w.tapOpen) = true := by simp [hclosed]

theorem doStCmd_open (hopen : w.tapOpen = true) (ws : List Word) :
    w.doStCmd ws = ((w.setTap 0x20).startTest (bits (ws.getD 1 0) 7 0) (bits (ws.getD 1 0) 31 16) (bit (ws.getD 1 0) 32)
      (bits (ws.getD 4 0) 15 0) (ws.getD 5 0) none 3).2 :=
  if_neg (not_closed hopen)

/-- An entry of the log that the port has not read goes out (R351). -/
theorem doStResult_open (hopen : w.tapOpen = true)
    (hleft : max w.c.test.tapRead (w.fld Reg.ST_LOG_HEAD ⟨31, 0⟩ - 8192) < w.fld Reg.ST_LOG_HEAD ⟨31, 0⟩) :
    w.doStResult =
      let n := max w.c.test.tapRead (w.fld Reg.ST_LOG_HEAD ⟨31, 0⟩ - 8192)
      (w.setTest { w.c.test with tapRead := n + 1 }).tapOut 0x21 (wordBytes (w.regWords (Reg.ST_LOG (8 * (n % 8192))) 8)) := by
  rw [doStResult, if_neg (not_closed hopen)]
  exact if_neg (Nat.not_le.2 hleft)

end W

/-- The row of a SCOPE carries out its test. -/
theorem exec_test {scope j : Nat} {i : Instr} (h : TestCommand scope j i) (s : State) :
    exec i s = run s fun w => w.doTest j scope := by
  obtain ⟨rfl, rfl⟩ | ⟨rfl, rfl⟩ | ⟨rfl, rfl⟩ | ⟨rfl, rfl⟩ | ⟨rfl, rfl⟩ | ⟨rfl, rfl⟩ | ⟨rfl, rfl⟩ | ⟨rfl, rfl⟩ := h <;> rfl

/-- Settles O50: a tick by `W.doTick_starts`, TEST descriptors by their row's SCOPE, the access port by whether it is open. -/
theorem selfTests : Obligations.SelfTests := by
  unfold Obligations.SelfTests
  intro s hl
  have ha := aux_of_live hl
  refine ⟨?tick, ?done, ?timeout, ?test, ?boundary, ?idcode, ?clamp, ?highz, ?bypass, ?reset, ?closed, ?opened⟩
  case tick =>
    intro h hh hrot w hnone hstate r
    exact runOn_eq hl (decide_eq_true hh) (W.doTick_starts hrot hnone hstate)
  case done =>
    intro elem unit r r'
    exact run_eq (f := fun w => w.doElementDone elem unit r) hl (s.w.doElementDone_judged elem unit r)
  case timeout => exact fun elem unit => run_eq (f := fun w => w.doElementTimeout elem unit) hl rfl
  case test =>
    intro scope j i d hrow hmay hstatus hscope halign r
    exact (exec_test hrow s).trans (run_eq hl (W.doTest_begins hmay hstatus hscope halign rfl))
  case boundary => exact ⟨runAux_eq (f := fun w => w.boundary 0) ha rfl, runAux_eq (f := fun w => w.boundary 2) ha rfl⟩
  case idcode =>
    exact runAux_eq (f := fun w => w.tapOut 1 (leBytes 4 w.idcode)) ha
      (congrArg (fun n => s.w.tapOut 1 (leBytes 4 n)) s.w.idcode_eq)
  case clamp => exact runAux_eq (f := fun w => w.setTap 3) ha rfl
  case highz => exact runAux_eq (f := fun w => w.setTap 4) ha rfl
  case bypass => exact runAux_eq (f := fun w => w.setTap bypassCode) ha rfl
  case reset => exact runAux_eq (f := fun w => w.setTap 1) ha rfl
  case closed =>
    exact fun hclosed => ⟨fun ws => run_eq (f := fun w => w.doStCmd ws) hl (if_pos (W.closed hclosed)),
      runAux_eq (f := fun w => w.doStResult) ha (if_pos (W.closed hclosed))⟩
  case opened =>
    refine fun hopen => ⟨fun ws => run_eq (f := fun w => w.doStCmd ws) hl (W.doStCmd_open hopen ws), ?_⟩
    intro head n hleft
    exact runAux_eq (f := fun w => w.doStResult) ha (W.doStResult_open hopen hleft)

end Sys2Proof.Machine
end

section
/-! ### Fences and spares (O52) -/

namespace Sys2Proof.Machine

/-- Replacing the field [hi:lo] leaves the bits above `hi`. -/
theorem natPut_div (v x : Nat) {hi lo : Nat} (hlo : lo ≤ hi) : natPut v hi lo x / 2 ^ (hi + 1) = v / 2 ^ (hi + 1) := by
  have hpow : 2 ^ lo * 2 ^ (hi + 1 - lo) = 2 ^ (hi + 1) := by rw [← Nat.pow_add]; congr 1; omega
  have hx : x % 2 ^ (hi + 1 - lo) < 2 ^ (hi + 1 - lo) := Nat.mod_lt _ (Nat.two_pow_pos _)
  have hlow : v / 2 ^ lo / 2 ^ (hi + 1 - lo) = v / 2 ^ (hi + 1) := by rw [Nat.div_div_eq_div_mul, hpow]
  have hput : natPut v hi lo x / 2 ^ lo = 2 ^ (hi + 1 - lo) * (v / 2 ^ (hi + 1)) + x % 2 ^ (hi + 1 - lo) := by
    have hsplit := Nat.div_add_mod (v / 2 ^ lo) (2 ^ (hi + 1 - lo))
    rw [hlow] at hsplit
    rw [natPut, natBits, Nat.shiftRight_eq_div_pow, Nat.add_mul_div_right _ _ (Nat.two_pow_pos _), Nat.mul_comm,
      Nat.sub_mul_div]
    omega
  rw [← hpow, ← Nat.div_div_eq_div_mul, hput, Nat.mul_add_div (Nat.two_pow_pos _), Nat.div_eq_of_lt hx, hpow, Nat.add_zero]

theorem bits_putBits_above (v : Word) {hi lo hi' lo' : Nat} (x : Nat) (hlt : hi' < lo) (hle : lo' ≤ hi') (hhi : hi < 64) :
    bits (putBits v hi' lo' x) hi lo = bits v hi lo := by
  have hdiv : natPut v.toNat hi' lo' x / 2 ^ lo = v.toNat / 2 ^ lo := by
    have hpow : 2 ^ lo = 2 ^ (hi' + 1) * 2 ^ (lo - (hi' + 1)) := by rw [← Nat.pow_add]; congr 1; omega
    rw [hpow, ← Nat.div_div_eq_div_mul, natPut_div _ _ hle, Nat.div_div_eq_div_mul]
  rw [bits, putBits, w64, BitVec.toNat_ofNat, natBits_congr hhi (Nat.mod_mod _ _), natBits, Nat.shiftRight_eq_div_pow, hdiv,
    ← Nat.shiftRight_eq_div_pow]
  rfl

namespace W

variable {w : W} {p : Nat}

theorem fld_setFld_above (w : W) (k : Nat) {f g : Fld} (v : Nat) (hlt : f.hi < g.lo) (hle : f.lo ≤ f.hi) (hhi : g.hi < 64) :
    (w.setFld k f v).fld k g = w.fld k g := by
  rw [fld, fld, reg_setFld, if_pos rfl, bits_putBits_above _ _ hlt hle hhi]

theorem setRegWords_reg (w : W) (k : Nat) (ws : List Word) {j : Nat} (hj : ∀ i < ws.length, j ≠ k + 8 * i) :
    (w.setRegWords k ws).reg j = w.reg j := by
  unfold setRegWords
  exact List.foldlRecOn (motive := fun u : W => u.reg j = w.reg j) _ _ rfl fun u hu x hx =>
    (reg_setReg_ne _ _ (hj _ (List.snd_lt_of_mem_zipIdx hx))).trans hu

/-- Clearing a LIVE bit of a landing leaves the registers of the galleries. -/
theorem setRegMask_live_reg (w : W) {b : Nat} (m : Mask) (hb : b ≤ 1) :
    (w.setRegMask (Reg.LIVE p b 0) m).reg (Reg.GAL_FENCE p) = w.reg (Reg.GAL_FENCE p) := by
  refine setRegWords_reg _ _ _ fun i hi => ?_
  rw [List.length_map, List.length_range] at hi
  unfold Reg.LIVE Reg.GAL_FENCE galBase lndBase
  omega

theorem fenceIsland_fenced (w : W) (p : Nat) : (w.fenceIsland p).flag (Reg.GAL_FENCE p) F.GAL_FENCE_FENCED = true := by
  have hlnd : Reg.GAL_FENCE p ≠ Reg.LND_STATUS p := by
    unfold Reg.GAL_FENCE Reg.LND_STATUS galBase lndBase
    omega
  unfold fenceIsland
  extract_lets k u v x
  split
  next hfenced =>
    rw [flag, setFlag, fld_setFld_above _ _ _ (by decide) (by decide) (by decide)]
    exact hfenced
  next =>
    have hx : x.reg k = v.reg k := by
      unfold x k
      rw [List.foldl_cons, List.foldl_cons, List.foldl_nil, setRegMask_live_reg _ _ (Nat.le_refl 1),
        setRegMask_live_reg _ _ (Nat.zero_le 1)]
    have hu : u.fld k F.GAL_FENCE_FENCED = 1 := by
      unfold u
      rw [setFlag, fld_setFld_below _ _ _ (by decide) (by decide), setFlag]
      exact fld_setFld_self _ _ (by decide) (by decide)
    have hfld : x.fld k F.GAL_FENCE_FENCED = 1 := by rw [fld, hx, reg_setFlag_ne _ _ _ hlnd, ← fld, hu]
    clear_value x
    change (x.fld k F.GAL_FENCE_FENCED != 0) = true
    rw [hfld]
    rfl

theorem galRuns_fenceIsland (w : W) (p : Nat) : (w.fenceIsland p).galRuns p = false := by
  simp [galRuns, fenceIsland_fenced]

theorem doUnfence_lifts {requester : Word} (hreset : p ∈ w.c.wasReset) (hpassed : w.passedAt p ≠ 0) :
    w.doUnfence p requester = w.liftFence p := if_pos ⟨List.contains_iff_mem.2 hreset, hpassed⟩

theorem doUnfence_refused {requester : Word} (h : p ∉ w.c.wasReset ∨ w.passedAt p = 0) :
    w.doUnfence p requester = w.recordAccess 2 (Reg.GAL_FENCE p) requester :=
  if_neg fun hmay => h.elim (fun hreset => hreset (List.contains_iff_mem.1 hmay.1)) hmay.2

/-- The reload of a spare succeeds: the remap is over and recorded (R360, R362). -/
theorem doReloadDone_good {r : Remap} {rest : List Remap} (hremaps : w.c.seq.remaps = r :: rest) (hspare : r.spare ≠ 0x1FF) :
    w.doReloadDone 0 =
      let w := (w.reloadSpare r.g r.spare).setPstate r.spare 0
      let w := w.setSeq { w.c.seq with remaps := rest, placed := r :: w.c.seq.placed }
      let w := ((w.count Reg.FLT_REMAPS 1).capRecord 1 (r.spare + r.attempt % 8 * 512) r.old none).saveMap
      w.writeDistances.remap := by
  rw [doReloadDone, hremaps]
  exact (if_neg hspare).trans (if_pos rfl)

/-- The reload of a spare fails: the spare is spent (R364). -/
theorem doReloadDone_failed {r : Remap} {rest : List Remap} (hremaps : w.c.seq.remaps = r :: rest) (hspare : r.spare ≠ 0x1FF)
    {cause : Nat} (hcause : cause ≠ 0) :
    w.doReloadDone cause =
      ((w.setSeq { w.c.seq with remaps := { r with spare := 0x1FF } :: rest }).spareFails r.spare cause).remap := by
  rw [doReloadDone, hremaps]
  exact (if_neg hspare).trans (if_neg hcause)

end W

/-- Settles O52: a fenced gallery does not issue (`W.fenceIsland_fenced`); the rest by cases of `W.doUnfence` and
`W.doReloadDone`. -/
theorem fencesAndSpares : Obligations.FencesAndSpares := by
  unfold Obligations.FencesAndSpares
  intro s p hl hp
  refine ⟨?fence, W.galRuns_fenceIsland _ _, ?unfence, ?reload⟩
  case fence => exact runOn_eq hl (galOk_of hp) (f := fun w => w.fenceIsland p) rfl
  case unfence =>
    exact fun requester => ⟨fun hreset hpassed => runOn_eq hl (galOk_of hp) (W.doUnfence_lifts hreset hpassed),
      fun hrefused => runOn_eq hl (galOk_of hp) (W.doUnfence_refused hrefused)⟩
  case reload =>
    intro r rest hremaps hspare
    refine ⟨?good, ?failed⟩
    case good => exact run_eq (f := fun w => w.doReloadDone 0) hl (W.doReloadDone_good hremaps hspare)
    case failed =>
      exact fun cause hcause => run_eq (f := fun w => w.doReloadDone cause) hl (W.doReloadDone_failed hremaps hspare hcause)

end Sys2Proof.Machine
end

section
/-! ### Resets begin and end (O53) -/

namespace Sys2Proof.Machine

theorem setBitsBelow_pow {n a : Nat} (ha : a < n) : setBitsBelow n (2 ^ a) = [a] := by
  have hfilter : (List.range n).filter (fun i => (2 ^ a).testBit i) = (List.range n).filter (· == a) :=
    List.filter_congr fun i _ => by rw [Nat.testBit_two_pow, Bool.eq_iff_iff, decide_eq_true_iff, beq_iff_eq, eq_comm]
  rw [setBitsBelow, hfilter, List.filter_beq, List.count_eq_one_of_mem List.nodup_range (List.mem_range.2 ha),
    List.replicate_one]

namespace W

variable {w : W} {p : Nat}

/-- A reset that is ordered with none in its way begins (R378). -/
theorem orderReset_begins (hresets : w.c.resets = []) (d : Domain) (f : W → W) :
    w.orderReset d f = f ((w.setResets []).startReset d) := by
  simp only [orderReset, hresets, List.any_nil, List.filter_nil, Bool.false_eq_true, if_false]

theorem doCoreReset_fenced (hresets : w.c.resets = []) (hfenced : w.flag (Reg.GAL_FENCE p) F.GAL_FENCE_FENCED = true)
    {a : Nat} (ha : a < 16) (requester : Word) :
    w.doCoreReset p (2 ^ a) requester = (w.setResets []).startReset (.core p a) := by
  rw [doCoreReset, if_neg (by simp [hfenced]), setBitsBelow_pow ha, List.foldl_cons, List.foldl_nil, orderReset_begins hresets]
  rfl

/-! #### The ports and the router of a half (R377) -/

theorem pend_keeps {α : Type} (P : W → α) (hr : ∀ w k v, P (w.setReg k v) = P w) (ho : ∀ w o, P (w.emit o) = P w)
    (w : W) (id : Nat) : P (w.pend id) = P w := by
  obtain h | h | h := w.pend_cases id
  · rw [h]
  · rw [h]
    exact countW_keeps P hr ho _ _ _ _
  · rw [h]
    exact hr _ _ _

theorem setPortState_keeps {α : Type} (P : W → α) (hr : ∀ w k v, P (w.setReg k v) = P w) (ho : ∀ w o, P (w.emit o) = P w)
    (w : W) (q v : Nat) : P (w.setPortState q v) = P w := by
  unfold setPortState
  split
  · rfl
  · exact (pend_keeps P hr ho _ _).trans (hr _ _ _)

theorem portState_pend (w : W) {r : Nat} (hr : r < 64) (id : Nat) : (w.pend id).portState r = w.portState r := by
  have hmerged : Reg.FAB_PORT_STATUS r ≠ Reg.IC_MERGED := by unfold Reg.FAB_PORT_STATUS Reg.IC_MERGED; omega
  have hsrc : Reg.FAB_PORT_STATUS r ≠ Reg.IC_SRC (id - 64) := by unfold Reg.FAB_PORT_STATUS Reg.IC_SRC; omega
  rw [portState, fld, pend_reg _ hmerged hsrc]
  rfl

theorem portState_setPortState_self (w : W) {q : Nat} (hq : q < 64) {v : Nat} (hv : v < 2 ^ 4) :
    (w.setPortState q v).portState q = v := by
  unfold setPortState
  split
  · assumption
  · rw [portState_pend _ hq]
    exact fld_setFld_self _ _ (by decide) hv

theorem portState_setPortState_ne (w : W) {q r : Nat} (hr : r < 64) (hne : r ≠ q) (v : Nat) :
    (w.setPortState q v).portState r = w.portState r := by
  have hreg : Reg.FAB_PORT_STATUS r ≠ Reg.FAB_PORT_STATUS q := by unfold Reg.FAB_PORT_STATUS; omega
  unfold setPortState
  split
  · rfl
  · rw [portState_pend _ hr, portState, fld, reg_setFld_ne _ _ _ hreg]
    rfl

/-- The first `n` ports of half `h` are cleared and DISABLED. -/
def disablePorts (w : W) (h n : Nat) : W :=
  (List.range n).foldl (fun w i => (w.clearPort (32 * h + i)).setPortState (32 * h + i) 0) w

theorem disablePorts_succ (w : W) (h n : Nat) :
    w.disablePorts h (n + 1) = ((w.disablePorts h n).clearPort (32 * h + n)).setPortState (32 * h + n) 0 := by
  rw [disablePorts, List.range_succ, List.foldl_append, List.foldl_cons, List.foldl_nil]
  rfl

theorem portState_disablePorts (w : W) {h : Nat} (hh : h < 2) {n : Nat} (hn : n ≤ 32) :
    ∀ i < n, (w.disablePorts h n).portState (32 * h + i) = 0 := by
  induction n with
  | zero => exact fun i hi => absurd hi (Nat.not_lt_zero i)
  | succ n ih =>
    intro i hi
    rw [disablePorts_succ]
    by_cases hlast : i = n
    · rw [hlast]
      exact portState_setPortState_self _ (by omega) (by decide)
    · rw [portState_setPortState_ne _ (by omega) (by omega)]
      exact ih (by omega) i (by omega)

theorem disablePorts_router (w : W) (h n k : Nat) : (w.disablePorts h n).router k = w.router k :=
  List.foldlRecOn (motive := fun u : W => u.router k = w.router k) _ _ rfl fun _ hu _ _ =>
    (setPortState_keeps (fun w => w.router k) (fun _ _ _ => rfl) (fun _ _ => rfl) _ _ _).trans hu

theorem resetRegs_router (w : W) (lo hi h : Nat) : (w.resetRegs lo hi).router h = w.router h := rfl

/-- A half reset ends with the half's router empty and its ports DISABLED (R373, R377). -/
theorem doHalfReset_ends (hresets : w.c.resets = []) (h : Nat) :
    ∃ v : W, w.doHalfReset h = v.disablePorts h 32 ∧ v.router h = {} := by
  rw [doHalfReset, orderReset_begins hresets]
  extract_lets u₁ u₂ u₃ u₄ u₅
  have hcleared : u₄.router h = {} := (resetRegs_router _ _ _ h).trans (router_setRouter_self _ _ _)
  have hrouter : u₅.router h = {} :=
    List.foldlRecOn (motive := fun u : W => u.router h = {}) _ _ hcleared fun u hu _ _ => hu
  clear_value u₅
  exact ⟨u₅, rfl, hrouter⟩

/-! #### A warm reset by order (R373, R378, R396) -/

theorem doWarmReset_ready (hresets : w.c.resets = []) (hstate : w.fld Reg.BOOT_STATUS F.BOOT_STATUS_STATE ∈ [1, 2, 3])
    (requester : Word) : w.doWarmReset 1 requester = w.startWarm 1 := by
  have hready : ¬ (1 = 1 ∧ (w.fld Reg.BOOT_STATUS F.BOOT_STATUS_STATE = 0 ∨ 4 ≤ w.fld Reg.BOOT_STATUS F.BOOT_STATUS_STATE)) := by
    simp only [List.mem_cons, List.not_mem_nil, or_false] at hstate
    omega
  rw [doWarmReset, hresets, List.any_nil, if_neg Bool.false_ne_true, if_neg hready, if_neg (by decide)]

theorem doWarmReset_refused (hresets : w.c.resets = []) (hstate : w.fld Reg.BOOT_STATUS F.BOOT_STATUS_STATE ∈ [0, 4, 5])
    (requester : Word) : w.doWarmReset 1 requester = w.recordAccess 2 Reg.RST_CTL requester := by
  have hearly : 1 = 1 ∧ (w.fld Reg.BOOT_STATUS F.BOOT_STATUS_STATE = 0 ∨ 4 ≤ w.fld Reg.BOOT_STATUS F.BOOT_STATUS_STATE) := by
    simp only [List.mem_cons, List.not_mem_nil, or_false] at hstate
    omega
  rw [doWarmReset, hresets, List.any_nil, if_neg Bool.false_ne_true, if_pos hearly]

theorem doSwitchTimeout_landing (hoff : p ∈ w.c.lndOff) : w.doSwitchTimeout p true = w.doHalfReset (halfOf p) :=
  if_pos (List.contains_iff_mem.2 hoff)

/-! #### Completion and timeout (R373, R376, R382) -/

section
variable {k start : Nat} {d : Domain} (hk : w.c.resets[k]? = some ⟨d, start⟩)
include hk

theorem doResetComplete_landing (hd : d = .landing p) {v : WarmView} (hlinks : v.boot.links = []) :
    w.doResetComplete k v =
      ((w.setResets (w.c.resets.eraseIdx k)).resetLanding p).rstRecord 3 p 0 (w64 (w.uptime - start)) := by
  rw [doResetComplete, hk, hd]
  dsimp only
  rw [hlinks, List.filter_nil, if_pos rfl]
  rfl

theorem doResetComplete_channel {m pc : Nat} (hd : d = .hbm m pc) {v : WarmView} (hgood : (m, pc) ∉ v.boot.channels) :
    w.doResetComplete k v =
      ((w.setResets (w.c.resets.eraseIdx k)).channelRetrained m pc).rstRecord 6 (64 * m + pc) 0 (w64 (w.uptime - start)) := by
  rw [doResetComplete, hk, hd]
  dsimp only
  rw [if_neg (by simpa using hgood)]
  rfl

end

end W

/-- Settles O53: orders with no reset in the way (`W.orderReset_begins`), completion and timeout by the domain. -/
theorem resetsBeginAndEnd : Obligations.ResetsBeginAndEnd := by
  unfold Obligations.ResetsBeginAndEnd
  intro s p hl hp
  have ha := aux_of_live hl
  refine ⟨?ordered, ?ends⟩
  case ordered =>
    intro hresets
    refine ⟨?core, ?gallery, ?landing, ?half, ?warm, ?switch⟩
    case core =>
      exact fun a hlt hfenced requester => runOn_eq hl (galOk_of hp) (W.doCoreReset_fenced hresets hfenced hlt requester)
    case gallery => exact runOn_eq (f := fun w => w.doGalleryReset p) hl (galOk_of hp) (W.orderReset_begins hresets _ _)
    case landing => exact runOn_eq (f := fun w => w.doLandingReset p) hl (galOk_of hp) (W.orderReset_begins hresets _ _)
    case half =>
      intro h hh
      have hafter (x : W) (hx : x.router h = {}) (hports : ∀ i < 32, x.portState (32 * h + i) = 0) :
          (s.after x).w.router h = {} ∧ ∀ i < 32, (s.after x).w.portState (32 * h + i) = 0 := ⟨hx, hports⟩
      obtain ⟨v, hends, hrouter⟩ := W.doHalfReset_ends (w := s.w) hresets h
      exact ⟨_, runOn_eq (f := fun w => w.doHalfReset h) hl (decide_eq_true hh) hends,
        hafter _ ((W.disablePorts_router v h 32 h).trans hrouter) (W.portState_disablePorts v hh (Nat.le_refl 32))⟩
    case warm =>
      refine fun requester => ⟨fun cause hcause => ?_, fun hstate => ?_, fun hstate => ?_⟩
      · have hother : cause ∉ [1, 3, 4] := by
          simp only [List.mem_cons, List.not_mem_nil, or_false] at hcause ⊢
          omega
        exact runAux_eq (f := fun w => w.doWarmReset cause requester) ha (W.doWarmReset_starts hresets hother requester)
      · exact runAux_eq (f := fun w => w.doWarmReset 1 requester) ha (W.doWarmReset_ready hresets hstate requester)
      · exact runAux_eq (f := fun w => w.doWarmReset 1 requester) ha (W.doWarmReset_refused hresets hstate requester)
    case switch =>
      exact fun hoff => (if_pos (galOk_of hp)).trans (runAux_eq (f := fun w => w.doSwitchTimeout p true) ha (W.doSwitchTimeout_landing hoff))
  case ends =>
    rintro k ⟨d, start⟩ hk w aux
    have hk' : s.w.c.resets[k]? = some ⟨d, start⟩ := hk
    have completes {v : WarmView} {x : W} (hx : s.w.doResetComplete k v = x) :
        exec (.resetComplete k v) s = .next (s.after x) := runAux_eq (f := fun w => w.doResetComplete k v) ha hx
    have late {x : W} (hx : s.w.doResetTimeout k = x) : exec (.resetTimeout k) s = .next (s.after x) :=
      runAux_eq (f := fun w => w.doResetTimeout k) ha hx
    refine ⟨fun v => ⟨?core, ?gallery, ?landing, ?half, ?hbm, ?port⟩, ?galleryLate, ?portLate, ?warmLate⟩
    case core =>
      intro a hdom
      cases hdom
      exact completes (by rw [W.doResetComplete, hk']; rfl)
    case gallery =>
      intro hdom
      cases hdom
      exact completes (by rw [W.doResetComplete, hk']; rfl)
    case landing => exact fun hdom hlinks => completes (W.doResetComplete_landing hk' hdom hlinks)
    case half =>
      intro h hdom
      cases hdom
      exact completes (by rw [W.doResetComplete, hk']; rfl)
    case hbm => exact fun m pc hdom hgood => completes (W.doResetComplete_channel hk' hdom hgood)
    case port =>
      intro q hdom
      cases hdom
      exact completes (by rw [W.doResetComplete, hk']; rfl)
    case galleryLate =>
      intro hdom
      cases hdom
      exact late (by rw [W.doResetTimeout, hk']; rfl)
    case portLate =>
      intro q hdom
      cases hdom
      exact late (by rw [W.doResetTimeout, hk']; rfl)
    case warmLate =>
      intro hdom
      cases hdom
      exact late (by rw [W.doResetTimeout, hk']; rfl)

end Sys2Proof.Machine
end

section
/-! ### Snapshots and dumps (O54) -/

namespace Sys2Proof.Machine

namespace W

variable {w : W}

section
variable {α : Type} (P : W → α) (hreg : ∀ (w : W) k v, P (w.setReg k v) = P w) (hemit : ∀ (w : W) o, P (w.emit o) = P w)
  (hrouter : ∀ (w : W) h r, P (w.setRouter h r) = P w)
  (hdump : ∀ (w : W) d, P { w with c := { w.c with dump := d } } = P w)

include hrouter in
theorem sendTriggers_keeps (w : W) : P w.sendTriggers = P w := by
  unfold sendTriggers
  refine List.foldlRecOn (motive := fun u : W => P u = P w) _ _ rfl fun u hu n _ => ?_
  dsimp only
  split
  · exact (hrouter _ _ _).trans hu
  · exact hu

include hreg hdump in
theorem startDump_keeps (w : W) : P w.startDump = P w := by
  unfold startDump
  split
  · rfl
  · exact (hreg _ _ _).trans (hdump w _)

theorem when_keeps (w : W) (b : Bool) {f : W → W} (h : P (f w) = P w) : P (w.when b f) = P w := by
  cases b
  · rfl
  · exact h

include hreg hemit hrouter hdump

theorem snapLatch_keeps (hsnap : ∀ (w : W) x, P { w with c := { w.c with snap := x } } = P w) (w : W) (src esn : Nat)
    (late : Bool) : P (w.snapLatch src esn late) = P w := by
  unfold snapLatch
  split
  · exact hreg _ _ _
  · dsimp only
    rw [when_keeps P _ _ (startDump_keeps P hreg hdump _), when_keeps P _ _ (sendTriggers_keeps P hrouter _),
      pend_keeps P hreg hemit, hreg, setFlag, setFld, hreg, setFlag, setFld, hreg, setFld, hreg, hsnap]

theorem record_keeps (hsnap : ∀ (w : W) x, P { w with c := { w.c with snap := x } } = P w)
    (hrec : ∀ (w : W) q r, P { w with c := { w.c with recQ := q, recRate := r } } = P w) (w : W) (b : RecBody) :
    P (w.record b) = P w := by
  unfold record
  extract_lets esn w₁ w₂ rate key cur cur' rest
  have hw : P w₂ = P w := by
    unfold w₂ w₁
    rw [when_keeps P _ _ (snapLatch_keeps P hreg hemit hrouter hdump hsnap _ _ _ _), count, countW_keeps P hreg hemit, hreg]
  split
  · exact (countW_keeps P hreg hemit _ _ _ _).trans ((hrec w₂ w₂.c.recQ _).trans hw)
  · exact (pend_keeps P hreg hemit _ _).trans ((hrec w₂ _ _).trans hw)

end

/-! #### Snapshots (R383 to R385) -/

/-- With no snapshot held, one is latched of the state as it is. -/
theorem snapLatch_free (hheld : w.flag Reg.SNAP_STATUS F.SNAP_STATUS_HELD = false) (src esn : Nat) (late : Bool) :
    (w.snapLatch src esn late).c.snap =
      some { source := src, esn := esn, uptime := (w.reg Reg.RST_UPTIME).toNat, step := (w.reg Reg.SEQ_STEP).toNat,
             regs := w.c.regs, agents := w.c.agents, cps := w.c.cps, resets := w.c.resets,
             remaps := w.c.seq.remaps, tests := w.c.test.tests, descs := w.c.host.descs, dimms := w.c.dimms } ∧
    (w.snapLatch src esn late).flag Reg.SNAP_STATUS F.SNAP_STATUS_HELD = true := by
  unfold snapLatch
  rw [hheld, if_neg Bool.false_ne_true]
  extract_lets x c u v y z
  constructor
  · have hy : y.c.snap = some x := (pend_keeps (fun w => w.c.snap) (fun _ _ _ => rfl) (fun _ _ => rfl) _ _).trans rfl
    have hz : z.c.snap = y.c.snap :=
      when_keeps (fun w => w.c.snap) _ _ (sendTriggers_keeps (fun w => w.c.snap) (fun _ _ _ => rfl) y)
    rw [when_keeps (fun w => w.c.snap) _ _ (startDump_keeps (fun w => w.c.snap) (fun _ _ _ => rfl) (fun _ _ => rfl) z), hz, hy]
  · have hv : v.flag Reg.SNAP_STATUS F.SNAP_STATUS_HELD = true := by
      unfold v
      rw [flag, setFlag, fld_setFld_self _ _ (by decide) (by decide)]
      rfl
    have hy : y.reg Reg.SNAP_STATUS = v.reg Reg.SNAP_STATUS := by
      unfold y
      rw [pend_reg _ (by decide) (by decide), reg_setReg_ne _ _ (by decide)]
    have hz : z.reg Reg.SNAP_STATUS = y.reg Reg.SNAP_STATUS :=
      when_keeps (fun w => w.reg Reg.SNAP_STATUS) _ _ (sendTriggers_keeps (fun w => w.reg Reg.SNAP_STATUS) (fun _ _ _ => rfl) y)
    have hdump : z.startDump.reg Reg.SNAP_STATUS = z.reg Reg.SNAP_STATUS := by
      unfold startDump
      split
      · rfl
      · exact reg_setReg_ne _ _ (by decide)
    rw [flag, fld, when_keeps (fun w => w.reg Reg.SNAP_STATUS) _ _ hdump, hz, hy]
    exact hv

theorem doSnapTrigger_cmd (hon : w.flag Reg.SNAP_CFG F.SNAP_CFG_CMD = true) : w.doSnapTrigger 2 = w.snapLatch 2 0 false :=
  if_pos hon

theorem snapLatch_missed (hheld : w.flag Reg.SNAP_STATUS F.SNAP_STATUS_HELD = true) (src esn : Nat) (late : Bool) :
    w.snapLatch src esn late = w.setFld Reg.SNAP_STATUS F.SNAP_STATUS_MISSED
      (min 0xFF (w.fld Reg.SNAP_STATUS F.SNAP_STATUS_MISSED + 1)) := if_pos hheld

theorem doRearm_free (hdump : w.c.dump = none) :
    w.doRearm = ({ w with c := { w.c with snap := none } } : W).setReg Reg.SNAP_STATUS 0 := by
  rw [doRearm, hdump]
  rfl

theorem startDump_free (hdump : w.c.dump = none) :
    w.startDump = ({ w with c := { w.c with dump := some {} } } : W).setReg Reg.DUMP_STATUS 1 := by
  rw [startDump, hdump]
  rfl

theorem doLatchAtT_due {t : Nat} (hat : w.c.snapAt = some t) (hdue : t ≤ w.c.time) :
    w.doLatchAtT = ({ w with c := { w.c with snapAt := none } } : W).snapLatch 4 0 false := by
  rw [doLatchAtT, hat]
  exact if_pos hdue

/-! #### Dumps (R386 to R388) -/

theorem doDumpReadTimeout_silent {d : Dump} {k : Nat} (hdump : w.c.dump = some d) (hnew : k ∉ d.noAnswer) :
    w.doDumpReadTimeout k = ({ w with c := { w.c with dump := some { d with noAnswer := d.noAnswer ++ [k] } } } : W).setFld
      Reg.DUMP_STATUS F.DUMP_STATUS_NOANSWER (min 0xFFFF (d.noAnswer.length + 1)) := by
  rw [doDumpReadTimeout, hdump]
  exact if_neg (by simpa using hnew)

theorem doDumpWait_late {cause : Nat} (hwait : w.c.warmWait = some cause) :
    w.doDumpWait = ({ w with c := { w.c with warmWait := none } } : W).startWarm cause := by
  rw [doDumpWait, hwait]

theorem dumpBytes_addr (w : W) (d : Dump) : (w.dumpBytes d).2.reg Reg.DUMP_ADDR = w.reg Reg.DUMP_ADDR := rfl

theorem dumpBytes_warmWait (w : W) (d : Dump) : (w.dumpBytes d).2.c.warmWait = w.c.warmWait := rfl

theorem rstRecord_warmWait (w : W) (kind unit sev : Nat) (aux : Word) :
    (w.rstRecord kind unit sev aux).c.warmWait = w.c.warmWait :=
  record_keeps (fun w => w.c.warmWait) (fun _ _ _ => rfl) (fun _ _ => rfl) (fun _ _ _ => rfl) (fun _ _ => rfl)
    (fun _ _ => rfl) (fun _ _ _ => rfl) _ _

theorem pend_warmWait (w : W) (id : Nat) : (w.pend id).c.warmWait = w.c.warmWait :=
  pend_keeps (fun w => w.c.warmWait) (fun _ _ _ => rfl) (fun _ _ => rfl) _ _

/-- A dump with no address ends in the crash area (R387, R388). -/
theorem doDumpComplete_crash {d : Dump} (hdump : w.c.dump = some d) (haddr : w.reg Reg.DUMP_ADDR = 0)
    (hwait : w.c.warmWait = none) {b : List Byte × W} (hb : w.dumpBytes d = b) :
    w.doDumpComplete =
      let w : W := { b.2 with c := { b.2.c with dump := none } }
      let w := (w.setFlag Reg.DUMP_STATUS F.DUMP_STATUS_BUSY false).setFlag Reg.DUMP_STATUS F.DUMP_STATUS_IN_FLASH true
      let w := w.setFlash { w.c.flash with crash := b.1 }
      (w.rstRecord 0xC 0 0 (w.reg Reg.DUMP_STATUS)).pend 295 := by
  have haddr' : b.2.reg Reg.DUMP_ADDR = 0 := by rw [← hb, dumpBytes_addr, haddr]
  have hwait' : b.2.c.warmWait = none := by rw [← hb, dumpBytes_warmWait, hwait]
  clear haddr hwait
  obtain ⟨bs, v⟩ := b
  unfold doDumpComplete
  split
  next hnone => exact absurd (hnone.symm.trans hdump) nofun
  next d' hdump' =>
    obtain rfl := Option.some.inj (hdump'.symm.trans hdump)
    split
    next bs' v' hb' =>
      obtain ⟨rfl, rfl⟩ := Prod.mk.inj (hb'.symm.trans hb)
      extract_lets a
      rw [if_pos (show a = 0 from haddr')]
      dsimp -zeta only
      extract_lets u₁ u₂ u₃ u₄ u₅ u₆ u₇
      have hu₅ : u₅ = u₃.setFlash { u₄ with crash := bs' } := if_pos rfl
      have hu₆ : u₆.c.warmWait = none := by
        unfold u₆
        rw [pend_warmWait, rstRecord_warmWait, hu₅]
        exact hwait'
      rw [hu₆]
      unfold u₆
      rw [hu₅]

end W

/-- Settles O54: the source decides on the snapshot (`W.snapLatch_free`, `W.snapLatch_missed`), the dump ends as
`W.doDumpComplete_crash` says. -/
theorem snapshotsAndDumps : Obligations.SnapshotsAndDumps := by
  unfold Obligations.SnapshotsAndDumps
  intro s ha
  refine ⟨?trigger, ?free, ?atT, ?dump, ?wait⟩
  case trigger =>
    intro hon
    refine ⟨fun hheld => ?_, fun hheld => ?_⟩
    · exact runAux_eq (f := fun w => w.doSnapTrigger 2) ha ((W.doSnapTrigger_cmd hon).trans (W.snapLatch_missed hheld _ _ _))
    · exact ⟨_, runAux_eq (f := fun w => w.doSnapTrigger 2) ha (W.doSnapTrigger_cmd hon), W.snapLatch_free hheld 2 0 false⟩
  case free =>
    exact fun hdump => ⟨runAux_eq (f := fun w => w.doRearm) ha (W.doRearm_free hdump),
      runAux_eq (f := fun w => w.startDump) ha (W.startDump_free hdump)⟩
  case atT => exact fun t hat hdue => runAux_eq (f := fun w => w.doLatchAtT) ha (W.doLatchAtT_due hat hdue)
  case dump =>
    refine fun d hdump => ⟨fun k hnew => ?_, ?_⟩
    · exact runAux_eq (f := fun w => w.doDumpReadTimeout k) ha (W.doDumpReadTimeout_silent hdump hnew)
    · intro haddr hwait b w w' w''
      exact runAux_eq (f := fun w => w.doDumpComplete) ha (W.doDumpComplete_crash hdump haddr hwait rfl)
  case wait => exact fun cause hwait => runAux_eq (f := fun w => w.doDumpWait) ha (W.doDumpWait_late hwait)

end Sys2Proof.Machine
end

section
/-! ### Power loss, the cold sequence and the boot broadcast (O55) -/

namespace Sys2Proof.Machine

theorem runIf_true (s : State) (f : W → W) : runIf true s f = .next (s.after (f s.w)) := rfl

namespace W

variable {w : W} {p : Nat}

/-! #### The cold sequence (R395, R396) -/

/-- The result of an element that failed. -/
theorem found_bad {r : Nat} : (r == 1 || r == 2) = true ↔ r ∈ [1, 2] := by simp

theorem doColdReset_roms {b : BootView} (hbad : foundResult b.fails 0x24 0 ∈ [1, 2]) :
    w.doColdReset b = ((w.powerGood.setStage 2).powerOnElem b.fails false 0x24 0).2.safeState 2 := by
  rw [doColdReset]
  exact if_pos (found_bad.2 hbad)

theorem stairs_fail_iff (rows : List Nat) {late : Bool} (hlate : late = false) :
    (4 < rows.length ∨ (rows.any fun r => [4, 5, 6, 7].contains r) = true ∨ late = true) ↔
      4 < rows.length ∨ ∃ x ∈ rows, x ∈ [4, 5, 6, 7] := by
  rw [List.any_eq_true, hlate]
  simp only [List.contains_iff_mem, Bool.false_eq_true, or_false]

/-- Steps 3 to 5 of the cold sequence, up to the power-on test of the landings (R341, R395). -/
def coldTested (w : W) (b : BootView) : W :=
  let w := (((w.setStage 3).mapStates.assignRoles.setStage 4).latchesSeen b.lifted).startPhy
  let w := ((w.powerOnElem b.fails false 0x20 0).2.powerOnElem b.fails false 0x21 0).2.startMessage
  let w := (List.range 312).foldl (fun w p => w.galleryPowerOn b.fails p) (w.setStage 5)
  (List.range 312).foldl (fun w l => w.landingPowerOn b.fails l) w

/-- The end of step 5, by the stair rows that failed, and the rest of the sequence (R342). -/
def coldStairs (w : W) (b : BootView) : W :=
  let rows := w.stairPowerOn b.fails
  let v := rows.2.edgePowerOn b.fails
  if 4 < rows.1.length ∨ ∃ x ∈ rows.1, x ∈ [4, 5, 6, 7] then v.safeState 5 else v.coldTail b

/-- The cold sequence with its ROM tests passed and no step past its bound (R342, R391, R396, R407). -/
theorem doColdReset_tested {b : BootView} (hroms : foundResult b.fails 0x24 0 ∉ [1, 2] ∧ foundResult b.fails 0x22 0 ∉ [1, 2])
    (hvestibule : foundResult b.fails 0x20 0 ∉ [1, 2] ∧ foundResult b.fails 0x21 0 ∉ [1, 2]) (hlate : b.late = none)
    {w₁ w₂ v : W} {ok : Bool} (h₁ : ((w.powerGood.setStage 2).powerOnElem b.fails false 0x24 0).2 = w₁)
    (h₂ : (w₁.powerOnElem b.fails false 0x22 0).2 = w₂) (hslot : w₂.readFlash.chooseSlot = (ok, v)) {x : W}
    (hx : v.coldTested b = x) :
    w.doColdReset b =
      if ok = false then v
      else match (generalizing := false) badFuses v.c.fuses with
      | some k => ((v.setStage 3).record { cls := 0x13, kind := 0, sev := 5, info := w64 k }).safeState 3
      | none => x.coldStairs b := by
  have hnever (k : Nat) : (b.late == some k) = false := by simp [hlate]
  have hpass {e : Nat} (he : foundResult b.fails e 0 ∉ [1, 2]) :
      (foundResult b.fails e 0 == 1 || foundResult b.fails e 0 == 2) = false := by
    simpa [found_bad] using he
  unfold doColdReset coldStairs
  -- what the test of the stair finds plays no part, and is kept from being computed
  obtain ⟨stairs, hstairs⟩ : ∃ f, f = @stairPowerOn := ⟨_, rfl⟩
  rw [← hstairs]
  extract_lets u late bad u₁ u₂ rows y
  rw [if_neg (by rw [show bad 0x24 = false from hpass hroms.1]; decide),
    if_neg (by rw [show bad 0x22 = false from hpass hroms.2]; decide)]
  have hu₁ : u₁ = w₁ := h₁
  have hu₂ : u₂ = w₂ := by
    unfold u₂
    rw [hu₁, h₂]
  rw [hu₂, hslot]
  dsimp -zeta only
  cases ok with
  | false => rfl
  | true =>
    rw [if_neg (by decide : ¬ (!true) = true), if_neg (by decide : ¬ true = false), if_neg (by simp [late, hnever])]
    cases badFuses v.c.fuses with
    | some k => rfl
    | none =>
      dsimp -zeta only
      extract_lets x₀ x₁ x₂ x₃ x₄ x₅
      rw [if_neg (by simp [late, hnever]), if_neg (by
        rw [show bad 0x20 = false from hpass hvestibule.1, show bad 0x21 = false from hpass hvestibule.2]
        simp [late, hnever])]
      have hx₄ : x = x₄ := hx.symm
      unfold x₅ y rows
      rw [hx₄]
      exact if_congr (stairs_fail_iff _ (show late 5 = false from hnever 5)) rfl rfl

/-! #### The ready actions (R397) -/

/-- Step 9 with every lane in a final state. -/
theorem doReady_actions (hstate : w.fld Reg.BOOT_STATUS F.BOOT_STATUS_STATE = 0)
    (hstage : w.fld Reg.BOOT_STATUS F.BOOT_STATUS_STAGE = 9) (hlanes : w.lanesFinal = true) :
    w.doReady =
      let w := w.firstRegion.writeDistances.enterAll.loadTables
      let w := (w.setFlag Reg.ST_CFG F.ST_CFG_ROT_W true).setFlag Reg.ST_CFG F.ST_CFG_ROT_E true
      let w := (w.idleHalf 0).idleHalf 1
      let w := (w.setFlag Reg.SEQ_CFG F.SEQ_CFG_EN true).setReg Reg.BOOT_READY (w.reg Reg.RST_UPTIME)
      let state := if w.sclUp = false then 3 else if w.degraded = true then 2 else 1
      let w := (w.setBootState state).showFabric
      (if state = 3 then w else w.raiseFloor).record { cls := 0x12, kind := 8, sev := 0 } := by
  have hdue : ¬ (w.fld Reg.BOOT_STATUS F.BOOT_STATUS_STATE ≠ 0 ∨ w.fld Reg.BOOT_STATUS F.BOOT_STATUS_STAGE ≠ 9 ∨
      ¬ w.lanesFinal = true) := by simp [hstate, hstage, hlanes]
  unfold doReady
  rw [if_neg hdue]
  simp only [Bool.not_eq_true']

theorem doColdTimeout_late (hstate : w.fld Reg.BOOT_STATUS F.BOOT_STATUS_STATE = 0)
    (hstage : w.fld Reg.BOOT_STATUS F.BOOT_STATUS_STAGE ≠ 0) :
    w.doColdTimeout =
      let w := w.rstRecord 0xD 0 5 0
      w.safeState (w.fld Reg.BOOT_STATUS F.BOOT_STATUS_STAGE) :=
  if_neg (by simp [hstate, hstage])

/-! #### Boot receivers (R399, R400) -/

section
variable {t : Packet} (htyp : t.typ = 3) (hboot : bit t.arg 31 = true)
include htyp hboot

theorem doBootPage_unarmed (harmed : w.flag (Reg.GBOOT_STATUS p) F.GBOOT_STATUS_ARMED = false) :
    w.doBootPage p t = w.count (Reg.LND_DISCARD p) 1 := by
  rw [doBootPage, if_neg (by simp [htyp, hboot]), harmed, if_pos (by decide)]

variable (harmed : w.flag (Reg.GBOOT_STATUS p) F.GBOOT_STATUS_ARMED = true)
include harmed

theorem doBootPage_bad (hcrc : bits t.arg 63 32 ≠ crc32c (t.data.take 4096)) :
    w.doBootPage p t = w.setFld (Reg.GBOOT_STATUS p) F.GBOOT_STATUS_CRC_ERR
      (min 0xFFFF (w.fld (Reg.GBOOT_STATUS p) F.GBOOT_STATUS_CRC_ERR + 1)) := by
  rw [doBootPage, if_neg (by simp [htyp, hboot]), harmed, if_neg (by decide), if_pos (.inr (.inr hcrc))]

theorem doBootPage_stored (hclean : t.poison = false) (hlen : t.len = 4096) (hwindow : bits t.addr 22 0 + 4096 ≤ windowTop)
    (hcrc : bits t.arg 63 32 = crc32c (t.data.take 4096)) :
    w.doBootPage p t =
      let k := Reg.GBOOT_STATUS p
      let i := bits t.arg 10 0
      let m := Reg.GBOOT_RXMAP p (i / 64)
      let w := w.wrBytes (galKey p (bits t.addr 22 0)) (t.data.take 4096)
      let w1 := w.setReg m (putBit (w.reg m) (i % 64) true)
      let w2 := if bit (w.reg m) (i % 64) = true then w1 else w1.setFld k F.GBOOT_STATUS_RECEIVED
        (min 0x7FF (w1.fld k F.GBOOT_STATUS_RECEIVED + 1))
      (w2.showComplete p).wrAck p t false := by
  have hgood : ¬ (t.poison = true ∨ t.len ≠ 4096 ∨ bits t.arg 63 32 ≠ crc32c (t.data.take 4096)) := by
    simp [hclean, hlen, hcrc]
  rw [doBootPage, if_neg (by simp [htyp, hboot]), harmed, if_neg (by decide), if_neg hgood]
  dsimp only
  rw [if_pos hwindow]

end

end W

/-- Settles O55: power and cold reset act on any state (`W.doColdReset_tested`), the rest by cases of the boot's own rules. -/
theorem powerAndBringUp : Obligations.PowerAndBringUp := by
  unfold Obligations.PowerAndBringUp
  refine ⟨?loss, ?cold, ?ready, ?pages⟩
  case loss => exact fun s => ⟨rfl, rfl, rfl, rfl⟩
  case cold =>
    intro s b w w₁ w₂ r
    have cold {v : W} (hv : s.w.doColdReset b = v) : exec (.coldReset b) s = .next (s.after v) :=
      congrArg (fun v => Host.Outcome.next (s.after v)) hv
    refine ⟨fun hbad => cold (W.doColdReset_roms hbad), ?_⟩
    intro h24 h22 h20 h21 hlate u v x y rows z
    have h₁ : (w.powerOnElem b.fails false 0x24 0).2 = w₁ := rfl
    have h₂ : (w₁.powerOnElem b.fails false 0x22 0).2 = w₂ := rfl
    have hr : w₂.readFlash.chooseSlot = r := rfl
    clear_value r w₂ w₁
    obtain ⟨ok, v'⟩ := r
    have hy : v'.coldTested b = y := rfl
    clear_value y
    dsimp only
    have htested := W.doColdReset_tested ⟨h24, h22⟩ ⟨h20, h21⟩ hlate h₁ h₂ hr hy
    refine cold (htested.trans ?_)
    cases badFuses v'.c.fuses with
    | some k => rfl
    | none => rfl
  case ready =>
    refine fun s hl hstate => ⟨fun hstage => ?_, fun hstage hlanes => ?_⟩
    · exact runAux_eq (f := fun w => w.doColdTimeout) (aux_of_live hl) (W.doColdTimeout_late hstate hstage)
    · exact run_eq (f := fun w => w.doReady) hl (W.doReady_actions hstate hstage hlanes)
  case pages =>
    intro s p t hl hp k i m
    refine ⟨fun htyp hboot => ⟨fun harmed => ?_, fun harmed hclean hlen hwindow => ⟨fun hcrc => ?_, fun hcrc => ?_⟩⟩, ?_, ?_, ?_⟩
    · exact runOn_eq hl (galOk_of hp) (W.doBootPage_unarmed htyp hboot harmed)
    · exact runOn_eq hl (galOk_of hp) (W.doBootPage_bad htyp hboot harmed hcrc)
    · exact runOn_eq hl (galOk_of hp) (W.doBootPage_stored htyp hboot harmed hclean hlen hwindow hcrc)
    · exact runOn_eq hl (galOk_of hp) (f := fun w => w.doGbootArm p) rfl
    · exact runOn_eq hl (galOk_of hp) (f := fun w => w.doGbootDisarm p) rfl
    · exact fun n r => runOn_eq hl (galOk_of hp) (f := fun w => w.doGbootReport p n r) rfl

end Sys2Proof.Machine
end

section
/-! ### Security operations (O56) -/

namespace Sys2Proof.Machine

namespace W

variable {w : W}

theorem mailboxGo_busy (hbusy : w.flag Reg.SEC_MB_STATUS F.SEC_MB_STATUS_BUSY = true) (op len : Nat) (requester : Word) :
    w.mailboxGo op len requester = w.recordAccess 2 Reg.SEC_MB_CTL requester := if_pos hbusy

theorem mailboxGo_taken (hfree : w.flag Reg.SEC_MB_STATUS F.SEC_MB_STATUS_BUSY = false) (op len : Nat) (requester : Word) :
    w.mailboxGo op len requester =
      let w := (w.setFld Reg.SEC_MB_CTL F.SEC_MB_CTL_OP op).setFld Reg.SEC_MB_CTL F.SEC_MB_CTL_LEN len
      let w := w.setFlag Reg.SEC_MB_STATUS F.SEC_MB_STATUS_BUSY true
      let w : W := { w with c := { w.c with mailbox := some (op, len, w.requestBytes len) } }
      w.sampleAttest.pend 283 := if_neg (by simp [hfree])

/-- A sampled report is signed and answered (R414). -/
theorem doMailboxDone_report {bs : List Byte} (hmail : w.c.mailbox = some (1, 128, bs)) (hsampled : bs.length = 512) :
    w.doMailboxDone = w.mailboxEnds 0 (bs ++ fit 49856 (Config.slhSign identitySeed bs)) := by
  rw [doMailboxDone, hmail]
  exact (if_neg (by decide)).trans (if_neg (not_not.2 hsampled))

theorem doMailboxDone_cert {len : Nat} {bs : List Byte} (hmail : w.c.mailbox = some (2, len, bs)) :
    w.doMailboxDone = w.mailboxEnds 0 (w.c.flash.cert.take 32768) := by
  rw [doMailboxDone, hmail]
  rfl

/-- A token that verifies sets the debug level, any other is answered with its status (R412, R416). -/
theorem doMailboxDone_token {len : Nat} {bs : List Byte} (hmail : w.c.mailbox = some (3, len, bs)) (hlen : len ≤ 524288)
    {r : Nat × Nat} (hr : w.tokenStatus bs = r) :
    w.doMailboxDone =
      if r.1 = 0 then (((w.setFld Reg.SEC_STATUS F.SEC_STATUS_DEBUG r.2).secRecord 3 r.2 0).newNonce).mailboxEnds 0 []
      else ((w.secRecord 4 r.2 0).newNonce).mailboxEnds r.1 [] := by
  obtain ⟨st, level⟩ := r
  rw [doMailboxDone, hmail]
  refine (if_neg (Nat.not_lt.2 hlen)).trans ?_
  rw [hr]
  dsimp only
  by_cases hst : st = 0
  · rw [if_pos hst, if_pos hst, hst]
  · rw [if_neg hst, if_neg hst]

theorem doFlashDone_next {op : FlashOp} {rest : List FlashOp} (hqueue : w.c.flashQ = op :: rest) (ok : Bool) :
    w.doFlashDone ok =
      let w : W := { w with c := { w.c with flashQ := rest } }
      (if ok then w.flashWritten op else w.flashFailed op).pend 297 := by
  rw [doFlashDone, hqueue]

end W

/-- A mailbox row starts the operation of its OP. -/
theorem exec_mailbox {op len : Nat} {requester : Word} {i : Instr} (h : MailboxCommand op len requester i) (s : State) :
    exec i s = runAux s fun w => w.mailboxGo op len requester := by
  obtain ⟨rfl, rfl⟩ | ⟨rfl, rfl⟩ | ⟨rfl, rfl⟩ := h <;> rfl

/-- Settles O56: the mailbox by whether it is busy and by what it holds, the flash by the operation at its head. -/
theorem securityOperations : Obligations.SecurityOperations := by
  unfold Obligations.SecurityOperations
  intro s ha
  have done {v : W} (hv : s.w.doMailboxDone = v) : exec .mailboxOpDone s = .next (s.after v) :=
    runAux_eq (f := fun w => w.doMailboxDone) ha hv
  refine ⟨?go, ?report, ?cert, ?token, ?relock, ?floor, ?ready, ?flash⟩
  case go =>
    intro op len requester i hrow
    refine ⟨fun hbusy => ?_, fun hfree => ?_⟩
    · exact (exec_mailbox hrow s).trans (runAux_eq ha (W.mailboxGo_busy hbusy op len requester))
    · exact (exec_mailbox hrow s).trans (runAux_eq ha (W.mailboxGo_taken hfree op len requester))
  case report => exact fun bs hmail hsampled => done (W.doMailboxDone_report hmail hsampled)
  case cert => exact fun len bs hmail => done (W.doMailboxDone_cert hmail)
  case token =>
    intro len bs hmail hlen r
    exact done (W.doMailboxDone_token hmail hlen rfl)
  case relock => exact runAux_eq (f := fun w => w.doRelock) ha rfl
  case floor =>
    exact fun v requester => ⟨fun hlevel => runAux_eq (f := fun w => w.doFloorWrite v requester) ha (if_pos hlevel),
      fun hlevel => runAux_eq (f := fun w => w.doFloorWrite v requester) ha (if_neg hlevel)⟩
  case ready => exact runAux_eq (f := fun w => w.doIdReady) ha rfl
  case flash =>
    intro op rest hqueue w
    exact ⟨runAux_eq (f := fun w => w.doFlashDone true) ha (W.doFlashDone_next hqueue true),
      runAux_eq (f := fun w => w.doFlashDone false) ha (W.doFlashDone_next hqueue false)⟩

end Sys2Proof.Machine
end

section
/-! ### Power and heat (O57) -/

namespace Sys2Proof.Machine

namespace W

variable {w : W}

/-- The energy of an interval is counted, its mean power and the hottest reading are shown (R427, R432). -/
def metered (w : W) (mw : Nat) (islands : List (Nat × Nat)) (energy : List Nat) : W :=
  let w := w.addEnergy energy islands
  let h := w.hottest
  ((w.setFld Reg.PWR_NOW F.PWR_NOW_P (min 0xFFFF (mw / 1000))).setFld Reg.PWR_NOW F.PWR_NOW_TJ (min 255 h.1)).setFld
    Reg.PWR_NOW F.PWR_NOW_HOT h.2

theorem addEnergy_c_power (w : W) (energy : List Nat) (islands : List (Nat × Nat)) :
    (w.addEnergy energy islands).c.power = w.c.power := by
  unfold addEnergy
  have keeps {α : Type} (f : W → α → W) (hf : ∀ u x, (f u x).c.power = u.c.power) (xs : List α) (u : W) :
      (xs.foldl f u).c.power = u.c.power :=
    List.foldlRecOn (motive := fun v : W => v.c.power = u.c.power) _ _ rfl fun v hv x _ => (hf v x).trans hv
  rw [keeps _ (fun u x => count_c_power _ _ _), keeps _ (fun u x => count_c_power _ _ _)]

theorem setFld_c_power (w : W) (o : Nat) (f : Fld) (n : Nat) : (w.setFld o f n).c.power = w.c.power := rfl

theorem metered_c_power (w : W) (mw : Nat) (islands : List (Nat × Nat)) (energy : List Nat) :
    (w.metered mw islands energy).c.power = w.c.power := by
  unfold metered
  extract_lets u h
  rw [setFld_c_power, setFld_c_power, setFld_c_power]
  exact addEnergy_c_power ..

/-- What an interval at or below the cap shows when its capping loop has run (R424, R425). -/
def belowCap (w : W) (lowered : Bool) : W :=
  let w := w.setPower { w.c.power with uncapped := min 1000 (w.c.power.uncapped + 1) }
  let w := (w.setFlag Reg.PWR_STATUS F.PWR_STATUS_CAPPED lowered).setFlag Reg.PWR_STATUS F.PWR_STATUS_CLAMP
    w.c.power.clamped
  let w := w.setPower { w.c.power with clamped := false }
  (w.setFlag Reg.PWR_STATUS F.PWR_STATUS_THERM (!w.c.power.throttling.isEmpty)).showFloor.showPoints.pend 290

/-- An interval at or below the cap, with nothing throttling (R424, R427). -/
theorem doInterval_quiet {mw : Nat} {islands : List (Nat × Nat)} {energy : List Nat} {u v : W} {lowered : Bool}
    (hu : w.metered mw islands energy = u) (htj : u.flag Reg.PWR_STATUS F.PWR_STATUS_TJMAX = false)
    (hcool : w.c.power.throttling = []) (hc : u.throttleStep.capLoop mw islands = (lowered, v))
    (hcap : mw ≤ v.capW * 1000) : w.doInterval mw islands energy = v.belowCap lowered := by
  have hidle : ¬ (!u.c.power.throttling.isEmpty || u.flag Reg.PWR_STATUS F.PWR_STATUS_TJMAX) = true := by
    rw [← hu, metered_c_power, hcool, hu, htj]
    exact Bool.false_ne_true
  have hbelow : ¬ decide (v.capW * 1000 < mw) = true := by simpa using hcap
  unfold doInterval
  extract_lets u₀
  split
  next tj hot hhot =>
    have hshown : u = ((u₀.setFld Reg.PWR_NOW F.PWR_NOW_P (min 0xFFFF (mw / 1000))).setFld Reg.PWR_NOW F.PWR_NOW_TJ
        (min 255 tj)).setFld Reg.PWR_NOW F.PWR_NOW_HOT hot := by
      rw [← hu, metered, hhot]
    rw [← hshown]
    extract_lets u₁ u₂
    have hu₂ : u₂ = u := if_neg hidle
    rw [hu₂, hc]
    split
    next l v' hpair =>
      obtain ⟨rfl, rfl⟩ := Prod.mk.inj hpair
      extract_lets above v₁ v₂ _ _ v₃
      have hv₃ : v₃ = v.setPower { v.c.power with uncapped := min 1000 (v.c.power.uncapped + 1) } := if_neg hbelow
      rw [belowCap, ← hv₃]

/-- A half rail that is low already stays as it is; any other takes its half to point 0 (R421). -/
theorem doRailLow_new {h : Nat} (hnew : h ∉ w.c.power.railLow) :
    w.doRailLow h =
      ((((w.setPower { w.c.power with railLow := h :: w.c.power.railLow }).pointZero fun x => x == h).pwrRecord 9 3 h 0 0
        false).pend 291) := by
  rw [doRailLow]
  exact if_neg (by simpa using hnew)

/-- `w` with the good reading `x` of sensor `i`, the `n`-th of 115 °C or more in a row (R428). -/
def tookReading (w : W) (i : Nat) (x : Int) (n : Nat) : W :=
  let q := { w.c.power with faulty := w.c.power.faulty.filter (· ≠ i) }
  w.setPower { q with sensors := Tbl.set (fun _ => 0) q.sensors i (x + 1000).toNat,
                      hot := Tbl.set (fun _ => 0) q.hot i n }

theorem good_iff {x : Int} : (decide (-40 ≤ x) && decide (x ≤ 150)) = true ↔ -40 ≤ x ∧ x ≤ 150 := by simp

/-- A good reading of a sensor of no engine, below the throttle limit, is kept (R428). -/
theorem doSample_cool {i : Nat} {x : Int} (hlo : -40 ≤ x) (hhi : x ≤ 150) (hi : i < 314) (hx : x < w.throt) :
    w.doSample i (some x) = (w.tookReading i x 0).tjEnds := by
  have hthrot : w.throt ≤ 100 := Nat.min_le_left ..
  unfold doSample
  extract_lets good y _ u q n v t engine _ v₁ v₂
  have hgood : good = true := good_iff.2 ⟨hlo, hhi⟩
  have hy : y = x := if_pos hgood
  have hu : u = w.setPower { w.c.power with faulty := w.c.power.faulty.filter (· ≠ i) } := if_pos hgood
  have hn : n = 0 := if_neg (by omega)
  have hv : v = w.tookReading i x 0 := by
    unfold v q tookReading
    rw [hn, hy, hu]
    rfl
  have hengine : ¬ engine = true := by simp [engine]; omega
  have hbelow : ¬ ((v.throt : Int) ≤ y ∧ ¬ v.c.power.throttling.contains i = true) := by
    have hkept : v.throt = w.throt := by rw [hv]; rfl
    omega
  have hv₂ : v₂ = v := (if_neg hengine).trans (if_neg hbelow)
  rw [if_neg (by omega), if_neg (by omega), hv₂, hv]

/-- A second reading of 115 °C or more trips the part (R430). -/
theorem doSample_trips {i : Nat} {x : Int} (hhi : x ≤ 150) (hx : 115 ≤ x)
    (hhot : 1 ≤ Tbl.get (fun _ => 0) w.c.power.hot i) :
    w.doSample i (some x) = (w.tookReading i x (Tbl.get (fun _ => 0) w.c.power.hot i + 1)).thermTrip := by
  unfold doSample
  extract_lets good y _ u q n v t engine _ v₁ v₂
  have hgood : good = true := good_iff.2 ⟨by omega, hhi⟩
  have hy : y = x := if_pos hgood
  have hu : u = w.setPower { w.c.power with faulty := w.c.power.faulty.filter (· ≠ i) } := if_pos hgood
  have hq : q.hot = w.c.power.hot := by
    unfold q
    rw [hu]
    rfl
  have hn : n = Tbl.get (fun _ => 0) w.c.power.hot i + 1 := hq ▸ if_pos (hy ▸ hx)
  have hv : v = w.tookReading i x (Tbl.get (fun _ => 0) w.c.power.hot i + 1) := by
    unfold v q tookReading
    rw [hn, hy, hu]
    rfl
  rw [if_pos (by omega), hv]

end W

/-- Settles O57. -/
theorem powerAndHeat : Obligations.PowerAndHeat := by
  unfold Obligations.PowerAndHeat
  intro s hl
  refine ⟨?interval, ?clamp, ?rails, ?sample⟩
  case interval =>
    intro mw islands energy w h w' htj hcool c hcap
    have hw : s.w.metered mw islands energy = w' := rfl
    have hc : w'.throttleStep.capLoop mw islands = c := rfl
    clear_value w' c
    obtain ⟨lowered, v⟩ := c
    exact run_eq hl (f := fun w => w.doInterval mw islands energy) (W.doInterval_quiet hw htj hcool hc hcap)
  case clamp => exact run_eq hl rfl
  case rails =>
    intro h hh
    have hok := decide_eq_true hh
    exact ⟨fun hnew => runOn_eq hl hok (W.doRailLow_new hnew), runOn_eq hl hok rfl⟩
  case sample =>
    intro i x hlo hhi q
    refine ⟨fun hi hx => ?_, fun hi hx hhot => ?_⟩
    · exact runOn_eq hl (decide_eq_true (Nat.lt_trans hi (by decide))) (W.doSample_cool hlo hhi hi hx)
    · exact runOn_eq hl (decide_eq_true hi) (W.doSample_trips hhi hx hhot)
end Sys2Proof.Machine
end

section
/-! ### Interrupts and control processors (O51) -/

namespace Sys2Proof.Machine

namespace W

variable {w : W} {n : Nat}

/-- With IE 0 an interrupt only ends WFI (R439). -/
theorem doInterrupt_masked (htakes : w.cpTakes n = true) (hwait : (w.cp n).wait = .run) {id : Nat}
    (hbest : w.bestSource n = some id) (hie : w.flag (Reg.IC_CP_STATUS n) F.IC_CP_STATUS_IE = false) :
    w.doInterrupt n = w.setFlag (Reg.IC_CP_STATUS n) F.IC_CP_STATUS_WFI false := by
  have hready : ¬ (!w.cpTakes n || (w.cp n).wait != .run) = true := by
    rw [htakes, hwait]
    decide
  rw [doInterrupt, if_neg hready, hbest]
  exact if_neg (hie ▸ Bool.false_ne_true)

/-- With IE 1 an interrupt enters the handler of its source (R439). -/
theorem doInterrupt_enters (htakes : w.cpTakes n = true) (hwait : (w.cp n).wait = .run) {id : Nat}
    (hbest : w.bestSource n = some id) (hie : w.flag (Reg.IC_CP_STATUS n) F.IC_CP_STATUS_IE = true) :
    w.doInterrupt n = if n = 1 then (w.enterHandler n id).cp1Handler
      else if n = 3 then (w.enterHandler n id).streamRecords else w.enterHandler n id := by
  have hready : ¬ (!w.cpTakes n || (w.cp n).wait != .run) = true := by
    rw [htakes, hwait]
    decide
  rw [doInterrupt, if_neg hready, hbest]
  exact if_pos hie

/-! The definitions of a claim are unfolded as functions (`hdef`): between a call of them and its body the kernel would
evaluate the search of the sources. -/

theorem claim_some {id : Nat}
    (hid : (srcIds.find? fun id => w.srcUp n id && w.runPri n == some (w.srcPrio n id)) = some id) :
    w.claim n =
      (id, (w.setCp n { w.cp n with given := (w.cp n).given.map fun g => if g = id then 0x3FF else g }).setReg (srcReg n id)
        (putBit (w.reg (srcReg n id)) 31 false)) := by
  have hdef := @rfl _ @claim
  conv at hdef => rhs; delta claim
  rw [hdef]
  beta_reduce
  rw [hid]
  rfl

theorem claim_none (hno : (srcIds.find? fun id => w.srcUp n id && w.runPri n == some (w.srcPrio n id)) = none) :
    w.claim n = (0x3FF, w) := by
  have hdef := @rfl _ @claim
  conv at hdef => rhs; delta claim
  rw [hdef]
  beta_reduce
  rw [hno]

/-- What a claim answers goes out as the value of IC_CPn_CLAIM (R440). -/
theorem doIcClaim_of_claim {id : Nat} {u : W} (h : w.claim n = (id, u)) :
    w.doIcClaim n = u.emit (.value (Reg.IC_CP_CLAIM n) (w64 id)) := by
  have hdef := @rfl _ @doIcClaim
  conv at hdef => rhs; delta doIcClaim
  rw [hdef]
  beta_reduce
  rw [h]

/-- A held processor is released at VBASE + 0x400 (R436). -/
theorem doCpRun_release (hn : n ≠ 0) (hheld : w.flag (Reg.IC_CP_CTL n) F.IC_CP_CTL_RUN = false) :
    w.doCpRun n true =
      let w := (w.cpReset n).setFlag (Reg.IC_CP_CTL n) F.IC_CP_CTL_RUN true
      w.setHpc (.cp n) (bits (w.reg (Reg.IC_CP_VBASE n)) 18 10 * 1024 + 0x400) := by
  rw [doCpRun, if_neg (by simp [hn, hheld])]
  rfl

/-- A running processor is held (R436). -/
theorem doCpRun_hold (hn : n ≠ 0) (hrun : w.flag (Reg.IC_CP_CTL n) F.IC_CP_CTL_RUN = true) :
    w.doCpRun n false = (w.cpReset n).setFlag (Reg.IC_CP_CTL n) F.IC_CP_CTL_RUN false := by
  rw [doCpRun, if_neg (by simp [hn, hrun])]
  rfl

/-- A watchdog whose period has passed resets the device (R375). -/
theorem doWdExpiry_late (hon : w.flag (Reg.CP_WD n) F.CP_WD_EN = true) (hresets : w.c.resets = [])
    (hwait : w.c.warmWait = none)
    (hlate : Tbl.get (fun _ => 0) w.c.kicks n + max 1 (w.fld (Reg.CP_WD n) F.CP_WD_PERIOD) * 1000000 ≤ w.uptime) :
    w.doWdExpiry n = (w.rstRecord 0xB n 5 0).selfWarm 3 := by
  rw [doWdExpiry]
  exact if_neg (by simp [hon, hresets, hwait, Nat.not_lt.2 hlate])

end W

/-- The effect of a command of a control processor that the part carries out besides its operations. -/
theorem runIfAux_eq {s : State} (ha : s.aux = true) {ok : Bool} (hk : ok = true) {e : Fault} {f : W → W} {w : W}
    (hf : f s.w = w) : (if ok then runAux s f else .fault e) = .next (s.after w) := by
  rw [if_pos hk, runAux_eq ha hf]

/-- Settles O51: interrupts (`W.doInterrupt_masked`, `W.doInterrupt_enters`), claims (`W.claim_some`, `W.claim_none`), RUN (`W.doCpRun_release`, `W.doCpRun_hold`) and the watchdog (`W.doWdExpiry_late`). -/
theorem interruptsAreDelivered : Obligations.InterruptsAreDelivered := by
  unfold Obligations.InterruptsAreDelivered
  intro s n hl hn
  have ha := aux_of_live hl
  have hcp : cpOk n = true := decide_eq_true hn
  refine ⟨?interrupt, ?claim, ?noClaim, ?trigger, ?swi, ?timer, ?moderation, ?release, ?enable, ?kick, ?expiry⟩
  case interrupt =>
    intro id htakes hwait hbest
    exact ⟨fun hie => runIfAux_eq ha hcp (W.doInterrupt_masked htakes hwait hbest hie),
      fun hie => runIfAux_eq ha hcp (W.doInterrupt_enters htakes hwait hbest hie)⟩
  case claim => exact fun id hid => runOn_eq hl hcp (W.doIcClaim_of_claim (W.claim_some hid))
  case noClaim => exact fun hno => runOn_eq hl hcp (W.doIcClaim_of_claim (W.claim_none hno))
  case trigger =>
    intro id hid
    exact runOn_eq hl (by simp [hcp, hid]) rfl
  case swi => exact fun v => runOn_eq hl hcp rfl
  case timer => exact runOn_eq hl hcp rfl
  case moderation =>
    intro m hlo hhi
    exact runOn_eq hl (by simp [hcp, hlo, hhi]) rfl
  case release =>
    exact fun hne => ⟨fun hheld => runOn_eq hl hcp (W.doCpRun_release hne hheld),
      fun hrun => runOn_eq hl hcp (W.doCpRun_hold hne hrun)⟩
  case enable => exact fun period => runIfAux_eq ha hcp rfl
  case kick => exact runIfAux_eq ha hcp rfl
  case expiry =>
    exact fun hon hresets hwait hlate => runIfAux_eq ha hcp (W.doWdExpiry_late hon hresets hwait hlate)
end Sys2Proof.Machine
end

section
/-! ### Management requests (O58) -/

namespace Sys2Proof.Machine

namespace W

variable {w : W} {m : MgmtMsg}

/-- A message that comes in leaves the management state as it is. -/
theorem received_c_mgmt (w : W) (m : MgmtMsg) : (w.received m).c.mgmt = w.c.mgmt := by
  have hcount : ∀ u : W, (u.count Reg.MGMT_RX 1).c.mgmt = u.c.mgmt := fun u =>
    countW_keeps (fun w => w.c.mgmt) (fun _ _ _ => rfl) (fun _ _ => rfl) _ _ _ _
  have hpend : ∀ (u : W) (id : Nat), (u.pend id).c.mgmt = u.c.mgmt :=
    pend_keeps (fun w => w.c.mgmt) (fun _ _ _ => rfl) fun _ _ => rfl
  rw [received, hcount, mgmtArrive]
  split
  · exact hpend _ _
  · exact hpend _ _

theorem needBody_ok {ok : Bool} (h : ok = true) (f : W → W) : w.needBody m ok f = f w := if_pos h

theorem doRegRead_words (hbody : m.body.length = 10) (hlo : 1 ≤ field m.body 8 2) (hhi : field m.body 8 2 ≤ 256)
    {bs : List Byte} {u : W} (hread : w.regWordsRead (field m.body 0 8) (field m.body 8 2) [] = (some bs, u)) :
    w.doRegRead m = u.answer m 0 (m.body ++ bs) := by
  rw [doRegRead, needBody_ok (by simp [hbody, hlo, hhi]), hread]

theorem doRegWrite_words (hlo : 1 ≤ field m.body 8 2) (hhi : field m.body 8 2 ≤ 256)
    (hbody : m.body.length = 10 + 4 * field m.body 8 2) {ok : Bool} {u : W}
    (hwrite : w.regWordsWrite (field m.body 0 8) ((List.range (field m.body 8 2)).map fun i => field m.body (10 + 4 * i) 4) =
      (ok, u)) : w.doRegWrite m = u.answer m (if ok then 0 else 2) [] := by
  rw [doRegWrite, needBody_ok (by simp [hbody, hlo, hhi]), hwrite]

theorem doMemRead_bytes (hargs : memArgsOk m.body = true) (hbody : m.body.length = 10) {bs : List Byte} {u : W}
    (hread : w.farRead none mgmtReq (w.loc (w64 (field m.body 0 8))) (field m.body 8 2) = ((bs, none), u)) :
    w.doMemRead m = u.answer m 0 (m.body ++ bs) := by
  rw [doMemRead, needBody_ok (by simp [hargs, hbody])]
  obtain ⟨far, hfar⟩ : ∃ f, f = @farRead := ⟨_, rfl⟩
  rw [← hfar] at hread ⊢
  extract_lets a
  unfold a
  rw [hread]

theorem doMemWrite_bytes (hargs : memArgsOk m.body = true) (hbody : m.body.length = 10 + field m.body 8 2) {u : W}
    (hwrite : w.farWrite none mgmtReq (w.loc (w64 (field m.body 0 8))) (m.body.drop 10) = (none, u)) :
    w.doMemWrite m = u.answer m 0 [] := by
  rw [doMemWrite, needBody_ok (by simp [hargs, hbody])]
  obtain ⟨far, hfar⟩ : ∃ f, f = @farWrite := ⟨_, rfl⟩
  rw [← hfar] at hwrite ⊢
  extract_lets a
  unfold a
  rw [hwrite]
  rfl

/-- A put goes to the buffer of its source, or to an empty one (R450). -/
theorem doOrderPut_staged (hlo : 4 ≤ m.body.length) (hhi : m.body.length ≤ 1396)
    (hfits : field m.body 0 4 + (m.body.length - 4) ≤ 524288) {old : List Byte}
    (hstaged : (w.c.mgmt.staging = none ∧ old = []) ∨ w.c.mgmt.staging = some (sourceOf m, old)) {new : List Byte} {u : W}
    (hput : w.stagePut old (field m.body 0 4) (m.body.drop 4) = (new, u)) :
    w.doOrderPut m = (u.setMgmt { u.c.mgmt with staging := some (sourceOf m, new) }).answer m 0 [] := by
  have hargs : (decide (4 ≤ m.body.length) && decide ((m.body.drop 4).length ≤ 1392) &&
      decide (field m.body 0 4 + (m.body.drop 4).length ≤ 524288)) = true := by
    simp [hlo, hfits]
    omega
  rw [doOrderPut, needBody_ok hargs]
  obtain ⟨hnone, rfl⟩ | hsome := hstaged
  · rw [hnone, hput]
  · rw [hsome]
    exact (if_neg (not_not.2 rfl)).trans (by rw [hput])

/-- A staged order with a new number is enacted if it is valid and rejected if not (R286). -/
theorem doOrderSubmit_new (hbody : m.body.length = 4) {old : List Byte}
    (hstaged : w.c.mgmt.staging = some (sourceOf m, old)) (hlen : field m.body 0 4 ≤ old.length) {u : W}
    (hu : w.setMgmt { w.c.mgmt with staging := none } = u) {bs : List Byte} (hbs : old.take (field m.body 0 4) = bs)
    (hnew : orderNo bs ≠ (u.reg Reg.FAB_ORDER_NO).toNat) :
    w.doOrderSubmit m = if u.orderValid 2 bs = true then (u.orderEnact bs).answer m 0 []
      else (u.orderReject 2 (orderNo bs)).answer m 5 [] := by
  rw [doOrderSubmit, needBody_ok (by simp [hbody]), hstaged]
  refine (if_neg (not_not.2 rfl)).trans ?_
  rw [hu, hbs]
  refine (if_neg fun h => hnew h.2.2).trans ?_
  rw [orderVerify]
  by_cases hvalid : u.orderValid 2 bs = true
  · rw [if_pos hvalid, if_pos hvalid]
    exact if_pos (by simp [hlen])
  · rw [if_neg hvalid, if_neg hvalid]
    exact if_neg (by simp)

/-- An acknowledgement of a later record moves its path on (R451). -/
theorem doRecAck_later (hbody : m.body.length = 4) {a : Nat} (hacked : (w.recPath m.mctp.toNat).acked = some a)
    (hlater : serialLater 32 (field m.body 0 4) a = true) (hempty : w.c.mgmt.recs = []) {u : W}
    (hu : w.setRecPath m.mctp.toNat { w.recPath m.mctp.toNat with acked := some (field m.body 0 4) } = u) :
    w.doRecAck m = ((u.setMgmt { u.c.mgmt with recs := [] }).showOutstanding).streamPath m.mctp.toNat := by
  have hrecs : u.c.mgmt.recs = [] := hu ▸ hempty
  rw [doRecAck, needBody_ok (by simp [hbody])]
  extract_lets x later v have1 on keep mgmt mgmt'
  have hon : later = true := by
    unfold later x
    rw [hacked]
    exact hlater
  have hv : v = u := (if_pos hon).trans hu
  have hkeep : keep = [] := by
    unfold keep
    rw [hv, hrecs]
    rfl
  have hm : mgmt = mgmt' := congrArg (fun w : W => w.c.mgmt) hv
  rw [hkeep, hv, hm]

theorem doDumpRead_area (hbody : m.body.length = 10) (harea : field m.body 0 1 = 0) (hlo : 64 ≤ field m.body 8 2)
    (hhi : field m.body 8 2 ≤ 1024) (haddr : (w.reg Reg.DUMP_ADDR).toNat ≠ 0) {bs : List Byte} {u : W}
    (hread : w.farRead none mgmtReq (w.loc (w64 ((w.reg Reg.DUMP_ADDR).toNat + field m.body 4 4))) (field m.body 8 2) =
      ((bs, none), u)) : w.doDumpRead m = u.answer m 0 (m.body ++ bs) := by
  rw [doDumpRead, needBody_ok (by simp [hbody, harea, hlo, hhi])]
  refine (if_pos harea).trans ((if_neg haddr).trans ?_)
  rw [hread]

end W

/-- The effect of a request that is served. -/
theorem served_eq {s : State} {typ : Nat} {m : MgmtMsg} (h : Requested s typ m) {f : W → W} {w : W}
    (hf : f (s.w.received m) = w) : (runAux s fun w => w.onMessage typ m f) = .next (s.after w) :=
  runAux_eq (f := fun w => w.onMessage typ m f) h.aux ((onMessage_served h f).trans hf)

/-- Settles O58: a request in good order is served (`served_eq`) by the operation of its type. -/
theorem managementRequests : Obligations.ManagementRequests := by
  unfold Obligations.ManagementRequests
  intro s typ m h w
  have hmgmt : w.c.mgmt = s.chip.mgmt := W.received_c_mgmt s.w m
  refine ⟨?info, ?regRead, ?regWrite, ?memRead, ?memWrite, ?orderPut, ?orderSubmit, ?recAck, ?fwPut, ?fwCommit, ?dumpRead⟩
  case info =>
    rintro rfl
    exact served_eq (f := fun w => w.answer m 0 w.infoBytes) h rfl
  case regRead =>
    rintro rfl hbody hlo hhi bs w' hread
    exact served_eq (f := fun w => w.doRegRead m) h (W.doRegRead_words hbody hlo hhi hread)
  case regWrite =>
    rintro rfl hlo hhi hbody r
    have hwrite : w.regWordsWrite (field m.body 0 8)
      ((List.range (field m.body 8 2)).map fun i => field m.body (10 + 4 * i) 4) = r := rfl
    clear_value r
    obtain ⟨ok, u⟩ := r
    exact served_eq (f := fun w => w.doRegWrite m) h (W.doRegWrite_words hlo hhi hbody hwrite)
  case memRead =>
    rintro rfl hargs hbody bs w' hread
    exact served_eq (f := fun w => w.doMemRead m) h (W.doMemRead_bytes hargs hbody hread)
  case memWrite =>
    rintro rfl hargs hbody w' hwrite
    have hserved : s.w.onMessage 5 m (fun w => w.doMemWrite m) = w'.answer m 0 [] :=
      (onMessage_served h _).trans (W.doMemWrite_bytes hargs hbody hwrite)
    exact runAux_eq (f := fun w => (w.onMessage 5 m fun w => w.doMemWrite m).flushBus) h.aux (congrArg W.flushBus hserved)
  case orderPut =>
    rintro rfl hlo hhi hfits old hstaged r
    have hput : w.stagePut old (field m.body 0 4) (m.body.drop 4) = r := rfl
    clear_value r
    obtain ⟨new, u⟩ := r
    exact served_eq (f := fun w => w.doOrderPut m) h (W.doOrderPut_staged hlo hhi hfits (hmgmt ▸ hstaged) hput)
  case orderSubmit =>
    rintro rfl hbody old hstaged hlen u bs hlayout hnew
    exact served_eq (f := fun w => w.doOrderSubmit m) h (W.doOrderSubmit_new hbody hstaged hlen rfl rfl hnew)
  case recAck =>
    rintro rfl hbody path a hacked hlater hempty u
    exact served_eq (f := fun w => w.doRecAck m) h (W.doRecAck_later hbody hacked hlater hempty rfl)
  case fwPut =>
    rintro rfl hbody r
    exact served_eq (f := fun w => w.needBody m _ fun w => _) h (W.needBody_ok (decide_eq_true hbody) _)
  case fwCommit =>
    rintro rfl hbody r
    exact served_eq (f := fun w => w.needBody m _ fun w => _) h (W.needBody_ok (beq_iff_eq.2 hbody) _)
  case dumpRead =>
    rintro rfl hbody harea hlo hhi a haddr bs w' hread
    exact served_eq (f := fun w => w.doDumpRead m) h (W.doDumpRead_area hbody harea hlo hhi haddr hread)

end Sys2Proof.Machine
end

section
/-! ### Other standards on the management paths (O59) -/

namespace Sys2Proof.Machine

namespace W

variable {w : W}

theorem doMctpControl_setEndpoint (hserved : w.mgmtServed true = true) {body : List Byte} (hcode : field body 1 1 = 1) :
    w.doMctpControl body =
      ((w.mgmtArrive true).setFlag Reg.MGMT_STATUS F.MGMT_STATUS_I3C_UP true).freeAnswer 1 := by
  rw [doMctpControl, if_neg (by simp [hserved])]
  exact congrArg (fun w : W => w.freeAnswer 1) (if_pos (beq_iff_eq.2 hcode))

theorem doPldmPlatform_reading (hserved : w.mgmtServed true = true) {body : List Byte} (hcode : field body 2 1 = 0x11) :
    w.doPldmPlatform body =
      let w := w.mgmtArrive true
      let v := w.sensorValue (field body 3 2)
      w.emit (.wire 4 (leBytes 2 (field body 3 2) ++ [byte v.isSome.toNat] ++
        leBytes 8 (((v.getD 0) % (2 ^ 64 : Int)).toNat))) := by
  rw [doPldmPlatform, if_neg (by simp [hserved])]
  exact if_pos hcode

theorem doPldmFirmware_put (hserved : w.mgmtServed true = true) {data : List Byte} (hdata : data ≠ []) (off total : Nat)
    {st : Nat} {u : W} (hput : (w.mgmtArrive true).fwPut off data = (st, u)) :
    w.doPldmFirmware off total data = u.emit (.wire 5 (leBytes 1 st)) := by
  rw [doPldmFirmware, if_neg (by simp [hserved])]
  extract_lets v
  have hput' : v.fwPut off data = (st, u) := hput
  rw [if_neg (by simpa using hdata), hput']

theorem doEcho_v6 (hserved : w.mgmtServed false = true) (station : Nat) (body : List Byte) :
    w.doEcho true station body = (w.mgmtArrive false).emit (.wire 8 (leBytes 16 station ++ body)) := by
  rw [doEcho, if_neg (by simp [hserved])]
  rfl

theorem doArp_static (hserved : w.mgmtServed false = true) (station : Nat)
    (hvalid : bit ((w.mgmtArrive false).reg Reg.MGMT_IP4) 63 = true) :
    w.doArp station (bits ((w.mgmtArrive false).reg Reg.MGMT_IP4) 31 0) =
      (w.mgmtArrive false).emit
        (.wire 9 (leBytes 16 station ++ leBytes 6 ((w.mgmtArrive false).reg Reg.MGMT_MAC).toNat)) := by
  rw [doArp, if_neg (by simp [hserved])]
  exact if_pos (by simp [hvalid])

theorem doNeighbour_linkLocal (hserved : w.mgmtServed false = true) (station : Nat) :
    w.doNeighbour station w.linkLocal =
      (w.mgmtArrive false).emit
        (.wire 9 (leBytes 16 station ++ leBytes 6 ((w.mgmtArrive false).reg Reg.MGMT_MAC).toNat)) := by
  rw [doNeighbour, if_neg (by simp [hserved])]
  exact if_pos (beq_iff_eq.2 rfl)

theorem doRecResend_sent {path l : Nat} (hon : w.pathOn path = true) (hlast : (w.recPath path).last = some l) :
    w.doRecResend path = w.streamOut path 13 (((w.unacked path).take 256).filter fun r => !serialLater 32 (recEsn r.2) l) := by
  rw [doRecResend, if_neg (by simp [hon]), hlast]

end W

/-- Settles O59, a command by the lemma of its operation. -/
theorem managementStandards : Obligations.ManagementStandards := by
  unfold Obligations.ManagementStandards
  intro s ha
  refine ⟨?mctp, ?ethernet, ?entdaa, ?resend, ?staging⟩
  case mctp =>
    intro hserved body w
    refine ⟨fun hcode => ?_, ?_, fun hcode => ?_, fun off total hbody => ?_⟩
    · exact runAux_eq (f := fun w => w.doMctpControl body) ha (W.doMctpControl_setEndpoint hserved hcode)
    · exact runAux_eq (f := fun w => w.doPldmDiscovery) ha (if_pos hserved)
    · exact runAux_eq (f := fun w => w.doPldmPlatform body) ha (W.doPldmPlatform_reading hserved hcode)
    · exact runAux_eq (f := fun w => w.doPldmFirmware off total body) ha (W.doPldmFirmware_put hserved hbody off total rfl)
  case ethernet =>
    intro hserved station w
    refine ⟨fun body => ?_, fun hvalid => ?_, ?_⟩
    · exact runAux_eq (f := fun w => w.doEcho true station body) ha (W.doEcho_v6 hserved station body)
    · exact runAux_eq (f := fun w => w.doArp station _) ha (W.doArp_static hserved station hvalid)
    · exact runAux_eq (f := fun w => w.doNeighbour station s.w.linkLocal) ha (W.doNeighbour_linkLocal hserved station)
  case entdaa => exact fun addr => runAux_eq (f := fun w => w.doEntdaa addr) ha rfl
  case resend =>
    exact fun path l hon hlast => runAux_eq (f := fun w => w.doRecResend path) ha (W.doRecResend_sent hon hlast)
  case staging => exact runAux_eq (f := fun w => w.setMgmt { w.c.mgmt with staging := none }) ha rfl

end Sys2Proof.Machine
end
section
/-! ### Service signals and register writes (O60) -/

namespace Sys2Proof.Machine

namespace W

variable {w : W}

/-- ATTN_L with no schedule running shows DRAINED at once (R455). -/
theorem doAttnPress_idle (hattn : w.fld Reg.SVC_STATUS F.SVC_STATUS_ATTN_STATE ≠ 1) (hidle : w.seqState = stIdle) :
    w.doAttnPress = ((w.pend 287).setAttn 2).doSnapTrigger 3 := by
  rw [doAttnPress, if_neg hattn]
  exact congrArg (fun w : W => w.doSnapTrigger 3) (if_pos (.inl hidle))

/-- ATTN_L stops a running schedule (R455). -/
theorem doAttnPress_run (hattn : w.fld Reg.SVC_STATUS F.SVC_STATUS_ATTN_STATE ≠ 1) (hrun : w.seqState = stRun) :
    w.doAttnPress = (((w.pend 287).setAttn 1).doSeqStop).doSnapTrigger 3 := by
  rw [doAttnPress, if_neg hattn]
  exact congrArg (fun w : W => w.doSnapTrigger 3) (if_neg (by rw [hrun]; decide))

end W

/-- Settles O60. -/
theorem serviceSignalsAndRegisterWrites : Obligations.ServiceSignalsAndRegisterWrites := by
  unfold Obligations.ServiceSignalsAndRegisterWrites
  refine ⟨fun s ha => ⟨?attn, ?timeout, ?clear, ?leds, ?save⟩, fun s k size v requester ha => ⟨?write, ?stair⟩⟩
  case attn =>
    exact fun hattn => ⟨fun hidle => runAux_eq (f := fun w => w.doAttnPress) ha (W.doAttnPress_idle hattn hidle),
      fun hrun => runAux_eq (f := fun w => w.doAttnPress) ha (W.doAttnPress_run hattn hrun)⟩
  case timeout => exact fun hattn => runAux_eq (f := fun w => w.doAttnTimeout) ha (if_pos (beq_iff_eq.2 hattn))
  case clear => exact runAux_eq (f := fun w => w.setAttn 0) ha rfl
  case leds => exact runAux_eq (f := fun w => w.doLedRefresh) ha rfl
  case save => exact runAux_eq (f := fun w => w.mgmtSave) ha rfl
  case write => exact exec_registerWrite ha k size v requester
  case stair => exact runAux_eq (f := fun w => w.recordAccess 2 k requester) ha rfl

end Sys2Proof.Machine
end
